-- ==== Sys2Proof/Word.lean ====
section
/-!
DEFINITION. The word types of the model and their plainest reading: bytes, registers of 32 and 64 bits, TIME64.
-/
namespace Sys2Proof

/-- One byte. -/
abbrev Byte := BitVec 8

/-- A list of bytes, lowest address first. -/
abbrev Bytes := List (BitVec 8)

/-- A 32-bit register word. -/
abbrev Word32 := BitVec 32

/-- A 64-bit register word. -/
abbrev Word64 := BitVec 64

end Sys2Proof
end

