-- ==== Sys2Proof/Kinds.lean ====
section
/-!
DEFINITION. Operand kinds of the commands: small alternatives that a command names.
-/
namespace Sys2Proof

/-- What a read of host memory or of another outside store returned (R66, R197). -/
inductive HostData where
  | ok (bytes : Bytes)
  | error                            -- Unsupported Request, Completer Abort or timeout
  | poison
  deriving DecidableEq, Repr

/-- What the reads of one image slot return: the header, and each component in entry order (R352). -/
structure ImageRead where
  header : HostData
  comps  : List HostData
  deriving DecidableEq, Repr

/-- One rail as a poll reads it (R513); `ack` false: no acknowledge or a stuck bus. -/
structure RailReading where
  ack    : Bool
  vout   : BitVec 16
  iout   : BitVec 16
  temp   : BitVec 8
  status : BitVec 16
  deriving DecidableEq, Repr

/-- Requests that complete with Unsupported Request (R43). -/
inductive UrKind where
  | pasidPrefix | atomicOp | translatedAddress
  deriving DecidableEq, Repr

/-- The address a register write names (R27, R39). -/
inductive Target where
  | pf (off : Nat)                   -- PF BAR0, or the function's own BAR0 for a VF
  | msix (off : Nat)                 -- BAR2, the MSI-X table and PBA
  | cfgVfEnable                      -- SR-IOV VF Enable
  | cfgMsix                          -- MSI-X Message Control
  | cfgDevice                        -- Device Control
  | cfgDevice2                       -- Device Control 2
  | cfgCommand                       -- Command register (Bus Master Enable)
  | cfgBar (bar : Nat)               -- BAR0 or BAR2 of the PF: the base address (R46)
  | cfgVfBar (bar : Nat)             -- SR-IOV VF BAR0 or BAR2
  | cfgNumVfs                        -- SR-IOV NumVFs
  | cfgLink                          -- Link Control (ASPM)
  | cfgL1Substates                   -- L1 PM Substates Control
  | cfgLtr                           -- LTR Mechanism Enable
  | cfgAerUncorrectable              -- AER Uncorrectable Error Status
  | cfgAerCorrectable                -- AER Correctable Error Status
  | cfgDoeControl                    -- DOE Control
  | cfgDoeWrite                      -- DOE Write Data Mailbox
  | cfgDoeRead                       -- DOE Read Data Mailbox: a write takes the doubleword read
  | cfgIde (stream reg : Nat)        -- a selective IDE stream: 0 control, then base and limit of each association block
  | fabric (colour off : Nat)        -- control-fabric address, with the writer's colour
  deriving DecidableEq, Repr

/-- What a function's configuration space is read for (R42, R45, R46). -/
inductive CfgReg where
  | vendorId | deviceId | revisionId | classCode | command | bar (n : Nat) | vfBar (n : Nat) | msixControl | deviceControl | deviceControl2
  | linkCapabilities | linkControl | l1Substates | linkStatus | ltrEnable | totalVfs | vfEnable | numVfs | firstVfOffset | vfStride | vfDeviceId
  | aerUncorrectable | aerCorrectable | aerFirst | aerHeader (n : Nat) | doeStatus | doeRead | ideStream (stream reg : Nat)
  deriving DecidableEq, Repr

/-- The kinds of unit that run known-answer tests (R272, R300). -/
inductive UnitKind where
  | block | mau | hash | scu | rng
  deriving DecidableEq, Repr

/-- A routine-cache line as it arrives or as its words decay: no error, a bad bit, two bad bits in a word, or a memory line
whose integrity tag failed (R22, R225). -/
inductive LineData where
  | ok | single | double | poison
  deriving DecidableEq, Repr

/-- How a bulk job ends (R271, R285, R286). -/
inductive JobEnd where
  | done | hostError | poison | check
  deriving DecidableEq, Repr

/-- A refill read from the Back Lot as it completes: for each line, whether its integrity tag fails (R22, R97), and the
parity masks of what it moves (R100). -/
structure RefillRead where
  tagFail : List Bool
  parity  : Bytes
  deriving DecidableEq, Repr

/-- A key-cache fill as it arrives at a seat; `poison`: its directory line failed its integrity tag (R22, R322). -/
structure KeyFill where
  seat   : Nat
  poison : Bool
  deriving DecidableEq, Repr

/-- A routine-cache line as it arrives: its number within the routine, and its words (R226). -/
structure LineFill where
  index : Nat
  words : LineData
  deriving DecidableEq, Repr

/-- What a HELLO frame gives the receiver: the peer's serial and its nonce (R450). -/
structure HelloFrame where
  serial : Word64
  nonce  : Bytes
  deriving DecidableEq, Repr

/-- A CAL_COPY service and what its reads of record memory meet: an uncorrectable word's offset and syndrome, if there is one
(R493, R495). -/
structure CalRead where
  id  : Nat
  bad : Option (Nat × Nat)
  deriving DecidableEq, Repr

/-- A trained link: lanes, and gigatransfers a second of each (R42, R44). -/
structure LinkRate where
  width : Nat
  speed : Nat
  deriving DecidableEq, Repr

end Sys2Proof
end

