-- ==== Sys2Proof/Machine/Table.lean ====
section
/-!
DEFINITION. Sparse tables: a list of key and value pairs in one canonical form, for register arrays, memories and
directories.  Keys rise strictly, and no entry equals what an unlisted key reads as (`d key`), so equal tables are
equal lists.
-/
namespace Sys2Proof.Machine

/-- A sparse table from numbers to `α`. -/
abbrev Tab (α : Type) := List (Nat × α)

/-- The listed entry of a key. -/
def Tab.find? {α : Type} (t : Tab α) (k : Nat) : Option α :=
  match t with
  | [] => none
  | (j, a) :: r => if j = k then some a else Tab.find? r k

/-- What key `k` reads as; `d` gives the unlisted keys. -/
def Tab.get {α : Type} (d : Nat → α) (t : Tab α) (k : Nat) : α := (Tab.find? t k).getD (d k)

/-- The table without key `k`. -/
def Tab.erase {α : Type} (t : Tab α) (k : Nat) : Tab α := t.filter fun e => decide (e.1 ≠ k)

/-- `(k, a)` placed before the first larger key. -/
def Tab.insert {α : Type} (k : Nat) (a : α) : Tab α → Tab α
  | [] => [(k, a)]
  | (j, b) :: r => if k < j then (k, a) :: (j, b) :: r else (j, b) :: Tab.insert k a r

/-- Key `k` set to `a`, in canonical form: a value an unlisted key reads as is not listed. -/
def Tab.set {α : Type} [DecidableEq α] (d : Nat → α) (t : Tab α) (k : Nat) (a : α) : Tab α :=
  if a = d k then Tab.erase t k else Tab.insert k a (Tab.erase t k)

/-- Key `k` changed by `f`. -/
def Tab.upd {α : Type} [DecidableEq α] (d : Nat → α) (t : Tab α) (k : Nat) (f : α → α) : Tab α :=
  Tab.set d t k (f (Tab.get d t k))

/-- Every listed value changed, in canonical form. -/
def Tab.mapVals {α : Type} [DecidableEq α] (d : Nat → α) (f : Nat → α → α) (t : Tab α) : Tab α :=
  List.filter (fun (e : Nat × α) => decide (e.2 ≠ d e.1)) (List.map (fun (e : Nat × α) => (e.1, f e.1 e.2)) t)

/-- The canonical form. -/
def Tab.wf {α : Type} [DecidableEq α] (d : Nat → α) : Tab α → Bool
  | [] => true
  | [(k, a)] => decide (a ≠ d k)
  | (k, a) :: (j, b) :: r => decide (k < j) && decide (a ≠ d k) && Tab.wf d ((j, b) :: r)

/-- Byte list written at consecutive keys from `k`. -/
def Tab.setList {α : Type} [DecidableEq α] (d : Nat → α) (t : Tab α) (k : Nat) : List α → Tab α
  | [] => t
  | a :: r => Tab.setList d (Tab.set d t k a) (k + 1) r

/-- `n` consecutive values from key `k`. -/
def Tab.getList {α : Type} (d : Nat → α) (t : Tab α) (k : Nat) : Nat → List α
  | 0 => []
  | n + 1 => Tab.get d t k :: Tab.getList d t (k + 1) n

end Sys2Proof.Machine
end

