-- ==== Sys2Proof/Machine/StateSeat.lean ====
section
/-!
DEFINITION. The performers' part of the state: seats as a routine sees them, and performer counters (spec file 05).
-/
namespace Sys2Proof.Machine

/-- A key's attributes, the fields of R179. -/
structure KeyAttr where
  usage : BitVec 6 := 0
  perm  : BitVec 8 := 0
  alg   : BitVec 4 := 0
  export_ : BitVec 2 := 0
  part  : BitVec 8 := 0
  bits  : BitVec 16 := 0
  deriving DecidableEq, Repr

/-- A key handle: one key-cache entry of the seat's die, with its generation and attributes (R174). -/
structure Handle where
  entry     : Nat
  attr      : KeyAttr
  transient : Bool := false
  ref       : Word64 := 0            -- the reference of a persistent entry
  gen       : Word32 := 0
  slot      : Nat := 0               -- root slot (R308)
  deriving DecidableEq, Repr

/-- An active loop (R203): first and last index of its body, iterations left with the current one. -/
structure LoopFrame where
  start : Nat
  last  : Nat
  left  : Nat
  deriving DecidableEq, Repr

/-- What an outstanding operation of a seat is submitted to. -/
inductive OpUnit where
  | block | mau | hash | scu | host | key
  deriving DecidableEq, Repr

/-- One destination of an operation, with the bytes and taint it will receive. -/
inductive OpWrite where
  | dreg (i : Nat) (value : BitVec 128) (taint : Bool)
  | scratch (off : Nat) (bytes : Bytes) (taint : Bool)
  | kreg (i : Nat)
  | greg (i : Nat) (value : Word64)
  | flags (equal : Bool)             -- Z and its companions after a comparison (R178)
  | outcome (bytes : Bytes)          -- RESULT of a library routine that waits for the operation (R266)
  deriving DecidableEq, Repr

/-- A key an operation makes: the transient entry created when it ends (R308). -/
structure NewKey where
  slot  : Nat
  gen   : Word32
  attr  : KeyAttr
  units : Nat
  x9    : BitVec 2 := 0
  material : Bytes
  deriving DecidableEq, Repr

/-- An operation submitted and not ended (R194, R195). -/
structure PendOp where
  unit   : OpUnit
  ticket : Option Nat := none
  opcode : Nat
  pc     : Nat
  reg    : Nat := 255                -- register index for a fault record
  dsts   : List OpWrite := []
  pins   : List Nat := []            -- key-cache entries it uses (R270)
  blocks : Nat := 1                  -- blocks it processes (R301)
  held   : Bool := false             -- submitted while a KAT was requested (R273)
  newKey : Option NewKey := none     -- a key it makes, into its kreg destination
  persist : Bool := false            -- KUNWRAP with PERSIST: the key gets a directory record
  ref    : Word64 := 0               -- KOPEN: the reference a fill is awaited for
  try_   : Bool := false             -- KOPEN fn TRY
  sync   : Bool := false             -- its instruction is done only when it ends (KCV, BMACV)
  at_    : Nat := 0                  -- order of arrival (R275, R289)
  lib    : Bool := false             -- a library routine's
  job    : Nat := 0                  -- SCU job number
  fail   : Nat := 0                  -- cause the operation ends with; 0 = none
  deriving DecidableEq, Repr

/-- A failed asynchronous operation whose fault has not been taken (R196). -/
structure AsyncFault where
  cause  : Nat
  opcode : Nat
  pc     : Nat
  reg    : Nat := 255
  ticket : Option Nat := none
  dsts   : List OpWrite := []
  deriving DecidableEq, Repr

/-- What an instruction reads or writes of what units and host reads may still write (R194). -/
structure Uses where
  d      : List (BitVec 4) := []
  k      : List (BitVec 3) := []
  o      : Nat := 0                  -- scratch range
  n      : Nat := 0
  o2     : Nat := 0                  -- a second scratch range
  n2     : Nat := 0
  ticket : Option Nat := none        -- a ticket it issues on (R195)
  mask   : BitVec 4 := 0             -- tickets a WAIT covers
  deriving DecidableEq, Repr

/-- The seat's hash context (R192). -/
structure HashCtx where
  alg   : Nat
  key   : Option Bytes := none       -- HMAC key
  pin   : Option Nat := none         -- its key-cache entry, pinned until the context is freed (R270)
  data  : Bytes := []
  taint : Bool := false
  deriving DecidableEq, Repr

/-- PRF_SEAT_FAULT (R212). -/
structure FaultLatch where
  valid   : Bool := false
  cause   : Byte := 0
  opcode  : BitVec 6 := 0
  async   : Bool := false
  pc      : BitVec 12 := 0
  part    : BitVec 8 := 0
  routine : BitVec 16 := 0
  deriving DecidableEq, Repr

/-- The outcome of a command: STATUS, RESULT bytes 16 to 31, and FLAGS[4] (R73). -/
structure Outcome where
  status  : Byte
  data    : Bytes := []
  hostBuf : Bool := false
  deriving DecidableEq, Repr

/-- What a routine sees of its seat, cleared at its end (R171, R172). -/
structure SeatRun where
  g        : Tab Word64 := []        -- g1 to g31; g0 is never listed
  d        : Tab (BitVec 128) := []  -- d0 to d15; byte 0 is the most significant byte
  dTaint   : BitVec 16 := 0
  dPend    : BitVec 16 := 0
  k        : Tab (Option Handle) := []
  kPend    : BitVec 8 := 0
  z        : Bool := false
  n        : Bool := false
  c        : Bool := false
  v        : Bool := false
  pc       : Nat := 0                -- instruction index, 12 bits
  loops    : List LoopFrame := []    -- innermost first
  tickets  : BitVec 4 := 0
  iterLeft : BitVec 17 := 65536
  instrs   : BitVec 21 := 0          -- INSTR_EXEC
  cmpLeft  : BitVec 3 := 4
  scratch  : Tab Byte := []
  sValid   : BitVec 256 := 0
  sTaint   : BitVec 256 := 0
  sPend    : BitVec 256 := 0
  opnd     : Bytes := []             -- the current operand bank
  result   : Tab Byte := []
  rValid   : BitVec 16 := 0
  hash     : Option HashCtx := none
  sha1     : List Bytes := []        -- the SHA-1 digests the routine has finished (R192)
  ops      : List PendOp := []       -- oldest first
  asyncs   : List AsyncFault := []
  ending   : Option Outcome := none   -- ended, waiting for its outstanding operations
  endOk    : Bool := false           -- it ended with END: an operation that still fails faults it (R196)
  wait     : BitVec 4 := 0           -- PRF_SEAT_STATE code while it waits; 0 while it does not
  waitOn   : Option Uses := none     -- what a wait in codes 2 to 4 is for
  waitQ    : Option OpUnit := none   -- the unit whose queue a wait in code 5 is for
  waitRnd  : Option Nat := none      -- the major opcode of an instruction that waits for DRBG output (R298)
  parityAt : Option Nat := none      -- the instruction count at which a parity failure of the seat shows (R205)
  deriving DecidableEq, Repr

/-- One seat. -/
structure Seat where
  run       : Option Nat := none     -- the item whose routine runs here
  part      : Nat := 0
  routine   : Nat := 0
  gen       : Nat := 0               -- install generation it runs (R235)
  busyAt    : Word64 := 0            -- since when its time counts in JUG_PRF_LOAD (R166)
  len       : Nat := 0               -- N of the routine
  x         : SeatRun := {}
  suspended : Bool := false          -- seat 0 under R151
  preemptBy : Option Nat := none     -- the PRIO 0 item that is to suspend it
  fault     : FaultLatch := {}
  started   : Word32 := 0            -- PRF_SEAT_COUNT
  faults    : Word32 := 0
  deriving DecidableEq, Repr

/-- An instruction as pairing sees it: its seat, major opcode, and the registers it reads and writes, g registers as 1 to
31, d registers from 32 and k registers from 48 on (R175). -/
structure Issue where
  seat   : Nat
  code   : Nat
  reads  : List Nat
  writes : List Nat
  deriving DecidableEq, Repr

/-- Per-performer counters (R166, R214). -/
structure Performer where
  cur     : Option Issue := none     -- the instruction at issue
  last    : Option Issue := none     -- the one that issued alone in the last issue cycle (R175)
  issue   : Word32 := 0              -- ISSUE_CYCLES
  dual    : Word32 := 0              -- DUAL_CYCLES
  busyNs  : Nat := 0                 -- JUG_PRF_LOAD.SEAT_BUSY_US in ns
  started : Word32 := 0              -- JUG_PRF_LOAD.STARTED_CNT
  deriving DecidableEq, Repr

end Sys2Proof.Machine
end

