-- ==== Sys2Proof/Machine/StateKeys.lean ====
section
/-!
DEFINITION. Keys, units and gates in the state: key caches, the key directory, the Cage and the vault (spec file 09),
the cryptographic units and the random generators (08), and the access gates (11).
-/
namespace Sys2Proof.Machine

/-! ### Key caches (R321, R327) -/

/-- A key-cache entry: its tag (R321) and its material.  `units` 0: the entry is not in use. -/
structure CacheEntry where
  kind  : BitVec 2 := 0              -- 0 slot, 1 directory, 2 transient
  part  : Nat := 0
  slot  : Nat := 0                   -- root slot (R308)
  gen   : Word32 := 0
  ref   : Word64 := 0
  attr  : KeyAttr := {}
  units : Nat := 0
  pins  : Nat := 0
  seat  : Nat := 0                   -- owning seat of a transient entry
  age   : Nat := 0                   -- order of last use
  x9    : BitVec 2 := 0              -- R324
  material : Bytes := []
  deriving DecidableEq, Repr

/-- An engine die's key cache and generation table (R321, R327, R346). -/
structure KeyCache where
  entries   : Tab CacheEntry := []
  next      : Nat := 1               -- entry number the next entry takes
  useCtr    : Nat := 0
  gens      : Tab Word32 := []       -- by 8 × partition + slot
  genQ      : List (Nat × Word32) := []   -- changes sent and not applied, oldest first
  hits      : Word64 := 0
  misses    : Word32 := 0
  stale     : BitVec 16 := 0
  notFound  : BitVec 16 := 0
  applied   : Word32 := 0
  deriving DecidableEq, Repr

/-! ### The key directory (R317 to R320, R346) -/

structure DirRec where
  issue : Word32 := 0                -- 0: the index is free
  part  : Nat := 0
  slot  : Nat := 0
  gen   : Word32 := 0
  attr  : KeyAttr := {}
  units : Nat := 0
  x9    : BitVec 2 := 0
  material : Bytes := []
  opened : Nat := 0                  -- order of last KOPEN
  deriving DecidableEq, Repr

structure DirPart where
  quota : BitVec 23 := 16384         -- KDC_PART_QUOTA
  evict : BitVec 17 := 0
  deriving DecidableEq, Repr

structure Directory where
  key      : Option Bytes := none    -- the directory key
  memKey   : Bytes := []             -- the LPDDR5X keys, of encryption and of the integrity tags; empty: none drawn (R22)
  tagKey   : Bytes := []
  recs     : Tab DirRec := []
  nextIdx  : Nat := 0                -- lowest index never used
  free     : List Nat := []          -- freed indices, oldest first
  issues   : Tab Word32 := []        -- last ISSUE of each used index
  sweep    : List (Nat × Nat × Word32) := []   -- sweeps running: partition, slot, generation (R330)
  useCtr   : Nat := 0
  evictCnt : Word32 := 0
  fullCnt  : BitVec 16 := 0
  staleFreed : Nat := 0
  parts    : Tab DirPart := []
  deriving DecidableEq, Repr

/-! ### The Cage (R309 to R313) -/

/-- A 72-byte record: commit word and two banks (R310).  A bank is held as the Cage decrypts it, which with the device KEK and
the tweak is the stored bytes (assumption log 38); CHECK is that of the stored bytes. -/
structure CageRec where
  word  : Word32 := 0                -- bits 63:32: GEN, a counter, or zero
  valid : Bool := false
  bank  : Bool := false
  role  : BitVec 2 := 0
  alg   : BitVec 4 := 0
  seq   : Byte := 0
  check : BitVec 16 := 0
  bankA : Bytes := []
  bankB : Bytes := []
  deriving DecidableEq, Repr

structure Cage where
  slots   : Tab CageRec := []        -- by 8 × partition + slot
  mans    : Tab CageRec := []        -- manifest records, by partition
  regs    : Tab CageRec := []        -- registry records: vault counter and registry digest
  battery : CageRec := {}            -- battery secret
  pairing : CageRec := {}            -- pairing secret
  deriving DecidableEq, Repr

/-! ### The vault (R314, R331 to R345) -/

structure Custodian where
  index  : Nat
  scheme : Nat
  key    : Bytes
  deriving DecidableEq, Repr

structure Registry where
  policy : List Nat                  -- M of classes 0 to 6
  custodians : List Custodian
  raw    : Bytes := []
  deriving DecidableEq, Repr

/-- An open ceremony (R339). -/
structure Ceremony where
  id    : Nat
  slot  : Nat
  role  : Nat
  alg   : Nat
  c     : Nat
  statement : Bytes
  priv  : Bytes
  comps : List (Nat × Bytes) := []   -- custodian index and component
  at_   : Word64
  deriving DecidableEq, Repr

/-- An open transfer (R342). -/
structure Transfer where
  id    : Nat
  statement : Bytes
  priv  : Bytes
  at_   : Word64
  deriving DecidableEq, Repr

structure VaultPart where
  registry : Option Registry := none     -- restored since the boot (R335)
  nonce    : Option (BitVec 128 × Word64) := none
  ceremony : Option Ceremony := none
  transfer : Option Transfer := none
  deriving DecidableEq, Repr

structure Vault where
  ready     : Bool := false          -- VLT_STATUS
  dkekValid : Bool := false
  dkek      : Bytes := []
  zeroised  : Bool := false
  corrupt   : Bool := false
  corruptCnt : BitVec 16 := 0
  selPart   : BitVec 8 := 0          -- VLT_SLOT_SEL
  selSlot   : BitVec 3 := 0
  keyStage  : Tab Word64 := []       -- VLT_SLOT_KEY0 to KEY3
  role      : BitVec 2 := 0          -- VLT_SLOT_ATTR
  alg       : BitVec 4 := 0
  busy      : Bool := false          -- VLT_SLOT_RESULT
  code      : BitVec 3 := 0
  gen       : Word32 := 0
  parts     : Tab VaultPart := []
  nextId    : Nat := 1               -- next ceremony or transfer ID
  deriving DecidableEq, Repr

/-! ### Units (R268 to R302) -/

/-- A block unit, MAU or hash unit (R301). -/
structure UnitState where
  ready    : Bool := false
  failed   : Bool := false
  katReq   : Bool := false
  katBusy  : Bool := false
  ops      : Word64 := 0
  check    : Bool := false
  katFail  : Bool := false
  checkCnt : BitVec 16 := 0
  deriving DecidableEq, Repr

/-- A bulk job an SCU has accepted (R279 to R286). -/
structure ScuJob where
  no    : Nat
  seat  : Nat
  part  : Nat
  desc  : Bytes                      -- the 64 descriptor bytes
  off   : Nat                        -- their scratch offset
  taint : Bool := false
  held  : Bool := false              -- submitted while a KAT was requested (R273)
  alg1  : Nat := 0
  key1  : Bytes := []
  alg2  : Nat := 0
  key2  : Bytes := []
  deriving DecidableEq, Repr

structure Scu where
  owner     : Byte := 0              -- SCU_LOCK
  exclusive : Bool := false
  lockPending : Bool := false
  ready     : Bool := false          -- SCU_STATUS
  failed    : Bool := false
  katReq    : Bool := false
  katBusy   : Bool := false
  active    : List ScuJob := []      -- in order of activation, at most 32
  queue     : List ScuJob := []      -- at most 64
  next      : Nat := 1
  bytes     : Word64 := 0            -- SCU_COUNT
  jobs      : Word32 := 0            -- SCU_JOBS
  refused   : BitVec 16 := 0
  abort     : BitVec 16 := 0
  check     : Bool := false          -- SCU_ERR
  katFail   : Bool := false
  hostFault : Bool := false
  checkCnt  : BitVec 16 := 0
  deriving DecidableEq, Repr

/-- An engine die's DRBG instance (R297). -/
structure DieDrbg where
  seeded : Bool := false             -- RNG_STATUS.DIE_SEEDED
  reqs   : Nat := 0                  -- generate requests since the last reseed
  at_    : Word64 := 0               -- TIME64 of the last reseed
  deriving DecidableEq, Repr

/-- Entropy source and root DRBG (R295 to R298, R303). -/
structure Rng where
  rawEn      : Bool := false         -- RNG_CTL
  lock       : Bool := false
  katReq     : Bool := false
  esReady    : Bool := false         -- RNG_STATUS
  drbgReady  : Bool := false
  failed     : Bool := false
  recovering : Bool := false
  recoveries : BitVec 2 := 0
  reseedCnt  : Word32 := 0
  rctFail    : BitVec 16 := 0        -- RNG_HEALTH
  aptFail    : BitVec 16 := 0
  aptMax     : BitVec 11 := 0
  rctMax     : BitVec 6 := 0
  rawPos     : Nat := 0              -- raw words read
  reqs       : Nat := 0              -- root generate requests since the last reseed
  at_        : Word64 := 0           -- TIME64 of the last root reseed
  failAt     : Word64 := 0           -- TIME64 of the last health failure
  fails      : Nat := 0              -- health failures since power-on or fundamental reset (R298)
  dies       : Tab DieDrbg := []
  deriving DecidableEq, Repr

structure Units where
  blk : Tab UnitState := []
  mau : Tab UnitState := []
  hsh : Tab UnitState := []
  scu : Tab Scu := []
  rng : Rng := {}
  opCtr : Nat := 0                   -- operations submitted, for their order of arrival
  deriving DecidableEq, Repr

/-! ### Access gates (R388 to R398) -/

/-- One region entry: the entry in force, and the staged base and limit (R392).  Addresses are in 4 KiB units. -/
structure GateEntry where
  base   : BitVec 52 := 0
  limit  : BitVec 52 := 0
  cfg    : Word32 := 0               -- GAT_ENT_CFG
  sBase  : BitVec 52 := 0
  sLimit : BitVec 52 := 0
  deriving DecidableEq, Repr

structure Gate where
  entries  : List GateEntry := []    -- entries 0 to 31; empty stands for the reset entries (R393)
  sync     : Bool := false
  syncFor  : List (Nat × Nat) := []  -- the reads a barrier waits for: seat, order of arrival (R396)
  violInfo : Word64 := 0             -- GATE field excepted
  violAddr : Word64 := 0
  count    : Word32 := 0
  err      : BitVec 2 := 0
  deriving DecidableEq, Repr

end Sys2Proof.Machine
end

