-- ==== Sys2Proof/Machine/StateRoutine.lean ====
section
/-!
DEFINITION. The routine store, manifests, quotas, nonces and routine caches (spec file 06).
-/
namespace Sys2Proof.Machine

/-- A routine in the store (R216, R224). -/
structure Image where
  gen     : Nat := 0                 -- install generation
  jaser   : Bool := false
  len     : Nat := 0                 -- N
  version : Nat := 0
  digest  : Bytes := []              -- bundle digest
  code    : List Word32 := []        -- its instruction words
  deriving DecidableEq, Repr

/-- A manifest entry (R228). -/
structure ManEntry where
  routine : Nat
  revoked : Bool := false            -- State: 1 installed, 3 revoked
  jaser   : Bool := false
  version : Nat := 0
  digest  : Bytes := []
  gen     : Nat := 0
  deriving DecidableEq, Repr

/-- An install or revoke committed and not yet in effect, or still waited for (R234, R236). -/
structure Pending where
  item    : Nat                      -- the service's admission number
  routine : Nat
  at_     : Word64                   -- TIME64 of the commit
  epoch   : Nat                      -- effect epoch, TIME64 / 10,000
  image   : Option Image := none     -- none for a revoke
  gen     : Nat := 0                 -- the generation installed or revoked
  inEffect : Bool := false           -- its epoch has been applied
  deriving DecidableEq, Repr

/-- A partition's part of the routine state. -/
structure RoutinePart where
  entries  : List ManEntry := []     -- ascending ROUTINE
  restored : Bool := false           -- its manifest has been restored since the boot (R229)
  loaded   : Tab Image := []         -- bundles in the store, by ROUTINE; len 0 = none
  old      : List (Nat × Image) := []   -- replaced generations that seats still run, by ROUTINE (R235)
  pending  : List Pending := []
  countMax : Nat := 256              -- ROUTINE_QUOTA_SET (R224)
  kibMax   : Nat := 4096
  nonce    : Option (BitVec 128 × Word64) := none   -- ROUTINE_CHALLENGE's nonce and its time (R232)
  deriving DecidableEq, Repr

/-- A line of a troupe's routine cache (R225). -/
structure RLine where
  part    : Option Nat               -- none: library
  routine : Nat
  gen     : Nat
  index   : Nat                      -- 64 instructions to a line
  pinned  : Bool := false
  used    : Nat := 0                 -- order of last use
  ecc     : Option Bool := none      -- a bad word: some false one bit, some true two bits (R225)
  deriving DecidableEq, Repr

/-- The routine-store state of the package. -/
structure Routines where
  library  : List (Nat × Nat) := []  -- library routines loaded at boot, with their N
  resident : List Nat := []          -- pinned at boot on every troupe (R226)
  pins     : List Nat := []          -- further library routines pinned by partition 0 (R227)
  parts    : Tab RoutinePart := []
  useCtr   : Nat := 0
  deriving DecidableEq, Repr

end Sys2Proof.Machine
end

