-- ==== Sys2Proof/Machine/StateTrp.lean ====
section
/-!
DEFINITION. The duplex part of the state (spec file 13): the Trapeze registers, and changes that wait for the standby's
acknowledgement.
-/
namespace Sys2Proof.Machine

/-! ### Changes of the Cage and of mirrored registers (R311, R460, R461) -/

/-- One step of a change.  A record is named by its new commit-word fields and, where a bank is written, its contents;
each unit of a pair applies it to its own record. -/
inductive CageWrite where
  | slot (p s : Nat) (gen : Word32) (valid : Bool) (role : BitVec 2) (alg : BitVec 4) (bank : Option Bytes)
  | man (p : Nat) (counter : Word32) (digest : Bytes)
  | reg (p : Nat) (counter : Word32) (digest : Option Bytes)
  | pairing (secret : Bytes)
  | registry (p : Nat) (r : Option Registry)            -- registry body
  | manifest (p : Nat) (entries : List ManEntry)        -- manifest body
  | share (off : Nat) (value : Word64)                  -- a staged register of R122
  | dirQuota (p : Nat) (units : Nat)                    -- KDC_PART_QUOTA
  | routineQuota (p count kib : Nat)                    -- R224
  deriving DecidableEq, Repr

/-- What the active unit does beside the mirrored writes when a change commits. -/
inductive LocalAct where
  | routine (p : Nat) (x : Pending)                     -- an install or revoke waits for its epoch (R234, R236)
  | endCeremony (p : Nat)                               -- R338, R344
  | endTransfer (p : Nat)
  | unloadManifest (p : Nat)                            -- the manifest awaits restore (R343, R344)
  | releaseDir (p : Nat)                                -- directory records released (R344)
  | slotCmd (gen : Word32)                              -- VLT_SLOT_CMD ends with this GEN (R314)
  deriving DecidableEq, Repr

/-- A change ready to commit: the service it belongs to (none: a VLT_SLOT_CMD or a register write) and its RESULT bytes
16 to 31. -/
structure Change where
  item   : Option Nat := none
  writes : List CageWrite
  acts   : List LocalAct := []
  data   : Bytes := []
  deriving DecidableEq, Repr

/-- A change whose MIRROR frame awaits its MIRROR_ACK (R461). -/
structure MirrorWait where
  seq    : Nat
  at_    : Word64
  change : Change
  deriving DecidableEq, Repr

/-! ### Trapeze (R448 to R474) -/

/-- A planned handover in progress (R466). -/
structure HandoverRun where
  at_    : Word64                    -- its start
  drain  : Nat                       -- µs
  item   : Option Nat := none        -- the TRP_HANDOVER service, none for a revert
  sentAt : Option Word64 := none     -- HANDOVER sent
  deriving DecidableEq, Repr

structure Trp where
  -- TRP_CTL
  tDetect  : BitVec 17 := 200
  tWd      : Byte := 50
  revertS  : BitVec 16 := 120
  prefer   : BitVec 2 := 0
  claimDeg : Bool := true            -- CLAIM_IF_DEGRADED
  patrolEn : Bool := true
  hot      : Bool := false           -- STANDBY_HOT
  lock     : Bool := false
  -- TRP_STATUS
  fsm      : BitVec 16 := 0xAAAA
  pathA    : Bool := false
  pathB    : Bool := false
  line     : Bool := true
  driving  : Bool := false
  peerHealthy : Bool := false
  wdReleased : Bool := false
  epoch    : Word32 := 0
  -- TRP_PEER, TRP_ERR, TRP_COUNT, TRP_MIRROR, TRP_PATROL, TRP_LINK, TRP_EVENT
  peer     : Word64 := 0
  err      : BitVec 10 := 0
  takeovers : BitVec 16 := 0
  handovers : BitVec 16 := 0
  mirrorFails : BitVec 16 := 0
  stales   : BitVec 16 := 0
  mirrored : Word32 := 0
  rtt      : BitVec 16 := 0
  cycles   : Word32 := 0
  lastFails : Byte := 0
  patrol   : Bool := false           -- RUNNING
  lanes    : BitVec 4 := 0
  linkUp   : Bool := false
  crc      : BitVec 16 := 0
  retrains : BitVec 16 := 0
  authFail : BitVec 16 := 0
  event    : BitVec 6 := 0
  -- implied by the protocol
  paired   : Bool := false           -- a peer has been paired (TRP_PAIR)
  lastA    : Word64 := 0             -- TIME64 of the last KEEPALIVE accepted
  lastB    : Word64 := 0             -- and of the last healthy beacon
  lastAct  : Word64 := 0             -- and of the last beacon with ACTIVE, plus 1; 0 none
  beacon   : BitVec 16 := 0          -- last beacon counter received
  beaconTx : BitVec 16 := 0          -- own beacon counter
  peerLost : Bool := false           -- both paths silent (R453)
  peerDriving : Bool := false        -- last beacon's DRIVING
  peerHalted : Bool := false         -- last beacon's HALTED
  standby  : Bool := false           -- the peer has joined as standby
  joining  : Bool := false           -- a join runs on the active unit (R462)
  joinActive : Bool := false         -- a joining unit knows an active peer
  relinquished : Bool := false       -- the peer has relinquished (R470)
  fedAt    : Word64 := 0             -- last feed of the line driver
  claimAt  : Option Word64 := none   -- a claim of this unit, while its contest window or takeover runs
  windowOver : Bool := false         -- the contest window has closed
  adopting : Bool := false           -- HANDOVER accepted: this unit takes the role over (R466)
  startAt  : Word64 := 0             -- when Trapeze started
  degraded : Bool := false           -- the last patrol cycle found a fault
  patrolAt : Word64 := 0             -- start of the last patrol cycle
  healthyAt : Option Word64 := none  -- since when the conditions of R467 have held
  handover : Option HandoverRun := none
  stopAdm  : Bool := false           -- admission stopped (R466)
  txSeq    : Word64 := 0             -- frames sent on this link session
  rxSeq    : Word64 := 0             -- frames accepted
  session  : Nat := 0                -- link sessions begun
  nonce    : Bytes := []             -- this unit's nonce of the session (R450)
  linkKeys : Bytes := []             -- the session's keys: direction 0, direction 1 (R450)
  mirrorSeq : Nat := 0
  held     : List Change := []       -- register changes that wait for the link (R463)
  mirrors  : List MirrorWait := []   -- sent and not acknowledged, oldest first
  lastSync : Word64 := 0             -- TIME64 of the last keepalive tick of the time exchange
  deriving DecidableEq, Repr

end Sys2Proof.Machine
end

