-- ==== Sys2Proof/Syntax.lean ====
section
/-!
DEFINITION. The commands: one constructor for every row of spec/opcode_table.json, with what the command names or brings
with it.  Commands of a seat (`seat`) are Etnak instructions and library services; commands with `id` are management
services, named by admission number; the others are accesses of the host, of control firmware or of the debug port,
frames of the peer link, and events of the package's own engines.  Data that reads outside the package return
(`HostData`, `Bytes`), and readings of detectors and regulators, are operands.
-/
namespace Sys2Proof
open Sys2Proof.Machine (CageWrite)

inductive Instr where
  /-- REGISTER_WRITE (R27). -/
  | registerWrite (fn : Nat) (tgt : Target) (size : Nat) (value : Word64)
  /-- MISALIGNED_ACCESS (R47). -/
  | misalignedAccess (fn off size : Nat)
  /-- UNSUPPORTED_REQUEST (R43). -/
  | unsupportedRequest (fn : Nat) (kind : UrKind)
  /-- MIRROR_REFRESH (R28). -/
  | mirrorRefresh
  /-- CLK_TIME64_LOW_READ (R38). -/
  | clkTime64LowRead
  /-- REFCLK_CHANGE (R30). -/
  | refclkChange (present : Bool)
  /-- TIME_ALIGN (R31). -/
  | timeAlign (die : Nat)
  /-- MIDWAY_FLIT_ERROR (R19). -/
  | midwayFlitError (die fails : Nat) (gcmTagFail : Bool)
  /-- PUSH_WRITE (R67). -/
  | pushWrite (fn page pos : Nat) (data : Bytes)
  /-- SLOT_CONSUME (R67). -/
  | slotConsume (q : Nat) (parity : Bytes)
  /-- PUSH_TORN (R69). -/
  | pushTorn (q : Nat)
  /-- PUSH_RESET (R58). -/
  | pushReset (fn page : Nat)
  /-- QUE_SQ_DB (R70). -/
  | queSqDb (fn page : Nat) (value : Word32)
  /-- SQ_FETCH_ISSUE (R70). -/
  | sqFetchIssue (q : Nat)
  /-- SQ_FETCH_COMPLETE (R72). -/
  | sqFetchComplete (q : Nat) (ok : Bool) (data parity : Bytes)
  /-- HEAD_REFILL (R97). -/
  | headRefill (q : Nat) (read : RefillRead)
  /-- QUE_CQ_DB (R75). -/
  | queCqDb (fn page : Nat) (value : Word32)
  /-- QUEUE_ENABLE (R545). -/
  | queueEnable (fn page : Nat)
  /-- QUEUE_DISABLE (R58). -/
  | queueDisable (fn page : Nat)
  /-- FLUSH (R113). -/
  | flush (fn page : Nat)
  /-- FLUSH_DONE (R115). -/
  | flushDone (q : Nat)
  /-- QUE_COALESCE_WRITE (R60). -/
  | queCoalesceWrite (fn page : Nat) (value : Word32)
  /-- QUE_OWNER_WRITE (R61). -/
  | queOwnerWrite (q : Nat) (value : Word32)
  /-- QUE_PEAK_READ (R110). -/
  | quePeakRead (fn page : Nat)
  /-- VF_FLR (R49). -/
  | vfFlr (vf : Nat)
  /-- PF_RESET (R49). -/
  | pfReset
  /-- FLR_COMPLETE (R49). -/
  | flrComplete (fn : Nat)
  /-- VECTOR_UNMASK (R80). -/
  | vectorUnmask (fn vector : Nat)
  /-- COALESCE_TIMER (R79). -/
  | coalesceTimer (q : Nat)
  /-- MIG_LOG_START (R90). -/
  | migLogStart (id : Nat)
  /-- MIG_LOG_READ_CLEAR (R90). -/
  | migLogReadClear (id : Nat)
  /-- MIG_LOG_STOP (R90). -/
  | migLogStop (id : Nat)
  /-- VF_QUIESCE (R92). -/
  | vfQuiesce (id : Nat)
  /-- VF_QUIESCE_DRAINED (R92). -/
  | vfQuiesceDrained (id : Nat)
  /-- VF_QUIESCE_TIMEOUT (R92). -/
  | vfQuiesceTimeout (id : Nat)
  /-- VF_SAVE (R93). -/
  | vfSave (id : Nat)
  /-- VF_RESTORE (R94). -/
  | vfRestore (id : Nat) (buf : HostData)
  /-- VF_RESUME (R92). -/
  | vfResume (id : Nat)
  /-- TICKET_TURN (R119). -/
  | ticketTurn (parity : Bytes)
  /-- BUCKET_CREDIT (R117). -/
  | bucketCredit
  /-- SHARE_CHANGE_WRITE (R122). -/
  | shareChangeWrite (off : Nat) (value : Word64)
  /-- EPOCH_APPLY (R122). -/
  | epochApply
  /-- JUGGLER_ALLOCATE (R143). -/
  | jugglerAllocate
  /-- DISPATCH_ARRIVE (R141). -/
  | dispatchArrive (die : Nat)
  /-- JASER_SUSPEND (R151). -/
  | jaserSuspend (seat : Nat)
  /-- LOCAL_SELECT (R147). -/
  | localSelect (troupe : Nat)
  /-- REBALANCE_EXAMINE (R144). -/
  | rebalanceExamine
  /-- ITEM_MOVE_ARRIVE (R144). -/
  | itemMoveArrive (die : Nat)
  /-- EXPIRY_SWEEP (R140). -/
  | expirySweep
  /-- JUG_TROUPE_CFG_WRITE (R152). -/
  | jugTroupeCfgWrite (troupe : Nat) (value : Word32)
  /-- RESULT_ACCEPT (R155). -/
  | resultAccept (die : Nat)
  /-- CAROUSEL_RELEASE (R154). -/
  | carouselRelease
  /-- HOLD_EXPIRE (R155). -/
  | holdExpire (part flow : Nat)
  /-- DEFERRAL_UNBLOCKED (R156). -/
  | deferralUnblocked (part flow : Nat)
  /-- SERIAL_RELEASE (R138). -/
  | serialRelease (part flow : Nat)
  /-- TRACE_LOST_WRITE (R159). -/
  | traceLostWrite (die : Nat)
  /-- TRC_ENABLE (R159). -/
  | trcEnable (value : Word32)
  /-- TRC_CLEAR (R169). -/
  | trcClear
  /-- TRC_RD_HI_READ (R169). -/
  | trcRdHiRead
  /-- HOLD_PEAK_READ (R167). -/
  | holdPeakRead (part : Nat)
  /-- ADD (R186). -/
  | add (seat : Nat) (rd ra rb : BitVec 5)
  /-- SUB (R186). -/
  | sub (seat : Nat) (rd ra rb : BitVec 5)
  /-- AND (R186). -/
  | and (seat : Nat) (rd ra rb : BitVec 5)
  /-- OR (R186). -/
  | or (seat : Nat) (rd ra rb : BitVec 5)
  /-- XOR (R186). -/
  | xor (seat : Nat) (rd ra rb : BitVec 5)
  /-- SHL (R186). -/
  | shl (seat : Nat) (rd ra rb : BitVec 5)
  /-- SHR (R186). -/
  | shr (seat : Nat) (rd ra rb : BitVec 5)
  /-- SAR (R186). -/
  | sar (seat : Nat) (rd ra rb : BitVec 5)
  /-- MUL (R186). -/
  | mul (seat : Nat) (rd ra rb : BitVec 5)
  /-- MINU (R186). -/
  | minu (seat : Nat) (rd ra rb : BitVec 5)
  /-- MAXU (R186). -/
  | maxu (seat : Nat) (rd ra rb : BitVec 5)
  /-- CMP (R186). -/
  | cmp (seat : Nat) (ra rb : BitVec 5)
  /-- ADDI (R186). -/
  | addi (seat : Nat) (rd ra : BitVec 5) (imm : BitVec 16)
  /-- ANDI (R186). -/
  | andi (seat : Nat) (rd ra : BitVec 5) (imm : BitVec 16)
  /-- ORI (R186). -/
  | ori (seat : Nat) (rd ra : BitVec 5) (imm : BitVec 16)
  /-- XORI (R186). -/
  | xori (seat : Nat) (rd ra : BitVec 5) (imm : BitVec 16)
  /-- SHI (R186). -/
  | shi (seat : Nat) (rd ra : BitVec 5) (type : BitVec 2) (n : BitVec 6)
  /-- MOVW (R186). -/
  | movw (seat : Nat) (rd : BitVec 5) (imm : BitVec 16) (hw : BitVec 2) (keep : Bool)
  /-- CMPI (R186). -/
  | cmpi (seat : Nat) (ra : BitVec 5) (imm : BitVec 16)
  /-- SEL (R186). -/
  | sel (seat : Nat) (rd ra rb : BitVec 5) (cond : BitVec 4)
  /-- DMOV (R187). -/
  | dmov (seat : Nat) (dd da : BitVec 4)
  /-- DXOR (R187). -/
  | dxor (seat : Nat) (dd da db : BitVec 4)
  /-- DAND (R187). -/
  | dand (seat : Nat) (dd da db : BitVec 4)
  /-- DOR (R187). -/
  | dor (seat : Nat) (dd da db : BitVec 4)
  /-- DSHLB (R187). -/
  | dshlb (seat : Nat) (dd da : BitVec 4) (n : BitVec 6)
  /-- DSHRB (R187). -/
  | dshrb (seat : Nat) (dd da : BitVec 4) (n : BitVec 6)
  /-- DSHLN (R187). -/
  | dshln (seat : Nat) (dd da : BitVec 4) (n : BitVec 6)
  /-- DSHRN (R187). -/
  | dshrn (seat : Nat) (dd da : BitVec 4) (n : BitVec 6)
  /-- DZERO (R187). -/
  | dzero (seat : Nat) (dd : BitVec 4)
  /-- DREV (R187). -/
  | drev (seat : Nat) (dd da : BitVec 4)
  /-- DINS (R187). -/
  | dins (seat : Nat) (dd : BitVec 4) (g : BitVec 5) (ln : Bool)
  /-- DEXT (R187). -/
  | dext (seat : Nat) (g : BitVec 5) (da : BitVec 4) (ln : Bool)
  /-- DCMP (R187). -/
  | dcmp (seat : Nat) (da db : BitVec 4)
  /-- DECIM (R187). -/
  | decim (seat : Nat) (dd da : BitVec 4) (g : BitVec 5)
  /-- DADDM (R187). -/
  | daddm (seat : Nat) (dd da db : BitVec 4)
  /-- DCMPT (R187). -/
  | dcmpt (seat : Nat) (da db : BitVec 4) (n : BitVec 5)
  /-- PINFMT (R187). -/
  | pinfmt (seat : Nat) (dd da : BitVec 4) (from_ to_ : BitVec 2)
  /-- RND (R187). -/
  | rnd (seat : Nat) (dd : BitVec 4)
  /-- DNIB (R187). -/
  | dnib (seat : Nat) (dd da : BitVec 4) (g p : BitVec 5) (n1 : BitVec 4)
  /-- ILLEGAL_INSTRUCTION (R184). -/
  | illegalInstruction (seat : Nat) (word : Word32)
  /-- LDO (R188). -/
  | ldo (seat : Nat) (r base : BitVec 5) (sz : BitVec 2) (off : BitVec 14)
  /-- LDOD (R188). -/
  | ldod (seat : Nat) (r base : BitVec 5) (sz : BitVec 2) (off : BitVec 14)
  /-- LDS (R188). -/
  | lds (seat : Nat) (r base : BitVec 5) (sz : BitVec 2) (off : BitVec 14)
  /-- LDSD (R188). -/
  | ldsd (seat : Nat) (r base : BitVec 5) (sz : BitVec 2) (off : BitVec 14)
  /-- STS (R188). -/
  | sts (seat : Nat) (r base : BitVec 5) (sz : BitVec 2) (off : BitVec 14)
  /-- STSD (R188). -/
  | stsd (seat : Nat) (r base : BitVec 5) (sz : BitVec 2) (off : BitVec 14)
  /-- STR (R188). -/
  | str (seat : Nat) (r base : BitVec 5) (sz : BitVec 2) (off : BitVec 14)
  /-- STRD (R188). -/
  | strd (seat : Nat) (r base : BitVec 5) (sz : BitVec 2) (off : BitVec 14)
  /-- BR (R202). -/
  | br (seat : Nat) (cond : BitVec 4) (dist : BitVec 12)
  /-- LOOP (R203). -/
  | loop (seat : Nat) (gc : BitVec 5) (len : BitVec 12)
  /-- BRK (R202). -/
  | brk (seat : Nat) (cond : BitVec 4)
  /-- END (R200). -/
  | end_ (seat : Nat) (status : Byte) (hostbuf : Bool)
  /-- WAIT (R189). -/
  | wait (seat : Nat) (mask : BitVec 4)
  /-- NOP (R189). -/
  | nop (seat : Nat)
  /-- KOPEN (R181). -/
  | kopen (seat : Nat) (kx : BitVec 3) (ga : BitVec 5) (fn : BitVec 7)
  /-- KEY_FILL_COMPLETE (R322). -/
  | keyFillComplete (fill : KeyFill)
  /-- KCLOSE (R190). -/
  | kclose (seat : Nat) (kx : BitVec 3) (fn : BitVec 7)
  /-- KINFO (R179). -/
  | kinfo (seat : Nat) (ga : BitVec 5) (kx : BitVec 3) (fn : BitVec 7)
  /-- KCV (R190). -/
  | kcv (seat : Nat) (ga : BitVec 5) (kx : BitVec 3) (fn : BitVec 7)
  /-- KDERIVE (R191). -/
  | kderive (seat : Nat) (kx ky : BitVec 3) (ds : BitVec 4) (fn : BitVec 7)
  /-- KUNWRAP (R190). -/
  | kunwrap (seat : Nat) (kx ky : BitVec 3) (ga : BitVec 5) (fn : BitVec 7)
  /-- KWRAP (R190). -/
  | kwrap (seat : Nat) (ga : BitVec 5) (kx ky : BitVec 3) (fn : BitVec 7)
  /-- KGEN (R190). -/
  | kgen (seat : Nat) (kx : BitVec 3) (ga : BitVec 5) (fn : BitVec 7)
  /-- KAIMP (R190). -/
  | kaimp (seat : Nat) (kx ky : BitVec 3) (ga : BitVec 5) (fn : BitVec 7)
  /-- KAGREE (R293). -/
  | kagree (seat : Nat) (kx ky : BitVec 3) (ga : BitVec 5) (fn : BitVec 7)
  /-- BENC (R192). -/
  | benc (seat : Nat) (dd : BitVec 4) (kx : BitVec 3) (ds : BitVec 4)
  /-- BDEC (R192). -/
  | bdec (seat : Nat) (dd : BitVec 4) (kx : BitVec 3) (ds : BitVec 4)
  /-- BSTR (R192). -/
  | bstr (seat : Nat) (kx : BitVec 3) (dd : BitVec 4) (ga : BitVec 5) (fn : BitVec 7)
  /-- BMAC (R192). -/
  | bmac (seat : Nat) (dd : BitVec 4) (kx : BitVec 3) (ga : BitVec 5) (fn : BitVec 7)
  /-- BMACV (R192). -/
  | bmacv (seat : Nat) (kx : BitVec 3) (ds : BitVec 4) (ga : BitVec 5) (fn : BitVec 7)
  /-- FFX (R192). -/
  | ffx (seat : Nat) (kx : BitVec 3) (ds : BitVec 4) (ga : BitVec 5) (fn : BitVec 7)
  /-- HSTART (R192). -/
  | hstart (seat : Nat) (kx : BitVec 3) (fn : BitVec 7)
  /-- HDATA (R192). -/
  | hdata (seat : Nat) (ga : BitVec 5) (fn : BitVec 6)
  /-- HEND (R192). -/
  | hend (seat : Nat) (dd : BitVec 4) (ga : BitVec 5) (fn : BitVec 7)
  /-- MEXP (R291). -/
  | mexp (seat : Nat) (t : BitVec 2) (ga gb gc : BitVec 5)
  /-- MSIGN (R193). -/
  | msign (seat : Nat) (t : BitVec 2) (ga gb gc : BitVec 5) (kx : BitVec 3) (fn : BitVec 6)
  /-- MVER (R193). -/
  | mver (seat : Nat) (t : BitVec 2) (ga gb gc : BitVec 5) (kx : BitVec 3) (fn : BitVec 6)
  /-- SBULK (R279). -/
  | sbulk (seat : Nat) (t : BitVec 2) (ga : BitVec 5) (kx : BitVec 3)
  /-- XLD (R197). -/
  | xld (seat : Nat) (t : BitVec 2) (ga gb gc : BitVec 5)
  /-- XST (R197). -/
  | xst (seat : Nat) (t : BitVec 2) (ga gb gc : BitVec 5) (fn : BitVec 6)
  /-- HOST_READ_COMPLETE (R197). -/
  | hostReadComplete (seat : Nat) (t : BitVec 2) (data : HostData)
  /-- UNIT_OP_COMPLETE (R195). -/
  | unitOpComplete (seat : Nat) (kind : UnitKind) (checkFail : Bool)
  /-- PRF_FAULT_LOG (R215). -/
  | prfFaultLog (id : Nat)
  /-- ROUTINE_CACHE_FILL (R226). -/
  | routineCacheFill (troupe part routine gen : Nat) (line : LineFill)
  /-- ROUTINE_CHALLENGE (R232). -/
  | routineChallenge (id : Nat)
  /-- ROUTINE_INSTALL (R234). -/
  | routineInstall (id : Nat) (buf auth : HostData)
  /-- ROUTINE_REVOKE (R236). -/
  | routineRevoke (id : Nat) (auth : HostData)
  /-- ROUTINE_GEN_DRAINED (R234). -/
  | routineGenDrained (id : Nat)
  /-- ROUTINE_MANIFEST_READ (R230). -/
  | routineManifestRead (id : Nat)
  /-- ROUTINE_MANIFEST_RESTORE (R229). -/
  | routineManifestRestore (id : Nat) (buf : HostData)
  /-- ROUTINE_LOAD (R229). -/
  | routineLoad (id : Nat) (buf : HostData)
  /-- ROUTINE_QUERY (R230). -/
  | routineQuery (id : Nat)
  /-- ROUTINE_VERIFY (R219). -/
  | routineVerify (id : Nat) (buf : HostData)
  /-- ROUTINE_QUOTA_SET (R224). -/
  | routineQuotaSet (id : Nat)
  /-- ROUTINE_CACHE_PIN (R227). -/
  | routineCachePin (id : Nat)
  /-- NONCE_EXPIRE (R232). -/
  | nonceExpire (part : Nat)
  /-- PIN_TRANSLATE (R249). -/
  | pinTranslate (seat : Nat)
  /-- PIN_TRANSLATE_DUKPT (R250). -/
  | pinTranslateDukpt (seat : Nat)
  /-- PIN_VERIFY (R251). -/
  | pinVerify (seat : Nat)
  /-- EMV_ARQC_VERIFY (R252). -/
  | emvArqcVerify (seat : Nat)
  /-- CVC_GENERATE (R253). -/
  | cvcGenerate (seat : Nat)
  /-- CVC_VERIFY (R253). -/
  | cvcVerify (seat : Nat)
  /-- MAC_GENERATE (R254). -/
  | macGenerate (seat : Nat) (buf : HostData)
  /-- MAC_VERIFY (R254). -/
  | macVerify (seat : Nat) (buf : HostData)
  /-- DUKPT_MAC_VERIFY (R255). -/
  | dukptMacVerify (seat : Nat)
  /-- KEY_IMPORT (R257). -/
  | keyImport (seat : Nat) (buf : HostData)
  /-- KEY_EXPORT (R258). -/
  | keyExport (seat : Nat)
  /-- KEY_TRANSLATE (R259). -/
  | keyTranslate (seat : Nat) (buf : HostData)
  /-- KEY_GENERATE (R260). -/
  | keyGenerate (seat : Nat)
  /-- KEY_IMPORT_ASYM (R261). -/
  | keyImportAsym (seat : Nat) (buf : HostData)
  /-- KEY_AGREE (R262). -/
  | keyAgree (seat : Nat) (buf : HostData)
  /-- TOKENISE (R263). -/
  | tokenise (seat : Nat)
  /-- DETOKENISE (R263). -/
  | detokenise (seat : Nat)
  /-- SIGN (R264). -/
  | sign (seat : Nat)
  /-- VERIFY (R265). -/
  | verify (seat : Nat) (buf : HostData)
  /-- BULK_CRYPT (R266).  `end_`: how its job ends, where that falls in with the command; none where SCU_JOB_COMPLETE says it
  later. -/
  | bulkCrypt (seat : Nat) (src : Bytes) (end_ : Option JobEnd)
  /-- BULK_REENCRYPT (R267).  `end_` as in BULK_CRYPT. -/
  | bulkReencrypt (seat : Nat) (src : Bytes) (end_ : Option JobEnd)
  /-- SCU_JOB_COMPLETE (R286). -/
  | scuJobComplete (die job : Nat) (src : Bytes) (end_ : JobEnd)
  /-- UNIT_STATUS_READ (R300). -/
  | unitStatusRead (id : Nat)
  /-- SCU_LOCK_SET (R288). -/
  | scuLockSet (id : Nat)
  /-- UNIT_KAT (R300). -/
  | unitKat (id : Nat)
  /-- KAT_REQ (R273). -/
  | katReq (kind : UnitKind) (n : Nat)
  /-- KAT_COMPLETE (R273). -/
  | katComplete (kind : UnitKind) (n : Nat) (pass : Bool)
  /-- RNG_HEALTH_FAIL (R298). -/
  | rngHealthFail (rct : Bool)
  /-- RNG_RECOVERY (R298). -/
  | rngRecovery (bad : Option Bool)
  /-- ROOT_DRBG_RESEED (R297). -/
  | rootDrbgReseed
  /-- DIE_DRBG_RESEED (R297). -/
  | dieDrbgReseed (die : Nat)
  /-- DRBG_BUFFER_REFILL (R297). -/
  | drbgBufferRefill (troupe : Nat)
  /-- RNG_RAW_READ (R303). -/
  | rngRawRead
  /-- RNG_HEALTH_READ (R303). -/
  | rngHealthRead
  /-- VLT_SLOT_WRITE (R315). -/
  | vltSlotWrite
  /-- VLT_SLOT_ADVANCE (R315). -/
  | vltSlotAdvance
  /-- VLT_SLOT_ERASE (R315). -/
  | vltSlotErase
  /-- GEN_APPLY (R327). -/
  | genApply (die : Nat)
  /-- VAULT_CHALLENGE (R336). -/
  | vaultChallenge (id : Nat)
  /-- VAULT_REGISTRY_SET (R336). -/
  | vaultRegistrySet (id : Nat) (buf : HostData)
  /-- VAULT_REGISTRY_RESTORE (R335). -/
  | vaultRegistryRestore (id : Nat) (buf : HostData)
  /-- VAULT_CEREMONY_OPEN (R339). -/
  | vaultCeremonyOpen (id : Nat)
  /-- VAULT_COMPONENT (R339). -/
  | vaultComponent (id : Nat) (buf : HostData)
  /-- VAULT_CEREMONY_CLOSE (R338). -/
  | vaultCeremonyClose (id : Nat) (buf : HostData)
  /-- VAULT_SLOT_GENERATE (R336). -/
  | vaultSlotGenerate (id : Nat) (buf : HostData)
  /-- VAULT_SLOT_INVALIDATE (R336). -/
  | vaultSlotInvalidate (id : Nat) (buf : HostData)
  /-- PMK_FENCE (R330). -/
  | pmkFence (id : Nat)
  /-- PMK_FENCE_DONE (R330). -/
  | pmkFenceDone (id : Nat)
  /-- PMK_FENCE_TIMEOUT (R330). -/
  | pmkFenceTimeout (id : Nat)
  /-- DIR_SWEEP_DONE (R330). -/
  | dirSweepDone
  /-- VAULT_BACKUP_EXPORT (R340). -/
  | vaultBackupExport (id : Nat) (buf : HostData)
  /-- VAULT_TRANSFER_OPEN (R342). -/
  | vaultTransferOpen (id : Nat)
  /-- VAULT_TRANSFER_EXPORT (R342). -/
  | vaultTransferExport (id : Nat) (buf : HostData)
  /-- VAULT_RESTORE (R343). -/
  | vaultRestore (id : Nat) (buf : HostData)
  /-- VAULT_PARTITION_ERASE (R344). -/
  | vaultPartitionErase (id : Nat) (buf : HostData)
  /-- KEY_DIR_RELEASE (R336). -/
  | keyDirRelease (id : Nat)
  /-- CEREMONY_EXPIRE (R339). -/
  | ceremonyExpire (part : Nat)
  /-- POWER_ON_RESET (R516). -/
  | powerOnReset
  /-- BATTERY_RESET (R516). -/
  | batteryReset
  /-- FUNDAMENTAL_RESET (R516). -/
  | fundamentalReset
  /-- BOOT_ROM_START (R357). -/
  | bootRomStart (a b : ImageRead) (bad : List (Nat × Nat)) (entropyFail : Option Bool)
  /-- BOOT_HANDOVER (R357). -/
  | bootHandover (certs : List Bytes) (record : Bytes)
  /-- BOOT_OK (R358). -/
  | bootOk
  /-- BOOT_WATCHDOG (R358). -/
  | bootWatchdog
  /-- GLB_RECOVERY_GO (R360). -/
  | glbRecoveryGo (img : HostData)
  /-- FW_STAGE (R363). -/
  | fwStage (id : Nat) (buf : HostData)
  /-- FW_SVN_ADVANCE (R364). -/
  | fwSvnAdvance (id : Nat)
  /-- FW_KEY_REVOKE (R364). -/
  | fwKeyRevoke (id : Nat)
  /-- ATTEST_QUOTE (R373). -/
  | attestQuote (id : Nat)
  /-- LOCKSTEP_MISMATCH (R366). -/
  | lockstepMismatch (pair : Nat)
  /-- GET_VERSION (R370). -/
  | getVersion (msg : Bytes)
  /-- GET_CAPABILITIES (R370). -/
  | getCapabilities (msg : Bytes)
  /-- NEGOTIATE_ALGORITHMS (R370). -/
  | negotiateAlgorithms (sm2 p384 : Bool) (msg : Bytes)
  /-- GET_DIGESTS (R369). -/
  | getDigests (msg : Bytes)
  /-- GET_CERTIFICATE (R370). -/
  | getCertificate (slot off len : Nat) (msg : Bytes)
  /-- CHALLENGE (R370). -/
  | challenge (slot : Nat) (msg : Bytes)
  /-- GET_MEASUREMENTS (R371). -/
  | getMeasurements (index : Nat) (signed : Bool) (slot : Nat) (msg : Bytes)
  /-- KEY_EXCHANGE (R370). -/
  | keyExchange (slot : Nat) (msg : Bytes)
  /-- FINISH (R370). -/
  | finish (session : Nat) (valid : Bool) (msg : Bytes)
  /-- HEARTBEAT (R370). -/
  | heartbeat (session : Nat) (msg : Bytes)
  /-- KEY_UPDATE (R370). -/
  | keyUpdate (session : Nat) (msg : Bytes)
  /-- END_SESSION (R370). -/
  | endSession (session : Nat) (msg : Bytes)
  /-- SET_CERTIFICATE (R369). -/
  | setCertificate (session slot : Nat) (chain msg : Bytes)
  /-- VENDOR_DEFINED (R370). -/
  | vendorDefined (session : Nat) (ideKm : Bool) (msg : Bytes)
  /-- UCH_START (R376). -/
  | uchStart
  /-- UCH_DONE (R376). -/
  | uchDone
  /-- MOV_START (R377). -/
  | movStart (ch pair : Nat)
  /-- MOV_STOP (R381). -/
  | movStop (ch : Nat)
  /-- MOV_HALF (R380). -/
  | movHalf (ch : Nat)
  /-- MOV_TRANSFER_END (R380). -/
  | movTransferEnd (data : Bytes) (reach : Nat) (end_ : JobEnd)
  /-- GAT_ENT_CFG_WRITE (R392). -/
  | gatEntCfgWrite (colour gate entry : Nat) (value : Word32)
  /-- GATE_SYNC (R396). -/
  | gateSync (colour gate : Nat)
  /-- GATE_SYNC_DONE (R396). -/
  | gateSyncDone (gate : Nat)
  /-- BYPASS (R400). -/
  | bypass
  /-- IDCODE (R400). -/
  | idcode
  /-- SAMPLE_PRELOAD (R400). -/
  | samplePreload
  /-- EXTEST (R404). -/
  | extest
  /-- DBG_STATUS (R400). -/
  | dbgStatus
  /-- DBG_ACCESS (R401). -/
  | dbgAccess (write : Bool) (addr : Nat) (value data : Word64)
  /-- DBG_CORE1_HALT (R400). -/
  | dbgCore1Halt
  /-- DBG_CORE1_STEP (R400). -/
  | dbgCore1Step
  /-- DBG_CORE1_RESUME (R400). -/
  | dbgCore1Resume
  /-- FUSE_PROG (R400). -/
  | fuseProg (row : Nat) (data : Bytes)
  /-- LCS_REQ_ARM (R411). -/
  | lcsReqArm (colour : Option Nat) (target : Word32)
  /-- LCS_REQ_GO (R411). -/
  | lcsReqGo (colour : Option Nat) (target : Word32)
  /-- LCS_ARM_EXPIRE (R411). -/
  | lcsArmExpire
  /-- LCS_PROGRAM_DONE (R409). -/
  | lcsProgramDone
  /-- WIPE_STEP_DONE (R413). -/
  | wipeStepDone
  /-- DEBUG_GRANT_EXPIRE (R403). -/
  | debugGrantExpire
  /-- LCS_SCRAP (R412). -/
  | lcsScrap (id : Nat) (buf : HostData)
  /-- DEBUG_UNLOCK (R417). -/
  | debugUnlock (id : Nat) (buf : HostData)
  /-- DEBUG_LOCK (R417). -/
  | debugLock (id : Nat)
  /-- CANVAS_DETECT (R430). -/
  | canvasDetect (codes : List Nat) (raw : Word64)
  /-- SENTINEL_DETECT (R424). -/
  | sentinelDetect (code : Nat)
  /-- SENTINEL_CONFIG_COPY (R422). -/
  | sentinelConfigCopy
  /-- CNV_STIM_START (R439). -/
  | cnvStimStart (source : BitVec 6) (raw : Word64)
  /-- STIM_END (R439). -/
  | stimEnd (detected released : Bool)
  /-- CNV_CAUSE_CLEAR (R445). -/
  | cnvCauseClear (value raw : Word64)
  /-- CANVAS_RESUME (R432). -/
  | canvasResume (id : Nat) (raw : Word64)
  /-- CANVAS_LATCH_CLEAR (R436). -/
  | canvasLatchClear (id : Nat)
  /-- CANVAS_STIMULATE (R447). -/
  | canvasStimulate (id : Nat) (raw undetected stuck : Word64)
  /-- CANVAS_CONFIG (R442). -/
  | canvasConfig (id : Nat) (buf : HostData)
  /-- CANVAS_DISABLE_FUSE (R441). -/
  | canvasDisableFuse (id : Nat) (buf : HostData)
  /-- LINK_UP (R450). -/
  | linkUp (lanes : BitVec 4)
  /-- HELLO (R450). -/
  | hello (frame : HelloFrame)
  /-- KEEPALIVE (R452). -/
  | keepalive (ok : Bool) (epoch : Word32) (role : Nat) (cfgMatch patrolFault revert : Bool)
  /-- KEEPALIVE_SEND (R452). -/
  | keepaliveSend
  /-- PEER_LINK_RETRAIN (R449). -/
  | peerLinkRetrain (fails : Nat)
  /-- TIME (R33). -/
  | time (ok : Bool) (value : Word64)
  /-- PEER_TIME_EXCHANGE (R33). -/
  | peerTimeExchange
  /-- PEER_SYNC_LOSS (R33). -/
  | peerSyncLoss
  /-- MIRROR (R461). -/
  | mirror (ok : Bool) (epoch : Word32) (seq : Nat) (writes : List CageWrite)
  /-- MIRROR_ACK (R461). -/
  | mirrorAck (ok : Bool) (epoch : Word32) (seq : Nat) (result : Byte)
  /-- MIRROR_TIMEOUT (R461). -/
  | mirrorTimeout
  /-- RESYNC (R462). -/
  | resync (ok : Bool) (epoch : Word32) (writes : List CageWrite)
  /-- JOIN_COMPLETE (R462). -/
  | joinComplete (time : Word64) (units : List (UnitKind × Nat)) (undetected stuck : Word64) (others : Nat)
  /-- CLAIM (R457). -/
  | claim (ok : Bool)
  /-- RELINQUISH (R470). -/
  | relinquish (ok : Bool) (epoch : Word32)
  /-- HANDOVER (R466). -/
  | handover (ok : Bool) (epoch newEpoch : Word32)
  /-- HANDOVER_ACK (R466). -/
  | handoverAck (ok : Bool) (epoch : Word32)
  /-- HANDOVER_ACK_TIMEOUT (R466). -/
  | handoverAckTimeout
  /-- HANDOVER_DRAIN_EXPIRE (R466). -/
  | handoverDrainExpire
  /-- BEACON (R452). -/
  | beacon (word : Word32) (highNs : Nat)
  /-- BEACON_SEND (R452). -/
  | beaconSend
  /-- PATH_SILENT (R453). -/
  | pathSilent
  /-- WATCHDOG_RELEASE (R454). -/
  | watchdogRelease
  /-- CLAIM_START (R455). -/
  | claimStart (highNs : Nat)
  /-- STARTUP_CLAIM (R456). -/
  | startupClaim (highNs : Nat)
  /-- CLAIM_WINDOW_CLOSE (R457). -/
  | claimWindowClose
  /-- TAKEOVER_COMPLETE (R458). -/
  | takeoverComplete
  /-- REVERT_REQUEST (R467). -/
  | revertRequest
  /-- PATROL_CYCLE (R468). -/
  | patrolCycle
  /-- PATROL_DONE (R468). -/
  | patrolDone (units : List (UnitKind × Nat)) (undetected stuck : Word64) (others : Nat)
  /-- TRP_PAIR (R471). -/
  | trpPair (id : Nat) (buf : HostData) (helloOk : Bool) (shared : Bytes)
  /-- TRP_DETACH (R471). -/
  | trpDetach (id : Nat) (buf : HostData)
  /-- TRP_HANDOVER (R466). -/
  | trpHandover (id : Nat)
  /-- TRP_SOLO (R463). -/
  | trpSolo (id : Nat)
  /-- CAL_ENABLE (R475). -/
  | calEnable (value : Bool)
  /-- CAL_FREEZE (R490). -/
  | calFreeze
  /-- CAL_FREEZE_ENTER (R490). -/
  | calFreezeEnter
  /-- CAL_THAW (R490). -/
  | calThaw
  /-- FREEZE_TIMEOUT (R490). -/
  | freezeTimeout
  /-- CAL_CLEAR (R496). -/
  | calClear
  /-- WINDOW_CLOSE (R477). -/
  | windowClose (fault : Option (Nat × Nat × Nat))
  /-- CAL_EVENT_ARRIVE (R480). -/
  | calEventArrive
  /-- CAL_RELEASE (R488). -/
  | calRelease (bytes : Nat)
  /-- CAL_RD_DATA_READ (R492). -/
  | calRdDataRead (bad : Option Nat)
  /-- CAL_FW_EVENT (R494). -/
  | calFwEvent (colour : Nat) (value : Word64)
  /-- CAL_COPY (R493). -/
  | calCopy (read : CalRead)
  /-- SCRUB_PASS (R495). -/
  | scrubPass (fixed : Nat) (bad : Option (Nat × Nat))
  /-- PS_ENTER (R504). -/
  | psEnter
  /-- DIE_WAKE_DONE (R501). -/
  | dieWakeDone (die : Nat)
  /-- TROUPE_GATE (R502). -/
  | troupeGate (troupe : Nat)
  /-- TROUPE_UNGATE_DONE (R502). -/
  | troupeUngateDone (troupe : Nat)
  /-- D3HOT_ENTRY (R505). -/
  | d3hotEntry
  /-- D0_RETURN (R505). -/
  | d0Return
  /-- DVFS_STEP (R508). -/
  | dvfsStep (troupe : Nat)
  /-- THERMAL_SAMPLE (R509). -/
  | thermalSample (t : Byte)
  /-- THROTTLE_STEP (R509). -/
  | throttleStep
  /-- SEQUENCE_START (R511). -/
  | sequenceStart (vbat : Bool)
  /-- POWER_GOOD_RISE (R511). -/
  | powerGoodRise
  /-- PG_FAULT (R512). -/
  | pgFault (group : Nat)
  /-- RAIL_POLL (R513). -/
  | railPoll (readings : List RailReading)
  /-- DIE_BRINGUP (R517). -/
  | dieBringup (die : Nat)
  /-- PWR_SHUTDOWN (R514). -/
  | pwrShutdown (id : Nat)
  /-- PWR_TRIM (R522). -/
  | pwrTrim (id : Nat)
  /-- RTC_SET (R515). -/
  | rtcSet (id : Nat)
  /-- SYSTEM_POWER_LOSS (R454). -/
  | systemPowerLoss
  /-- CASE_B_SWITCHOVER (R438). -/
  | caseBSwitchover (vbatLow : Bool)
  /-- HANDOVER_LINE_HIGH (R466). -/
  | handoverLineHigh
  /-- SHUTDOWN_DRAIN_END (R514). -/
  | shutdownDrainEnd
  /-- PCIE_LINK_L0 (R44). -/
  | pcieLinkL0 (link : LinkRate)
  deriving DecidableEq, Repr

end Sys2Proof
end

