-- ==== Sys2Proof/Config.lean ====
section
/-!
DEFINITION. What the spec leaves open, as constants without a body: no proof can see a value of them.  The free
functions stand for algorithms the spec names by their own standards (assumption log 3), for outputs of the random
generators (4) and for values an implementation fixes (5).
-/
namespace Sys2Proof.Config

/-! ### Random output -/

/-- The n-th 16-byte output of the DRBG, counted over the whole package (R187 RND, R296). -/
opaque drbg : Nat → BitVec 128

/-- A value the spec does not fix, by a plain counter of State. -/
opaque freeWord : Nat → BitVec 64

/-! ### Algorithms named by their standards -/

/-- One block enciphered: algorithm code of R179, key, block. -/
opaque blockEnc : Nat → Bytes → Bytes → Bytes
/-- One block deciphered. -/
opaque blockDec : Nat → Bytes → Bytes → Bytes
/-- SP 800-38B CMAC: algorithm, key, message. -/
opaque cmac : Nat → Bytes → Bytes → Bytes
/-- SP 800-38G FF1: decrypt?, radix, algorithm, key, tweak, numerals. -/
opaque ff1 : Bool → Nat → Nat → Bytes → Bytes → List Nat → List Nat
/-- A hash by the fn code of HSTART (R192): 0 SHA-256, 1 SHA-384, 2 SHA-512, 3 SHA3-256, 4 SHA3-512, 5 SM3, 6 SHA-1. -/
opaque hash : Nat → Bytes → Bytes
/-- HMAC over that hash: fn code, key, message. -/
opaque hmac : Nat → Bytes → Bytes → Bytes
/-- AES-GCM or SM4-GCM encryption: algorithm, key, nonce, associated data, plaintext; ciphertext of the same length. -/
opaque gcmEnc : Nat → Bytes → Bytes → Bytes → Bytes → Bytes
/-- The matching decryption. -/
opaque gcmDec : Nat → Bytes → Bytes → Bytes → Bytes → Bytes
/-- The 16-byte tag: algorithm, key, nonce, associated data, ciphertext. -/
opaque gcmTag : Nat → Bytes → Bytes → Bytes → Bytes → Bytes
/-- XTS: decrypt?, algorithm, key, data-unit number, data. -/
opaque xts : Bool → Nat → Bytes → Nat → Bytes → Bytes
/-- A signature: algorithm of R179, scheme, private key, digest, parameters, random input. -/
opaque sign : Nat → Nat → Bytes → Bytes → Bytes → BitVec 128 → Bytes
/-- A signature's verification: algorithm, scheme, public key, digest, signature. -/
opaque verify : Nat → Nat → Bytes → Bytes → Bytes → Bool
/-- A public key of a private key: algorithm, private key. -/
opaque publicKey : Nat → Bytes → Bytes
/-- Whether a point or a public key is one of its algorithm's group. -/
opaque validPublic : Nat → Bytes → Bool
/-- SM2 Z_A of an identity and a public key. -/
opaque sm2Za : Bytes → Bytes → Bytes
/-- Decryption of a transported key: fn, private key, input; none where it does not authenticate. -/
opaque keyTransport : Nat → Bytes → Bytes → Option Bytes
/-- Key agreement: fn, algorithm, private key, peer key and parameters, bytes wanted. -/
opaque keyAgree : Nat → Nat → Bytes → Bytes → Nat → Bytes
/-- A derived key of KDERIVE: method, variant, algorithm, parent key, derivation data. -/
opaque deriveKey : Nat → Nat → Nat → Bytes → Bytes → Bytes
/-- ANSI X9.143 protection (version D?, KBPK algorithm, KBPK, header, length-and-key field, random padding): the
encrypted field and the authenticator (R324). -/
opaque x9Seal : Bool → Nat → Bytes → Bytes → Bytes → BitVec 128 → Bytes
/-- The key of a block that authenticates (version D?, KBPK algorithm, KBPK, header with optional blocks, rest). -/
opaque x9Open : Bool → Nat → Bytes → Bytes → Bytes → Option Bytes
/-- Modular exponentiation of big-endian numbers of one length: modulus, exponent, input (R291). -/
opaque modExp : Bytes → Bytes → Bytes → Bytes
/-- An SM2 ciphertext of a plaintext to a public key, with random input: C1, C3, C2 (R339, R340). -/
opaque sm2Enc : Bytes → Bytes → BitVec 128 → Bytes
/-- The key-derivation function of R306: keying secret, label, context, length in bytes. -/
opaque kdf : Bytes → Bytes → Bytes → Nat → Bytes
/-- The SM2 public key of the leaf of a certificate chain that verifies to an SM2 CA key: CA key, chain; none where it
does not (R342, R369, R471). -/
opaque certLeaf : Bytes → Bytes → Option Bytes
/-- The device's own certificate chains, signed outside the device: slot. -/
opaque certChain : Nat → Bytes

/-- The leaf public key of a certificate chain that parses (R369). -/
opaque certKey : Bytes → Option Bytes
/-- What the signature of an SPDM response covers: response code, the requests since GET_VERSION, the response's own
fields (R368, R370). -/
opaque spdmSigned : Nat → Bytes → Bytes → Bytes

/-- Whether two instructions that may pair issue in one cycle: the command, its instructions so far (R175). -/
opaque pairs : Nat → Nat → Bool

/-- The instruction count at which a parity failure of a seat's registers, scratch or buffers shows, if any: seat, command
(R205). -/
opaque seatParity : Nat → Nat → Option Nat

/-- Blocks in a block unit's pipeline, to a modulus: unit, operations submitted so far, TIME64 and the index of the next free
value (R301). -/
opaque inFlight : Nat → List Nat → Nat

/-- The n-th line a library routine's key fill reads fails its integrity tag (R22). -/
opaque lineFails : Nat → Bool

/-- Where a range that holds an RSA signature and then its public key parts (R193, R265). -/
opaque rsaSplit : Bytes → Nat

/-- The n-th write of output data to host memory fails an internal check on its way to the link (R197). -/
opaque writeFails : Nat → Bool

/-- The message of an SPDM response: its code and the fields the responder gives (R370). -/
opaque spdmMessage : Nat → Bytes → Bytes

/-! ### Values an implementation fixes -/

/-- The boot ROM's contents, fixed per stepping (block 1 of R371). -/
opaque romImage : Bytes
/-- The type of a measurement block, which R372 takes from a column that R371 does not have. -/
opaque measType : Nat → Nat
/-- The bytes that blocks 7 and 9 of R371 are digests of: block, its values. -/
opaque measItem : Nat → List Nat → Bytes
/-- Fields of an SPDM response that the spec does not give: response code, the requests since GET_VERSION. -/
opaque spdmFields : Nat → Bytes → Bytes

/-- The routine-cache set (of 128) a line maps to: partition or library, routine, generation, line (R225). -/
opaque cacheSet : Nat → Nat → Nat → Nat → Nat

/-- The place of a routine's line in the store, in lines of 256 bytes: partition or library, routine, generation, line. -/
opaque storeLine : Nat → Nat → Nat → Nat → Nat

end Sys2Proof.Config
end

