-- ==== Sys2Proof/Machine/Bits.lean ====
section
/-!
DEFINITION. Bit-field, byte-order and counter helpers the meanings share (R7, R8, R47: all multi-byte fields are
little-endian unless a rule says otherwise).
-/
namespace Sys2Proof.Machine

/-- Bits `[hi:lo]` of a register value, as a number. -/
def fld {n : Nat} (v : BitVec n) (hi lo : Nat) : Nat := (v.toNat >>> lo) % 2 ^ (hi - lo + 1)

/-- Bit `i` of a register value. -/
def bitOf {n : Nat} (v : BitVec n) (i : Nat) : Bool := v.getLsbD i

/-- A Boolean as a number. -/
def b2n (b : Bool) : Nat := if b then 1 else 0

/-- A counter that counts up and holds at its largest value. -/
def satInc {w : Nat} (x : BitVec w) : BitVec w := if x = BitVec.allOnes w then x else x + 1

/-- A saturating counter advanced by `k`. -/
def satAdd {w : Nat} (x : BitVec w) (k : Nat) : BitVec w :=
  if x.toNat + k < 2 ^ w then BitVec.ofNat w (x.toNat + k) else BitVec.allOnes w

/-- `x` with bit `i` set. -/
def setBit {w : Nat} (x : BitVec w) (i : Nat) : BitVec w := x ||| BitVec.ofNat w (2 ^ i)

/-- `x` with bit `i` clear. -/
def clrBit {w : Nat} (x : BitVec w) (i : Nat) : BitVec w := x &&& ~~~ BitVec.ofNat w (2 ^ i)

/-- W1C (R7): every bit written 1 is cleared. -/
def w1c {w : Nat} (x : BitVec w) (v : Nat) : BitVec w := x &&& ~~~ BitVec.ofNat w v

/-- A field write of R8: a value in `ok` is taken, any other leaves the field as it is. -/
def rwField {w : Nat} (old : BitVec w) (v : Nat) (ok : Nat → Bool) : BitVec w :=
  if ok v then BitVec.ofNat w v else old

/-- Little-endian value of a byte list (R47). -/
def leNat : Bytes → Nat
  | [] => 0
  | b :: bs => b.toNat + 256 * leNat bs

/-- The `n` little-endian bytes of a value. -/
def toLE : Nat → Nat → Bytes
  | 0, _ => []
  | n + 1, v => BitVec.ofNat 8 (v % 256) :: toLE n (v / 256)

/-- Big-endian value of a byte list. -/
def beNat (bs : Bytes) : Nat := leNat bs.reverse

/-- The `n` big-endian bytes of a value. -/
def toBE (n v : Nat) : Bytes := (toLE n v).reverse

/-- `n` zero bytes. -/
def zeros (n : Nat) : Bytes := List.replicate n 0

/-- The first `n` bytes, padded with zeros to `n`. -/
def fit (n : Nat) (bs : Bytes) : Bytes := bs.take n ++ zeros (n - bs.length)

/-- `n` bytes from offset `o`; bytes past the end read as zero. -/
def slice (o n : Nat) (bs : Bytes) : Bytes := fit n (bs.drop o)

/-- Byte at offset `o`, zero past the end. -/
def byteAt (o : Nat) (bs : Bytes) : Byte := bs.getD o 0

/-- Little-endian field of `n` bytes at offset `o`. -/
def leAt (o n : Nat) (bs : Bytes) : Nat := leNat (slice o n bs)

/-- Bytewise exclusive or, of the shorter length. -/
def xorBytes (a b : Bytes) : Bytes := List.zipWith (· ^^^ ·) a b

/-- Floor of the base-2 logarithm, 0 for 0, by structural recursion on `fuel`. -/
def log2Fuel : Nat → Nat → Nat
  | 0, _ => 0
  | k + 1, v => if v < 2 then 0 else 1 + log2Fuel k (v / 2)

/-- The largest `k` with `2^k ≤ v`, for `v` below `2^64`. -/
def ilog2 (v : Nat) : Nat := log2Fuel 64 v

/-- `n` rounded up to a multiple of `m`. -/
def roundUp (n m : Nat) : Nat := (n + (m - 1)) / m * m

/-- A nibble list packed two to a byte, high nibble first. -/
def packNibbles : List Nat → Bytes
  | [] => []
  | [a] => [BitVec.ofNat 8 (a % 16 * 16)]
  | a :: b :: r => BitVec.ofNat 8 (a % 16 * 16 + b % 16) :: packNibbles r

/-- The nibbles of a byte list, high nibble first. -/
def nibbles (bs : Bytes) : List Nat := bs.flatMap fun b => [b.toNat / 16, b.toNat % 16]

end Sys2Proof.Machine
end

