-- ==== Sys2Proof/Machine/Crypto.lean ====
section
/-!
DEFINITION. Block modes, MACs and key arithmetic the units and services share (R179, R191, R192, R254, R256, R269,
R284, R319, R326).  The ciphers themselves are the uninterpreted functions of Config (assumption log 3).
-/
namespace Sys2Proof.Machine

open Sys2Proof.Config

/-! ### Algorithms (R179) -/

/-- Block length in bytes of an algorithm code: TDES 8, AES and SM4 16. -/
def blockLen (alg : Nat) : Nat := if alg = 1 ∨ alg = 2 then 8 else 16

def isTdes (alg : Nat) : Bool := decide (alg = 1) || decide (alg = 2)
def isAes (alg : Nat) : Bool := decide (3 ≤ alg) && decide (alg ≤ 5)
def isBlockAlg (alg : Nat) : Bool := decide (1 ≤ alg) && decide (alg ≤ 6)

/-- Key length in bytes of a symmetric algorithm; an HMAC secret made by KGEN is 32 bytes (R190). -/
def keyLen (alg : Nat) : Nat :=
  if alg = 1 then 16 else if alg = 2 then 24 else if alg = 3 then 16 else if alg = 4 then 24 else if alg = 5 then 32
  else if alg = 6 then 16 else if alg = 7 then 32 else 0

/-- Coordinate length of an elliptic-curve algorithm. -/
def curveLen (alg : Nat) : Nat := if alg = 0xA then 48 else if alg = 0xB then 66 else 32

def isEc (alg : Nat) : Bool := decide (9 ≤ alg) && decide (alg ≤ 0xD)

/-- Units of 64 bytes a key occupies (R319). -/
def keyUnits (n : Nat) : Nat := max 1 ((n + 63) / 64)

/-- Strength in bits (R326).  `bits` is the key length. -/
def strength (alg bits : Nat) : Nat :=
  if alg = 1 then 80 else if alg = 2 then 112
  else if alg = 3 ∨ alg = 6 ∨ alg = 9 ∨ alg = 0xD ∨ alg = 0xC then 128
  else if alg = 4 ∨ alg = 0xA then 192
  else if alg = 5 ∨ alg = 0xB then 256
  else if alg = 7 then min bits 256
  else if bits < 2048 then 80 else if bits < 3072 then 112 else if bits < 4096 then 128 else 152

/-- The attribute word of R179. -/
def attrWord (a : KeyAttr) (transient : Bool) : Nat :=
  a.usage.toNat + a.perm.toNat * 2 ^ 8 + a.alg.toNat * 2 ^ 16 + a.export_.toNat * 2 ^ 20 + b2n transient * 2 ^ 22 +
  a.part.toNat * 2 ^ 24 + a.bits.toNat * 2 ^ 32

/-- Attributes from a word of that layout, PARTITION and TRANSIENT left out. -/
def attrOf (w : Nat) : KeyAttr :=
  { usage := BitVec.ofNat 6 w, perm := BitVec.ofNat 8 (w / 2 ^ 8), alg := BitVec.ofNat 4 (w / 2 ^ 16)
    export_ := BitVec.ofNat 2 (w / 2 ^ 20), bits := BitVec.ofNat 16 (w / 2 ^ 32) }

/-- A USAGE and an ALG that R179 produces. -/
def usageOk (u : Nat) : Bool := decide (1 ≤ u) && decide (u ≤ 0x10)
def algOk (a : Nat) : Bool := decide (1 ≤ a) && decide (a ≤ 0xE) && decide (a ≠ 8)

/-- A template of KGEN, KAGREE and R260: symmetric USAGE and ALG, EXPORT not 3, every other bit zero. -/
def templateOk (w : Nat) : Bool :=
  let a := attrOf w
  decide (w < 2 ^ 22) && decide (w / 2 ^ 6 % 4 = 0) && usageOk a.usage.toNat && decide (a.usage.toNat ≤ 0x0C) &&
  decide (1 ≤ a.alg.toNat) && decide (a.alg.toNat ≤ 7) && decide (a.export_ ≠ 3)

/-- Modulus lengths in bits that every RSA operation takes (R269, R290). -/
def rsaBits (n : Nat) : Bool := decide (2048 ≤ n) && decide (n ≤ 4096) && decide (n % 32 = 0)

/-- Length in bytes of the material of a key of an algorithm and usage (R319). -/
def materialOk (alg usage n : Nat) : Bool :=
  let pub := decide (usage = 0x0E)
  if alg = 7 then decide (8 ≤ n) && decide (n ≤ 64)
  else if alg ≤ 6 then decide (n = keyLen alg)
  else if alg = 0xE then
    if pub then rsaBits (8 * (n - 4)) || decide (n = 132)
    else [2048, 3072, 4096].any fun b => decide (n = 7 * b / 16 + 4)
  else if alg = 0xC ∧ pub then decide (n = 32)
  else decide (n = (if pub then 2 else 3) * curveLen alg)

/-! ### Block modes (R192, R269) -/

/-- The modes of BSTR and the SCU. -/
inductive Mode where
  | ecb | cbc | ctr | cfb8 | cfbFull | ofb
  deriving DecidableEq, Repr

/-- A big-endian counter block plus one, wrapping (R281). -/
def incBlock (bs : Bytes) : Bytes := toBE bs.length ((beNat bs + 1) % 256 ^ bs.length)

/-- One block of a mode: `e`, `d` the block functions, `iv` the chaining block, `x` the data block (short at the end of
a stream).  Answers the output and the next chaining block. -/
def modeBlock (m : Mode) (dec : Bool) (e d : Bytes → Bytes) (iv x : Bytes) : Bytes × Bytes :=
  match m with
  | .ecb => (if dec then d x else e x, iv)
  | .cbc => if dec then (xorBytes (d x) iv, x) else let c := e (xorBytes x iv); (c, c)
  | .ctr => (xorBytes x (e iv), incBlock iv)
  | .cfb8 =>
    let c := xorBytes x (e iv)
    (c, iv.drop 1 ++ if dec then x else c)
  | .cfbFull =>
    let c := xorBytes x (e iv)
    (c, if dec then x else c)
  | .ofb => let k := e iv; (xorBytes x k, k)

/-- Bytes one step of a mode takes. -/
def modeStep (m : Mode) (b : Nat) : Nat := match m with
  | .cfb8 => 1
  | _ => b

/-- A range run through a mode; `fuel` bounds the blocks. -/
def runMode (m : Mode) (dec : Bool) (e d : Bytes → Bytes) (b : Nat) : Nat → Bytes → Bytes → Bytes × Bytes
  | 0, iv, _ => ([], iv)
  | k + 1, iv, data =>
    if data = [] then ([], iv)
    else
      let r := modeBlock m dec e d iv (data.take (modeStep m b))
      let q := runMode m dec e d b k r.2 (data.drop (modeStep m b))
      (r.1 ++ q.1, q.2)

/-- A whole range under a key. -/
def cipherRange (m : Mode) (dec : Bool) (alg : Nat) (key iv data : Bytes) : Bytes × Bytes :=
  runMode m dec (blockEnc alg key) (blockDec alg key) (blockLen alg) (data.length + 1) iv data

/-- Blocks of a range. -/
def blocksOf (m : Mode) (alg n : Nat) : Nat := (n + modeStep m (blockLen alg) - 1) / modeStep m (blockLen alg)

/-! ### MACs (R192, R254) -/

/-- Padding method 2: 0x80 and zeros to a whole block. -/
def padMethod2 (b : Nat) (bs : Bytes) : Bytes :=
  let p := bs ++ [0x80]
  p ++ zeros ((b - p.length % b) % b)

/-- CBC-MAC of a padded message. -/
def cbcMac (e : Bytes → Bytes) (b : Nat) : Nat → Bytes → Bytes → Bytes
  | 0, h, _ => h
  | k + 1, h, data => if data = [] then h else cbcMac e b k (e (xorBytes (data.take b) h)) (data.drop b)

/-- MAC of a message: 0 CMAC, 1 ISO/IEC 9797-1 algorithm 1, 2 algorithm 3 (K bytes 0 to 7, K′ bytes 8 to 15). -/
def macOf (algorithm alg : Nat) (key msg : Bytes) : Bytes :=
  let b := blockLen alg
  let p := padMethod2 b msg
  if algorithm = 0 then fit b (cmac alg key msg)
  else if algorithm = 1 then cbcMac (blockEnc alg key) b (p.length + 1) (zeros b) p
  else
    let k1 := key.take 8 ++ key.take 8
    let k2 := (key.drop 8).take 8 ++ (key.drop 8).take 8
    let h := cbcMac (blockEnc 1 k1) b (p.length + 1) (zeros b) p
    blockEnc 1 k1 (blockDec 1 k2 h)

/-! ### Check values (R190, R256) -/

/-- First 3 bytes of E(K, zero block), or first 5 of the CMAC of the empty string. -/
def kcvEnc (alg : Nat) (key : Bytes) : Bytes := fit 3 (blockEnc alg key (zeros (blockLen alg)))
def kcvCmac (alg : Nat) (key : Bytes) : Bytes := fit 5 (cmac alg key [])

/-- The KCV of R256: TDES 3 bytes, AES and SM4 5 bytes, otherwise none. -/
def kcvOf (alg : Nat) (key : Bytes) : Bytes :=
  if isTdes alg then kcvEnc alg key else if isBlockAlg alg then kcvCmac alg key else []

/-! ### RSA keys (R265, R290) -/

/-- The modulus of an RSA key, with which its material begins (R319). -/
def rsaModulus (a : KeyAttr) (material : Bytes) : Nat := beNat (material.take ((a.bits.toNat + 7) / 8))

/-- An RSA key a private operation may use (R290). -/
def rsaPrivOk (a : KeyAttr) (material : Bytes) : Bool :=
  decide (a.alg.toNat ≠ 0xE) || (rsaBits a.bits.toNat && decide (rsaModulus a material % 2 = 1))

/-- An RSA key MVER may use: 1,024 bits too (R269, R290). -/
def rsaPubOk (a : KeyAttr) (material : Bytes) : Bool :=
  decide (a.alg.toNat ≠ 0xE) ||
    ((rsaBits a.bits.toNat || decide (a.bits.toNat = 1024)) && decide (rsaModulus a material % 2 = 1))

/-- An RSA public key as R265 writes it, with an odd modulus of a length R290 takes. -/
def rsaKeyOk (b : Bytes) : Bool :=
  let m := leAt 0 2 b
  (rsaBits (8 * m) || decide (m = 128)) && decide (128 ≤ (byteAt 2 b).toNat) &&
  decide ((byteAt (1 + m) b).toNat % 2 = 1)

/-! ### Byte swaps (R284) -/

/-- Each 32-bit word swapped: 1 bytes, 2 half-words; the last word as if zero-padded. -/
def swapWords (swap : Nat) : Nat → Bytes → Bytes
  | 0, _ => []
  | k + 1, bs =>
    match bs with
    | [] => []
    | _ =>
      let w := fit 4 bs
      let v := if swap = 1 then w.reverse else if swap = 2 then w.drop 2 ++ w.take 2 else w
      v ++ swapWords swap k (bs.drop 4)

def swapData (swap : Nat) (bs : Bytes) : Bytes :=
  if swap = 0 then bs else swapWords swap (bs.length + 1) bs

/-- Odd parity in each byte of a TDES key (R339). -/
def oddParity (b : Byte) : Byte :=
  let h := b >>> 1
  let ones := (List.range 7).foldl (fun n i => n + b2n (h.getLsbD i)) 0
  (b &&& 0xFE) ||| BitVec.ofNat 8 (1 - ones % 2)

/-- Bits set in a number below 2^w. -/
def popCount (w v : Nat) : Nat := (List.range w).foldl (fun n i => n + v / 2 ^ i % 2) 0

end Sys2Proof.Machine
end

