-- ==== Sys2Proof/Machine/StateCal.lean ====
section
/-!
DEFINITION. Calliope's part of the state (spec file 14): what travels to it, the windows being recorded, its
configuration, the record ring and the self-fault file.
-/
namespace Sys2Proof.Machine

/-- An event on its way to Calliope (R480, R481).  `die` is the die that observed it; 7 is the control die. -/
structure CalEvent where
  code : Nat
  part : Option Nat
  unit : Nat
  arg  : Word32
  time : Word64
  die  : Nat := 7
  deriving DecidableEq, Repr

/-- What sources deliver: events, histogram samples (R484) and partition counts (R483: 0 admitted, 1 completions,
2 successes, 3 placeholders, 4 errors, 5 refusals). -/
inductive CalItem where
  | event (e : CalEvent)
  | sample (quantity part value : Nat) (time : Word64)
  | count (kind part : Nat) (time : Word64)
  deriving DecidableEq, Repr

/-- A code entry: OCCURRED and SUPPRESSED of a code and partition (R480, R486). -/
structure CalCode where
  code : Nat
  part : Option Nat
  occurred   : BitVec 16 := 0
  suppressed : BitVec 16 := 0
  deriving DecidableEq, Repr

/-- One histogram slot (R484, R486). -/
structure CalHist where
  samples : Word32 := 0
  min     : Word64 := 0xFFFFFFFFFFFFFFFF
  minAt   : Word64 := 0
  max     : Word64 := 0
  maxAt   : Word64 := 0
  buckets : Tab Word32 := []
  deriving DecidableEq, Repr

/-- The six counts of a partition entry (R483). -/
structure CalPart where
  admitted    : Word32 := 0
  completions : Word32 := 0
  successes   : Word32 := 0
  placeholders : Word32 := 0
  errors      : Word32 := 0
  refusals    : Word32 := 0
  deriving DecidableEq, Repr

/-- CAL_CFG, CAL_HIST_CFG and CAL_DEPTH (R478, R484, R496). -/
structure CalCfg where
  windowMs  : BitVec 22 := 1000
  detailMax : BitVec 12 := 2048
  hist      : List (BitVec 4 × Bool × Byte) :=
    [(1, true, 0), (2, true, 0), (3, true, 0), (4, true, 0), (5, true, 0), (6, true, 0)] ++
      List.replicate 10 (0, true, 0)            -- quantity, all, partition
  depth     : Tab Byte := []                    -- by code
  deriving DecidableEq, Repr

/-- A window: the one that is open, or one past its END whose record is not yet written (R475 to R479). -/
structure CalWindow where
  seq     : Word32 := 0
  start   : Word64 := 0
  end_    : Word64 := 0
  closeAt : Nat := 0                 -- TIME64 at which it closes, once its END has passed
  cfg     : CalCfg := {}
  blind   : Bool := false            -- opened while STATE was full: it accumulates nothing (R487)
  short   : Bool := false            -- record FLAGS
  extended : Bool := false
  stepped : Bool := false
  synced  : Bool := false
  detailFull : Bool := false
  codesFull : Bool := false
  rtc     : Word32 := 0
  codes   : List CalCode := []       -- ascending code, then partition
  details : List CalEvent := []      -- in arrival order
  hists   : Tab CalHist := []
  parts   : Tab CalPart := []
  spent   : Tab Nat := []            -- detail tokens spent, by code
  late    : Word32 := 0
  overflow : Word32 := 0
  deriving DecidableEq, Repr

structure Cal where
  inbox   : List CalItem := []       -- on its way to Calliope, oldest first
  enable  : Bool := false
  freezeReq : Bool := false          -- FREEZE written, STATE not yet frozen
  frozen  : Bool := false
  frozenAt : Word64 := 0
  full    : Bool := false
  faulted : Bool := false
  staged  : CalCfg := {}
  pendingCfg : Bool := false         -- PENDING_CFG
  seq     : Word32 := 0              -- WINDOW_SEQ
  window  : Option CalWindow := none
  closing : List CalWindow := []     -- past their END, oldest first
  staging : Option Bytes := none     -- record of a window closed during a freeze (R491)
  stagedLost : Word32 := 0           -- its LOST_BEFORE
  stagedReset : Bool := false        -- and its RESET
  mem     : Tab Byte := []           -- record memory, 2 MiB
  head    : Nat := 0
  tail    : Nat := 0
  lens    : List Nat := []           -- LENGTH of each record held, oldest first
  lost    : Word32 := 0              -- CAL_LOST
  late    : Word32 := 0
  lostBefore : Word32 := 0           -- windows lost since the last record
  resetMark : Bool := false          -- the next record has RESET set (R489)
  event   : BitVec 3 := 0            -- CAL_EVENT
  err     : BitVec 3 := 0            -- CAL_ERR
  rdAddr  : BitVec 18 := 0           -- CAL_RD_ADDR.OFFSET
  file    : List (BitVec 128) := []  -- self-fault file, at most 8
  fileOver : Byte := 0
  ceCnt   : Word32 := 0
  scrubAt : Word64 := 0              -- TIME64 of the last scrub
  deriving DecidableEq, Repr

end Sys2Proof.Machine
end

