-- ==== Sys2Proof/Machine/StateData.lean ====
section
/-!
DEFINITION. The data-path part of the state: host link, queue pairs, Ticket Booth, Juggler, Carousel and decision
trace (spec files 01 to 04).
-/
namespace Sys2Proof.Machine

/-! ### Host link (02) -/

/-- AER record of a function (R42, R43, R47, R197). -/
structure AerLog where
  advisory    : Bool := false        -- Advisory Non-Fatal error logged (R47)
  unsupported : Bool := false        -- Unsupported Request logged (R43)
  internal    : Bool := false        -- Uncorrectable Internal Error logged (R197)
  first       : Nat := 0             -- first-error pointer: 0 none, 1 advisory, 2 unsupported, 3 internal
  header      : List Nat := []       -- header log of the first error: what the request named
  deriving DecidableEq, Repr

/-- A function's MSI-X state (R42, R46, R80); the PF has 2,048 vectors, a VF 64. -/
structure MsixState where
  enable   : Bool := false
  fmask    : Bool := false
  mask     : BitVec 2048 := BitVec.allOnes 2048   -- per-vector Mask bits
  pba      : BitVec 2048 := 0#2048                -- pending bits
  addr     : Tab Word64 := []                     -- table address words
  data     : Tab Word32 := []                     -- table data words
  deriving DecidableEq, Repr

/-- One range of a VF's dirty-page log (R89). -/
structure LogRange where
  base  : Nat := 0
  len   : Nat := 0
  dirty : List Nat := []             -- page numbers within the range whose bit is 1, ascending
  deriving DecidableEq, Repr

/-- Device Control and Device Control 2 of a function (R42, R86); PRESUMED: the reset values of PCI Express (log 47). -/
structure DevCtl where
  relaxed    : Bool := true          -- Enable Relaxed Ordering
  noSnoop    : Bool := true          -- Enable No Snoop
  maxPayload : BitVec 3 := 0         -- Max Payload Size, 128 bytes shifted by this
  maxRead    : BitVec 3 := 2         -- Max Read Request Size, likewise
  timeout    : BitVec 4 := 0         -- Completion Timeout Value
  deriving DecidableEq, Repr

/-- One address-association block of an IDE stream (R42). -/
structure IdeBlock where
  valid : Bool := false
  base  : Word64 := 0
  limit : Word64 := 0
  deriving DecidableEq, Repr

/-- A selective IDE stream: its enable, its number, and two address-association blocks (R42). -/
structure IdeStream where
  enable : Bool := false
  id     : Byte := 0
  blocks : Tab IdeBlock := []
  deriving DecidableEq, Repr

/-- The PF's DOE mailbox (R42, R370). -/
structure Doe where
  write : List Word32 := []          -- doublewords written since the last object was sent
  read  : List Word32 := []          -- doublewords of the response not yet read
  busy  : Option Byte := none        -- type of the SPDM object that is with the responder
  err   : Bool := false
  deriving DecidableEq, Repr

/-- The PF's registers for the whole endpoint (R42, R46); PRESUMED: the reset values of PCI Express (log 47). -/
structure Pcie where
  numVfs  : Byte := 0                -- SR-IOV NumVFs
  vfBar0  : Word64 := 0              -- SR-IOV VF BAR0 and BAR2: those of VF 1, the others' following
  vfBar2  : Word64 := 0
  aspmL1  : Bool := false            -- Link Control: ASPM L1 enabled
  l11     : Bool := false            -- and its substates L1.1 and L1.2
  l12     : Bool := false
  ltrEn   : Bool := false            -- LTR Mechanism Enable
  flrReq  : Bool := false            -- Initiate Function Level Reset written to the PF, its reset not yet carried out (R49)
  doe     : Doe := {}
  ide     : Tab IdeStream := []      -- selective IDE streams 0 to 3
  deriving DecidableEq, Repr

/-- Per-function state of the host link. -/
structure Func where
  bar0        : Word64 := 0          -- BAR0 and BAR2 of the PF: base addresses (R46)
  bar2        : Word64 := 0
  dev         : DevCtl := {}
  busMaster   : Bool := false        -- Command register, Bus Master Enable (R360, R378)
  flrBusy     : Bool := false        -- an FLR is in progress (R49)
  quiesced    : Bool := false        -- R92
  active      : Bool := true         -- GLB_VF_STATUS.ACTIVE as last signalled (R62)
  aer         : AerLog := {}
  msix        : MsixState := {}
  logRanges   : Tab LogRange := []   -- by range number 0 to 3; len 0 = range not logged
  untracked   : Word64 := 0          -- R89
  deriving DecidableEq, Repr

/-! ### Queue pairs (02, 03) -/

/-- A 64-byte chunk in the SQ.  `n` is the SQ_HEAD value it was accepted at (R76). -/
structure Chunk where
  bytes  : Bytes
  n      : BitVec 16
  poison : Byte := 0                 -- word i carries a poison tag
  alone  : Bool := false             -- a first chunk to be completed on its own (R64)
  stamp  : Option Word64 := none     -- arrival stamp of the command it begins (R103, R139)
  deriving DecidableEq, Repr

/-- A read of SQ ring entries in flight (R70). -/
structure Fetch where
  start   : Nat
  count   : Nat
  dropped : Bool := false            -- data to be dropped on arrival (R113)
  deriving DecidableEq, Repr

/-- A line of the Back Lot: a chunk, and whether its integrity tag was written inverted (R101). -/
structure SpillLine where
  chunk    : Chunk
  inverted : Bool := false
  deriving DecidableEq, Repr

/-- What an SQ that a reset of R49 disabled keeps until the last command taken from it has ended: those commands, its
granules and its chunks in the Back Lot (R99). -/
structure HeldSq where
  items    : List Nat
  granules : Nat
  lines    : List SpillLine
  deriving DecidableEq, Repr

/-- The thresholds, notices, peaks and counts of 0x080 to 0x0BF (R106 to R112). -/
structure QueueWm where
  notice     : BitVec 6 := 0         -- QUE_WM_NOTICE
  sqHigh     : BitVec 17 := 0        -- QUE_WM_SQ
  sqLow      : BitVec 17 := 0
  lowEn      : Bool := false
  cqHigh     : BitVec 17 := 0        -- QUE_WM_CQ
  irqMask    : BitVec 6 := 0
  sqPeak     : BitVec 17 := 0        -- QUE_PEAK
  cqPeak     : BitVec 17 := 0
  flushedCnt : BitVec 16 := 0        -- QUE_DISCARD_COUNT
  partialCnt : BitVec 16 := 0
  lateCnt    : BitVec 16 := 0
  poisonCnt  : BitVec 16 := 0
  admitted   : Word32 := 0           -- QUE_ADMIT.ADMITTED_CNT
  deriving DecidableEq, Repr

/-- Configuration registers of a queue page (R58 to R61). -/
structure QueueCfg where
  enable    : Bool := false          -- QUE_CTL.ENABLE as written
  cfgErr    : BitVec 4 := 0
  mode      : Bool := false          -- QUE_SQ_CFG: 1 fetched
  sqNoSnoop : Bool := false
  sqSize    : BitVec 5 := 10
  sqBase    : BitVec 52 := 0         -- bits [63:12]
  cqBase    : BitVec 52 := 0
  cqSize    : BitVec 5 := 10         -- QUE_CQ_CFG
  cqNoSnoop : Bool := false
  vector    : BitVec 11 := 1
  irqEn     : Bool := true
  deriving DecidableEq, Repr

/-- QUE_COALESCE and QUE_OWNER, in the PF's reset domain (R52, R60, R61). -/
structure QueueOwner where
  count    : BitVec 8 := 1
  time     : BitVec 16 := 0
  part     : BitVec 8 := 0
  vfPage   : BitVec 3 := 0
  rslotEn  : Bool := false
  pfCfgErr : BitVec 3 := 0
  deriving DecidableEq, Repr

/-- One queue pair. -/
structure QueuePair where
  own       : QueueOwner := {}
  cfg       : QueueCfg := {}
  wm        : QueueWm := {}
  enabled   : Bool := false          -- QUE_STATUS (R55)
  draining  : Bool := false
  pushErr   : Bool := false
  fetchErr  : Bool := false
  pushNext  : BitVec 5 := 0
  sqHead    : BitVec 16 := 0
  cqTail    : BitVec 16 := 0
  cqPhase   : Bool := true
  err       : BitVec 6 := 0          -- QUE_ERR (R56)
  overrun   : BitVec 16 := 0         -- QUE_ERR_COUNT (R57)
  chunkDrop : BitVec 16 := 0
  dbErr     : BitVec 16 := 0
  slots     : Tab (Option Byte) := []      -- push window, by byte 0 to 2,047; none = byte not written
  tornStart : Option Word64 := none        -- since when the slot at PUSH_NEXT is partly written (R69)
  doomed    : BitVec 32 := 0               -- slots complete at a flush, behind an incomplete one: dropped in turn (R113)
  sqTail    : BitVec 16 := 0               -- previous TAIL (R71)
  ready     : Nat := 0                     -- ring entries made ready and not under read (R70)
  fetches   : List Fetch := []             -- reads in flight, oldest first
  headWin   : List Chunk := []             -- the three parts, oldest first (R96)
  middle    : List SpillLine := []
  tailWin   : List Chunk := []
  arrived   : Nat := 0                     -- QUE_ADMIT.ARRIVED
  part1     : Bool := false                -- QUE_ADMIT.PARTIAL
  resync    : Bool := false                -- drop until a first or single chunk arrives (R114)
  headSync  : Bool := false                -- drop at the head after a poisoned word 0 (R102)
  flushBusy : Bool := false                -- QUE_CTL.FLUSH
  flushAny  : Bool := false                -- the flush in progress discarded something
  flushCnt  : Nat := 0                     -- commands it discarded
  granules  : Nat := 0                     -- Back Lot granules held (R99)
  heldSqs   : List HeldSq := []            -- SQs that a reset disabled and whose commands have not all ended (R99)
  cqHead    : BitVec 16 := 0               -- previous HEAD (R75)
  cqWritten : Nat := 0                     -- entries written and not returned
  cqResv    : Nat := 0                     -- entries reserved and not written
  unsig     : Nat := 0                     -- entries since the last message (R79)
  unsigAt   : Word64 := 0                  -- write time of the oldest of them
  rslots    : Tab (BitVec 256) := []       -- result slots 0 to 31 (R76)
  deriving DecidableEq, Repr

/-! ### Shares and Ticket Booth (03) -/

/-- The staged per-partition registers (R127, R128, R164, R167). -/
structure ShareCfg where
  pause       : Bool := false        -- BTH_PART_CTL
  pauseRefuse : Bool := false
  emptyRefuse : Bool := false
  weight      : BitVec 8 := 16
  cmdRate     : BitVec 24 := 0       -- BTH_CMD_BUCKET
  cmdDepth    : BitVec 16 := 1024
  byteRate    : BitVec 16 := 0       -- BTH_BYTE_BUCKET
  byteDepth   : BitVec 24 := 0x200000
  budgetNs    : Word32 := 1000       -- JUG_PART_CFG
  expireEn    : Bool := false
  flowMax     : BitVec 15 := 16384
  holdNs      : BitVec 24 := 2000    -- CAR_PART_CFG
  outMax      : BitVec 17 := 65536
  deriving DecidableEq, Repr

/-- One copy, staged or active, of everything R122 stages. -/
structure Shares where
  part       : Tab ShareCfg := []
  map        : Tab (BitVec 256) := []      -- BTH_TROUPE_MAP, by troupe; reset all ones
  discipline : Bool := true                -- JUG_CTL (variant default)
  deriving DecidableEq, Repr

/-- A share-register write as staged: the register's offset and the value (R122). -/
structure ShareWrite where
  at_   : Word64                     -- TIME64 of acceptance
  off   : Nat
  value : Word64
  held  : Option Nat := none         -- MIRROR sequence whose acknowledgement it awaits; 0 not sent (R461)
  deriving DecidableEq, Repr

/-- Per-partition dynamic state of the Ticket Booth, Juggler and Carousel. -/
structure Part where
  cmdTokens  : Nat := 0
  cmdFrac    : Nat := 0              -- remainder, in units of 10^-6 token
  byteTokens : Nat := 0
  deficit    : Nat := 0
  lastQp     : Option Nat := none    -- queue pair last visited (R119)
  paused     : Bool := false
  admitted   : Word32 := 0           -- BTH_PART_COUNT
  refused    : BitVec 16 := 0
  holdPeak   : BitVec 24 := 0        -- CAR_PART_STATUS.HOLD_PEAK_NS
  deriving DecidableEq, Repr

/-- The Ticket Booth's package state (R119, R122, R131, R132). -/
structure Booth where
  staged       : Shares := {}
  active       : Shares := {}
  writes       : List ShareWrite := []   -- staged and not applied, oldest first
  hold         : Bool := false           -- BTH_EPOCH_CTL.HOLD
  holdCleared  : Word64 := 0             -- TIME64 at which HOLD was last written 0
  appliedEpoch : Word32 := 0
  lastP        : Nat := 255
  backlotSize  : BitVec 5 := 4           -- QUE_BACKLOT_CFG
  backlotLock  : Bool := false
  parityCnt    : Word32 := 0             -- QUE_RF_ERR
  parityQp     : BitVec 11 := 0
  paritySeen   : Bool := false
  deriving DecidableEq, Repr

/-! ### Items, flows, Carousel (04) -/

/-- Where an outstanding command is between admission and its final completion. -/
inductive Place where
  | pool                      -- allocation pool
  | dispatch (die : Nat)      -- DISPATCH in transit
  | ready (die : Nat)         -- on the die's ready lists
  | handback (src dst : Nat)  -- returned by rebalancing, in the RESULT class from `src`, for re-dispatch to `dst`
  | move (die : Nat)          -- re-dispatched by rebalancing to the die
  | wing (seat : Nat)         -- wing slot of a seat
  | seat (seat : Nat)         -- running in a seat, or suspended there
  | core                      -- management routine on the control cores
  | returning (die : Nat)     -- RESULT in transit from the die
  | done                      -- outcome with the Carousel
  deriving DecidableEq, Repr

/-- A command from admission to final completion: the Carousel entry it holds (R153). -/
structure Item where
  id       : Nat                     -- admission number
  qp       : Nat
  part     : Nat
  flow     : Nat
  prio     : Nat
  ordered  : Bool
  serial   : Bool
  hint     : Bool
  routine  : Nat
  tag      : Word64
  raw      : Bytes                   -- the command's 64 or 128 bytes
  seq      : Nat := 0                -- flow sequence; 0 = none
  arrival  : Word64 := 0
  deadline : Word64 := 0
  rslot    : Option (BitVec 16) := none    -- delivered by result slot: SQ_HEAD of its first chunk
  jaser    : Bool := false           -- mode of its routine (R142)
  place    : Place := .pool
  front    : Bool := false           -- returned by R123 to the head of its ready list
  recalled : Bool := false           -- in transit to a die its partition has lost: handed back on arrival (R123)
  serialWait : Bool := false         -- kept in the pool by R138
  seatNo   : Nat := 0                -- seat it was last delivered to
  outcome  : Option Outcome := none
  startAt  : Word64 := 0             -- point S of R158
  begun    : Bool := false           -- its routine has started in a seat
  doneAt   : Word64 := 0             -- point C
  accepted : Bool := false           -- its RESULT has been accepted by the Carousel
  poisonId : Bool := false           -- FLAGS[3]
  poisoned : Bool := false
  executed : Bool := false           -- admitted for execution (row 9 of R544)
  deferred : Bool := false           -- its placeholder is written
  released : Bool := false           -- release decided; waits for its write
  mute     : Bool := false           -- taken before an FLR: nothing is written for it (R49)
  phase    : Nat := 0                -- how far a management routine that waits has come (0 not begun)
  waitAt   : Word64 := 0             -- when its wait began
  deriving DecidableEq, Repr

/-- A flow context (R135).  An unlisted flow has none (`valid` false). -/
structure FlowCtx where
  valid     : Bool := false
  ordered   : Bool := false
  serial    : Bool := false
  nextSeq   : Nat := 1
  home      : Option Nat := none
  idleSince : Nat := 0               -- order in which contexts last became idle
  holdStart : Option Word64 := none
  blockedAt : Option Nat := none     -- head sequence whose blocked deferral was counted (R156)
  deriving DecidableEq, Repr

/-- Registers of the Juggler and Carousel, and their counters (R163, R167, R168). -/
structure Juggler where
  affinitySlack : BitVec 12 := 32
  rebalEn       : Bool := true
  rebalThresh   : BitVec 12 := 64
  rebalBatch    : BitVec 8 := 32
  rebalMoved    : Word32 := 0
  ctxEvict      : BitVec 16 := 0
  ctxWait       : BitVec 16 := 0
  displaceCnt   : Word32 := 0
  preemptCnt    : Word32 := 0
  err           : BitVec 4 := 0          -- JUG_ERR
  lastD         : Nat := 6
  nextId        : Nat := 1               -- next admission number
  idleTick      : Nat := 0
  deferMax      : BitVec 13 := 4096      -- CAR_CTL
  deferredCnt   : Word32 := 0
  blockedCnt    : Word32 := 0
  selFlow       : BitVec 14 := 0         -- CAR_FLOW_SEL
  selPart       : BitVec 8 := 0
  deriving DecidableEq, Repr

/-! ### Decision trace (04) -/

/-- The decision trace (R159, R169). -/
structure Trace where
  enable   : Bool := false
  wrap     : Bool := false
  partEn   : Bool := false
  flowEn   : Bool := false
  fPart    : BitVec 8 := 0
  fFlow    : BitVec 14 := 0
  groups   : BitVec 16 := 0xFFFF
  mem      : Tab (BitVec 128) := []
  count    : BitVec 17 := 0
  full     : Bool := false
  wrapped  : Bool := false
  wrIndex  : BitVec 16 := 0
  lostCnt  : Word32 := 0
  rdIndex  : BitVec 16 := 0
  marker   : Nat := 0                -- TIME64[63:40] of the last MARKER
  deriving DecidableEq, Repr

/-! ### Package, dies and time (01) -/

/-- The three variants (R2). -/
inductive Variant where
  | tvp4820 | tvp4840 | tvp4880
  deriving DecidableEq, Repr

/-- What is fixed for one part: variant and grade (R35). -/
structure PartId where
  variant : Variant := .tvp4880
  grade   : Byte := 1                -- 1 -XC, 2 -XE
  deriving DecidableEq, Repr

/-- GLB_DIE_STATE codes (R37). -/
inductive DieState where
  | absent | off | retention | active | lost
  deriving DecidableEq, Repr

/-- One engine die. -/
structure Die where
  state      : DieState := .off
  aligned    : Bool := false         -- its TIME64 copy is aligned (R31)
  timeErr    : Int := 0              -- its copy less the control die's value, in ns
  keyOut     : Bytes := []           -- Midway link keys, from the control die and to it; empty: none drawn (R17)
  keyIn      : Bytes := []
  replays    : Nat := 0              -- Midway replays since the link came up (R17)
  dispatchQ  : List Nat := []        -- items in transit to it in the DISPATCH class, oldest first (R18)
  resultQ    : List Nat := []        -- items in transit from it in the RESULT class, oldest first
  selected   : Word32 := 0           -- JUG_DIE_COUNT
  movedIn    : BitVec 16 := 0
  movedOut   : BitVec 16 := 0
  trcFifo    : List (BitVec 128) := []   -- decision-trace FIFO, 256 entries (R159)
  trcLost    : Nat := 0              -- entries dropped and not yet reported by a LOST entry
  mirror     : Tab Word64 := []      -- status and counter registers at the last refresh, by address; unlisted: reset values (R28)
  kc         : KeyCache := {}
  deriving DecidableEq, Repr

/-- The time PLL (R30). -/
inductive Pll where
  | free                             -- before its first lock: 40 times nominal SYS_CLKIN
  | locked
  | holdover
  | slewing                          -- relocking after PEX_REFCLK returned
  deriving DecidableEq, Repr

/-- Device time (R30 to R38). -/
structure TimeState where
  time64     : Word64 := 0
  hiLatch    : Word32 := 0           -- CLK_TIME64_HI_LATCH
  pll        : Pll := .free
  refclk     : Bool := false         -- PEX_REFCLK runs
  peerSync   : Bool := false         -- CLK_TIME_STATUS
  syncLost   : Bool := false
  stepped    : Bool := false
  peerOffset : BitVec 16 := 0
  slew       : Int := 0              -- offset still to be corrected by slewing, ns
  slewAge    : Nat := 0              -- nanoseconds since the last nanosecond of it was corrected
  lastPeer   : Word64 := 0           -- TIME64 of the last successful exchange (R33)
  syncEn     : Bool := true          -- CLK_TIME_CTL
  stepAllow  : Bool := true
  lock       : Bool := false
  deriving DecidableEq, Repr

end Sys2Proof.Machine
end

