-- ==== Sys2Proof/Machine/StatePower.lean ====
section
/-!
DEFINITION. The power manager's part of the state (spec file 15): package states, troupe gating and operating points,
temperatures, rails, the sequencer and the real-time clock.
-/
namespace Sys2Proof.Machine

/-- Gating and operating point of a troupe (R502, R507). -/
structure TroupePower where
  gated    : Bool := false
  ungating : Bool := false
  target   : BitVec 3 := 3           -- PWR_DVFS
  manual   : Bool := false
  opp      : BitVec 3 := 3           -- NOW
  throttled : Bool := false          -- held below its setting by R509
  deriving DecidableEq, Repr

/-- A rail of the board record with its last readings (R513). -/
structure Rail where
  supply  : Nat
  group   : Nat
  record  : Nat                      -- the record's set point after clamping, mV
  vout    : BitVec 16 := 0
  iout    : BitVec 16 := 0
  setMv   : BitVec 16 := 0
  temp    : Byte := 0
  deriving DecidableEq, Repr

/-- The always-on sequencer and the supplies it sees (R511, R512, R514). -/
structure Sequencer where
  vaux    : Bool := true             -- VAUX present
  vbat    : Bool := true             -- VBAT present
  sysPower : Bool := true            -- system power present
  porReleased : Bool := true         -- POR_N released
  enabled : Nat := 4                 -- groups enabled, from group 0
  good    : Nat := 4                 -- groups whose power-good has risen
  fault   : BitVec 3 := 0            -- PG_FAULT_GROUP
  blocked : Bool := false            -- no restart until POR_N has been low
  deriving DecidableEq, Repr

structure Power where
  auto     : Bool := true            -- PWR_CTL
  deepest  : BitVec 3 := 3
  gateEn   : Bool := true
  dvfsAuto : Bool := true
  idleUs   : Byte := 10
  state    : BitVec 3 := 0           -- PWR_STATUS
  changing : Bool := false
  want     : BitVec 3 := 0           -- target of the last selection
  waking   : BitVec 7 := 0
  ltr      : Option Nat := none      -- budget of the last LTR message
  troupes  : Tab TroupePower := []
  dieReady : BitVec 7 := 0           -- PWR_READY
  memReady : Bool := false
  tNow     : Byte := 0               -- PWR_THERM
  tAlert   : Byte := 0x5A
  lock     : Bool := false
  alert    : Bool := false
  trip     : Bool := false
  throttleMs : Word32 := 0
  throttleAt : Option Word64 := none -- since when THROTTLING has been set
  event    : BitVec 6 := 0           -- PWR_EVENT
  rails    : List Rail := []         -- PWR_PMBUS, PWR_RAIL
  recordOk : Bool := false
  busFault : Bool := false
  faultRail : BitVec 4 := 0
  statusWord : BitVec 16 := 0
  d3       : Bool := false           -- the PF is in D3hot
  held     : List Nat := []          -- queue pairs whose admission D3hot stopped (R505)
  shutdown : Option (Word64 × Nat × Nat) := none   -- PWR_SHUTDOWN: start, drain in µs, service
  linkWidth : Nat := 0               -- PCIe lanes trained; 0 = no link (R44)
  linkSpeed : Nat := 0               -- and their rate, 32, 16 or 8 GT/s
  seq      : Sequencer := {}
  deriving DecidableEq, Repr

/-- The real-time clock (R515, R521), in the battery domain. -/
structure Rtc where
  seconds : Word32 := 0
  ticks   : BitVec 15 := 0
  valid   : Bool := false
  acc     : Nat := 0                 -- fraction of a tick, in units of 1/1,000,000,000
  deriving DecidableEq, Repr

end Sys2Proof.Machine
end

