-- ==== Sys2Proof/Machine/StateSec.lean ====
section
/-!
DEFINITION. Fuses, boot, identity, unit challenge and mover (spec file 10), life cycle and debug port (11), and Canvas
with its sentinel (12), as plain data.
-/
namespace Sys2Proof.Machine

/-! ### Fuses (R348, R400, R405, R413, R441) -/

structure Fuses where
  serial  : Word64 := 1
  signers : List Bytes := [List.replicate 32 0, List.replicate 32 0, List.replicate 32 0, List.replicate 32 0]
                                     -- SM3 digests of signer keys 0 to 3; empty = not programmed
  revoked : BitVec 4 := 0
  svn     : BitVec 64 := 0           -- anti-rollback row (R349)
  zero    : BitVec 512 := 0          -- zeroisation row (R350)
  root    : Option Bytes := some (List.replicate 32 0)   -- fuse root secret; none = not programmed
  rootGone : Bool := false           -- every bit of the root row blown (R413)
  c0      : Word32 := 0x00FFFFFF     -- life-cycle copies
  c1      : Word32 := 0x00FFFFFF
  c2      : Word32 := 0x00FFFFFF
  wipe    : BitVec 5 := 0            -- wipe-progress row
  disable : BitVec 16 := 0           -- CNV_DISABLE
  deriving DecidableEq, Repr

/-! ### Boot (R355 to R361) -/

structure Boot where
  stage    : Nat := 0                -- GLB_BOOT_STATUS
  slot     : Nat := 3
  failA    : Byte := 0
  failB    : Byte := 0
  failRec  : Byte := 0
  keyIndex : BitVec 2 := 0
  aonFail  : BitVec 3 := 0           -- always-on record of FAIL 0x08: slot A, slot B, recovery (R358)
  zeroBlown : Bool := false          -- this boot has blown a bit of the zeroisation row (R350)
  version  : Word32 := 0             -- GLB_FW_VERSION
  svn      : BitVec 7 := 0
  recAddr  : BitVec 52 := 0          -- GLB_RECOVERY_ADDR
  recLen   : BitVec 17 := 0
  handover : Bool := false           -- handover latch (R365)
  handoverAt : Word64 := 0
  meas     : List Bytes := []        -- SM3 digests of blocks 2 to 6 of the running image (R371)
  meas384  : List Bytes := []        -- and their SHA-384 digests
  fuseItem : Bytes := []             -- block 7 as it stood at handover
  anchors  : Bytes := []             -- trust-anchor component (R354)
  libRaw   : Bytes := []             -- library component of the running image
  residents : List Nat := []         -- resident set (R226)
  stop0    : Bool := false           -- pair 0 stopped by lockstep (R366)
  stop1    : Bool := false
  deriving DecidableEq, Repr

/-! ### SPDM (R369, R370) -/

structure SpdmSession where
  id       : Nat
  finished : Bool := false           -- FINISH has been accepted
  updates  : Nat := 0                -- key updates
  deriving DecidableEq, Repr

structure Spdm where
  phase    : Nat := 0                -- 0 none, 1 version, 2 capabilities, 3 algorithms
  sha384   : Bool := false           -- negotiated hash: SM3 or SHA-384
  slots    : List (Nat × Bytes) := []     -- certificate slots whose leaf check passed
  sessions : List SpdmSession := []  -- at most 4
  nextId   : Nat := 1
  ideKeys  : Bool := false           -- IDE stream keys set through IDE_KM
  log      : Bytes := []             -- requests since GET_VERSION
  deriving DecidableEq, Repr

/-! ### Unit challenge (R375) and Roustabout (R382) -/

structure Uch where
  chal0 : Word64 := 0
  chal1 : Word64 := 0
  code  : Byte := 0x01
  seq   : Byte := 0
  resp0 : Word64 := 0
  resp1 : Word64 := 0
  deriving DecidableEq, Repr

structure MovCh where
  src     : Word64 := 0
  dst     : Word64 := 0
  count   : BitVec 31 := 0
  cfg     : BitVec 12 := 0x300       -- MOV_CFG
  state   : BitVec 3 := 0
  err     : BitVec 4 := 0
  cfgBusy : Bool := false
  done    : BitVec 31 := 0
  pair    : Nat := 0                 -- control-core pair that wrote START
  stop    : Bool := false            -- STOP accepted
  deriving DecidableEq, Repr

structure Mov where
  rate   : BitVec 7 := 64
  irq    : BitVec 24 := 0
  ch     : Tab MovCh := []
  active : Option Nat := none
  last   : Nat := 7                  -- channel that ended last
  deriving DecidableEq, Repr

/-! ### Life cycle and debug (R399, R405 to R415) -/

structure Lcs where
  state    : BitVec 2 := 2           -- voted: 0 BLANK, 1 TEST, 2 PRODUCTION, 3 END_OF_LIFE
  resumed  : Bool := false
  repaired : Bool := false
  fsm      : BitVec 16 := 0xCCCC
  copy0    : Word32 := 0x00FFFFFF    -- LCS_COPY01, LCS_COPY2: the copies as sensed
  copy1    : Word32 := 0x00FFFFFF
  copy2    : Word32 := 0x00FFFFFF
  target   : Word32 := 0             -- LCS_REQ
  armed    : Bool := false
  armAt    : Word64 := 0
  result   : BitVec 3 := 0
  programming : Option (BitVec 2) := none     -- the state being programmed
  wipeStep : BitVec 3 := 0
  waitLatch : Bool := false          -- R410
  deriving DecidableEq, Repr

structure Debug where
  scope    : BitVec 4 := 0           -- DBG_STATUS
  grant    : Bool := false
  extest   : Bool := false
  core1Halted : Bool := false
  grantCnt : Byte := 0
  expiry   : Word64 := 0
  violInfo : Word64 := 0
  violAddr : Word64 := 0
  tokens   : Bytes := []             -- digests of tokens accepted since power-on, in order (block 8 of R371)
  deriving DecidableEq, Repr

/-! ### Canvas (R419 to R445) -/

/-- The configuration registers (R442, R445). -/
structure CanvasCfg where
  sev     : List (BitVec 4) := []    -- by source code; empty stands for the factory map (R419)
  caseCfg : Word64 := 0x0404040404040404
  loopCfg : Word32 := 0x0000AAAA
  vmon    : List Word32 := [0x03A2030C#32, 0x07BC0654#32, 0x0E100BB8#32, 0x0ED80960#32]
  temp    : Word32 := 0x00007DCE
  deriving DecidableEq, Repr

/-- The battery-domain part (R421, R422, R435). -/
structure Sentinel where
  fsm      : BitVec 16 := 0x6699
  cfg      : CanvasCfg := {}
  stale    : Bool := false           -- the main configuration has changed since the copy
  latch    : List (Word64 × Word64) := []    -- oldest first, at most 16
  overflow : Byte := 0
  loops    : List (BitVec 31) := []  -- the LFSR of each wire loop, from its seed (R425)
  loopAcc  : Nat := 0                -- ns since their last step
  deriving DecidableEq, Repr

structure Canvas where
  lock      : Bool := false
  fsm       : BitVec 16 := 0x9696
  response  : BitVec 3 := 0
  halted    : Bool := false
  purged    : Bool := false
  zeroised  : Bool := false          -- ZEROISED_NOW
  noticeSeq : BitVec 16 := 0
  cause     : Word64 := 0
  raw       : Word64 := 0
  first     : BitVec 6 := 0          -- CNV_FIRST
  multi     : Bool := false
  firstValid : Bool := false
  firstSev  : BitVec 3 := 0
  firstTime : BitVec 40 := 0
  causeCnt  : Word32 := 0            -- CNV_COUNT
  stimCnt   : BitVec 16 := 0
  stimFail  : BitVec 16 := 0
  cfg       : CanvasCfg := {}
  source    : BitVec 6 := 0          -- CNV_STIM
  stimBusy  : Bool := false
  stimResult : BitVec 2 := 0
  stimAt    : Word64 := 0
  lastStim  : Tab Word64 := []       -- end of the last stimulation of each source, plus 1
  err       : BitVec 4 := 0
  alarms    : List Nat := []         -- internal alarms raised and not yet latched
  highSince : BitVec 3 := 0          -- highest response since fundamental reset (R432)
  sentinel  : Sentinel := {}
  deriving DecidableEq, Repr

end Sys2Proof.Machine
end

