-- ==== Sys2Proof/Machine/State.lean ====
section
/-!
DEFINITION. The state of the block as plain data, its reset, and the names of its faults and refusals.  The parts are
declared by spec file: StateData (01 to 04), StateSeat (05), StateRoutine (06), StateKeys (08, 09, 11), StateSec (10 to
12), StateTrp (13), StateCal (14) and StatePower (15).
-/
namespace Sys2Proof.Machine

/-- What leaves the package on a link or a pin, in the order it leaves. -/
inductive Emission where
  | msix (fn vector : Nat)                                            -- an MSI-X message, without Relaxed Ordering (R78 to R80, R86)
  | write (fn addr len : Nat) (relaxed noSnoop ep : Bool)             -- a write to host memory and its attributes (R82, R86, R197)
  | spdm (code : Nat) (payload : Bytes)                               -- an SPDM response (R370)
  | flash (offset : Nat) (bytes : Bytes)                              -- a write to the flash (R351, R363)
  | erase (offset len : Nat)                                          -- an erasure of flash bytes (R363)
  | debug (data : Word64) (err : Bool)                                -- a word shifted out of the debug port (R400)
  | peer (kind : Nat) (payload : Bytes)                               -- a frame on the peer link (R449)
  | mirror (seq : Nat) (epoch : Word32) (what : List CageWrite)       -- a MIRROR frame (R460)
  | resync (epoch : Word32) (what : List CageWrite)                   -- the RESYNC frames of a join (R462)
  | beacon (word : Word32)                                            -- a beacon word (R452)
  | devMem (addr : Nat) (bytes : Bytes)                               -- bytes written into device memory (R377, R407)
  | pin (name : Nat) (level : Bool)                                   -- a level driven on an output (R509 to R511)
  | ltr (ns : Option Nat)                                             -- an LTR message (R504)
  deriving DecidableEq, Repr

/-- What a troupe holds beside its seats (R151, R166, R226, R297). -/
structure Troupe where
  jaser     : Bool := false          -- JUG_TROUPE_CFG
  preemptEn : Bool := false
  lastPart  : Nat := 255             -- partition last selected (R146)
  lines     : List RLine := []       -- routine cache
  fetching  : List RLine := []       -- lines on their way from the store, oldest first (R226)
  eccFixed  : Nat := 0               -- corrections in it (R226)
  drbgBuf   : Nat := 0               -- bytes of its DRBG buffer (R297)
  deriving DecidableEq, Repr

/-- The whole state.  Tables list what differs from its reset value, by number. -/
structure State where
  pending    : List Instr := []      -- the model's own: commands that wait, first in, first out
  part       : PartId := {}          -- variant and grade (R2, R35)
  time       : TimeState := {}       -- device time (R30 to R38)
  dies       : Tab Die := []         -- engine dies (R16 to R37)
  funcs      : Tab Func := []        -- PCI Express functions (R42 to R49, R80, R89)
  vfEnable   : Bool := false         -- SR-IOV VF Enable (R42, R49)
  pcie       : Pcie := {}            -- endpoint registers of the PF (R42, R46)
  queues     : Tab QueuePair := []   -- queue pairs 0 to 2,047 (R50 to R115)
  booth      : Booth := {}           -- Ticket Booth, shares, Back Lot (R116 to R132)
  parts      : Tab Part := []        -- per partition (R117 to R129, R167)
  flows      : Tab FlowCtx := []     -- flow contexts (R134, R135)
  items      : List Item := []       -- commands between admission and final completion, by admission (R153)
  releaseQ   : List Nat := []        -- completions decided and not yet written (R154)
  jug        : Juggler := {}         -- Juggler and Carousel registers (R163, R167, R168)
  troupes    : Tab Troupe := []      -- troupes (R166, R226)
  seats      : Tab Seat := []        -- seats (R171 to R216)
  performers : Tab Performer := []   -- performers (R166, R214)
  routines   : Routines := {}        -- routine store and manifests (R217 to R247)
  freeCtr    : Nat := 0              -- the model's own: index of the next free value
  writeCtr   : Nat := 0              -- the model's own: writes of output data to host memory so far
  dir        : Directory := {}       -- key directory (R319, R320, R330, R346)
  cage       : Cage := {}            -- Cage banks (R305 to R312)
  vault      : Vault := {}           -- vault slot registers, ceremonies (R313 to R345)
  units      : Units := {}           -- crypto units and DRBGs (R268 to R303)
  gates      : Tab Gate := []        -- access gates (R388 to R398)
  fuses      : Fuses := {}           -- fuses (R348 to R350, R405, R413, R441)
  boot       : Boot := {}            -- boot registers (R355 to R361, R365)
  spdm       : Spdm := {}            -- SPDM responder (R369, R370)
  uch        : Uch := {}             -- unit challenge (R375)
  mov        : Mov := {}             -- Roustabout (R377 to R382)
  lcs        : Lcs := {}             -- life cycle (R405 to R415)
  dbg        : Debug := {}           -- debug port (R399 to R404)
  trace      : Trace := {}           -- decision trace (R159, R169)
  cal        : Cal := {}             -- Calliope (R475 to R496)
  canvas     : Canvas := {}          -- Canvas and its sentinel (R419 to R445)
  trp        : Trp := {}             -- Trapeze and the peer link (R448 to R473)
  power      : Power := {}           -- power manager and sequencer (R498 to R520)
  rtc        : Rtc := {}             -- real-time clock (R515, R521)
  hostMem    : List Host.Cell := []  -- host memory as the device has written it; unlisted bytes are the host's
  readData   : Word64 := 0           -- data of the last register read that is a command
  out        : List Emission := []   -- what has left the package
  deriving DecidableEq, Repr

/-- The state right after a power-on of a TVP-4880-XC in PRODUCTION, before the boot ROM runs.  Every register is at the
reset value its rule gives, which is the default of its field; what the spec leaves open is in INVENTORY.md, with the log
entry that names the value. -/
def State.reset : State := {}

/-- No command ends in a fault: the spec completes every command, with an error code where it names one (R4, R43, R48,
R205). -/
inductive Fault where
  deriving DecidableEq, Repr

/-- Raised by an arm of exec whose command has no meaning; no arm is one.  Safe: the model stops. -/
inductive Refusal where
  /-- The command `mnemonic` is not modelled; raised by no arm.  Safe. -/
  | notModelled (mnemonic : String)
  deriving DecidableEq, Repr

abbrev Res := Host.Outcome State Fault Refusal

end Sys2Proof.Machine
end

