-- ==== Sys2Proof/Machine/Ops.lean ====
section
/-!
DEFINITION. The named operations every unit shares: reading and writing the tables of State, the variant's counts
(R2, R16), events, interrupts (R78, R80) and host-memory writes (R86, R89).
-/
namespace Sys2Proof.Machine

/-! ### The variant (R2, R16) -/

/-- Engine dies of the variant (R2, R36). -/
def nDies : Variant → Nat
  | .tvp4820 => 1
  | .tvp4840 => 3
  | .tvp4880 => 7

/-- Troupes of the variant: four to an engine die. -/
def nTroupes (v : Variant) : Nat := 4 * nDies v

/-- Performers: eight to a troupe. -/
def nPerformers (v : Variant) : Nat := 32 * nDies v

/-- Seats: four to a performer. -/
def nSeats (v : Variant) : Nat := 128 * nDies v

/-- The die of a troupe, and of a seat (R16). -/
def dieOfTroupe (t : Nat) : Nat := t / 4
def troupeOfSeat (k : Nat) : Nat := k / 32
def dieOfSeat (k : Nat) : Nat := k / 128
def performerOfSeat (k : Nat) : Nat := k / 4

/-- The seat numbers of a troupe, and of a die. -/
def seatsOfTroupe (t : Nat) : List Nat := (List.range 32).map (32 * t + ·)
def seatsOfDie (d : Nat) : List Nat := (List.range 128).map (128 * d + ·)
def troupesOfDie (d : Nat) : List Nat := (List.range 4).map (4 * d + ·)

/-- Control-core pair 1 runs: it has neither been stopped by its lockstep compare nor halted by the debug port (R366,
R403). -/
def pair1Up (s : State) : Bool := s.boot.handover && !s.boot.stop1 && !s.dbg.core1Halted

/-- PF BAR0 outside GLB answers: from STAGE 2 on, outside recovery and END_OF_LIFE (R359). -/
def stageOpen (s : State) : Bool := decide (s.boot.stage = 2) || decide (s.boot.stage = 3)

/-- The PCI Express link has reached L0, so that the device presents its functions (R44). -/
def linkUp (s : State) : Bool := decide (s.power.linkWidth ≠ 0)

/-- The host reaches PF BAR0 outside GLB (R44, R359). -/
def pfOpen (s : State) : Bool := linkUp s && stageOpen s

/-- A command that is a write to a PF register outside GLB: without effect until STAGE 2. -/
def whenOpen (s : State) (r : Host.Outcome State Fault Refusal) : Host.Outcome State Fault Refusal :=
  if pfOpen s = true then r else .next s

/-- The LPDDR5X keys have been discarded since reset: every line's tag fails (R22, R430). -/
def keysGone (s : State) : Bool := decide (s.canvas.highSince = 5)

/-! ### Tables of State -/

/-- What unlisted entries read as: the reset value. -/
def dDie : Nat → Die := fun _ => {}
def dQp : Nat → QueuePair := fun _ => {}
def dFunc : Nat → Func := fun _ => {}
def dPart : Nat → Part := fun _ => {}
def dFlow : Nat → FlowCtx := fun _ => {}
def dTroupe : Nat → Troupe := fun _ => {}
def dSeat : Nat → Seat := fun _ => {}
def dShare : Nat → ShareCfg := fun _ => {}
def dMap : Nat → BitVec 256 := fun _ => BitVec.allOnes 256

def getDie (s : State) (d : Nat) : Die := Tab.get dDie s.dies d
def updDie (d : Nat) (f : Die → Die) (s : State) : State := { s with dies := Tab.upd dDie s.dies d f }
def getQp (s : State) (q : Nat) : QueuePair := Tab.get dQp s.queues q
def setQp (q : Nat) (x : QueuePair) (s : State) : State := { s with queues := Tab.set dQp s.queues q x }
def updQp (q : Nat) (f : QueuePair → QueuePair) (s : State) : State := setQp q (f (getQp s q)) s
def getFunc (s : State) (f : Nat) : Func := Tab.get dFunc s.funcs f
def updFunc (fn : Nat) (f : Func → Func) (s : State) : State := { s with funcs := Tab.upd dFunc s.funcs fn f }
def getPart (s : State) (p : Nat) : Part := Tab.get dPart s.parts p
def updPart (p : Nat) (f : Part → Part) (s : State) : State := { s with parts := Tab.upd dPart s.parts p f }
def getTroupe (s : State) (t : Nat) : Troupe := Tab.get dTroupe s.troupes t
def updTroupe (t : Nat) (f : Troupe → Troupe) (s : State) : State :=
  { s with troupes := Tab.upd dTroupe s.troupes t f }
def getSeat (s : State) (k : Nat) : Seat := Tab.get dSeat s.seats k
def setSeat (k : Nat) (x : Seat) (s : State) : State := { s with seats := Tab.set dSeat s.seats k x }
def updSeat (k : Nat) (f : Seat → Seat) (s : State) : State := setSeat k (f (getSeat s k)) s

/-- The active share registers of a partition. -/
def share (s : State) (p : Nat) : ShareCfg := Tab.get dShare s.booth.active.part p

/-- TIME64 as a number. -/
def now (s : State) : Nat := s.time.time64.toNat

/-- GLB_DIE_STATE of a die (R37): a die the variant lacks is absent. -/
def dieState (s : State) (d : Nat) : DieState :=
  if d < nDies s.part.variant then (getDie s d).state else .absent

/-- A die that counts for candidates, pauses and loads: active or in retention, or off in PS3, PS4 or before its
bring-up, which count as retention (R142, R503). -/
def dieServes (s : State) (d : Nat) : Bool :=
  match dieState s d with
  | .active => true
  | .retention => true
  | .off => true
  | .lost => false
  | .absent => false

/-- A die whose memories are powered: active or in retention. -/
def dieKept (s : State) (d : Nat) : Bool :=
  decide (dieState s d = .active) || decide (dieState s d = .retention)

/-- What a status or counter register of an engine die reads as before its first refresh: its reset value (R28, R166,
R213, R520). -/
def dMirror (a : Nat) : Word64 :=
  if 0x205000 ≤ a ∧ a < 0x206000 then 1
  else if 0x701000 ≤ a ∧ a < 0x702000 then 0x300
  else if 0x60000000 ≤ a ∧ a < 0x60100000 ∧ a % 0x40 = 0x18 then 0x0080000000010000
  else 0

/-- A status or counter register of a die as its mirror holds it; registers of absent units read as zero (R1, R28). -/
def mirrored (s : State) (d a : Nat) : Nat :=
  if d < nDies s.part.variant then (Tab.get dMirror (getDie s d).mirror a).toNat else 0

/-- A status register's mirror word with bits cleared: a write is seen through the mirror at once (R28). -/
def clearMirror (d a bits : Nat) (s : State) : State :=
  updDie d (fun x => { x with mirror := Tab.upd dMirror x.mirror a fun v => v &&& ~~~ BitVec.ofNat 64 bits }) s

/-- The active map gives troupe `t` to partition `p`, on a present die that is not lost (R121). -/
def mapped (s : State) (t p : Nat) : Bool :=
  (Tab.get dMap s.booth.active.map t).getLsbD p && dieServes s (dieOfTroupe t)

/-- The flow-context key of a partition and a flow (R134). -/
def flowKey (p f : Nat) : Nat := p * 16384 + f

def getFlow (s : State) (p f : Nat) : FlowCtx := Tab.get dFlow s.flows (flowKey p f)
def updFlow (p f : Nat) (g : FlowCtx → FlowCtx) (s : State) : State :=
  { s with flows := Tab.upd dFlow s.flows (flowKey p f) g }

/-! ### Items (R153) -/

/-- The outstanding command of an admission number. -/
def getItem (s : State) (id : Nat) : Option Item := s.items.find? fun i => i.id == id

/-- The commands with one of them changed. -/
def mapItem (id : Nat) (f : Item → Item) (l : List Item) : List Item :=
  l.map fun i => if i.id = id then f i else i

def updItem (id : Nat) (f : Item → Item) (s : State) : State := { s with items := mapItem id f s.items }

def dropItem (id : Nat) (s : State) : State := { s with items := s.items.filter fun i => decide (i.id ≠ id) }

/-- Commands of a flow between admission and final completion. -/
def flowItems (s : State) (p f : Nat) : List Item :=
  s.items.filter fun i => decide (i.part = p) && decide (i.flow = f) && decide (i.seq ≠ 0)

/-- Items in the allocation pool, in admission order (R141). -/
def poolItems (s : State) : List Item := s.items.filter fun i => decide (i.place = .pool)

/-- Items on a die's ready lists. -/
def readyItems (s : State) (d : Nat) : List Item := s.items.filter fun i => decide (i.place = .ready d)

/-- The item in a seat's wing slot. -/
def wingItem (s : State) (k : Nat) : Option Item := s.items.find? fun i => i.place == .wing k

/-- The item running, or suspended, in a seat. -/
def seatItem (s : State) (k : Nat) : Option Item := s.items.find? fun i => i.place == .seat k

/-- A command taken before an FLR (R49). -/
def itemMuted (s : State) (id : Nat) : Bool := ((getItem s id).map Item.mute).getD false

/-- The routine of a seat belongs to a command taken before an FLR: its host writes are dropped, its host reads end as
an Unsupported Request would, and its SCU jobs stop (R49). -/
def seatMuted (s : State) (k : Nat) : Bool := ((seatItem s k).map Item.mute).getD false

/-- The queue pair of the command a seat runs. -/
def seatQp (s : State) (k : Nat) : Nat := ((seatItem s k).map Item.qp).getD 0

/-- Little-endian field of `n` bytes at command byte `o` (R63). -/
def Item.le (i : Item) (o n : Nat) : Nat := leAt o n i.raw

/-! ### Emissions and events -/

/-- What leaves the package on a pin or link is listed in the order it leaves. -/
def emit (e : Emission) (s : State) : State := { s with out := s.out ++ [e] }

/-- An event observed now, on its way to Calliope (R477, R480). -/
def calEvent (code : Nat) (part : Option Nat) (unit : Nat) (arg : Nat) (s : State) : State :=
  { s with cal := { s.cal with inbox := s.cal.inbox ++
      [.event { code := code, part := part, unit := unit, arg := BitVec.ofNat 32 arg, time := s.time.time64 }] } }

/-- An event observed on an engine die.  DESIGN CHOICE (log 59): R31 lets the die's copy of TIME64 differ by up to 3 ns from
the control die's; the model takes that skew as 0 and stamps the event with the control die's TIME64. -/
def calEventDie (die code : Nat) (part : Option Nat) (unit : Nat) (arg : Nat) (s : State) : State :=
  { s with cal := { s.cal with inbox := s.cal.inbox ++
      [.event { code := code, part := part, unit := unit, arg := BitVec.ofNat 32 arg, time := s.time.time64, die := die }] } }

/-- A histogram sample on its way to Calliope (R158, R484). -/
def calSample (quantity part value : Nat) (s : State) : State :=
  { s with cal := { s.cal with inbox := s.cal.inbox ++ [.sample quantity part value s.time.time64] } }

/-- A partition count on its way to Calliope (R483). -/
def calCount (kind part : Nat) (s : State) : State :=
  { s with cal := { s.cal with inbox := s.cal.inbox ++ [.count kind part s.time.time64] } }

/-! ### Interrupts (R78, R80) -/

/-- MSI-X vectors of a function's table (R42). -/
def nVectors (fn : Nat) : Nat := if fn = 0 then 2048 else 64

/-- A function the device presents, to which events are signalled: with the link in L0, the PF, and under VF Enable the VFs
1 to NumVFs (R42, R44, R78). -/
def fnExists (s : State) (fn : Nat) : Bool := linkUp s && (fn == 0 || (s.vfEnable && decide (fn ≤ s.pcie.numVfs.toNat)))

/-- One MSI-X message on a vector: pending while the vector is masked, sent otherwise (R80). -/
def sendMsix (fn v : Nat) (s : State) : State :=
  if fnExists s fn && decide (v < nVectors fn) then
    let m := (getFunc s fn).msix
    if m.fmask || m.mask.getLsbD v then
      updFunc fn (fun f => { f with msix := { f.msix with pba := setBit f.msix.pba v } }) s
    else if m.enable then emit (.msix fn v) s
    else s
  else s

/-- The event vector of a function (R78). -/
def vec0 (fn : Nat) (s : State) : State := sendMsix fn 0 s

/-! ### Host memory (R86, R89) -/

/-- Byte `a` of host memory as the device last wrote it; none where it has written nothing. -/
def hostByte (s : State) (a : Nat) : Option Byte := Tab.find? s.hostMem a

/-- Host memory with one byte written. -/
def memWrite (m : List Host.Cell) (a : Nat) (b : Byte) : List Host.Cell := Tab.insert a b (Tab.erase m a)

/-- Host memory with consecutive bytes written. -/
def memWrites (m : List Host.Cell) (a : Nat) : Bytes → List Host.Cell
  | [] => m
  | b :: bs => memWrites (memWrite m a b) (a + 1) bs

/-- The canonical form of host memory: addresses strictly rising.  An unlisted address reads as no value, so no entry can
equal what it reads as. -/
def Memory.wf : List Host.Cell → Bool
  | [] => true
  | [_] => true
  | a :: b :: r => decide (a.1 < b.1) && Memory.wf (b :: r)

/-- `l` with `x` put in its place among rising numbers, once. -/
def insertNat (x : Nat) : List Nat → List Nat
  | [] => [x]
  | y :: r => if x < y then x :: y :: r else if x = y then y :: r else y :: insertNat x r

/-- Pages of 4 KiB from address `a` over `n` bytes. -/
def pagesOf (a n : Nat) : List Nat :=
  if n = 0 then [] else (List.range ((a + n - 1) / 4096 - a / 4096 + 1)).map (a / 4096 + ·)

/-- The range of a VF's log that holds a page.  DESIGN CHOICE (log 60): a page in two ranges of a VF that overlap has its bit
in the lowest-numbered of them. -/
def logRangeOf (f : Func) (page : Nat) : Option Nat :=
  (List.find? (fun (e : Nat × LogRange) => decide (0 < e.2.len) && decide (e.2.base / 4096 ≤ page) &&
    decide (page < (e.2.base + e.2.len) / 4096)) f.logRanges).map Prod.fst

/-- Whether a VF logs at all (R89). -/
def logging (f : Func) : Bool := f.logRanges.any fun e => decide (0 < e.2.len)

/-- One page written on a VF's behalf: its bit set, or the write counted untracked (R89).  DESIGN CHOICE (log 60): a write
outside every range counts once for each 4 KiB page it touches. -/
def logPage (page : Nat) (f : Func) : Func :=
  match logRangeOf f page with
  | some r => { f with logRanges := Tab.upd (fun _ => ({} : LogRange)) f.logRanges r fun g =>
      { g with dirty := insertNat (page - g.base / 4096) g.dirty } }
  | none => { f with untracked := f.untracked + 1 }

/-- The dirty bits of a write on behalf of function `fn`, set before it is issued (R89). -/
def logWrite (fn a n : Nat) (s : State) : State :=
  if fn ≠ 0 && logging (getFunc s fn) then updFunc fn (fun f => (pagesOf a n).foldl (fun f pg => logPage pg f) f) s else s

/-- Host memory after a write of which nothing is known. -/
def memErases (m : List Host.Cell) (a : Nat) : Nat → List Host.Cell
  | 0 => m
  | n + 1 => memErases (Tab.erase m a) (a + 1) n

/-- A device write to host memory as the requester `fn`, logged for function `own`, with its attributes: Relaxed Ordering,
No Snoop, poisoned (R86, R89, R197).  What a poisoned write leaves in host memory is the host's. -/
def hostWrite (fn own a : Nat) (bs : Bytes) (relaxed noSnoop ep : Bool) (s : State) : State :=
  let s := emit (.write fn a bs.length relaxed noSnoop ep) (logWrite own a bs.length s)
  { s with hostMem := if ep then memErases s.hostMem a bs.length else memWrites s.hostMem a bs }

/-- An AER record with one more error: the first keeps the header log (R42). -/
def aerLog (kind : Nat) (header : List Nat) (a : AerLog) : AerLog :=
  let a := if a.first = 0 then { a with first := kind, header := header } else a
  if kind = 1 then { a with advisory := true } else if kind = 2 then { a with unsupported := true } else { a with internal := true }

/-- Output data written to a host buffer for a command of queue pair `q`, as the requester `fn` and logged for function
`own`: with Relaxed Ordering and No Snoop where the PF's Device Control enables them (R42, R59, R86; log 47); a write that fails its
internal check goes out poisoned and is logged against the command's function (R197). -/
def dataWrite (fn own q a : Nat) (bs : Bytes) (s : State) : State :=
  let d := (getFunc s 0).dev
  let bad := Config.writeFails s.writeCtr
  let s := if bad then updFunc own (fun f => { f with aer := aerLog 3 [a] f.aer }) s else s
  hostWrite fn own a bs d.relaxed (d.noSnoop && (getQp s q).cfg.cqNoSnoop) bad { s with writeCtr := s.writeCtr + 1 }

end Sys2Proof.Machine
end

