-- ==== Sys2Proof/Machine/Gates.lean ====
section
/-!
DEFINITION. The access gates (R386 to R395): which gate an access meets, the fixed rules, the entries, and what a
denial leaves.
-/
namespace Sys2Proof.Machine

/-! ### Alarms -/

/-- An internal cause raised: it waits for Canvas to latch it (CANVAS_DETECT, R430). -/
def raiseAlarm (code : Nat) (s : State) : State :=
  { s with canvas := { s.canvas with alarms := s.canvas.alarms ++ [code] } }

/-- Codes of the internal sources (R419). -/
def cINT_FSM : Nat := 0x30
def cMIDWAY_AUTH : Nat := 0x31
def cUNIT_CHECK : Nat := 0x32
def cRNG_HEALTH : Nat := 0x33
def cVAULT_RECORD : Nat := 0x34
def cCORE_LOCKSTEP : Nat := 0x35
def cGATE_VIOLATION : Nat := 0x36
def cDEBUG_VIOLATION : Nat := 0x37
def cDEBUG_UNLOCK : Nat := 0x38
def cDEBUG_EXTEST : Nat := 0x39
def cHEARTBEAT_PATH : Nat := 0x3A
def cSTIM_FAIL : Nat := 0x3B

/-! ### Entries (R392, R393, R398) -/

def dGate : Nat → Gate := fun _ => {}
def getGate (s : State) (g : Nat) : Gate := Tab.get dGate s.gates g
def updGate (g : Nat) (f : Gate → Gate) (s : State) : State := { s with gates := Tab.upd dGate s.gates g f }

/-- A gate's device-space range, in 4 KiB units (R388).  The BAR0 space of gate 5 is 16 MiB (R39). -/
def gateRange (g : Nat) : Nat × Nat :=
  if g = 0 then (0x69000, 0x69FFF) else if g = 1 then (0x6C000, 0x6CFFF) else if g = 2 then (0x60000, 0x6FFFF)
  else if g = 3 then (0x08000, 0x083FF) else if g = 4 then (0x1000000, 0x13FFFFF) else if g = 5 then (0, 0xFFF)
  else (0x70000 + (g - 6) * 0x1000, 0x70FFF + (g - 6) * 0x1000)

/-- Entry 31 at fundamental reset: the whole range, colour 1, R, W and X, enabled (R393). -/
def resetEntry31 (g : Nat) : GateEntry :=
  let b := BitVec.ofNat 52 (gateRange g).1
  let l := BitVec.ofNat 52 (gateRange g).2
  { base := b, limit := l, sBase := b, sLimit := l, cfg := 0x00270002 }

def resetEntries (g : Nat) : List GateEntry := List.replicate 31 ({} : GateEntry) ++ [resetEntry31 g]

/-- The 32 entries of a gate. -/
def entriesOf (s : State) (g : Nat) : List GateEntry :=
  match (getGate s g).entries with
  | [] => resetEntries g
  | l => l

/-- One entry changed. -/
def updEntry (g e : Nat) (f : GateEntry → GateEntry) (s : State) : State :=
  let l := (entriesOf s g).modify e f
  updGate g (fun x => { x with entries := l }) s

def GateEntry.lock (e : GateEntry) : Bool := bitOf e.cfg 31
def GateEntry.enable (e : GateEntry) : Bool := bitOf e.cfg 21
def GateEntry.isSealed (e : GateEntry) : Bool := bitOf e.cfg 20
def GateEntry.host (e : GateEntry) : Bool := bitOf e.cfg 19

/-! ### The check (R388 to R391) -/

/-- The gate an access meets: host space at MEM, device space by its address. -/
def gateOf (host : Bool) (a : Nat) : Option Nat :=
  if host then some 4
  else if 0x69000000 ≤ a ∧ a < 0x6A000000 then some 0
  else if 0x6C000000 ≤ a ∧ a < 0x6D000000 then some 1
  else if 0x60000000 ≤ a ∧ a < 0x70000000 then some 2
  else if 0x08000000 ≤ a ∧ a < 0x08400000 then some 3
  else if 0x1000000000 ≤ a ∧ a < 0x1400000000 then some 4
  else if 0x70000000 ≤ a ∧ a < 0x77000000 then some (6 + (a - 0x70000000) / 0x1000000)
  else if a < 0x1000000 then some 5
  else none

/-- The access touches a range. -/
def overlaps (a n lo hi : Nat) : Bool := decide (a ≤ hi) && decide (lo ≤ a + n - 1)

/-- An access within a die gate's windows of seat state and key cache (R388, R389). -/
def dieWindow (g a n : Nat) : Bool :=
  decide (6 ≤ g) && overlaps a n (0x70400000 + (g - 6) * 0x1000000) (0x70BFFFFF + (g - 6) * 0x1000000)

/-- A sealed region of R389. -/
def sealedHit (s : State) (g : Nat) (host : Bool) (a n : Nat) : Bool :=
  decide (g = 0) || decide (g = 3) || dieWindow g a n ||
  (decide (g = 4) && !host && overlaps a n 0x1000000000 0x111FFFFFFF) ||
  (entriesOf s g).any fun e => e.isSealed && (e.host == host) &&
    overlaps a n (e.base.toNat * 4096) (e.limit.toNat * 4096 + 4095)

/-- The decision of a fixed rule, if one decides: allow or deny (R389; H2 has no address a command can name). -/
def hardRule (s : State) (c g : Nat) (host : Bool) (a n t : Nat) : Option Bool :=
  let keyDir := decide (g = 4) && !host && overlaps a n 0x1100000000 0x111FFFFFFF
  let isSld := sealedHit s g host a n
  if c = 0 ∧ ¬ s.boot.handover then some true
  else if g = 0 ∧ c ≠ 0 ∧ c ≠ 1 then some false
  else if g = 2 ∧ t = 1 ∧ overlaps a n 0x6B000000 0x6BFFFFFF ∧ c ≠ 0 ∧ c ≠ 1 then some false
  else if isSld ∧ c = 10 ∧ 2 ≤ s.lcs.state.toNat then some false
  else if isSld ∧ (c = 4 ∨ c = 5 ∨ c = 9 ∨ 11 ≤ c) then some false
  else if g = 5 ∧ c = 5 then some false
  else if c = 10 ∧ (keyDir ∨ dieWindow g a n) then some false
  else none

/-- The lowest-numbered enabled entry that contains the whole access, with its number (R390). -/
def decidingEntry (l : List GateEntry) (host : Bool) (a n : Nat) : Nat → Option (Nat × GateEntry)
  | 0 => none
  | k + 1 =>
    let i := 32 - (k + 1)
    match l[i]? with
    | none => none
    | some e =>
      if e.enable ∧ e.host = host ∧ e.base.toNat * 4096 ≤ a ∧ a + n - 1 ≤ e.limit.toNat * 4096 + 4095 then some (i, e)
      else decidingEntry l host a n k

/-- The decision at a gate: none where allowed, else HARD and the ENTRY field (R390, R398). -/
def gateDecision (s : State) (c g : Nat) (host : Bool) (a n t : Nat) : Option (Bool × Nat) :=
  match hardRule s c g host a n t with
  | some true => none
  | some false => some (true, 0x3F)
  | none =>
    match decidingEntry (entriesOf s g) host a n 32 with
    | none => some (false, 0x3F)
    | some (i, e) => if bitOf e.cfg c ∧ bitOf e.cfg (16 + t) then none else some (false, i)

/-- GAT_VIOL_INFO of a denial (R398). -/
def violInfo (s : State) (hard : Bool) (t c e : Nat) (host : Bool) (g : Nat) : Word64 :=
  BitVec.ofNat 64 (1 + b2n hard * 2 + t % 4 * 4 + c % 16 * 16 + e % 64 * 256 + b2n host * 2 ^ 14 +
    now s % 2 ^ 40 * 2 ^ 16 + g % 16 * 2 ^ 56)

/-- A debug denial captured, with its Canvas event (R395). -/
def debugViolation (info : Word64) (a : Nat) (s : State) : State :=
  let s := if bitOf s.dbg.violInfo 0 then s
    else { s with dbg := { s.dbg with violInfo := info, violAddr := BitVec.ofNat 64 a } }
  raiseAlarm cDEBUG_VIOLATION s

/-- A denial: captured once, counted, and a Canvas event (R395). -/
def denied (c g : Nat) (host : Bool) (a t : Nat) (d : Bool × Nat) (s : State) : State :=
  let info := violInfo s d.1 t c d.2 host g
  let s := updGate g (fun x => { x with
    count := satInc x.count
    violInfo := if bitOf x.violInfo 0 then x.violInfo else info
    violAddr := if bitOf x.violInfo 0 then x.violAddr else BitVec.ofNat 64 a }) s
  let s := raiseAlarm cGATE_VIOLATION (calEventDie (if 6 ≤ g then g - 6 else 7) (0x150 + g) none g a s)
  if c = 10 then debugViolation info a s else s

/-- One access at its gate: whether it passes, and the state after the check.  An address no gate protects, and the
gate of an absent die, let nothing pass (R1). -/
def gateAccess (c : Nat) (host : Bool) (a n t : Nat) (s : State) : Bool × State :=
  match gateOf host a with
  | none => (false, s)
  | some g =>
    if 6 + nDies s.part.variant ≤ g then (false, s)
    else match gateDecision s c g host a n t with
      | none => (true, s)
      | some d => (false, denied c g host a t d s)

/-- A range of `n` bytes at `a` as the requests an engine cuts it into, at multiples of `unit` (R285; assumption log
73). -/
def requests (unit : Nat) : Nat → Nat → Nat → List (Nat × Nat)
  | 0, _, _ => []
  | k + 1, a, n => if n = 0 then [] else
    let m := min n (unit - a % unit)
    (a, m) :: requests unit k (a + m) (n - m)

/-- The bytes of the requests, from the first, that the gate lets pass; the first denied one stops the engine (R381, R394). -/
def passed (c : Nat) (host : Bool) (t : Nat) : List (Nat × Nat) → State → Nat × State
  | [], s => (0, s)
  | (a, m) :: r, s =>
    let (ok, s) := gateAccess c host a m t s
    if ok then
      let (n, s) := passed c host t r s
      (m + n, s)
    else (0, s)

/-- The bytes of a range, from its start, that an engine moves with requests of at most `unit` bytes. -/
def passedBytes (unit c : Nat) (host : Bool) (t a n : Nat) (s : State) : Nat × State :=
  passed c host t (requests unit (n / unit + 2) a n) s

end Sys2Proof.Machine
end

