-- ==== Sys2Proof/Machine/Queue.lean ====
section
/-!
DEFINITION. Shared operations on queue pairs (spec files 02 and 03): views of a page, levels and notices, arrival of
chunks and the three-part queue.
-/
namespace Sys2Proof.Machine

/-! ### Views (R50, R51) -/

/-- The queue pair a function's page shows in full: the PF's own pages by number, a VF's by VF_PAGE (R50, R51). -/
def queueOf (s : State) (fn page : Nat) : Option Nat :=
  if fn = 0 then
    if page < 2048 ∧ (getQp s page).own.part = 0 then some page else none
  else if fnExists s fn = false then none
  else
    (List.find? (fun (e : Nat × QueuePair) => decide (e.2.own.part.toNat = fn) && decide (e.2.own.vfPage.toNat = page))
      s.queues).map Prod.fst

/-- A write or read through a page view: nothing where the page shows no queue pair (R48, R51). -/
def onQueue (s : State) (fn page : Nat) (f : Nat → State) : State :=
  if fn = 0 ∧ pfOpen s = false then s else match queueOf s fn page with
  | some q => f q
  | none => s

/-! ### Levels, notices, errors -/

/-- SQ_LEVEL: chunks held in the three parts (R104). -/
def sqLevel (x : QueuePair) : Nat := x.headWin.length + x.middle.length + x.tailWin.length

/-- CQ_LEVEL: entries written and not returned, and entries reserved (R104). -/
def cqLevel (x : QueuePair) : Nat := x.cqWritten + x.cqResv

def sqCap (x : QueuePair) : Nat := 2 ^ x.cfg.sqSize.toNat
def cqCap (x : QueuePair) : Nat := 2 ^ x.cfg.cqSize.toNat

/-- Free CQ entries that no command has reserved (R75). -/
def cqSpare (x : QueuePair) : Nat := cqCap x - cqLevel x

/-- QUE_STATUS.CQ_FULL (R55). -/
def cqFull (x : QueuePair) : Bool := decide (cqSpare x = 0)

/-- One sticky notice bit set; a 0-to-1 change raises vector 0 where its IRQ_MASK bit is 1 (R105). -/
def qpNotice (q b : Nat) (s : State) : State :=
  let x := getQp s q
  if x.wm.notice.getLsbD b then s
  else
    let s := setQp q { x with wm := { x.wm with notice := setBit x.wm.notice b } } s
    if x.wm.irqMask.getLsbD b then vec0 x.own.part.toNat s else s

/-- One sticky QUE_ERR bit set; a 0-to-1 change raises vector 0 and an event (R56, R78, R481). -/
def qpErr (q b : Nat) (s : State) : State :=
  let x := getQp s q
  if x.err.getLsbD b then s
  else calEvent (0x140 + b) (some x.own.part.toNat) q 0
    (vec0 x.own.part.toNat (setQp q { x with err := setBit x.err b } s))

/-- The watermark notices that a change from `o` to `n` crosses (R106). -/
def crossings (o n : QueuePair) : List Nat :=
  (if n.wm.sqHigh ≠ 0 ∧ sqLevel o < n.wm.sqHigh.toNat ∧ n.wm.sqHigh.toNat ≤ sqLevel n then [0] else []) ++
  (if n.wm.lowEn ∧ n.wm.sqLow.toNat < sqLevel o ∧ sqLevel n ≤ n.wm.sqLow.toNat then [1] else []) ++
  (if n.wm.cqHigh ≠ 0 ∧ cqLevel o < n.wm.cqHigh.toNat ∧ n.wm.cqHigh.toNat ≤ cqLevel n then [2] else [])

/-- The peaks raised to the current levels (R110). -/
def raisePeaks (x : QueuePair) : QueuePair :=
  { x with wm := { x.wm with
      sqPeak := BitVec.ofNat 17 (max x.wm.sqPeak.toNat (sqLevel x))
      cqPeak := BitVec.ofNat 17 (max x.wm.cqPeak.toNat (cqLevel x)) } }

/-- A change of a queue pair that may move its levels: peaks and watermark notices follow (R105, R106, R110). -/
def touchQp (q : Nat) (f : QueuePair → QueuePair) (s : State) : State :=
  let o := getQp s q
  let n := f o
  (crossings o n).foldl (fun s b => qpNotice q b s) (setQp q (raisePeaks n) s)

/-- A refused doorbell: its QUE_ERR bit set and DB_ERR_CNT advanced (R57, R71, R75). -/
def refuseDb (q b : Nat) (s : State) : State :=
  qpErr q b (updQp q (fun x => { x with dbErr := satInc x.dbErr }) s)

/-- QUE_CTL.CFG_ERR set to a refusal code (R58). -/
def setCfgErr (q : Nat) (code : BitVec 4) (s : State) : State :=
  updQp q (fun x => { x with cfg := { x.cfg with cfgErr := code } }) s

/-! ### Chunks (R63, R64) -/

/-- CTL[7:6] of a chunk: 3 single, 2 first, 1 last, 0 middle. -/
def chunkKind (bs : Bytes) : Nat := (byteAt 0 bs).toNat / 64

/-- Words of a chunk that fail parity at one read: they become poisoned, and each is counted once (R100, R101). -/
def readChunk (mask : Byte) (c : Chunk) : Chunk := { c with poison := c.poison ||| mask }

/-- How many words of `mask` were not yet poisoned. -/
def newFails (mask : Byte) (c : Chunk) : Nat :=
  ((List.range 8).filter fun i => mask.getLsbD i && !(c.poison.getLsbD i)).length

/-- Parity failures recorded in QUE_RF_ERR (R100, R132). -/
def recordParity (q n : Nat) (s : State) : State :=
  if n = 0 then s
  else { s with booth := { s.booth with
      parityCnt := satAdd s.booth.parityCnt n
      parityQp := BitVec.ofNat 11 q
      paritySeen := true } }

/-- Result of moving chunks between the parts: the queue pair, the parity masks left, failures, spilled or not. -/
structure Moved where
  x       : QueuePair
  par     : Bytes
  fails   : Nat := 0
  spilled : Bool := false
  deriving DecidableEq, Repr

/-- After a poisoned word 0, chunks at the head are dropped until a first or single one (R102). -/
def dropSync : Nat → QueuePair → QueuePair
  | 0, x => x
  | k + 1, x =>
    if x.headSync then
      match x.headWin with
      | [] => x
      | c :: r =>
        if chunkKind c.bytes = 3 ∨ chunkKind c.bytes = 2 then { x with headSync := false }
        else dropSync k { x with headWin := r, wm := { x.wm with lateCnt := satInc x.wm.lateCnt } }
    else x

/-- A chunk enters the head window, where the drop of R102 may be waiting for it. -/
def enterHead (c : Chunk) (x : QueuePair) : QueuePair := dropSync 4 { x with headWin := x.headWin ++ [c] }

/-- One move of the oldest tail-window chunk: to the head window while the middle is empty and the head window has
room; else to the Back Lot, as one line with an inverted tag if any word is poisoned, while the tail window holds
more than its four entries (R97, R101; that it spills only then is DEDUCED from R96's 56 chunks of 64). -/
def moveOne (m : Moved) : Moved :=
  match m.x.tailWin with
  | [] => m
  | c :: r =>
    let mask := byteAt 0 m.par
    let c' := readChunk mask c
    if m.x.middle = [] ∧ m.x.headWin.length < 4 then
      { m with x := enterHead c' { m.x with tailWin := r }
               par := m.par.drop 1, fails := m.fails + newFails mask c }
    else if 4 < m.x.tailWin.length then
      { x := { m.x with tailWin := r, middle := m.x.middle ++ [{ chunk := c', inverted := decide (c'.poison ≠ 0) }] }
        par := m.par.drop 1, fails := m.fails + newFails mask c, spilled := true }
    else m

/-- Moves until none is left: five chunks at most pass at once. -/
def moveAll : Nat → Moved → Moved
  | 0, m => m
  | k + 1, m => moveAll k (moveOne m)

/-- The three parts settled after a change, with parity failures and the SPILL notice recorded; and the parity masks of
reads still to come. -/
def settlePar (q : Nat) (par : Bytes) (s : State) : State × Bytes :=
  let m := moveAll 8 { x := getQp s q, par := par }
  let s := recordParity q m.fails (touchQp q (fun _ => m.x) s)
  (if m.spilled then qpNotice q 3 s else s, m.par)

def settleQp (q : Nat) (par : Bytes) (s : State) : State := (settlePar q par s).1

/-- The newest chunk of the SQ changed: the first chunk that waits for its last. -/
def onNewest (f : Chunk → Chunk) (x : QueuePair) : QueuePair :=
  match x.tailWin.reverse with
  | c :: r => { x with tailWin := (f c :: r).reverse }
  | [] =>
    match x.middle.reverse with
    | l :: r => { x with middle := ({ l with chunk := f l.chunk } :: r).reverse }
    | [] =>
      match x.headWin.reverse with
      | c :: r => { x with headWin := (f c :: r).reverse }
      | [] => x

/-- The arrival notice of a complete command: ARRIVED counts it and its arrival is stamped (R103, R139). -/
def announce (q : Nat) (s : State) : State :=
  let x := getQp s q
  calSample 5 x.own.part.toNat (sqLevel x) (setQp q { x with arrived := x.arrived + 1 } s)

/-- A chunk of the pending first chunk's successor completes it on its own (R64, R103). -/
def loneFirst (q : Nat) (s : State) : State :=
  announce q (updQp q (fun x => { onNewest (fun c => { c with alone := true, stamp := some s.time.time64 }) x with
    part1 := false }) s)

/-- A chunk enters the SQ: the sequence check of R64, resynchronisation (R114), the tail window and the arrival
notice (R103). -/
def chunkArrive (q : Nat) (bs : Bytes) (n : BitVec 16) (par : Bytes) (s : State) : State :=
  let x := getQp s q
  let k := chunkKind bs
  if x.resync ∧ k ≠ 3 ∧ k ≠ 2 then
    updQp q (fun x => { x with wm := { x.wm with lateCnt := satInc x.wm.lateCnt } }) s
  else if k = 0 ∨ (k = 1 ∧ ¬ x.part1) then
    qpErr q 5 (updQp q (fun x => { x with chunkDrop := satInc x.chunkDrop }) s)
  else
    let t := some s.time.time64
    let s := if x.part1 ∧ k ≠ 1 then loneFirst q s else s
    let s := if k = 1 then updQp q (onNewest fun c => { c with stamp := t }) s else s
    let c : Chunk := { bytes := bs, n := n, stamp := if k = 3 then t else none }
    let s := touchQp q (fun x => { x with tailWin := x.tailWin ++ [c], resync := false, part1 := decide (k = 2) }) s
    let s := if k = 2 then s else announce q s
    settleQp q par s

/-! ### Push window (R67 to R69) -/

/-- The 64 byte slots of push slot `i`. -/
def slotBytes (x : QueuePair) (i : Nat) : List (Option Byte) := Tab.getList (fun _ => none) x.slots (64 * i) 64

/-- A slot all 64 of whose bytes are written (R67). -/
def slotComplete (x : QueuePair) (i : Nat) : Bool := (slotBytes x i).all Option.isSome

/-- A slot with some bytes written and some not. -/
def slotPartial (x : QueuePair) (i : Nat) : Bool := (slotBytes x i).any Option.isSome && !slotComplete x i

/-- A slot with no byte written. -/
def clearSlot (i : Nat) (x : QueuePair) : QueuePair :=
  { x with slots := x.slots.filter fun e => decide (e.1 / 64 ≠ i) }

/-- The torn-slot timer runs while the slot at PUSH_NEXT is partly written (R69).  DESIGN CHOICE (log 61): for a slot
partly written before it comes to PUSH_NEXT it runs from then, as R69 words it, and not from the slot's first byte, as the
table of R95 does. -/
def tornTimer (t : Word64) (x : QueuePair) : QueuePair :=
  if slotPartial x x.pushNext.toNat then
    (match x.tornStart with
     | none => { x with tornStart := some t }
     | some _ => x)
  else { x with tornStart := none }

/-- Bytes written from window position `pos`; written and unconsumed bytes are kept (R68).  Answers whether any
byte was dropped. -/
def fillSlots (x : QueuePair) (pos : Nat) : Bytes → QueuePair × Bool
  | [] => (x, false)
  | b :: bs =>
    if 2048 ≤ pos then (x, false)
    else
      match Tab.get (fun _ => none) x.slots pos with
      | some _ => ((fillSlots x (pos + 1) bs).1, true)
      | none => fillSlots { x with slots := Tab.set (fun _ => none) x.slots pos (some b) } (pos + 1) bs

/-! ### Back Lot granules (R99, R132) -/

/-- Granules of 4 KiB that an SQ of the configured size needs. -/
def granulesFor (x : QueuePair) : Nat := (sqCap x * 64 + 4095) / 4096

/-- Granules a queue pair holds, those of SQs that a reset has disabled among them. -/
def heldGranules (x : QueuePair) : Nat := x.granules + (x.heldSqs.map HeldSq.granules).sum

/-- Free granules: 65,536 to each 256 MiB of SIZE, less those held. -/
def freeGranules (s : State) : Nat :=
  s.booth.backlotSize.toNat * 65536 - (s.queues.map fun e => heldGranules e.2).sum

/-- Commands taken from a queue pair since its last reset and not yet ended: a command taken before a reset of R49 holds
no DRAINING. -/
def takenFrom (s : State) (q : Nat) : Bool := s.items.any fun i => decide (i.qp = q) && !i.mute

/-- The SQs that a reset disabled are let go where the last command taken from them has ended (R99). -/
def letGo (l : List Item) (x : QueuePair) : QueuePair :=
  { x with heldSqs := x.heldSqs.filter fun h => h.items.any fun id => l.any fun i => i.id == id }

/-- When the last command taken from a queue pair that is not enabled has ended, DRAINING clears and its granules are
free again; so are those of an SQ that a reset disabled (R58, R99). -/
def drainEnd (q : Nat) (s : State) : State :=
  let s := updQp q (letGo s.items) s
  if (getQp s q).enabled ∨ takenFrom s q then s
  else updQp q (fun x => { x with draining := false, granules := 0 }) s

/-- The SQ emptied: what R58 discards when a queue is disabled. -/
def emptySq (x : QueuePair) : QueuePair :=
  { x with headWin := [], middle := [], tailWin := [], arrived := 0, part1 := false, resync := false,
           headSync := false, slots := [], doomed := 0, tornStart := none, ready := 0, flushBusy := false,
           fetches := x.fetches.map fun f => { f with dropped := true } }

/-! ### Interrupts of a CQ (R79) -/

/-- The CQ's message, where IRQ_EN is 1; both counts restart. -/
def cqMessage (q : Nat) (s : State) : State :=
  let x := getQp s q
  if x.cfg.irqEn then sendMsix x.own.part.toNat x.cfg.vector.toNat (setQp q { x with unsig := 0 } s)
  else s

end Sys2Proof.Machine
end

