-- ==== Sys2Proof/Machine/Carousel.lean ====
section
/-!
DEFINITION. Decision trace entries (R159 to R161), and ordered release: outcomes reach the Carousel, the release
decision of R155, and the write of a completion to its CQ or result slot (R73 to R77).
-/
namespace Sys2Proof.Machine

/-! ### Decision trace -/

/-- The 16-byte trace entry of R160. -/
def traceEntry (time : Nat) (type part b7 flow unit seq : Nat) : BitVec 128 :=
  BitVec.ofNat 128 (time % 2 ^ 40 + type % 256 * 2 ^ 40 + part % 256 * 2 ^ 48 + b7 % 256 * 2 ^ 56
    + flow % 65536 * 2 ^ 64 + unit % 2048 * 2 ^ 80 + seq % 2 ^ 32 * 2 ^ 96)

/-- One entry stored at WR_INDEX, or counted lost in stop-when-full mode (R159). -/
def traceStore (e : BitVec 128) (t : Trace) : Trace :=
  if t.count.toNat = 65536 ∧ ¬ t.wrap then { t with full := true, lostCnt := satInc t.lostCnt }
  else
    let atEnd := decide (t.count.toNat = 65536)
    let n := if atEnd then t.count else t.count + 1
    { t with mem := Tab.set (fun _ => 0) t.mem t.wrIndex.toNat e
             wrIndex := t.wrIndex + 1
             count := n
             wrapped := t.wrapped || atEnd
             full := t.full || (!t.wrap && decide (n.toNat = 65536)) }

/-- An entry written to trace memory with colour 8 at the MEM gate; a denied one is dropped and counted (R386, R394,
R397). -/
def traceWrite (e : BitVec 128) (s : State) : State :=
  if s.trace.count.toNat = 65536 ∧ ¬ s.trace.wrap then { s with trace := traceStore e s.trace }
  else
    let (ok, s) := gateAccess 8 false (0x1130000000 + 16 * s.trace.wrIndex.toNat) 16 1 s
    { s with trace := if ok then traceStore e s.trace else { s.trace with lostCnt := satInc s.trace.lostCnt } }

/-- The MARKER entry: bytes 12 to 14 hold TIME64[63:40] (R160). -/
def markerEntry (time : Nat) : BitVec 128 := traceEntry time 0xFF 0 0x38 0 0 (time / 2 ^ 40)

/-- A MARKER written when TIME64[63:40] differs from the last one's (R159). -/
def traceMark (s : State) : State :=
  let m := now s / 2 ^ 40
  if m = s.trace.marker then s
  else
    let s := traceWrite (markerEntry (now s)) s
    { s with trace := { s.trace with marker := m } }

/-- Whether an event passes TRC_FILTER (R159, R169). -/
def tracePasses (t : Trace) (type part flow : Nat) : Bool :=
  (!t.partEn || decide (t.fPart.toNat = part)) && (!t.flowEn || decide (t.fFlow.toNat = flow)) &&
  t.groups.getLsbD (type / 16)

/-- A traced event: written directly when it is observed on the control die (`die` 7), queued in the engine die's
256-entry FIFO otherwise, or dropped and counted when that is full (R159). -/
def traceRaw (type part b7 flow fl16 unit seq die : Nat) (s : State) : State :=
  if s.trace.enable ∧ tracePasses s.trace type part flow then
    let e := traceEntry (now s) type part (b7 + die * 8) fl16 unit seq
    if die = 7 then traceWrite e (traceMark s)
    else if (getDie s die).trcFifo.length < 256 then
      updDie die (fun d => { d with trcFifo := d.trcFifo ++ [e] }) s
    else { updDie die (fun d => { d with trcLost := d.trcLost + 1 }) s with
             trace := { s.trace with lostCnt := satInc s.trace.lostCnt } }
  else s

/-- The trace entry of an item's event (R160, R161). -/
def traceItem (type unit die : Nat) (i : Item) (s : State) : State :=
  traceRaw type i.part (i.prio % 8 + b2n i.ordered * 64 + b2n i.serial * 128) i.flow
    (i.flow % 16384 + b2n i.hint * 16384 + b2n i.poisoned * 32768) unit i.seq die s

/-! ### Writing a completion (R73 to R77) -/

/-- STATUS codes of R10. -/
def stOK : Byte := 0x00
def stDEFERRED : Byte := 0x01
def stLATE : Byte := 0x02
def stKEY_STALE : Byte := 0x10
def stKEY_USAGE : Byte := 0x11
def stKEY_NOT_FOUND : Byte := 0x12
def stKEY_BLOCK_AUTH : Byte := 0x13
def stNOT_READY : Byte := 0x20
def stQUEUE_PAUSED : Byte := 0x21
def stADMISSION_REFUSED : Byte := 0x22
def stVERIFY_MISMATCH : Byte := 0x30
def stPOISONED : Byte := 0x40
def stOPERAND_FORMAT : Byte := 0x41
def stSTALE_ROLE : Byte := 0x50
def stHALTED : Byte := 0x51
def stROUTINE_FAULT : Byte := 0x60
def stROUTINE_NOT_LOADED : Byte := 0x61
def stTAINT_VIOLATION : Byte := 0x62
def stABORTED : Byte := 0x70
def stTIMED_OUT : Byte := 0x71

/-- STATUS and FLAGS of the entry an item gets: a placeholder, a late completion (a real OK is LATE), or its own
(R12, R73, R155, R157). -/
def entryStatus (i : Item) (o : Outcome) (placeholder : Bool) : Byte :=
  if placeholder then stDEFERRED else if i.deferred ∧ o.status = stOK then stLATE else o.status

def entryFlags (i : Item) (o : Outcome) (placeholder phase : Bool) : Nat :=
  b2n phase + (if placeholder then 4 else b2n i.deferred * 2 + b2n i.poisonId * 8 + b2n o.hostBuf * 16)

/-- The 32 bytes of a completion entry (R73). -/
def entryBytes (i : Item) (o : Outcome) (placeholder phase : Bool) : Bytes :=
  toLE 8 i.tag.toNat ++ [entryStatus i o placeholder, BitVec.ofNat 8 (entryFlags i o placeholder phase)] ++
  toLE 2 i.routine ++ toLE 4 (i.seq % 2 ^ 32) ++ fit 16 (if placeholder then [] else o.data)

/-- The phase of the result slot of SQ_HEAD value `n`: 1 when n / 32 is even (R76). -/
def rslotPhase (n : BitVec 16) : Bool := decide (n.toNat / 32 % 2 = 0)

/-- All 32 bytes of a result slot written at once (R77). -/
def rslotWrite (q : Nat) (n : BitVec 16) (bs : Bytes) (s : State) : State :=
  let v := BitVec.ofNat 256 (leNat (fit 32 bs))
  updQp q (fun x => { x with rslots := Tab.set (fun _ => 0) x.rslots (n.toNat % 32) v }) s

/-- The slot as a command is taken: its TAG, NOT_READY and the phase (R77). -/
def rslotTaken (i : Item) (n : BitVec 16) : Bytes :=
  toLE 8 i.tag.toNat ++ [stNOT_READY, BitVec.ofNat 8 (b2n (rslotPhase n))] ++ zeros 22

/-- One CQ entry written at CQ_TAIL: host write, phase and index, levels, and the message a full COUNT sends (R74,
R75, R79).  `reserved` says whether it uses the entry its command reserved. -/
def cqWrite (q : Nat) (reserved : Bool) (entry : Bool → Bytes) (s : State) : State :=
  let x := getQp s q
  let p := x.own.part.toNat
  let a := x.cfg.cqBase.toNat * 4096 + 32 * x.cqTail.toNat
  let s := hostWrite p p a (entry x.cqPhase) false ((getFunc s 0).dev.noSnoop && x.cfg.cqNoSnoop) false s
  let wrap := decide (x.cqTail.toNat + 1 = cqCap x)
  let s := touchQp q (fun x => { x with
    cqTail := if wrap then 0 else x.cqTail + 1
    cqPhase := if wrap then !x.cqPhase else x.cqPhase
    cqWritten := x.cqWritten + 1
    cqResv := if reserved then x.cqResv - 1 else x.cqResv
    unsigAt := if x.unsig = 0 then s.time.time64 else x.unsigAt
    unsig := x.unsig + 1 }) s
  let s := calSample 6 p (cqLevel (getQp s q)) s
  if (getQp s q).own.count.toNat ≤ (getQp s q).unsig then cqMessage q s else s

/-- Calliope's counts and codes of one completion (R481 to R483, R14). -/
def countEntry (i : Item) (st : Byte) (s : State) : State :=
  if st = stDEFERRED then calEvent 0x181 (some i.part) i.qp i.flow (calCount 3 i.part s)
  else
    let s := calCount 1 i.part s
    if st = stOK ∨ st = stLATE ∨ st = stVERIFY_MISMATCH then calCount 2 i.part s
    else
      let s := calEvent (0x80 + st.toNat) (some i.part) i.qp i.routine (calCount 4 i.part s)
      if st = stADMISSION_REFUSED ∨ st = stQUEUE_PAUSED then calCount 5 i.part s else s

/-- The completion or placeholder of an item written where it is delivered (R73, R77). -/
def writeEntry (i : Item) (o : Outcome) (placeholder : Bool) (s : State) : State :=
  let s := countEntry i (entryStatus i o placeholder) s
  match i.rslot with
  | some n => rslotWrite i.qp n (entryBytes i o placeholder (rslotPhase n)) s
  | none => cqWrite i.qp (!placeholder) (entryBytes i o placeholder) s

/-- A poisoned command's release: POISON_CNT, its notice and event (R102, R106, R481). -/
def poisonRelease (i : Item) (s : State) : State :=
  if i.poisoned then
    let s := updQp i.qp (fun x => { x with wm := { x.wm with poisonCnt := satInc x.wm.poisonCnt } }) s
    calEvent 0x146 (some i.part) i.qp 1 (qpNotice i.qp 5 s)
  else s

/-- An item leaves the package: its Carousel entry is free, its flow may become idle, its queue may have drained. -/
def endItem (i : Item) (s : State) : State :=
  let s := dropItem i.id s
  let s := if i.seq ≠ 0 ∧ (flowItems s i.part i.flow).isEmpty then
      updFlow i.part i.flow (fun c => if c.valid then { c with idleSince := s.jug.idleTick } else c)
        { s with jug := { s.jug with idleTick := s.jug.idleTick + 1 } }
    else s
  drainEnd i.qp s

/-- The oldest release decision carried out: the completion is written, or a command taken before an FLR ends without
a write (R49, R154). -/
def writeRelease (id : Nat) (s : State) : State :=
  match getItem s id with
  | none => s
  | some i =>
    match i.outcome with
    | none => s
    | some o =>
      if i.mute then endItem i s
      else
        let s := writeEntry i o false s
        let s := traceItem (if i.deferred then 0x33 else 0x31) i.qp 7 i s
        endItem i (poisonRelease i s)

/-- Every waiting release written, in release order: a placeholder passes none of them, of its queue pair or of its flow
(R74, R154). -/
def flushReleases : List Nat → State → State
  | [], s => { s with releaseQ := [] }
  | id :: r, s => flushReleases r (writeRelease id s)

/-! ### Release decisions (R154, R155) -/

/-- HOLD and TOTAL at the release decision of an item that ran in a seat; HOLD where its RESULT was accepted (R158). -/
def releaseSamples (i : Item) (s : State) : State :=
  let w := now s
  let s := if i.begun ∧ i.accepted then calSample 3 i.part (w - i.doneAt.toNat) s else s
  if i.begun then calSample 4 i.part (w - i.arrival.toNat) s else s

/-- SERVICE when the RESULT of an item that ran in a seat is accepted (R158). -/
def acceptSample (i : Item) (s : State) : State :=
  if i.begun then calSample 2 i.part (now s - i.startAt.toNat) s else s

/-- The release decision of one item. -/
def release (i : Item) (s : State) : State :=
  let s := releaseSamples i s
  { updItem i.id (fun i => { i with released := true }) s with releaseQ := s.releaseQ ++ [i.id] }

/-- The longest hold of a partition (R167). -/
def notePeak (p : Nat) (c : FlowCtx) (s : State) : State :=
  match c.holdStart with
  | none => s
  | some t =>
    let held := min (2 ^ 24 - 1) (now s - t.toNat)
    updPart p (fun x => { x with holdPeak := BitVec.ofNat 24 (max x.holdPeak.toNat held) }) s

/-- The head of an ordered flow: the lowest sequence whose release is undecided and that is not deferred (R155); a command
taken before an FLR has no completion to wait for (R49; log 54). -/
def flowHead (s : State) (p f : Nat) : Option Item :=
  ((flowItems s p f).filter fun i => !i.released && !i.deferred && !i.mute).foldl
    (fun h i => match h with
      | none => some i
      | some j => if i.seq < j.seq then some i else some j) none

def isReady (i : Item) : Bool := decide (i.place = .done)

/-- A later result of the flow is ready (R155). -/
def readyAfter (s : State) (p f : Nat) (h : Item) : Bool :=
  (flowItems s p f).any fun i => decide (h.seq < i.seq) && isReady i && !i.released && !i.deferred && !i.mute

/-- Commands deferred and awaiting their late completion (R156). -/
def deferredOut (s : State) : Nat := (s.items.filter fun i => i.deferred && !i.released).length

/-- Deferral allowed for a head: DEFER_MAX, a spare CQ entry for CQ delivery, and a non-zero HOLD_NS (R156). -/
def deferralAllowed (s : State) (h : Item) : Bool :=
  decide (deferredOut s < s.jug.deferMax.toNat) && decide ((share s h.part).holdNs ≠ 0) &&
  (h.rslot.isSome || decide (cqSpare (getQp s h.qp) ≠ 0))

/-- The placeholder of a deferred head (R155, R157). -/
def defer (h : Item) (s : State) : State :=
  let s := flushReleases s.releaseQ s
  let s := writeEntry h { status := stDEFERRED } true s
  let s := traceItem 0x32 h.qp 7 h s
  { updItem h.id (fun i => { i with deferred := true }) s with
    jug := { s.jug with deferredCnt := s.jug.deferredCnt + 1 } }

/-- DEFER_BLOCKED_CNT advanced once for a head whose deferral is due and not allowed (R156). -/
def blockDeferral (h : Item) (s : State) : State :=
  if (getFlow s h.part h.flow).blockedAt = some h.seq then s
  else calEvent 0x185 (some h.part) h.qp h.flow
    (updFlow h.part h.flow (fun c => { c with blockedAt := some h.seq })
      { s with jug := { s.jug with blockedCnt := s.jug.blockedCnt + 1 } })

/-- The Carousel on an event of ordered flow `f` of partition `p` (the loop of R155); `fuel` bounds the items. -/
def carouselLoop : Nat → Nat → Nat → State → State
  | 0, _, _, s => s
  | fuel + 1, p, f, s =>
    match flowHead s p f with
    | none => s
    | some h =>
      if isReady h then
        let s := release h (notePeak p (getFlow s p f) s)
        carouselLoop fuel p f (updFlow p f (fun c => { c with holdStart := none }) s)
      else if readyAfter s p f h then
        let t := (getFlow s p f).holdStart.getD s.time.time64
        let s := updFlow p f (fun c => { c with holdStart := some t }) s
        let hold := (share s p).holdNs.toNat
        if hold ≠ 0 ∧ t.toNat + hold ≤ now s then
          if deferralAllowed s h then
            let s := defer h (notePeak p (getFlow s p f) s)
            carouselLoop fuel p f (updFlow p f (fun c => { c with holdStart := none }) s)
          else blockDeferral h s
        else s
      else s

/-- The Carousel's loop over a flow, long enough for every item. -/
def settleFlow (p f : Nat) (s : State) : State := carouselLoop (s.items.length + 1) p f s

/-- An item's outcome is with the Carousel: released at once when it has no flow order (unordered, serial, SEQ 0) or
is late; else as its flow order allows (R154, R155, R157). -/
def outcomeArrives (id : Nat) (o : Outcome) (s : State) : State :=
  match getItem s id with
  | none => s
  | some i =>
    let i' : Item := { i with place := .done, outcome := some o, doneAt := s.time.time64 }
    let s := updItem id (fun _ => i') s
    if i.mute then endItem i' s
    else if i.ordered ∧ i.seq ≠ 0 ∧ ¬ i.deferred then settleFlow i.part i.flow s
    else release i' s

/-- A command ends with an outcome of its own, its result with the Carousel at once: what a management routine does on
the control cores, and every item that bypasses allocation (R141, R543). -/
def finish (id : Nat) (status : Byte) (data : Bytes) (hostBuf : Bool) (s : State) : State :=
  outcomeArrives id { status := status, data := data, hostBuf := hostBuf } s

end Sys2Proof.Machine
end

