-- ==== Sys2Proof/Machine/Flags.lean ====
section
/-!
DEFINITION. The Etnak flags (R185 to R187): every flag computation the spec gives, and the conditions.
-/
namespace Sys2Proof.Machine

/-- Z and N of a 64-bit result, C and V given. -/
def setFlags (r : Word64) (c v : Bool) (x : SeatRun) : SeatRun :=
  { x with z := decide (r = 0), n := r.msb, c := c, v := v }

/-- Flags of `a + b` (R186): C is the carry out, V the signed overflow. -/
def addFlags (a b : Word64) (x : SeatRun) : SeatRun :=
  let r := a + b
  setFlags r (decide (2 ^ 64 ≤ a.toNat + b.toNat)) ((a.msb == b.msb) && (r.msb != a.msb)) x

/-- Flags of `a − b` (R186).  C is 1 where there is no borrow: DEDUCED from HI and LS of R185 (assumption log 20). -/
def subFlags (a b : Word64) (x : SeatRun) : SeatRun :=
  let r := a - b
  setFlags r (decide (b.toNat ≤ a.toNat)) ((a.msb != b.msb) && (r.msb != a.msb)) x

/-- Flags of a bitwise or shift result: Z and N; C and V cleared (R186). -/
def logicFlags (r : Word64) (x : SeatRun) : SeatRun := setFlags r false false x

/-- The conditions of R185; none for the reserved code 0xF. -/
def condHolds (x : SeatRun) (cond : BitVec 4) : Option Bool :=
  match cond.toNat with
  | 0x0 => some true
  | 0x1 => some x.z
  | 0x2 => some (!x.z)
  | 0x3 => some x.c
  | 0x4 => some (!x.c)
  | 0x5 => some x.n
  | 0x6 => some (!x.n)
  | 0x7 => some x.v
  | 0x8 => some (!x.v)
  | 0x9 => some (x.c && !x.z)
  | 0xA => some (!x.c || x.z)
  | 0xB => some (x.n == x.v)
  | 0xC => some (x.n != x.v)
  | 0xD => some (!x.z && (x.n == x.v))
  | 0xE => some (x.z || (x.n != x.v))
  | _ => none

/-- Flags of a comparing instruction: Z given, N, C and V cleared (R187). -/
def cmpFlags (z : Bool) (x : SeatRun) : SeatRun := { x with z := z, n := false, c := false, v := false }

end Sys2Proof.Machine
end

