-- ==== Sys2Proof/Machine/Operands.lean ====
section
/-!
DEFINITION. Operand forms of the Etnak instructions (R171 to R174, R183, R188): registers, buffers, ranges, and the
scoreboard's hazards (R194, R196).
-/
namespace Sys2Proof.Machine

/-! ### Registers (R171, R173) -/

def dG : Nat → Word64 := fun _ => 0
def dD : Nat → BitVec 128 := fun _ => 0
def dK : Nat → Option Handle := fun _ => none
def dB : Nat → Byte := fun _ => 0

/-- A general register; g0 reads zero. -/
def getG (x : SeatRun) (r : BitVec 5) : Word64 := if r = 0 then 0 else Tab.get dG x.g r.toNat

/-- A write of a general register; g0 discards it. -/
def setG (r : BitVec 5) (v : Word64) (x : SeatRun) : SeatRun :=
  if r = 0 then x else { x with g := Tab.set dG x.g r.toNat v }

def getD (x : SeatRun) (r : BitVec 4) : BitVec 128 := Tab.get dD x.d r.toNat
def taintD (x : SeatRun) (r : BitVec 4) : Bool := x.dTaint.getLsbD r.toNat

/-- A bit of a mask written. -/
def putBit {w : Nat} (m : BitVec w) (i : Nat) (b : Bool) : BitVec w := if b then setBit m i else clrBit m i

/-- A data register written with its taint. -/
def setD (r : BitVec 4) (v : BitVec 128) (t : Bool) (x : SeatRun) : SeatRun :=
  { x with d := Tab.set dD x.d r.toNat v, dTaint := putBit x.dTaint r.toNat t }

def getK (x : SeatRun) (r : BitVec 3) : Option Handle := Tab.get dK x.k r.toNat
def setK (r : BitVec 3) (h : Option Handle) (x : SeatRun) : SeatRun := { x with k := Tab.set dK x.k r.toNat h }

/-- Bytes 0 to 15 of a data register, and the register of bytes (R173). -/
def dBytes (v : BitVec 128) : Bytes := toBE 16 v.toNat
def dOfBytes (bs : Bytes) : BitVec 128 := BitVec.ofNat 128 (beNat (fit 16 bs))

/-- Lane 0 or 1, read little-endian (R173). -/
def lane (v : BitVec 128) (l : Nat) : Word64 := BitVec.ofNat 64 (leAt (8 * l) 8 (dBytes v))

/-- One lane replaced. -/
def setLane (v : BitVec 128) (l : Nat) (g : Word64) : BitVec 128 :=
  let bs := dBytes v
  dOfBytes (if l = 0 then toLE 8 g.toNat ++ bs.drop 8 else bs.take 8 ++ toLE 8 g.toNat)

/-- Nibble `i` of a data register: nibble 0 is the first digit (R173). -/
def nib (v : BitVec 128) (i : Nat) : Nat := (v.toNat >>> (4 * (31 - i))) % 16

/-- A register of 32 nibbles. -/
def ofNibs (l : List Nat) : BitVec 128 := BitVec.ofNat 128 (l.foldl (fun a n => a * 16 + n % 16) 0)

/-- Each nibble mapped. -/
def mapNibs (f : Nat → Nat) (v : BitVec 128) : BitVec 128 := ofNibs ((List.range 32).map fun i => f (nib v i))

/-! ### Buffers (R171, R188) -/

/-- The bits of granules `a` to `b`. -/
def granMask (a b : Nat) : BitVec 256 := BitVec.ofNat 256 ((2 ^ (b + 1) - 1) - (2 ^ a - 1))

/-- The granules of a scratch range of `n` bytes at `o`; none for an empty range. -/
def granules (o n : Nat) : BitVec 256 := if n = 0 then 0 else granMask (o / 16) ((o + n - 1) / 16)

/-- The granules all 16 of whose bytes a range covers. -/
def fullGranules (o n : Nat) : BitVec 256 :=
  if (o + n) / 16 ≤ (o + 15) / 16 then 0 else granMask ((o + 15) / 16) ((o + n) / 16 - 1)

/-- A scratch byte: zero in an invalid granule (R172). -/
def scratchByte (x : SeatRun) (a : Nat) : Byte :=
  if x.sValid.getLsbD (a / 16) then Tab.get dB x.scratch a else 0

def scratchBytes (x : SeatRun) (o n : Nat) : Bytes := (List.range n).map fun i => scratchByte x (o + i)

/-- Any granule of the range is tainted (R176). -/
def scratchTaint (x : SeatRun) (o n : Nat) : Bool := decide (x.sTaint &&& granules o n ≠ 0)

/-- Bytes written to scratch: the granules become valid; a granule takes the taint, but a partial write into a tainted
granule leaves it tainted (R176, R188). -/
def putScratch (o : Nat) (bs : Bytes) (taint : Bool) (x : SeatRun) : SeatRun :=
  let m := granules o bs.length
  let f := fullGranules o bs.length
  { x with
    scratch := Tab.setList dB x.scratch o bs
    sValid := x.sValid ||| m
    sTaint := if taint then x.sTaint ||| m else x.sTaint &&& ~~~ f }

/-- STS of a g register leaves the granule's taint unchanged (R176). -/
def putScratchG (o : Nat) (bs : Bytes) (x : SeatRun) : SeatRun :=
  { x with scratch := Tab.setList dB x.scratch o bs, sValid := x.sValid ||| granules o bs.length }

/-- A result-buffer byte: zero in an invalid granule. -/
def resultByte (x : SeatRun) (a : Nat) : Byte :=
  if x.rValid.getLsbD (a / 16) then Tab.get dB x.result a else 0

def resultBytes (x : SeatRun) (o n : Nat) : Bytes := (List.range n).map fun i => resultByte x (o + i)

def putResult (o : Nat) (bs : Bytes) (x : SeatRun) : SeatRun :=
  { x with result := Tab.setList dB x.result o bs
           rValid := x.rValid ||| (granules o bs.length).setWidth 16 }

/-- An operand-buffer byte; bytes the command did not supply read as zero (R198). -/
def operandBytes (x : SeatRun) (o n : Nat) : Bytes := slice o n x.opnd

/-- Effective offset of format M: base plus off (R183). -/
def effAddr (x : SeatRun) (base : BitVec 5) (off : BitVec 14) : Nat := (getG x base).toNat + off.toNat

/-- Bytes of a size field for a g register (R183). -/
def gSize (sz : BitVec 2) : Nat := 2 ^ sz.toNat

/-- Bytes of a size field for a d register: 8 or 16; none for the other codes. -/
def dSize (sz : BitVec 2) : Option Nat := if sz = 2 then some 8 else if sz = 3 then some 16 else none

/-- A register pair: offset in ga, length in the next register; none for a pair starting at g31 (R183, R184). -/
def pair (x : SeatRun) (ga : BitVec 5) : Option (Nat × Nat) :=
  if ga = 31 then none else some ((getG x ga).toNat, (getG x (ga + 1)).toNat)

/-! ### Hazards (R194, R196) -/

def Uses.grans (u : Uses) : BitVec 256 := granules u.o u.n ||| granules u.o2 u.n2

/-- Whether an operation's destination is among what an instruction uses. -/
def touches (u : Uses) : OpWrite → Bool
  | .dreg i _ _ => u.d.any fun r => decide (r.toNat = i)
  | .kreg i => u.k.any fun r => decide (r.toNat = i)
  | .scratch o bs _ => decide (granules o bs.length &&& u.grans ≠ 0)
  | .greg _ _ => false
  | .flags _ => false
  | .outcome _ => false

/-- The asynchronous fault an access takes (R196). -/
def asyncHit (x : SeatRun) (u : Uses) : Option AsyncFault :=
  x.asyncs.find? fun f => f.dsts.any (touches u)

/-- The wait an instruction stalls in: 2 register, 3 granule, 4 ticket (R194, R195, R211). -/
def stallCode (x : SeatRun) (u : Uses) : Option Nat :=
  if u.d.any (fun r => x.dPend.getLsbD r.toNat) ∨ u.k.any (fun r => x.kPend.getLsbD r.toNat) then some 2
  else if x.sPend &&& u.grans ≠ 0 then some 3
  else if x.tickets &&& u.mask ≠ 0 then some 4
  else match u.ticket with
    | some t => if x.tickets.getLsbD t then some 4 else none
    | none => none

/-- A wait of codes 2 to 4 that what an operation has written ends (R194, R211). -/
def rewait (x : SeatRun) : SeatRun :=
  match x.waitOn with
  | none => x
  | some u => match stallCode x u with
    | some c => { x with wait := BitVec.ofNat 4 c }
    | none => { x with wait := 0, waitOn := none }

/-- The seat waits for what an instruction uses. -/
def waitFor (u : Uses) (c : Nat) (x : SeatRun) : SeatRun := { x with wait := BitVec.ofNat 4 c, waitOn := some u }

/-! ### Registers as pairing names them (R175) -/

def gR (l : List (BitVec 5)) : List Nat := l.map BitVec.toNat
def dR (l : List (BitVec 4)) : List Nat := l.map fun r => 32 + r.toNat
def kR (l : List (BitVec 3)) : List Nat := l.map fun r => 48 + r.toNat

/-- What an instruction reads and writes. -/
structure Regs where
  reads  : List Nat := []
  writes : List Nat := []
  deriving DecidableEq, Repr

/-! ### Outcome of one instruction -/

/-- What an instruction does to its seat. -/
inductive IRes where
  | ok (x : SeatRun)                 -- done; execution goes on at the next index
  | goto (x : SeatRun) (pc : Nat)    -- done; execution goes on at an index
  | fault (cause reg : Nat)          -- synchronous fault: no effect (R206)
  | async (f : AsyncFault)           -- a failed operation's fault is taken (R196)
  | stall (u : Uses) (code : Nat)    -- the seat waits for what it uses; nothing happens (R194)
  deriving DecidableEq, Repr

/-- The hazards of R194 and R196 before an instruction. -/
def guarded (u : Uses) (x : SeatRun) (k : IRes) : IRes :=
  match asyncHit x u with
  | some f => .async f
  | none => match stallCode x u with
    | some c => .stall u c
    | none => k

/-- A comparing instruction spends one comparison, or faults COMPARE_BUDGET (R178). -/
def spendCompare (reg : Nat) (x : SeatRun) (k : SeatRun → IRes) : IRes :=
  if x.cmpLeft = 0 then .fault 0x0B reg else k { x with cmpLeft := x.cmpLeft - 1 }

end Sys2Proof.Machine
end

