-- ==== Sys2Proof/Machine/Seat.lean ====
section
/-!
DEFINITION. Seats (spec file 05): starting and ending a routine, faults, the instruction wrapper, and the routine
cache's part in issue (R172, R175, R200, R204 to R207, R225, R226, R235).
-/
namespace Sys2Proof.Machine

/-! ### Routines as an item names them (R13, R14, R229, R235) -/

def dRPart : Nat → RoutinePart := fun _ => {}
def dImage : Nat → Image := fun _ => {}
def getRPart (s : State) (p : Nat) : RoutinePart := Tab.get dRPart s.routines.parts p
def updRPart (p : Nat) (f : RoutinePart → RoutinePart) (s : State) : State :=
  { s with routines := { s.routines with parts := Tab.upd dRPart s.routines.parts p f } }

/-- The identifiers of the library's routines; no other below 0x0F00 but the store services names one (R239). -/
def libraryIds : List Nat :=
  [0x0100, 0x0101, 0x0110, 0x0200, 0x0300, 0x0301, 0x0400, 0x0401, 0x0500, 0x0600, 0x0601, 0x0602, 0x0603, 0x0610, 0x0611,
    0x0700, 0x0701, 0x0800, 0x0801, 0x0900, 0x0901]

/-- The routine a partition's identifier names: a library routine, or a custom one of its own that is in effect;
management identifiers name none on an engine die (R13, R14). -/
def routineImage (s : State) (p r : Nat) : Option Image :=
  if r < 0x0F00 then if ¬ libraryIds.contains r then none else (s.routines.library.find? fun e => e.1 == r).map fun e => { len := e.2 }
  else if r < 0x1000 then none
  else
    let m := Tab.get dImage (getRPart s p).loaded r
    if m.len = 0 then none else some m

/-- A seat runs a generation of a routine. -/
def genRuns (s : State) (p r gen : Nat) : Bool :=
  s.seats.any fun e => e.2.run.isSome && decide (e.2.part = p) && decide (e.2.routine = r) && decide (e.2.gen = gen)

/-- A routine's code replaced, or taken away: the store keeps what it replaces while a seat runs it (R235, R236). -/
def replaceImage (s : State) (p r : Nat) (m : Option Image) (x : RoutinePart) : RoutinePart :=
  let o := Tab.get dImage x.loaded r
  { x with
    old := if o.len ≠ 0 ∧ genRuns s p r o.gen = true then x.old ++ [(r, o)] else x.old
    loaded := match m with
      | some m => Tab.set dImage x.loaded r m
      | none => Tab.erase x.loaded r }

/-- A partition with no custom routine left but what its seats still run. -/
def noRoutines (s : State) (p : Nat) (x : RoutinePart) : RoutinePart :=
  let x := x.loaded.foldl (fun x e => replaceImage s p e.1 none x) x
  { x with entries := [], restored := false, pending := x.pending.map fun y => { y with image := none } }

/-- Replaced generations go with the last seat that runs them (R235). -/
def pruneOld (s : State) : State :=
  if s.routines.parts.all (fun e => decide (e.2.old = [])) = true then s
  else { s with routines := { s.routines with parts := Tab.mapVals dRPart (fun p x =>
    { x with old := x.old.filter fun e => genRuns s p e.1 e.2.gen }) s.routines.parts } }

/-- The mode of a routine: true Jaser (R142). -/
def routineMode (s : State) (p r : Nat) : Option Bool := (routineImage s p r).map Image.jaser

/-- The tag partition of a routine's cache lines: none for the library (R225). -/
def linePart (p r : Nat) : Option Nat := if r < 0x0F00 then none else some p

/-- The tag of a routine's line (R225). -/
def lineTag (p r gen idx : Nat) : RLine := { part := linePart p r, routine := r, gen := gen, index := idx }

/-- Two lines have one tag. -/
def sameLine (a b : RLine) : Bool :=
  decide (a.part = b.part) && decide (a.routine = b.routine) && decide (a.gen = b.gen) && decide (a.index = b.index)

/-- A line is in a troupe's routine cache. -/
def lineIn (t : Troupe) (p r gen idx : Nat) : Bool := t.lines.any (sameLine (lineTag p r gen idx))

/-- The tag of the line of the seat's next instruction. -/
def seatLine (s : State) (k : Nat) : RLine :=
  let st := getSeat s k
  lineTag st.part st.routine st.gen (st.x.pc / 64)

/-- The line of the seat's next instruction is present (R175, R226). -/
def lineHere (s : State) (k : Nat) : Bool := (getTroupe s (troupeOfSeat k)).lines.any (sameLine (seatLine s k))

/-- That line holds an uncorrectable word (R225). -/
def lineBad (s : State) (k : Nat) : Bool :=
  (getTroupe s (troupeOfSeat k)).lines.any fun l => sameLine (seatLine s k) l && decide (l.ecc = some true)

/-- Lines of a routine of N instructions. -/
def linesOf (n : Nat) : Nat := (n + 63) / 64

/-- Fetches of a routine's lines start on a troupe for those neither present nor on their way (R226). -/
def fetchLines (t p r gen : Nat) (idxs : List Nat) (s : State) : State :=
  updTroupe t (fun y => { y with fetching := idxs.foldl (fun l j =>
    if (y.lines ++ l).any (sameLine (lineTag p r gen j)) then l else l ++ [lineTag p r gen j]) y.fetching }) s

/-- The first two lines of a command's routine are fetched for the seat it is placed at (R226). -/
def prefetch (k p r : Nat) (s : State) : State :=
  match routineImage s p r with
  | none => s
  | some m => fetchLines (troupeOfSeat k) p r m.gen (List.range (min 2 (linesOf m.len))) s

/-- A seat's miss: the line, and the further lines of its routine after it (R226; assumption log 69). -/
def missLine (k : Nat) (s : State) : State :=
  let st := getSeat s k
  fetchLines (troupeOfSeat k) st.part st.routine st.gen ((List.range (linesOf st.len)).drop (st.x.pc / 64)) s

/-! ### Seat status -/

def seatFree (s : State) (k : Nat) : Bool := (getSeat s k).run.isNone

/-- A seat that runs a routine on a powered die, is not suspended and has not ended its routine. -/
def seatRuns (s : State) (k : Nat) : Bool :=
  let st := getSeat s k
  decide (k < nSeats s.part.variant) && st.run.isSome && !st.suspended && st.x.ending.isNone &&
    decide (dieState s (dieOfSeat k) = .active)

def dPerf : Nat → Performer := fun _ => {}
def getPerf (s : State) (n : Nat) : Performer := Tab.get dPerf s.performers n
def updPerf (n : Nat) (f : Performer → Performer) (s : State) : State :=
  { s with performers := Tab.upd dPerf s.performers n f }

/-- The seat's state a routine sees, changed. -/
def setRun (k : Nat) (x : SeatRun) (s : State) : State := updSeat k (fun st => { st with x := x }) s

/-! ### Start (R148, R172, R198, R199) -/

/-- The context block (R199). -/
def contextBlock (i : Item) (k : Nat) : Bytes :=
  toLE 2 i.routine ++ [BitVec.ofNat 8 i.part, BitVec.ofNat 8 i.prio] ++ slice 4 2 i.raw ++ slice 6 2 i.raw ++
  toLE 8 i.seq ++ toLE 8 i.arrival.toNat ++ toLE 8 i.deadline.toNat ++ toLE 2 k ++ zeros 30

/-- The operand bank of a command, native or Jaser (R198). -/
def operandBank (i : Item) (k : Nat) : Bytes :=
  let body := if i.jaser then fit 128 i.raw
    else fit 128 ((i.raw.drop 24).take 40 ++ (i.raw.drop 65).take 63)
  body ++ zeros 64 ++ contextBlock i k

/-- The seat's run state before the first instruction (R172). -/
def freshRun (i : Item) (k : Nat) : SeatRun := { opnd := operandBank i k }

/-- Whether a parity failure of the seat's state will show in this run, and after how many instructions, is a free value
(R205; assumption log 70). -/
def startRun (i : Item) (k : Nat) : SeatRun := { freshRun i k with parityAt := Config.seatParity k i.id }

/-- The wing item of a seat with no routine starts; one whose routine is no longer in effect completes with
ROUTINE_NOT_LOADED unexecuted (R148, R236). -/
def startSeat (k : Nat) (s : State) : State :=
  match wingItem s k with
  | none => s
  | some i =>
    match routineImage s i.part i.routine with
    | none => finish i.id stROUTINE_NOT_LOADED [] false s
    | some m =>
      let s := updItem i.id (fun i => { i with place := .seat k, seatNo := k, startAt := s.time.time64, begun := true })
        (calSample 1 i.part (now s - i.arrival.toNat) s)
      let s := updSeat k (fun st => { st with
        run := some i.id, part := i.part, routine := i.routine, gen := m.gen, len := m.len, busyAt := s.time.time64
        x := startRun i k, started := st.started + 1 }) s
      let s := updPerf (performerOfSeat k) (fun p => { p with started := p.started + 1 }) s
      traceItem 0x21 k (dieOfSeat k) i s

/-! ### End (R172, R200, R206, R209) -/

/-- The seat at its start state; its fault latch and counts stay. -/
def clearedSeat (st : Seat) : Seat :=
  { fault := st.fault, started := st.started, faults := st.faults }

def dEntry : Nat → CacheEntry := fun _ => {}

/-- A die's key cache changed. -/
def updKc (die : Nat) (f : KeyCache → KeyCache) (s : State) : State := updDie die (fun d => { d with kc := f d.kc }) s

/-- One pin of an entry released; an entry no reference names goes with its last pin (R174, R318, R323). -/
def unpinEntry (e : Nat) (c : KeyCache) : KeyCache :=
  let x := Tab.get dEntry c.entries e
  { c with entries := if x.ref = 0 ∧ x.pins ≤ 1 then Tab.erase c.entries e
    else Tab.set dEntry c.entries e { x with pins := x.pins - 1 } }

/-- One more pin on an entry. -/
def pinEntry (e : Nat) (c : KeyCache) : KeyCache :=
  { c with entries := Tab.upd dEntry c.entries e fun x => { x with pins := x.pins + 1 } }

def unpin (die e : Nat) (s : State) : State := updKc die (unpinEntry e) s
def pin (die e : Nat) (s : State) : State := updKc die (pinEntry e) s

/-- The key-cache entries a run state's k registers and hash context hold, a pin each. -/
def heldPins (x : SeatRun) : List Nat :=
  List.filterMap (fun (e : Nat × Option Handle) => e.2.map Handle.entry) x.k ++ (x.hash.bind HashCtx.pin).toList

/-- Every k register of a seat closed, and its hash context freed (R172, R174, R270, R294). -/
def releaseKeys (k : Nat) (s : State) : State := (heldPins (getSeat s k).x).foldl (fun s e => unpin (dieOfSeat k) e s) s

/-- Seat 1 of a Jaser performer ending resumes seat 0 (R151). -/
def resumeZero (k : Nat) (s : State) : State :=
  if k % 4 = 1 ∧ (getSeat s (k - 1)).suspended then
    let s := updSeat (k - 1) (fun st => { st with suspended := false }) s
    match seatItem s (k - 1) with
    | some j => traceItem 0x24 (k - 1) (dieOfSeat k) j s
    | none => s
  else s

/-- The time of a seat's routine counted in its performer's load (R166); nothing after it pairs with its last
instruction (R175). -/
def countBusy (k : Nat) (s : State) : State :=
  updPerf (performerOfSeat k) (fun p => { p with
    busyNs := p.busyNs + (now s - (getSeat s k).busyAt.toNat), cur := none, last := none }) s

/-- The routine of a seat is over: the RESULT travels to the Carousel, the seat clears and its wing item starts (R148,
R172, R200). -/
def leaveSeat (k : Nat) (o : Outcome) (s : State) : State :=
  match (getSeat s k).run with
  | none => s
  | some id =>
    let d := dieOfSeat k
    let s := updItem id (fun i => { i with place := .returning d, outcome := some o }) s
    let s := updDie d (fun x => { x with resultQ := x.resultQ ++ [id] }) s
    let s := pruneOld (updSeat k clearedSeat (releaseKeys k (countBusy k s)))
    startSeat k (resumeZero k s)

/-- The routine of a seat ends with an outcome, once its outstanding operations have ended; `ok`: by END, so that a
failure among them still faults it (R196, R200, R206). -/
def endWith (k : Nat) (ok : Bool) (o : Outcome) (s : State) : State :=
  if (getSeat s k).x.ops = [] then leaveSeat k o s
  else updSeat k (fun st => { st with x := { st.x with ending := some o, endOk := ok, wait := 8, waitOn := none } }) s

/-- A fault's end: what is outstanding is discarded as it ends (R206). -/
def endRoutine (k : Nat) (o : Outcome) (s : State) : State := endWith k false o s

/-- An operation of the seat has ended: a routine that waited for its last one ends now (R200, R206). -/
def opDrained (k : Nat) (s : State) : State :=
  let x := (getSeat s k).x
  match x.ending with
  | some o => if x.ops = [] then leaveSeat k o s else s
  | none => s

/-- STATUS of a fault cause (R205). -/
def faultStatus (cause : Nat) : Byte :=
  if cause = 0x0A ∨ cause = 0x0B then stTAINT_VIOLATION
  else if cause = 0x0C then stKEY_USAGE
  else if cause = 0x0D then stKEY_STALE
  else if cause = 0x0E then stKEY_NOT_FOUND
  else if cause = 0x0F then stKEY_BLOCK_AUTH
  else if cause = 0x10 then stOPERAND_FORMAT
  else if cause = 0x11 ∨ cause = 0x13 then stABORTED
  else if cause = 0x12 ∨ cause = 0x15 then stPOISONED
  else if cause = 0x14 then stNOT_READY
  else stROUTINE_FAULT

/-- The fault record, RESULT bytes 16 to 31 (R207). -/
def faultRecord (cause opcode pc reg : Nat) (async : Bool) (instrs iterLeft : Nat) : Bytes :=
  [BitVec.ofNat 8 cause, BitVec.ofNat 8 (opcode % 64)] ++ toLE 2 pc ++
  [BitVec.ofNat 8 reg, BitVec.ofNat 8 (b2n async), 0, 0] ++ toLE 4 instrs ++ toLE 4 (65536 - iterLeft)

/-- A fault of a seat: latched, counted, and the routine's end (R206, R212, R213, R481). -/
def seatFault (k cause opcode pc reg : Nat) (async : Bool) (s : State) : State :=
  let st := getSeat s k
  let rec_ := faultRecord cause opcode pc reg async st.x.instrs.toNat st.x.iterLeft.toNat
  let s := setSeat k { st with
    faults := st.faults + 1
    fault := { valid := true, cause := BitVec.ofNat 8 cause, opcode := BitVec.ofNat 6 opcode, async := async
               pc := BitVec.ofNat 12 pc, part := BitVec.ofNat 8 st.part, routine := BitVec.ofNat 16 st.routine } } s
  let s := calEventDie (dieOfSeat k) (0x100 + cause) (some st.part) k (leNat (rec_.take 4)) s
  endRoutine k { status := faultStatus cause, data := rec_ } s

/-! ### One instruction (R175, R202 to R206) -/

/-- Loop ends reached at an index: the next iteration, or the loop popped and its enclosing one asked (R202, R203). -/
def loopEnds : List LoopFrame → Nat → List LoopFrame × Nat
  | [], pc => ([], pc)
  | f :: r, pc =>
    if pc = f.last + 1 then
      if 1 < f.left then ({ f with left := f.left - 1 } :: r, f.start) else loopEnds r pc
    else (f :: r, pc)

/-- Execution goes on at an index. -/
def goTo (pc : Nat) (x : SeatRun) : SeatRun :=
  let r := loopEnds x.loops pc
  { x with loops := r.1, pc := r.2, instrs := x.instrs + 1, wait := 0, waitOn := none, waitQ := none, waitRnd := none }

/-- Major opcodes that no second instruction may issue with: BR, LOOP, BRK, END, WAIT (R175). -/
def issuesLast (c : Nat) : Bool := [0x30, 0x31, 0x32, 0x33, 0x34].contains c

/-- Major opcodes that submit to a unit, the key cache or the host link (R175, R190, R192, R193). -/
def submits (c : Nat) : Bool :=
  [0x0A, 0x0B, 0x0C, 0x0D, 0x0E, 0x1C, 0x1D, 0x1E, 0x28, 0x29, 0x2A, 0x2B, 0x2C, 0x2D, 0x2E, 0x2F, 0x36, 0x38, 0x3B, 0x3C,
    0x3D, 0x3E, 0x3F].contains c

/-- Major opcodes that access a buffer or scratch (R175, R188, R190, R192, R193). -/
def buffers (c : Nat) : Bool :=
  [0x0A, 0x0B, 0x0C, 0x0D, 0x0E, 0x1D, 0x1E, 0x20, 0x21, 0x22, 0x23, 0x24, 0x25, 0x26, 0x27, 0x2A, 0x2B, 0x2C, 0x2D, 0x2E,
    0x2F, 0x36, 0x3D, 0x3E].contains c

/-- R175's conditions for two instructions of a performer to issue together. -/
def mayPair (a b : Issue) : Bool :=
  decide (a.seat = b.seat) && !issuesLast a.code && b.reads.all (fun r => decide (r = 0) || !a.writes.contains r) &&
  !(buffers a.code && buffers b.code) && !(submits a.code && submits b.code)

/-- An instruction issued: in a cycle of its own, or together with the one before it where R175 allows; whether such a
pair does issue together is a free value (assumption log 21). -/
def Performer.issued (id n : Nat) (p : Performer) : Performer :=
  match p.last, p.cur with
  | some a, some b =>
    if mayPair a b && Config.pairs id n then { p with dual := p.dual + 1, last := none }
    else { p with issue := p.issue + 1, last := some b }
  | _, c => { p with issue := p.issue + 1, last := c }

/-- The issue of a seat's instruction counted (R214). -/
def countIssue (k : Nat) (s : State) : State :=
  let st := getSeat s k
  updPerf (performerOfSeat k) (Performer.issued (st.run.getD 0) st.x.instrs.toNat) s

/-- Execution goes on at an index: a PC_RANGE fault where it is at or beyond the routine's length (R202).  No instruction
stands there, so the record's major opcode (R207) is a free value (log 43). -/
def advance (k pc : Nat) (x : SeatRun) (s : State) : State :=
  let y := goTo pc x
  let s := setRun k y s
  if (getSeat s k).len ≤ y.pc then
    seatFault k 0x02 ((Config.freeWord s.freeCtr).toNat % 64) y.pc 255 false { s with freeCtr := s.freeCtr + 1 }
  else s

/-- An instruction done: its issue counted, and execution goes on (R202, R204, R214). -/
def commit (k pc : Nat) (x : SeatRun) (s : State) : State := advance k pc x (countIssue k s)

/-- The outcome of one instruction applied to its seat. -/
def applyIRes (k opc : Nat) (r : IRes) (s : State) : State :=
  let x := (getSeat s k).x
  match r with
  | .ok y => commit k (x.pc + 1) y s
  | .goto y pc => commit k pc y s
  | .fault c reg => seatFault k c opc x.pc reg false s
  | .async f => seatFault k f.cause f.opcode f.pc f.reg true s
  | .stall u c => setRun k (waitFor u c x) s

/-- The line a seat's instruction comes from becomes the most recently used one of its troupe; a single-bit error in it is
corrected and counted (R225). -/
def touchLine (k : Nat) (s : State) : State :=
  let hit := sameLine (seatLine s k)
  let u := s.routines.useCtr
  updTroupe (troupeOfSeat k) (fun t => { t with
      eccFixed := t.eccFixed + (t.lines.filter fun l => hit l && decide (l.ecc = some false)).length
      lines := t.lines.map fun l => if hit l then { l with used := u + 1, ecc := none } else l })
    { s with routines := { s.routines with useCtr := u + 1 } }

/-- The seat's line invalidated (R225). -/
def dropLine (k : Nat) (s : State) : State :=
  let hit := sameLine (seatLine s k)
  updTroupe (troupeOfSeat k) (fun t => { t with lines := t.lines.filter fun l => !hit l }) s

/-- A parity failure of the seat's state has come (R205). -/
def parityDue (x : SeatRun) : Bool := match x.parityAt with
  | some n => decide (n ≤ x.instrs.toNat)
  | none => false

/-- The instruction a performer has at issue. -/
def noteInstr (k opc : Nat) (io : Regs) (s : State) : State :=
  updPerf (performerOfSeat k) (fun p => { p with cur := some { seat := k, code := opc, reads := io.reads, writes := io.writes } }) s

/-- A seat that runs a custom routine: a library routine's instructions are its service row's (R244). -/
def custom (s : State) (k : Nat) : Bool := decide (0x1000 ≤ (getSeat s k).routine)

/-- A seat executes an instruction of major opcode `opc` that reads and writes the registers `io`: nothing while the seat
does not run, or the one before it is not done; a fetch where its routine-cache line is absent; STATE_PARITY for a line or
a seat that fails its check; INSTR_BUDGET once 1,048,576 instructions have run (R175, R204, R205, R225, R226). -/
def seatInstr (k opc : Nat) (io : Regs) (body : SeatRun → State → State) (s : State) : State :=
  let x := (getSeat s k).x
  if ¬ (seatRuns s k ∧ custom s k) ∨ x.ops.any (fun o => o.try_ || o.sync) = true then s
  else if ¬ lineHere s k then missLine k s
  else if lineBad s k then seatFault k 0x15 opc x.pc 255 false (dropLine k s)
  else
    let s := noteInstr k opc io (touchLine k s)
    if parityDue x then seatFault k 0x15 opc x.pc 255 false s
    else if x.instrs.toNat = 1048576 then seatFault k 0x06 opc x.pc 255 false s
    else body x s

/-- An instruction that touches nothing but its seat. -/
def onSeat (k opc : Nat) (io : Regs) (body : SeatRun → IRes) (s : State) : State :=
  seatInstr k opc io (fun x s => applyIRes k opc (body x) s) s

end Sys2Proof.Machine
end

