-- ==== Sys2Proof/Machine/Units.lean ====
section
/-!
DEFINITION. Units as the seats see them (R268 to R275, R195): numbering, readiness, queues, the DRBG's troupe buffer
(R297), and submitting an operation.
-/
namespace Sys2Proof.Machine

/-! ### Unit registers (R268, R301) -/

def dUnit : Nat → UnitState := fun _ => {}
def dScu : Nat → Scu := fun _ => {}

/-- The register block of a block unit, MAU or hash unit. -/
def getUnit (s : State) (u : OpUnit) (n : Nat) : UnitState := match u with
  | .block => Tab.get dUnit s.units.blk n
  | .mau => Tab.get dUnit s.units.mau n
  | .hash => Tab.get dUnit s.units.hsh n
  | .scu => {}
  | .host => {}
  | .key => {}

def updUnit (u : OpUnit) (n : Nat) (f : UnitState → UnitState) (s : State) : State := match u with
  | .block => { s with units := { s.units with blk := Tab.upd dUnit s.units.blk n f } }
  | .mau => { s with units := { s.units with mau := Tab.upd dUnit s.units.mau n f } }
  | .hash => { s with units := { s.units with hsh := Tab.upd dUnit s.units.hsh n f } }
  | .scu => s
  | .host => s
  | .key => s

def getScu (s : State) (d : Nat) : Scu := Tab.get dScu s.units.scu d
def updScu (d : Nat) (f : Scu → Scu) (s : State) : State :=
  { s with units := { s.units with scu := Tab.upd dScu s.units.scu d f } }
def updRng (f : Rng → Rng) (s : State) : State := { s with units := { s.units with rng := f s.units.rng } }

/-- The unit of a kind that a seat submits to: block unit 0 serves performers 0 to 3 (R275). -/
def unitOfSeat (u : OpUnit) (k : Nat) : Nat := match u with
  | .block => 2 * troupeOfSeat k + (if k % 32 < 16 then 0 else 1)
  | _ => troupeOfSeat k

/-- The engine die of a block unit, MAU or hash unit. -/
def unitDie (u : OpUnit) (n : Nat) : Nat := if u = .block then n / 8 else n / 4

/-- A die that is powered and whose copy of TIME64 is aligned: its functions may run and report (R31). -/
def dieUp (s : State) (d : Nat) : Bool := decide (dieState s d = .active) && (getDie s d).aligned

/-- The seats that submit to a unit. -/
def seatsOfUnit (u : OpUnit) (n : Nat) : List Nat := match u with
  | .block => (List.range 16).map (16 * n + ·)
  | _ => seatsOfTroupe n

/-- The operations a unit has taken and not ended. -/
def unitOps (s : State) (u : OpUnit) (n : Nat) : List PendOp :=
  (seatsOfUnit u n).flatMap fun k => (getSeat s k).x.ops.filter fun o => decide (o.unit = u)

/-- Queue entries of a unit (R195). -/
def unitDepth (u : OpUnit) : Nat := match u with
  | .block => 16
  | _ => 8

/-! ### Pending destinations (R194) -/

/-- The pending bits and tickets that outstanding operations hold. -/
def recalcOp (o : PendOp) (x : SeatRun) : SeatRun :=
  let x := o.dsts.foldl (fun x w => match w with
    | .dreg i _ _ => { x with dPend := setBit x.dPend i }
    | .kreg i => { x with kPend := setBit x.kPend i }
    | .greg _ _ => x
    | .flags _ => x
    | .outcome _ => x
    | .scratch a bs _ => { x with sPend := x.sPend ||| granules a bs.length }) x
  match o.ticket with
  | some t => { x with tickets := setBit x.tickets t }
  | none => x

def recalc (x : SeatRun) : SeatRun :=
  x.ops.foldl (fun x o => recalcOp o x) { x with dPend := 0, kPend := 0, sPend := 0, tickets := 0 }

/-- A result written where an operation names (R176, R194). -/
def applyWrite (x : SeatRun) : OpWrite → SeatRun
  | .dreg i v t => setD (BitVec.ofNat 4 i) v t x
  | .scratch a bs t => putScratch a bs t x
  | .kreg _ => x
  | .greg i v => setG (BitVec.ofNat 5 i) v x
  | .flags eq => cmpFlags eq x
  | .outcome _ => x

/-! ### Submission (R194, R195, R270) -/

/-- The entries a seat pins by its registers, its hash context and its outstanding operations, each once (R323). -/
def pinnedBy (x : SeatRun) : List Nat := (heldPins x ++ x.ops.flatMap PendOp.pins).eraseDups

/-- Entries a seat pins, with the fills and new keys it has started (R323). -/
def seatPins (x : SeatRun) : Nat :=
  (pinnedBy x).length + (x.ops.filter fun o => decide (o.unit = .key) || o.newKey.isSome).length

/-- The k register an operation writes. -/
def kDst (o : PendOp) : Option Nat := o.dsts.findSome? fun w => match w with
  | .kreg i => some i
  | .dreg _ _ _ => none
  | .scratch _ _ _ => none
  | .greg _ _ => none
  | .flags _ => none
  | .outcome _ => none

/-- The handle a k register holds released (R174, R323). -/
def dropK (k : Nat) (r : BitVec 3) (x : SeatRun) (s : State) : SeatRun × State :=
  match getK x r with
  | none => (x, s)
  | some h => (setK r none x, unpin (dieOfSeat k) h.entry s)

/-- An operation taken up: its keys are pinned, the handle its k register held is released, and it takes its place in
order of arrival. -/
def takeUp (k : Nat) (o : PendOp) (x : SeatRun) (s : State) : SeatRun × State :=
  let s := o.pins.foldl (fun s e => pin (dieOfSeat k) e s) s
  let (x, s) := match kDst o with
    | some i => dropK k (BitVec.ofNat 3 i) x s
    | none => (x, s)
  (recalc { x with ops := x.ops ++ [{ o with at_ := s.units.opCtr }] }, { s with units := { s.units with opCtr := s.units.opCtr + 1 } })

/-- An operation submitted: its destinations become pending, and execution goes on; an instruction whose result no
scoreboard guards waits for its end (R194; assumption log 71). -/
def submit (k : Nat) (o : PendOp) (x : SeatRun) (s : State) : State :=
  let (y, s) := takeUp k o x s
  if o.sync ∨ o.try_ then setRun k { y with wait := if o.try_ then 6 else 2, waitOn := none } (countIssue k s)
  else commit k (x.pc + 1) y s

/-- The seat waits for room in a queue or for DRBG output, in state 5, or for a pin, in state 6 (R211). -/
def waitIn (k c : Nat) (q : Option OpUnit) (x : SeatRun) (s : State) : State :=
  setRun k { x with wait := BitVec.ofNat 4 c, waitOn := none, waitQ := q } s

/-- A unit's part in an instruction: UNIT_NOT_READY, a stall while its queue is full, or the body (R195, R272). -/
def withUnit (k opc : Nat) (u : OpUnit) (x : SeatRun) (s : State) (body : State → State) : State :=
  let n := unitOfSeat u k
  if ¬ (getUnit s u n).ready then seatFault k 0x14 opc x.pc 255 false s
  else if unitDepth u ≤ (unitOps s u n).length then waitIn k 5 (some u) x s
  else body s

/-- A unit takes no operation on while a KAT is requested or runs (R273). -/
def unitHeld (s : State) (u : OpUnit) (k : Nat) : Bool :=
  let y := getUnit s u (unitOfSeat u k)
  y.katReq || y.katBusy

/-- An operation for a block unit, MAU or hash unit; `y` is the seat's run state as the instruction leaves it. -/
def submitAs (k : Nat) (o : PendOp) (x y : SeatRun) (s : State) : State :=
  withUnit k o.opcode o.unit x s fun s => submit k { o with held := unitHeld s o.unit k } y s

def submitUnit (k : Nat) (o : PendOp) (x : SeatRun) (s : State) : State := submitAs k o x x s

/-- Room in a queue that serves these seats: those that waited for it go on (R195, R211). -/
def wakeSeats (u : OpUnit) (l : List Nat) (s : State) : State :=
  l.foldl (fun s k => let x := (getSeat s k).x
    if x.wait = 5 ∧ x.waitQ = some u then setRun k { x with wait := 0, waitQ := none } s else s) s

def wakeUnit (u : OpUnit) (n : Nat) (s : State) : State := wakeSeats u (seatsOfUnit u n) s

/-- A unit's work counted (R301). -/
def countOps (u : OpUnit) (k n : Nat) (s : State) : State :=
  updUnit u (unitOfSeat u k) (fun x => { x with ops := x.ops + BitVec.ofNat 64 n }) s

/-! ### The DRBG (R296 to R298) -/

/-- `n` bytes of DRBG output from draw number `c` on. -/
def drbgBytes (c n : Nat) : Bytes :=
  ((List.range ((n + 15) / 16)).flatMap fun i => toBE 16 (Config.drbg (c + i)).toNat).take n

/-- DRBG output drawn on the control die. -/
def drawRoot (n : Nat) (s : State) : Bytes × State :=
  (drbgBytes s.freeCtr n, updRng (fun r => { r with reqs := r.reqs + (n + 63) / 64 }) { s with freeCtr := s.freeCtr + (n + 15) / 16 })

/-- Every DRBG has stopped after a health failure (R298). -/
def drbgDown (s : State) : Bool := s.units.rng.recovering || s.units.rng.failed

/-- An instruction that takes `n` bytes from its troupe's buffer: UNIT_NOT_READY while the generators are stopped, a
stall while the buffer is short (R187, R297, R298). -/
def withDrbg (k opc n : Nat) (x : SeatRun) (s : State) (body : Bytes → State → State) : State :=
  let t := troupeOfSeat k
  if drbgDown s then seatFault k 0x14 opc x.pc 255 false s
  else if (getTroupe s t).drbgBuf < n then waitIn k 5 none { x with waitRnd := some opc } s
  else body (drbgBytes s.freeCtr n)
    (updTroupe t (fun y => { y with drbgBuf := y.drbgBuf - n }) { s with freeCtr := s.freeCtr + (n + 15) / 16 })

/-! ### Library routines (spec file 07) -/

/-- How many instructions a library routine has issued is not stated: free counts. -/
def libCounts (k : Nat) (s : State) : State :=
  let w (n : Nat) : Word64 := Config.freeWord (s.freeCtr + n)
  updPerf (performerOfSeat k) (fun p => { p with
    issue := p.issue + (w 0).setWidth 32, dual := p.dual + (w 1).setWidth 32 }) { s with freeCtr := s.freeCtr + 2 }

/-- A library routine faults with a cause; the rest of its record is free. -/
def libFault (k cause : Nat) (s : State) : State :=
  let w := Config.freeWord s.freeCtr
  let v := Config.freeWord (s.freeCtr + 1)
  let s := updSeat k (fun st => { st with x := { st.x with instrs := v.setWidth 21, iterLeft := (v >>> 21).setWidth 17 } })
    { s with freeCtr := s.freeCtr + 2 }
  seatFault k cause (fld w 5 0) (fld w 17 6) (fld w 25 18) (bitOf w 26) (libCounts k s)

/-- The unit a library routine needs (R195, R272, R273): UNIT_NOT_READY; a wait for room in its queue, which undoes the
row (`onLib`); else the routine's operation there, of a free number of blocks. -/
def libUnit (k : Nat) (u : OpUnit) (s : State) (body : State → State) : State :=
  let n := unitOfSeat u k
  let x := (getSeat s k).x
  let w := Config.freeWord s.freeCtr
  if ¬ (getUnit s u n).ready then libFault k 0x14 s
  else if x.ops.any (fun o => o.unit == u) then body s
  else if unitDepth u ≤ (unitOps s u n).length then waitIn k 5 (some u) x s
  else body { setRun k { x with ops := x.ops ++ [{ unit := u, opcode := fld w 5 0, pc := fld w 17 6, blocks := fld w 33 18, lib := true
                                                   held := unitHeld s u k, at_ := s.units.opCtr }] } s with
    freeCtr := s.freeCtr + 1, units := { s.units with opCtr := s.units.opCtr + 1 } }

/-! ### Faults and stalls of instructions that touch more than their seat -/

/-- The hazards of R194 and R196 before an instruction. -/
def guardedS (k : Nat) (u : Uses) (x : SeatRun) (s : State) (body : State → State) : State :=
  match asyncHit x u with
  | some f => seatFault k f.cause f.opcode f.pc f.reg true s
  | none => match stallCode x u with
    | some c => setRun k (waitFor u c x) s
    | none => body s

end Sys2Proof.Machine
end

