-- ==== Sys2Proof/Machine/Keys.lean ====
section
/-!
DEFINITION. The Cage's slots, the key directory and the key caches as shared operations (R307 to R330).
-/
namespace Sys2Proof.Machine

/-! ### Cage records (R309 to R311) -/

def dRec : Nat → CageRec := fun _ => {}

/-- Key of a slot in the slot tables. -/
def slotNo (p sl : Nat) : Nat := 8 * p + sl

def slotRec (s : State) (p sl : Nat) : CageRec := Tab.get dRec s.cage.slots (slotNo p sl)

/-- The active bank (R310). -/
def CageRec.active (r : CageRec) : Bytes := if r.bank then r.bankB else r.bankA

/-- The key of a slot record, at its algorithm's length. -/
def CageRec.key (r : CageRec) : Bytes := fit (keyLen r.alg.toNat) r.active

/-- New contents in the inactive bank, then the commit word: BANK there, SEQ one more (R311). -/
def CageRec.commit (r : CageRec) (contents : Bytes) : CageRec :=
  if r.bank then { r with bankA := fit 32 contents, bank := false, seq := r.seq + 1 }
  else { r with bankB := fit 32 contents, bank := true, seq := r.seq + 1 }

/-- One bit of CRC-16/CCITT-FALSE. -/
def crc16Bit (c : BitVec 16) : BitVec 16 := if c.getLsbD 15 then (c <<< 1) ^^^ 0x1021 else c <<< 1

/-- CRC-16/CCITT-FALSE. -/
def crc16 (b : Bytes) : BitVec 16 :=
  b.foldl (fun (c : BitVec 16) (x : Byte) => Nat.repeat crc16Bit 8 (c ^^^ BitVec.ofNat 16 (x.toNat * 256))) 0xFFFF

/-- Bits 63:16 of a commit word (R310). -/
def CageRec.head (r : CageRec) : Nat :=
  r.word.toNat * 2 ^ 16 + b2n r.valid * 2 ^ 15 + b2n r.bank * 2 ^ 14 + r.role.toNat * 2 ^ 12 + r.alg.toNat * 2 ^ 8 + r.seq.toNat

/-- CHECK recomputed over bits 63:16, lowest byte first (DESIGN CHOICE, assumption log 38), and the active bank as stored. -/
def CageRec.withCheck (stored : Bytes) (r : CageRec) : CageRec := { r with check := crc16 (toLE 6 r.head ++ fit 32 stored) }

/-- The active bank of slot record `n` as stored: AES-256 in XTS mode under the device KEK, tweak n × 256 + SEQ (R310). -/
def slotStored (s : State) (n : Nat) (r : CageRec) : Bytes :=
  Config.xts false 5 s.vault.dkek (n * 256 + r.seq.toNat) (fit 32 r.active)

def setSlot (p sl : Nat) (r : CageRec) (s : State) : State :=
  { s with cage := { s.cage with
      slots := Tab.set dRec s.cage.slots (slotNo p sl) (r.withCheck (slotStored s (slotNo p sl) r)) } }

/-- A record whose banks are not encrypted: a manifest, a registry or a secret. -/
def CageRec.plain (r : CageRec) : CageRec := r.withCheck r.active

def manRec (s : State) (p : Nat) : CageRec := Tab.get dRec s.cage.mans p
def regRec (s : State) (p : Nat) : CageRec := Tab.get dRec s.cage.regs p
def setMan (p : Nat) (r : CageRec) (s : State) : State :=
  { s with cage := { s.cage with mans := Tab.set dRec s.cage.mans p r.plain } }
def setReg (p : Nat) (r : CageRec) (s : State) : State :=
  { s with cage := { s.cage with regs := Tab.set dRec s.cage.regs p r.plain } }

/-- A digest record's contents: 32 zero bytes where nothing has been written. -/
def CageRec.digest (r : CageRec) : Bytes := fit 32 r.active

/-! ### Generations (R327 to R329) -/

def dGen : Nat → Word32 := fun _ => 0

/-- A slot's generation in a die's table. -/
def dieGen (s : State) (d p sl : Nat) : Word32 := Tab.get dGen (getDie s d).kc.gens (slotNo p sl)

/-- A GEN change sent to every active and retained die; a retained die keeps it queued until it wakes (R327, R329). -/
def sendGen (p sl : Nat) (g : Word32) (s : State) : State :=
  let s := calEvent 0x172 (some p) sl g.toNat s
  (List.range (nDies s.part.variant)).foldl (fun s d =>
    if dieKept s d then updKc d (fun c => { c with genQ := c.genQ ++ [(slotNo p sl, g)] }) s else s) s

/-- The oldest change applied by a die (R327, R328). -/
def applyGen (c : KeyCache) : KeyCache :=
  match c.genQ with
  | [] => c
  | (k, g) :: r => { c with genQ := r, gens := Tab.set dGen c.gens k g, applied := c.applied + 1 }

/-- Every queued change applied, in order. -/
def applyGens (c : KeyCache) : KeyCache := c.genQ.foldl (fun c _ => applyGen c) c

/-- The whole table loaded from the Cage when a die that was off is switched on (R329). -/
def loadGens (s : State) (c : KeyCache) : KeyCache :=
  let l := s.cage.slots.map fun e => (e.1, e.2.word)
  { c with genQ := [], gens := List.filter (fun (e : Nat × Word32) => decide (e.2 ≠ 0)) l }

/-- A change to a slot reaches no active die any more: it has been applied everywhere it must be before a service
completes (R329). -/
def gensApplied (s : State) : Bool :=
  (List.range (nDies s.part.variant)).all fun d =>
    decide (dieState s d ≠ .active) || decide ((getDie s d).kc.genQ = [])

/-! ### The cache of a die (R319, R321, R322) -/

def usedUnits (c : KeyCache) : Nat := (c.entries.map fun e => e.2.units).sum
def pinnedUnits (c : KeyCache) : Nat := (c.entries.map fun e => if e.2.pins = 0 then 0 else e.2.units).sum
def transientUnits (c : KeyCache) : Nat := (c.entries.map fun e => if e.2.kind = 2 then e.2.units else 0).sum

/-- The least recently used entry that is neither pinned nor transient. -/
def oldestFree (c : KeyCache) : Option Nat :=
  ((List.filter (fun (e : Nat × CacheEntry) => decide (e.2.pins = 0) && decide (e.2.kind ≠ 2)) c.entries).foldl
    (fun b e => match b with
      | none => some e
      | some b => if e.2.age < b.2.age then some e else some b)
    (none : Option (Nat × CacheEntry))).map Prod.fst

/-- Room made for `n` units by eviction (R322); `fuel` bounds the entries. -/
def makeRoom : Nat → Nat → KeyCache → KeyCache
  | 0, _, c => c
  | k + 1, n, c =>
    if usedUnits c + n ≤ 32768 then c
    else match oldestFree c with
      | none => c
      | some e => makeRoom k n { c with entries := Tab.erase c.entries e }

/-- An entry added, with one pin: its number, and the cache. -/
def addEntry (x : CacheEntry) (c : KeyCache) : Nat × KeyCache :=
  let c := makeRoom (c.entries.length + 1) x.units c
  let e := c.next
  (e, { c with entries := Tab.set dEntry c.entries e { x with pins := 1, age := c.useCtr }
               next := c.next + 1, useCtr := c.useCtr + 1 })

/-- A slot's entry made before the generation its die's table holds: its reference fills again (R316, R329; assumption
log 58). -/
def oldSlot (c : KeyCache) (x : CacheEntry) : Bool :=
  decide (x.kind = 0) && decide (x.gen.toNat < (Tab.get dGen c.gens (slotNo x.part x.slot)).toNat)

/-- The entry of a reference. -/
def findRef (c : KeyCache) (ref : Word64) : Option Nat :=
  (List.find? (fun (e : Nat × CacheEntry) => decide (e.2.kind ≠ 2) && decide (e.2.ref = ref) && !oldSlot c e.2) c.entries).map
    Prod.fst

def getEntry (s : State) (d e : Nat) : CacheEntry := Tab.get dEntry (getDie s d).kc.entries e

/-- The handle of an entry (R174). -/
def handleOf (e : Nat) (x : CacheEntry) : Handle :=
  { entry := e, attr := x.attr, transient := decide (x.kind = 2), ref := x.ref, gen := x.gen, slot := x.slot }

/-- A k register given a handle; the handle it held is released (R174). -/
def putHandle (k : Nat) (r : BitVec 3) (h : Handle) (s : State) : State :=
  let x := (getSeat s k).x
  let s := match getK x r with
    | some o => unpin (dieOfSeat k) o.entry s
    | none => s
  setRun k (setK r (some h) (getSeat s k).x) s

/-- A transient entry owned by a seat, and its handle in a k register (R174, R308). -/
def newTransient (k : Nat) (r : BitVec 3) (nk : NewKey) (s : State) : State :=
  let d := dieOfSeat k
  let x : CacheEntry := { kind := 2, part := (getSeat s k).part, slot := nk.slot, gen := nk.gen, attr := nk.attr
                          units := nk.units, seat := k, x9 := nk.x9, material := nk.material }
  let (e, c) := addEntry x (getDie s d).kc
  putHandle k r (handleOf e x) (updKc d (fun _ => c) s)

/-! ### References (R316) -/

def refPart (r : Word64) : Nat := fld r 63 56
def refIsDir (r : Word64) : Bool := bitOf r 55
def refSlot (r : Word64) : Nat := fld r 34 32
def refIndex (r : Word64) : Nat := fld r 53 32
def refIssue (r : Word64) : Nat := fld r 31 0

/-- A reference of one of the two forms. -/
def refOk (r : Word64) : Bool :=
  if refIsDir r then decide (fld r 54 54 = 0) && decide (refIssue r ≠ 0) && decide (refIssue r ≠ 0xFFFFFFFF)
  else decide (fld r 54 35 = 0) && decide (refIssue r = 0xFFFFFFFF)

def slotRef (p sl : Nat) : Word64 := BitVec.ofNat 64 (p * 2 ^ 56 + sl * 2 ^ 32 + 0xFFFFFFFF)
def dirRef (p idx : Nat) (issue : Word32) : Word64 := BitVec.ofNat 64 (p * 2 ^ 56 + 2 ^ 55 + idx * 2 ^ 32 + issue.toNat)

/-- Attributes of a handle opened from a slot reference (R316). -/
def slotAttr (p : Nat) (r : CageRec) : KeyAttr :=
  { usage := 0x0C, perm := 0x60, alg := r.alg, export_ := 0, part := BitVec.ofNat 8 p
    bits := BitVec.ofNat 16 (8 * keyLen r.alg.toNat) }

/-! ### The key directory (R317 to R320) -/

def dDir : Nat → DirRec := fun _ => {}
def dDirPart : Nat → DirPart := fun _ => {}
def getDir (s : State) (i : Nat) : DirRec := Tab.get dDir s.dir.recs i

def dirUnits (d : Directory) : Nat := (d.recs.map fun e => e.2.units).sum
def dirPartUnits (d : Directory) (p : Nat) : Nat := (d.recs.map fun e => if e.2.part = p then e.2.units else 0).sum

/-- A record freed: its index may be reissued, oldest-freed first (R318). -/
def dirFree (i : Nat) (d : Directory) : Directory :=
  if (Tab.get dDir d.recs i).issue = 0 then d else { d with recs := Tab.erase d.recs i, free := d.free ++ [i] }

/-- A die holds the record pinned. -/
def refPinned (s : State) (ref : Word64) : Bool :=
  s.dies.any fun e => e.2.kc.entries.any fun x => decide (x.2.ref = ref) && decide (x.2.kind ≠ 2) && decide (0 < x.2.pins)

/-- A record placed among records in the order they were opened, after those opened no later. -/
def byOpened (e : Nat × DirRec) : List (Nat × DirRec) → List (Nat × DirRec)
  | [] => [e]
  | f :: r => if e.2.opened < f.2.opened then e :: f :: r else f :: byOpened e r

/-- The unpinned records of a partition, least recently opened first. -/
def evictable (s : State) (p : Nat) : List (Nat × DirRec) :=
  (List.filter (fun (e : Nat × DirRec) => decide (e.2.part = p) && !refPinned s (dirRef p e.1 e.2.issue)) s.dir.recs).foldl
    (fun l e => byOpened e l) []

/-- Cache entries of a reference forgotten: no die finds it any more, and an entry that is pinned goes with its last pin
(R317, R318). -/
def dropRef (ref : Word64) (s : State) : State :=
  let hit (x : CacheEntry) : Bool := decide (x.ref = ref) && decide (x.kind ≠ 2)
  let forget (l : Tab CacheEntry) : Tab CacheEntry :=
    (List.filter (fun (x : Nat × CacheEntry) => !(hit x.2 && decide (x.2.pins = 0))) l).map fun x =>
      (x.1, if hit x.2 then { x.2 with ref := 0 } else x.2)
  { s with dies := Tab.mapVals dDie (fun _ d => { d with kc := { d.kc with entries := forget d.kc.entries } }) s.dies }

/-- Records evicted in order until `need` units are free within the quota (R320). -/
def evictLoop (p need quota : Nat) : List (Nat × DirRec) → State → State
  | [], s => s
  | (i, r) :: l, s =>
    if dirPartUnits s.dir p + need ≤ quota then s
    else
      let s := calEvent 0x170 (some p) r.slot r.gen.toNat (dropRef (dirRef p i r.issue) s)
      let parts := Tab.upd dDirPart s.dir.parts p fun x => { x with evict := satInc x.evict }
      evictLoop p need quota l
        { s with dir := { dirFree i s.dir with evictCnt := s.dir.evictCnt + 1, parts := parts } }

/-- Next ISSUE of an index, skipping 0 and 0xFFFF_FFFF (R318). -/
def nextIssue (i : Word32) : Word32 := if 0xFFFFFFFE ≤ i.toNat then 1 else i + 1

/-- A new record: its reference, or none where the quota or the directory leaves no room (R318, R320). -/
def dirAdd (p : Nat) (nk : NewKey) (s : State) : Option Word64 × State :=
  let quota := (Tab.get dDirPart s.dir.parts p).quota.toNat
  let fixed := dirPartUnits s.dir p - ((evictable s p).map fun e => e.2.units).sum
  let s1 := if fixed + nk.units ≤ quota then evictLoop p nk.units quota (evictable s p) s else s
  if quota = 0 then (none, s)
  else if 6291456 < dirUnits s.dir + nk.units ∨ (s.dir.nextIdx = 4194304 ∧ s.dir.free = []) then
    (none, calEvent 0x171 (some p) nk.slot (s.dir.fullCnt.toNat + 1) { s with dir := { s.dir with fullCnt := satInc s.dir.fullCnt } })
  else if quota < fixed + nk.units then (none, s)
  else
    let fresh := decide (s1.dir.nextIdx < 4194304)
    let i := if fresh then s1.dir.nextIdx else s1.dir.free.headD 0
    let issue := nextIssue (Tab.get dGen s1.dir.issues i)
    let d := s1.dir
    (some (dirRef p i issue), { s1 with dir := { d with
      recs := Tab.set dDir d.recs i { issue := issue, part := p, slot := nk.slot, gen := nk.gen, attr := nk.attr
                                      units := nk.units, x9 := nk.x9, material := nk.material, opened := d.useCtr }
      nextIdx := if fresh then d.nextIdx + 1 else d.nextIdx
      free := if fresh then d.free else d.free.drop 1
      issues := Tab.set dGen d.issues i issue
      useCtr := d.useCtr + 1 } })

/-- A record opened: it becomes the most recently opened (R320). -/
def dirOpened (ref : Word64) (s : State) : State :=
  if refIsDir ref ∧ (getDir s (refIndex ref)).issue ≠ 0 then
    let recs := Tab.upd dDir s.dir.recs (refIndex ref) fun r => { r with opened := s.dir.useCtr }
    { s with dir := { s.dir with recs := recs, useCtr := s.dir.useCtr + 1 } }
  else s

/-- Pins on entries of a slot below a generation, over every active and retained die (R330). -/
def pinsBelow (s : State) (p sl : Nat) (g : Word32) : Nat :=
  (s.dies.map fun e => (e.2.kc.entries.map fun x =>
    if x.2.part = p ∧ x.2.slot = sl ∧ x.2.gen.toNat < g.toNat then x.2.pins else 0).sum).sum

/-- Every record of a slot below a generation freed (R330). -/
def sweepDir (p sl : Nat) (g : Word32) (s : State) : State :=
  let old := List.filter (fun (e : Nat × DirRec) => decide (e.2.part = p) && decide (e.2.slot = sl) &&
    decide (e.2.gen.toNat < g.toNat)) s.dir.recs
  old.foldl (fun s e => { dropRef (dirRef p e.1 e.2.issue) s with
    dir := { dirFree e.1 s.dir with staleFreed := s.dir.staleFreed + 1 } }) s

end Sys2Proof.Machine
end

