-- ==== Sys2Proof/Machine/KeyBlocks.lean ====
section
/-!
DEFINITION. Key blocks (R324, R325): ANSI X9.143 headers and their mapping to attributes, and Pachaca key blocks.
-/
namespace Sys2Proof.Machine

/-! ### USAGE codes and PERM bits (R179) -/

def uPIN_ENC : Nat := 0x01
def uPIN_VER : Nat := 0x02
def uCVK : Nat := 0x03
def uMAC : Nat := 0x04
def uHMAC : Nat := 0x05
def uDATA : Nat := 0x06
def uFPE : Nat := 0x07
def uBDK : Nat := 0x08
def uDUKPT_IK : Nat := 0x09
def uEMV_MK : Nat := 0x0A
def uEMV_SK : Nat := 0x0B
def uKBPK : Nat := 0x0C
def uSIG_PRIV : Nat := 0x0D
def uSIG_PUB : Nat := 0x0E
def uKT_PRIV : Nat := 0x0F
def uKA_PRIV : Nat := 0x10

def pENC : Nat := 0
def pDEC : Nat := 1
def pGEN : Nat := 2
def pVER : Nat := 3
def pDRV : Nat := 4
def pWRAP : Nat := 5
def pUNWRAP : Nat := 6
def pSIGN : Nat := 7

/-- Key length in bits of material: TDES, AES, SM4 and HMAC by bytes, curves by their field, RSA by its modulus
(KEYBITS of R179, material of R319). -/
def keyBits (alg usage n : Nat) : Nat :=
  if alg = 0xB then 521 else if isEc alg then 8 * curveLen alg
  else if alg = 0xE then (if usage = uSIG_PUB then 8 * (n - 4) else 8 * ((n - 4) * 2 / 7))
  else 8 * n

/-- A new key of attributes and material, under a parent's root slot and generation (R308). -/
def mkKey (a : KeyAttr) (p slot : Nat) (gen : Word32) (x9 : BitVec 2) (m : Bytes) : NewKey :=
  { slot := slot, gen := gen, units := keyUnits m.length, x9 := x9, material := m
    attr := { a with part := BitVec.ofNat 8 p, bits := BitVec.ofNat 16 (keyBits a.alg.toNat a.usage.toNat m.length) } }

/-! ### ANSI X9.143 headers (R324) -/

/-- The rows of R324's table for a usage code, algorithm letter and mode letter: USAGE, PERM and X9_USAGE. -/
def x9Row (usage : Nat × Nat) (alg mode : Nat) : Option (Nat × Nat × Nat) :=
  let t := alg = 'T'.toNat
  let a := alg = 'A'.toNat
  let encDec : Option Nat := if mode = 'B'.toNat then some 0x03 else if mode = 'E'.toNat then some 0x01
    else if mode = 'D'.toNat then some 0x02 else none
  let genVer : Option Nat := if mode = 'C'.toNat then some 0x0C else if mode = 'G'.toNat then some 0x04
    else if mode = 'V'.toNat then some 0x08 else none
  let drv : Option Nat := if mode = 'X'.toNat then some 0x10 else none
  let wrap : Option Nat := if mode = 'B'.toNat then some 0x60 else if mode = 'E'.toNat then some 0x20
    else if mode = 'D'.toNat then some 0x40 else none
  let u (c : Char) (d : Char) : Bool := decide (usage = (c.toNat, d.toNat))
  if u 'P' '0' ∧ (t ∨ a) then encDec.map fun p => (uPIN_ENC, p, 0)
  else if u 'V' '1' ∧ t then genVer.map fun p => (uPIN_VER, p, 1)
  else if u 'V' '2' ∧ t then genVer.map fun p => (uPIN_VER, p, 2)
  else if u 'C' '0' ∧ (t ∨ a) then genVer.map fun p => (uCVK, p, 0)
  else if u 'M' '1' ∧ t then genVer.map fun p => (uMAC, p, 1)
  else if u 'M' '3' ∧ t then genVer.map fun p => (uMAC, p, 2)
  else if u 'M' '6' ∧ (t ∨ a) then genVer.map fun p => (uMAC, p, 3)
  else if u 'M' '7' ∧ alg = 'H'.toNat then genVer.map fun p => (uHMAC, p, 0)
  else if u 'D' '0' ∧ (t ∨ a) then encDec.map fun p => (uDATA, p, 0)
  else if u 'B' '0' ∧ (t ∨ a) then drv.map fun p => (uBDK, p, 0)
  else if u 'B' '1' ∧ (t ∨ a) then drv.map fun p => (uDUKPT_IK, p, 0)
  else if u 'E' '0' ∧ (t ∨ a) then drv.map fun p => (uEMV_MK, p, 0)
  else if u 'K' '1' ∧ (t ∨ a) then wrap.map fun p => (uKBPK, p, 0)
  else if u 'S' '0' ∧ alg = 'R'.toNat ∧ mode = 'S'.toNat then some (uSIG_PRIV, 0x80, 0)
  else if u 'S' '0' ∧ alg = 'R'.toNat ∧ mode = 'V'.toNat then some (uSIG_PUB, 0x08, 0)
  else if u 'K' '2' ∧ alg = 'R'.toNat ∧ mode = 'D'.toNat then some (uKT_PRIV, 0x40, 0)
  else none

/-- ALG from the algorithm letter and the key length (R324). -/
def x9Alg (alg n : Nat) : Option Nat :=
  if alg = 'T'.toNat then (if n = 16 then some 1 else if n = 24 then some 2 else none)
  else if alg = 'A'.toNat then (if n = 16 then some 3 else if n = 24 then some 4 else if n = 32 then some 5 else none)
  else if alg = 'H'.toNat then some 7
  else if alg = 'R'.toNat then some 0xE
  else none

/-- A decimal number of ASCII digits. -/
def decNat (bs : Bytes) : Option Nat :=
  bs.foldl (fun a b => match a with
    | some n => if 0x30 ≤ b.toNat ∧ b.toNat ≤ 0x39 then some (n * 10 + (b.toNat - 0x30)) else none
    | none => none) (some 0)

/-- A hexadecimal number of ASCII digits, capital letters. -/
def hexNat (bs : Bytes) : Option Nat :=
  bs.foldl (fun a b => match a with
    | some n => if 0x30 ≤ b.toNat ∧ b.toNat ≤ 0x39 then some (n * 16 + (b.toNat - 0x30))
      else if 0x41 ≤ b.toNat ∧ b.toNat ≤ 0x46 then some (n * 16 + (b.toNat - 0x37)) else none
    | none => none) (some 0)

/-- Length of `n` optional blocks from offset `o`, each KS or KV; none for any other (R324). -/
def x9Opts : Nat → Nat → Bytes → Option Nat
  | 0, o, _ => some o
  | n + 1, o, b =>
    match hexNat (slice (o + 2) 2 b) with
    | none => none
    | some l =>
      let isKs := slice o 2 b = [0x4B, 0x53]
      let isKv := slice o 2 b = [0x4B, 0x56]
      if (isKs ∨ isKv) ∧ 4 ≤ l then x9Opts n (o + l) b else none

def asciiHex (n : Nat) : Byte := BitVec.ofNat 8 (if n < 10 then 0x30 + n else 0x37 + n)
def toHex (bs : Bytes) : Bytes := bs.flatMap fun b => [asciiHex (b.toNat / 16), asciiHex (b.toNat % 16)]

/-- An X9.143 block opened under a KBPK: a fault cause, or the key (R324, R190). -/
def openX9 (p slot : Nat) (gen : Word32) (kalg : Nat) (kkey b : Bytes) : Nat × Option NewKey :=
  let c (i : Nat) : Nat := (byteAt i b).toNat
  let isD := decide (c 0 = 'D'.toNat)
  let expo : Option Nat := if c 11 = 'E'.toNat then some 1 else if c 11 = 'S'.toNat then some 2
    else if c 11 = 'N'.toNat then some 0 else none
  match x9Row (c 5, c 6) (c 7) (c 8), expo, decNat (slice 12 2 b) with
  | some (u, perm, x9), some ex, some nOpt =>
    if b.length < 16 ∨ (c 0 ≠ 'B'.toNat ∧ ¬ isD) ∨ decNat (slice 1 4 b) ≠ some b.length ∨
        slice 14 2 b ≠ [0x30, 0x30] then (0x0F, none)
    else match x9Opts nOpt 16 b with
      | none => (0x0F, none)
      | some o =>
        if (isD ∧ ¬ isAes kalg) ∨ (¬ isD ∧ kalg ≠ 2) then (0x0C, none)
        else match Config.x9Open isD kalg kkey (b.take o) (b.drop o) with
          | none => (0x0F, none)
          | some m => match x9Alg (c 7) m.length with
            | none => (0x0F, none)
            | some alg =>
              let a : KeyAttr := { usage := BitVec.ofNat 6 u, perm := BitVec.ofNat 8 perm, alg := BitVec.ofNat 4 alg
                                   export_ := BitVec.ofNat 2 ex }
              (0, some (mkKey a p slot gen (BitVec.ofNat 2 x9) m))
  | _, _, _ => (0x0F, none)

/-- The usage code, algorithm letter and mode letter KWRAP writes; none where the key has no row (R324). -/
def x9Codes (a : KeyAttr) (x9 : BitVec 2) : Option ((Nat × Nat) × Nat × Nat) :=
  let u := a.usage.toNat
  let alg := a.alg.toNat
  let letter := if isTdes alg then 'T'.toNat else if isAes alg then 'A'.toNat else if alg = 7 then 'H'.toNat
    else if alg = 0xE then 'R'.toNat else 0
  let code (c d : Char) : Nat × Nat := (c.toNat, d.toNat)
  let use : Nat × Nat :=
    if u = uPIN_ENC then code 'P' '0'
    else if u = uPIN_VER then (if x9 = 2 then code 'V' '2' else code 'V' '1')
    else if u = uCVK then code 'C' '0'
    else if u = uMAC then (if x9 = 1 then code 'M' '1' else if x9 = 2 then code 'M' '3' else if x9 = 3 then code 'M' '6'
      else if isTdes alg then code 'M' '3' else code 'M' '6')
    else if u = uHMAC then code 'M' '7'
    else if u = uDATA then code 'D' '0'
    else if u = uBDK then code 'B' '0'
    else if u = uDUKPT_IK then code 'B' '1'
    else if u = uEMV_MK then code 'E' '0'
    else if u = uKBPK then code 'K' '1'
    else if u = uSIG_PRIV ∨ u = uSIG_PUB then code 'S' '0'
    else if u = uKT_PRIV then code 'K' '2'
    else (0, 0)
  let modes := ['B', 'E', 'D', 'C', 'G', 'V', 'X', 'S'].map Char.toNat
  (modes.find? fun m => decide ((x9Row use letter m).map (fun r => (r.1, r.2.1)) = some (u, a.perm.toNat))).map
    fun m => (use, letter, m)

/-- An X9.143 block of a child under a KBPK: version D under AES, B under TDES three-key (R324). -/
def sealX9 (kalg : Nat) (kkey : Bytes) (a : KeyAttr) (x9 : BitVec 2) (m : Bytes) (r : BitVec 128) : Option Bytes :=
  if ¬ isAes kalg ∧ kalg ≠ 2 then none
  else match x9Codes a x9 with
    | none => none
    | some (use, letter, mode) =>
      let isD := isAes kalg
      let b := if isD then 16 else 8
      let n := roundUp (2 + m.length) b + b
      let total := 16 + 2 * n
      let digit (k : Nat) : Nat := 0x30 + total / 10 ^ k % 10
      let expo := if a.export_ = 1 then 'E'.toNat else if a.export_ = 2 then 'S'.toNat else 'N'.toNat
      let head : Bytes := [if isD then 'D'.toNat else 'B'.toNat, digit 3, digit 2, digit 1, digit 0, use.1, use.2,
        letter, mode, 0x30, 0x30, expo, 0x30, 0x30, 0x30, 0x30].map (BitVec.ofNat 8)
      some (head ++ toHex (fit n (Config.x9Seal isD kalg kkey head (toBE 2 (8 * m.length) ++ m) r)))

/-! ### Pachaca key blocks (R325) -/

/-- The bytes "PKB1". -/
def pkbMagic : Nat := 0x31424B50

/-- A Pachaca block opened under an AES or SM4 KBPK. -/
def openPkb (p slot : Nat) (gen : Word32) (kalg : Nat) (kkey b : Bytes) : Nat × Option NewKey :=
  let n := b.length
  let w := leAt 8 8 b
  let a := attrOf w
  if isTdes kalg then (0x0C, none)
  else if n < 72 ∨ (n - 56) % 16 ≠ 0 ∨ leAt 0 4 b ≠ pkbMagic ∨ leAt 4 2 b ≠ n ∨ leAt 6 2 b ≠ 1 ∨ leAt 36 4 b ≠ 0 ∨
      w / 2 ^ 6 % 4 ≠ 0 ∨ w / 2 ^ 22 % 2 ^ 10 ≠ 0 ∨ w / 2 ^ 48 ≠ 0 ∨
      ¬ (usageOk a.usage.toNat ∧ algOk a.alg.toNat) ∨ a.export_ = 3 then (0x0F, none)
  else
    let nonce := slice 24 12 b
    let ct := slice 40 (n - 56) b
    if fit 16 (Config.gcmTag kalg kkey nonce (b.take 40) ct) ≠ slice (n - 16) 16 b then (0x0F, none)
    else
      let pt := fit (n - 56) (Config.gcmDec kalg kkey nonce (b.take 40) ct)
      let l := leAt 0 2 pt
      if roundUp (2 + l) 16 ≠ n - 56 ∨ (pt.drop (2 + l)).any (fun x => x != 0) = true ∨
          ¬ materialOk a.alg.toNat a.usage.toNat l ∨ a.bits.toNat ≠ keyBits a.alg.toNat a.usage.toNat l then (0x0F, none)
      else (0, some (mkKey a p slot gen 0 (slice 2 l pt)))

/-- A Pachaca block of a child. -/
def sealPkb (kalg : Nat) (kkey : Bytes) (a : KeyAttr) (m : Bytes) (r : BitVec 128) : Option Bytes :=
  if isTdes kalg then none
  else
    let pt := toLE 2 m.length ++ m
    let pt := pt ++ zeros (roundUp pt.length 16 - pt.length)
    let w := attrWord { a with part := 0 } false
    let head := toLE 4 pkbMagic ++ toLE 2 (56 + pt.length) ++ toLE 2 1 ++ toLE 8 w ++ zeros 8 ++
      (toBE 16 r.toNat).take 12 ++ zeros 4
    let ct := fit pt.length (Config.gcmEnc kalg kkey ((toBE 16 r.toNat).take 12) head pt)
    some (head ++ ct ++ fit 16 (Config.gcmTag kalg kkey ((toBE 16 r.toNat).take 12) head ct))

/-! ### Both formats -/

/-- A block opened: format 0 X9.143, 1 Pachaca. -/
def openBlock (format p slot : Nat) (gen : Word32) (kalg : Nat) (kkey b : Bytes) : Nat × Option NewKey :=
  if format = 0 then openX9 p slot gen kalg kkey b else openPkb p slot gen kalg kkey b

/-- A block of a child; none is cause USAGE. -/
def sealBlock (format kalg : Nat) (kkey : Bytes) (a : KeyAttr) (x9 : BitVec 2) (m : Bytes) (r : BitVec 128) :
    Option Bytes :=
  if format = 0 then sealX9 kalg kkey a x9 m r else sealPkb kalg kkey a m r

/-- EXPORT permits a wrap under a KBPK (R180, R326). -/
def exportOk (a : KeyAttr) (kbpk : KeyAttr) : Bool :=
  match a.export_.toNat with
  | 1 => decide (strength a.alg.toNat a.bits.toNat ≤ strength kbpk.alg.toNat kbpk.bits.toNat)
  | 2 => true
  | _ => false

end Sys2Proof.Machine
end

