-- ==== Sys2Proof/Machine/EtnakKey.lean ====
section
/-!
DEFINITION. The Etnak key instructions (R181, R190, R191, R308, R322, R323) and the end of a key-cache fill.
-/
namespace Sys2Proof.Machine

/-! ### Shared -/

/-- A synchronous fault of the current instruction. -/
def trap (k opc cause reg : Nat) (x : SeatRun) (s : State) : State := seatFault k cause opc x.pc reg false s

/-- The handle of a k register with its entry, or EMPTY_KEY (R174). -/
def withKey (k opc : Nat) (r : BitVec 3) (x : SeatRun) (s : State) (body : Handle → CacheEntry → State → State) : State :=
  match getK x r with
  | none => trap k opc 0x08 r.toNat x s
  | some h => body h (getEntry s (dieOfSeat k) h.entry) s

/-- A handle's USAGE is among those listed and its PERM has the bit required (R180). -/
def mayUse (h : Handle) (usages : List Nat) (bit : Nat) : Bool :=
  usages.contains h.attr.usage.toNat && h.attr.perm.getLsbD bit

/-- The seat goes on past a KOPEN, whose issue is counted now or was when its fill started. -/
def openedOn (k : Nat) (issued : Bool) (x : SeatRun) (s : State) : State :=
  if issued then advance k (x.pc + 1) x s else commit k (x.pc + 1) x s

/-- A ninth pin stalls the seat in state 6; the register written is released, and an entry the seat pins already is no
ninth (R323). -/
def needPin (k : Nat) (r : BitVec 3) (entry : Option Nat) (x : SeatRun) (s : State) (body : State → State) : State :=
  let y := setK r none x
  if 8 ≤ seatPins y ∧ (entry.any fun e => (pinnedBy y).contains e) = false then waitIn k 6 none x s else body s

/-- A range of scratch that a pair names, within the buffer; ILLEGAL and BOUNDS otherwise (R183, R184, R188). -/
def withPair (k opc : Nat) (ga : BitVec 5) (limit : Nat) (x : SeatRun) (s : State)
    (body : Nat → Nat → State → State) : State :=
  match pair x ga with
  | none => trap k opc 0x01 255 x s
  | some (o, n) => if limit < o + n then trap k opc 0x07 255 x s else body o n s

/-- A fn value within its reserved bounds, else ILLEGAL (R184). -/
def legalFn (k opc : Nat) (ok : Bool) (x : SeatRun) (s : State) (body : State → State) : State :=
  if ok then body s else trap k opc 0x01 255 x s

/-! ### KOPEN and fills (R181, R322) -/

/-- Counters of a failed KOPEN (R346). -/
def countMiss (d cause : Nat) (s : State) : State :=
  updKc d (fun c => if cause = 0x0D then { c with stale := satInc c.stale }
    else if cause = 0x0E then { c with notFound := satInc c.notFound } else c) s

/-- A KOPEN that fails: with TRY a miss clears Z, leaves the register empty and goes on (R174, R181; assumption log 72). -/
def openFails (k cause : Nat) (r : BitVec 3) (try_ issued : Bool) (x : SeatRun) (s : State) : State :=
  if try_ ∧ cause = 0x0E then
    let (y, s) := dropK k r { x with z := false } s
    openedOn k issued y s
  else trap k 0x38 cause r.toNat x (countMiss (dieOfSeat k) cause s)

/-- An entry found: stale, or pinned and opened (R181, R328). -/
def openEntry (k e : Nat) (r : BitVec 3) (try_ : Bool) (x : SeatRun) (s : State) : State :=
  let d := dieOfSeat k
  let en := getEntry s d e
  if en.gen.toNat < (dieGen s d en.part en.slot).toNat then openFails k 0x0D r try_ false x s
  else
    let s := updKc d (fun c => pinEntry e { c with
      hits := c.hits + 1, useCtr := c.useCtr + 1
      entries := Tab.upd dEntry c.entries e fun y => { y with age := c.useCtr } }) s
    let s := putHandle k r (handleOf e en) (dirOpened en.ref s)
    let y := (getSeat s k).x
    commit k (x.pc + 1) (if try_ then { y with z := true } else y) s

/-- KOPEN (R181): a hit opens at once; a miss starts a fill, and with TRY the seat waits for it in state 6. -/
def execKopen (k : Nat) (kx : BitVec 3) (ga : BitVec 5) (fn : BitVec 7) (s : State) : Res :=
  .next (seatInstr k 0x38 ⟨gR [ga], kR [kx]⟩ (fun x s =>
    legalFn k 0x38 (decide (fn.toNat ≤ 1)) x s fun s =>
    guardedS k { k := [kx] } x s fun s =>
      let ref := getG x ga
      let t := fn.getLsbD 0
      if ¬ refOk ref ∨ refPart ref ≠ (getSeat s k).part then openFails k 0x0E kx t false x s
      else match findRef (getDie s (dieOfSeat k)).kc ref with
        | some e => needPin k kx (some e) x s fun s => openEntry k e kx t x s
        | none => needPin k kx none x s fun s =>
          if ¬ refIsDir ref ∧ ¬ s.vault.ready then trap k 0x38 0x14 kx.toNat x s
          else
            let o : PendOp := { unit := .key, opcode := 0x38, pc := x.pc, reg := kx.toNat, dsts := [.kreg kx.toNat]
                                ref := ref, try_ := t }
            submit k o x (updKc (dieOfSeat k) (fun c => { c with misses := c.misses + 1 }) s)) s)

/-- An engine die's access to a directory record, with colour 7; the record's place in the directory's range is the
model's (R20, R386, R397; assumption log 68). -/
def dirAccess (idx t : Nat) (s : State) : Bool × State := gateAccess 7 false (0x1100000000 + 32 * idx) 32 t s

/-- What a fill brings: the entry, or the cause the KOPEN fails with; a stale record is freed (R316, R322).  A
directory line that `poison` marks, or that the gate denies, gives UNIT_ERROR (R22, R394; assumption log 68). -/
def fillEntry (ref : Word64) (poison : Bool) (s : State) : Nat × CacheEntry × State :=
  let p := refPart ref
  if refIsDir ref then
    let (ok, s) := dirAccess (refIndex ref) 0 s
    let r := getDir s (refIndex ref)
    if ¬ ok ∨ poison = true then (0x13, {}, s)
    else if s.dir.key.isSome ∧ r.issue.toNat = refIssue ref ∧ r.issue ≠ 0 ∧ r.part = p then
      if r.gen.toNat < (slotRec s p r.slot).word.toNat then
        (0x0D, {}, { dropRef ref s with dir := { dirFree (refIndex ref) s.dir with staleFreed := s.dir.staleFreed + 1 } })
      else (0, { kind := 1, part := p, slot := r.slot, gen := r.gen, ref := ref, attr := r.attr, units := r.units
                 x9 := r.x9, material := r.material }, s)
    else (0x0E, {}, s)
  else
    let c := slotRec s p (refSlot ref)
    if ¬ s.vault.ready then (0x14, {}, s)
    else if c.valid ∧ c.role = 0 then
      (0, { kind := 0, part := p, slot := refSlot ref, gen := c.word, ref := ref, attr := slotAttr p c, units := 1
            material := c.key }, s)
    else (0x0E, {}, s)

/-- An operation leaves its seat; a wait for what it has written, or for its pins, ends (R194, R211, R323). -/
def dropOp (o : PendOp) (x : SeatRun) : SeatRun :=
  let y := rewait (recalc { x with ops := x.ops.erase o })
  if y.wait = 6 then { y with wait := 0 } else y

/-- A fill that fails: NOT_FOUND under TRY clears Z; a KOPEN with TRY faults at once, another when its register is
next used (R181, R196). -/
def fillFails (k cause : Nat) (o : PendOp) (s : State) : State :=
  let x := (getSeat s k).x
  if x.ending.isSome then opDrained k s
  else if o.try_ then openFails k cause (BitVec.ofNat 3 o.reg) true true x s
  else
    let f : AsyncFault := { cause := cause, opcode := o.opcode, pc := o.pc, reg := o.reg, dsts := o.dsts }
    setRun k { x with asyncs := x.asyncs ++ [f] } (countMiss (dieOfSeat k) cause s)

/-- KEY_FILL_COMPLETE: the oldest fill a seat waits for arrives (R22, R322, R328). -/
def execKeyFillComplete (fill : KeyFill) (s : State) : Res :=
  let k := fill.seat
  let x := (getSeat s k).x
  let d := dieOfSeat k
  match x.ops.find? fun o => decide (o.unit = .key) with
  | none => .next s
  | some o =>
    if ¬ dieKept s d then .next s
    else
      let s := setRun k (dropOp o x) s
      let (cause, en, s) := fillEntry o.ref fill.poison s
      if cause ≠ 0 then .next (fillFails k cause o s)
      else
        let known := findRef (getDie s d).kc o.ref
        let s := match known with
          | some e => pin d e s
          | none => updKc d (fun c => (addEntry en c).2) s
        let e := match known with
          | some e => e
          | none => (getDie s d).kc.next - 1
        if en.gen.toNat < (dieGen s d en.part en.slot).toNat then .next (fillFails k 0x0D o (unpin d e s))
        else if (getSeat s k).x.ending.isSome then .next (opDrained k (unpin d e s))
        else
          let s := putHandle k (BitVec.ofNat 3 o.reg) (handleOf e en) (dirOpened o.ref s)
          if o.try_ then
            let y := (getSeat s k).x
            .next (advance k (y.pc + 1) { y with z := true } s)
          else .next s

/-! ### KCLOSE, KINFO, KCV (R179, R190) -/

def execKclose (k : Nat) (kx : BitVec 3) (fn : BitVec 7) (s : State) : Res :=
  .next (seatInstr k 0x39 ⟨kR [kx], kR [kx]⟩ (fun x s => legalFn k 0x39 (decide (fn = 0)) x s fun s =>
    guardedS k { k := [kx] } x s fun s => withKey k 0x39 kx x s fun h _ s =>
      let s := unpin (dieOfSeat k) h.entry s
      commit k (x.pc + 1) (setK kx none (getSeat s k).x) s) s)

def execKinfo (k : Nat) (ga : BitVec 5) (kx : BitVec 3) (fn : BitVec 7) (s : State) : Res :=
  .next (seatInstr k 0x3A ⟨kR [kx], gR [ga]⟩ (fun x s => legalFn k 0x3A (decide (fn.toNat ≤ 1)) x s fun s =>
    guardedS k { k := [kx] } x s fun s => withKey k 0x3A kx x s fun h _ s =>
      let v : Word64 := if fn = 0 then BitVec.ofNat 64 (attrWord h.attr h.transient)
        else if h.transient then 0 else h.ref
      commit k (x.pc + 1) (setG ga v x) s) s)

/-- KCV: a symmetric key with a block algorithm, on the seat's block unit (R180, R190, R277). -/
def execKcv (k : Nat) (ga : BitVec 5) (kx : BitVec 3) (fn : BitVec 7) (s : State) : Res :=
  .next (seatInstr k 0x3B ⟨kR [kx], gR [ga]⟩ (fun x s => legalFn k 0x3B (decide (fn.toNat ≤ 1)) x s fun s =>
    guardedS k { k := [kx] } x s fun s => withKey k 0x3B kx x s fun h e s =>
      let alg := h.attr.alg.toNat
      if ¬ isBlockAlg alg then trap k 0x3B 0x0C kx.toNat x s
      else
        let v := if fn = 0 then kcvEnc alg e.material else kcvCmac alg e.material
        submitUnit k { unit := .block, opcode := 0x3B, pc := x.pc, reg := kx.toNat, pins := [h.entry], sync := true
                       dsts := [.greg ga.toNat (BitVec.ofNat 64 (leNat v))] } x s) s)

/-! ### KDERIVE (R191) -/

/-- USAGE and PERM of the derived key of a working-key variant. -/
def workingKey (v : Nat) : Option (Nat × Nat) :=
  if v = 0 then some (uPIN_ENC, 0x03) else if v = 1 then some (uMAC, 0x04) else if v = 2 then some (uMAC, 0x08)
  else if v = 3 then some (uDATA, 0x01) else if v = 4 then some (uDATA, 0x02) else none

/-- A method and variant: parent USAGE, whether the parent must be TDES (1), AES (2) or either (0), the bytes of ds
used, and the derived USAGE and PERM; none where reserved. -/
def deriveRow (m v : Nat) : Option (Nat × Nat × Nat × Nat × Nat) :=
  if m = 0 ∧ v = 0 then some (uBDK, 1, 10, uDUKPT_IK, 0x10)
  else if m = 1 then (workingKey v).map fun w => (uDUKPT_IK, 1, 10, w.1, w.2)
  else if m = 2 ∧ v = 0 then some (uBDK, 2, 8, uDUKPT_IK, 0x10)
  else if m = 3 then (workingKey v).map fun w => (uDUKPT_IK, 2, 12, w.1, w.2)
  else if m = 4 ∧ v = 0 then some (uEMV_MK, 0, 8, uEMV_MK, 0x10)
  else if m = 5 ∧ v = 0 then some (uEMV_MK, 0, 2, uEMV_SK, 0x0C)
  else none

/-- A counter the DUKPT standards forbid: more than 10 of 21 bits set, or more than 16 of 32 (R250). -/
def counterBad (m : Nat) (data : Bytes) : Bool :=
  if m = 1 then decide (10 < popCount 21 (beNat (slice 7 3 data)))
  else if m = 3 then decide (16 < popCount 32 (beNat (slice 8 4 data)))
  else false

/-- ALG of the derived key: TDES two-key for TDES DUKPT, else the parent's. -/
def deriveAlg (m alg : Nat) : Nat := if m = 0 ∨ m = 1 then 1 else alg

/-- The key a method derives from a parent (R191, R308). -/
def derived (m v p : Nat) (h : Handle) (e : CacheEntry) (data : Bytes) (row : Nat × Nat × Nat × Nat × Nat) : NewKey :=
  let alg := deriveAlg m h.attr.alg.toNat
  let mat := fit (keyLen alg) (Config.deriveKey m v h.attr.alg.toNat e.material (data.take row.2.2.1))
  mkKey { usage := BitVec.ofNat 6 row.2.2.2.1, perm := BitVec.ofNat 8 row.2.2.2.2, alg := BitVec.ofNat 4 alg
          export_ := h.attr.export_ } p h.slot h.gen 0 mat

def deriveAlgOk (want alg : Nat) : Bool :=
  if want = 1 then isTdes alg else if want = 2 then isAes alg else isTdes alg || isAes alg

/-- KDERIVE (R177, R180, R191). -/
def execKderive (k : Nat) (kx ky : BitVec 3) (ds : BitVec 4) (fn : BitVec 7) (s : State) : Res :=
  let m := fn.toNat % 16
  let v := fn.toNat / 16
  .next (seatInstr k 0x3C ⟨kR [ky] ++ dR [ds], kR [kx]⟩ (fun x s =>
    match deriveRow m v with
    | none => trap k 0x3C 0x01 255 x s
    | some row => guardedS k { d := [ds], k := [kx, ky] } x s fun s => withKey k 0x3C ky x s fun h e s =>
      if ¬ (mayUse h [row.1] pDRV ∧ deriveAlgOk row.2.1 h.attr.alg.toNat) then trap k 0x3C 0x0C ky.toNat x s
      else if taintD x ds then trap k 0x3C 0x0A ds.toNat x s
      else if counterBad m (dBytes (getD x ds)) then trap k 0x3C 0x10 ds.toNat x s
      else needPin k kx none x s fun s =>
        submitUnit k { unit := .block, opcode := 0x3C, pc := x.pc, reg := ky.toNat, pins := [h.entry], dsts := [.kreg kx.toNat]
                       newKey := some (derived m v (getSeat s k).part h e (dBytes (getD x ds)) row) } x s) s)

/-! ### KUNWRAP, KWRAP, KGEN (R190, R320, R324, R325) -/

/-- A new persistent entry: its directory record, then its cache entry, pinned (R320, R322).  The answer's first part is 0, or
the cause: UNIT_OPERAND where the quota or the directory leaves no room, UNIT_ERROR where the gate denies the
write (R394). -/
def persistEntry (k : Nat) (nk : NewKey) (s : State) : Nat × Nat × CacheEntry × State :=
  let p := (getSeat s k).part
  let d := dieOfSeat k
  match dirAdd p nk s with
  | (none, t) => (0x10, 0, {}, t)
  | (some ref, _) =>
    let (ok, s) := dirAccess (refIndex ref) 1 s
    if ok then
      let x : CacheEntry := { kind := 1, part := p, slot := nk.slot, gen := nk.gen, ref := ref, attr := nk.attr
                              units := nk.units, x9 := nk.x9, material := nk.material }
      let t := (dirAdd p nk s).2
      let (e, c) := addEntry x (getDie t d).kc
      (0, e, x, updKc d (fun _ => c) t)
    else (0x13, 0, {}, s)

/-- KUNWRAP (R190, R324, R325, R328): PERSIST makes a directory record. -/
def execKunwrap (k : Nat) (kx ky : BitVec 3) (ga : BitVec 5) (fn : BitVec 7) (s : State) : Res :=
  .next (seatInstr k 0x3D ⟨kR [ky] ++ gR [ga, ga + 1], kR [kx]⟩ (fun x s => legalFn k 0x3D (decide (fn.toNat ≤ 3)) x s fun s =>
    withPair k 0x3D ga 4096 x s fun o n s =>
    guardedS k { k := [kx, ky], o := o, n := n } x s fun s => withKey k 0x3D ky x s fun h e s =>
      if ¬ mayUse h [uKBPK] pUNWRAP then trap k 0x3D 0x0C ky.toNat x s
      else if h.gen.toNat < (dieGen s (dieOfSeat k) e.part h.slot).toNat then
        trap k 0x3D 0x0D ky.toNat x (countMiss (dieOfSeat k) 0x0D s)
      else
        let r := openBlock (fn.toNat / 2) (getSeat s k).part h.slot h.gen h.attr.alg.toNat e.material (scratchBytes x o n)
        if r.1 = 0x0C then trap k 0x3D 0x0C ky.toNat x s
        else needPin k kx none x s fun s =>
          submitUnit k { unit := .block, opcode := 0x3D, pc := x.pc, reg := ky.toNat, pins := [h.entry], dsts := [.kreg kx.toNat]
                         newKey := r.2, persist := fn.getLsbD 0, fail := if r.2.isNone then r.1 else 0 } x s) s)

/-- KWRAP: the block into the range, its length into ga + 1 (R180, R190). -/
def execKwrap (k : Nat) (ga : BitVec 5) (kx ky : BitVec 3) (fn : BitVec 7) (s : State) : Res :=
  .next (seatInstr k 0x3E ⟨kR [kx, ky] ++ gR [ga, ga + 1], gR [ga + 1]⟩ (fun x s => legalFn k 0x3E (decide (fn = 0) || decide (fn = 2)) x s fun s =>
    withPair k 0x3E ga 4096 x s fun o n s =>
    guardedS k { k := [kx, ky], o := o, n := n } x s fun s => withKey k 0x3E ky x s fun h e s =>
    withKey k 0x3E kx x s fun ch ce s =>
      if ¬ mayUse h [uKBPK] pWRAP then trap k 0x3E 0x0C ky.toNat x s
      else if ¬ exportOk ch.attr h.attr then trap k 0x3E 0x0C kx.toNat x s
      else if drbgDown s then trap k 0x3E 0x14 255 x s
      else
        let r := Config.drbg s.freeCtr
        match sealBlock (fn.toNat / 2) h.attr.alg.toNat e.material ch.attr ce.x9 ce.material r with
        | none => trap k 0x3E 0x0C ky.toNat x s
        | some b =>
          if n < b.length then trap k 0x3E 0x07 255 x s
          else commit k (x.pc + 1) (setG (ga + 1) (BitVec.ofNat 64 b.length) (putScratch o b false x))
            { s with freeCtr := s.freeCtr + 1 }) s)

/-- Root slot and generation of a KGEN key: those of the lowest k register that holds a KBPK or a private key; without
one, slot 0 (R308; assumption log 32). -/
def genRoot (k : Nat) (x : SeatRun) (s : State) : Nat × Word32 :=
  match List.find? (fun (e : Nat × Option Handle) => match e.2 with
      | some h => [uKBPK, uKT_PRIV, uKA_PRIV, uSIG_PRIV].contains h.attr.usage.toNat
      | none => false) x.k with
  | some (_, some h) => (h.slot, h.gen)
  | _ => (0, dieGen s (dieOfSeat k) (getSeat s k).part 0)

/-- KGEN: a template that is not one of R190 is ILLEGAL. -/
def execKgen (k : Nat) (kx : BitVec 3) (ga : BitVec 5) (fn : BitVec 7) (s : State) : Res :=
  .next (seatInstr k 0x3F ⟨gR [ga], kR [kx]⟩ (fun x s =>
    let t := (getG x ga).toNat
    legalFn k 0x3F (decide (fn = 0) && templateOk t) x s fun s =>
    guardedS k { k := [kx] } x s fun s => withUnit k 0x3F .block x s fun s => needPin k kx none x s fun s =>
      let a := attrOf t
      withDrbg k 0x3F (keyLen a.alg.toNat) x s fun m s =>
        let r := genRoot k x s
        submitUnit k { unit := .block, opcode := 0x3F, pc := x.pc, reg := kx.toNat, dsts := [.kreg kx.toNat]
                       newKey := some (mkKey a (getSeat s k).part r.1 r.2 0 m) } x s) s)

/-! ### KAIMP and KAGREE (R190, R290, R293): MAU operations -/

/-- The key block a transported block holds: attributes of R179 in 8 bytes, a 2-byte length and the material, as in
the ciphertext of R325 (assumption log 33). -/
def innerBlock (p : Nat) (h : Handle) (b : Bytes) : Option NewKey :=
  let w := leAt 0 8 b
  let a := attrOf w
  let l := leAt 8 2 b
  if usageOk a.usage.toNat ∧ algOk a.alg.toNat ∧ a.export_ ≠ 3 ∧ w / 2 ^ 6 % 4 = 0 ∧ w / 2 ^ 22 % 2 ^ 10 = 0 ∧
      10 + l ≤ b.length ∧ materialOk a.alg.toNat a.usage.toNat l then
    some (mkKey a p h.slot h.gen 0 (slice 10 l b))
  else none

/-- A transported block the MAU refuses: an RSA key outside R290 or a ciphertext not below its modulus, or an SM2 point
C1, the first 64 bytes, that is not on the curve (R205, R290; assumption log 33). -/
def transportBad (scheme : Nat) (a : KeyAttr) (material b : Bytes) : Bool :=
  if scheme = 0 then !rsaPrivOk a material || decide (rsaModulus a material ≤ beNat b)
  else !Config.validPublic 0xD (b.take 64)

/-- KAIMP (R190): a transported key decrypted in the MAU. -/
def execKaimp (k : Nat) (kx ky : BitVec 3) (ga : BitVec 5) (fn : BitVec 7) (s : State) : Res :=
  .next (seatInstr k 0x0D ⟨kR [ky] ++ gR [ga, ga + 1], kR [kx]⟩ (fun x s => legalFn k 0x0D (decide (fn.toNat ≤ 1)) x s fun s =>
    withPair k 0x0D ga 4096 x s fun o n s =>
    guardedS k { k := [kx, ky], o := o, n := n } x s fun s => withKey k 0x0D ky x s fun h e s =>
      let want := if fn = 0 then 0xE else 0xD
      if ¬ (mayUse h [uKT_PRIV] pUNWRAP ∧ h.attr.alg.toNat = want) then trap k 0x0D 0x0C ky.toNat x s
      else needPin k kx none x s fun s =>
        let b := scratchBytes x o n
        let nk := (Config.keyTransport fn.toNat e.material b).bind (innerBlock (getSeat s k).part h)
        let fail := if transportBad fn.toNat h.attr e.material b then 0x10 else if nk.isNone then 0x0F else 0
        submitUnit k { unit := .mau, opcode := 0x0D, pc := x.pc, reg := ky.toNat, dsts := [.kreg kx.toNat]
                       pins := [h.entry], newKey := nk, fail := fail } x s) s)

/-- KAGREE (R290, R293): ECDH, whose KDF needs the hash unit too (R269, R272), or the responder's side of SM2 key exchange, which writes the device's ephemeral public
key over bytes 200 to 263 of the range. -/
def execKagree (k : Nat) (kx ky : BitVec 3) (ga : BitVec 5) (fn : BitVec 7) (s : State) : Res :=
  .next (seatInstr k 0x0E ⟨kR [ky] ++ gR [ga, ga + 1], kR [kx]⟩ (fun x s => legalFn k 0x0E (decide (fn.toNat ≤ 1)) x s fun s =>
    withPair k 0x0E ga 4096 x s fun o n s =>
    guardedS k { k := [kx, ky], o := o, n := n } x s fun s => withKey k 0x0E ky x s fun h e s =>
      let alg := h.attr.alg.toNat
      let algOk_ := if fn = 0 then decide (9 ≤ alg) && decide (alg ≤ 0xB) else decide (alg = 0xD)
      if ¬ (mayUse h [uKA_PRIV] pDRV ∧ algOk_) then trap k 0x0E 0x0C ky.toNat x s
      else needPin k kx none x s fun s =>
        let b := scratchBytes x o n
        let t := leAt 0 4 b
        let pub := leAt 4 2 b
        let bad := ¬ templateOk t ∨ leAt 6 2 b ≠ 0 ∨ pub ≠ 2 * curveLen alg ∨ n < (if fn = 0 then 8 + pub else 264) ∨
          ¬ Config.validPublic alg (slice 8 pub b) ∨ (fn = 1 ∧ ¬ Config.validPublic alg (slice 72 64 b))
        let a := attrOf t
        let run (eph : Bytes) (s : State) : State :=
          let mat := fit (keyLen a.alg.toNat) (Config.keyAgree fn.toNat alg e.material (b.drop 8 ++ eph) (keyLen a.alg.toNat))
          let out := if fn = 0 then [] else [OpWrite.scratch (o + 200) (fit 64 (Config.publicKey alg eph)) false]
          let op : PendOp := { unit := .mau, opcode := 0x0E, pc := x.pc, reg := ky.toNat, dsts := .kreg kx.toNat :: out
                               pins := [h.entry] }
          if bad then submitUnit k { op with fail := 0x10, dsts := [.kreg kx.toNat] } x s
          else submitUnit k { op with newKey := some (mkKey a (getSeat s k).part h.slot h.gen 0 mat) } x s
        if fn = 0 then
          if (getUnit s .hash (unitOfSeat .hash k)).ready then run [] s else trap k 0x0E 0x14 255 x s
        else withUnit k 0x0E .mau x s fun s => withDrbg k 0x0E 32 x s run) s)

/-! ### The end of an operation (R195, R196, R206) -/

/-- RESULT bytes that an operation brings to a routine that waits for it. -/
def setOutcome (k : Nat) (w : OpWrite) (s : State) : State := match w with
  | .outcome b => updSeat k (fun st => { st with x := { st.x with ending := st.x.ending.map fun o => if st.x.endOk then { o with data := b } else o } }) s
  | _ => s

/-- A failed operation: its instruction faults at once where it is not done yet, else at one of R196's points. -/
def opFailed (k : Nat) (o : PendOp) (cause : Nat) (s : State) : State :=
  let x := (getSeat s k).x
  if o.sync then seatFault k cause o.opcode o.pc o.reg false s
  else setRun k { x with asyncs := x.asyncs ++
    [{ cause := cause, opcode := o.opcode, pc := o.pc, reg := o.reg, ticket := o.ticket, dsts := o.dsts }] } s

/-- An operation of a seat ends: its pins are released; a routine that waits for its end after a fault discards the
result, one that reached END faults on a failure (R196); else a failure waits for R196, or the destinations are written. -/
def completeOp (k : Nat) (o : PendOp) (cause : Nat) (s : State) : State :=
  let s := setRun k (dropOp o (getSeat s k).x) s
  let s := o.pins.foldl (fun s e => unpin (dieOfSeat k) e s) s
  let x := (getSeat s k).x
  if x.ending.isSome then
    if x.endOk ∧ cause ≠ 0 then seatFault k cause o.opcode o.pc o.reg true s
    else opDrained k (o.dsts.foldl (fun s w => setOutcome k w s) s)
  else if cause ≠ 0 then opFailed k o cause s
  else
    let s := setRun k (o.dsts.foldl applyWrite x) s
    match o.newKey, kDst o with
    | some nk, some i =>
      if o.persist then
        match persistEntry k nk s with
        | (0, e, x, s) => putHandle k (BitVec.ofNat 3 i) (handleOf e x) s
        | (c, _, _, s) => opFailed k o c s
      else newTransient k (BitVec.ofNat 3 i) nk s
    | _, _ => if o.sync then let y := (getSeat s k).x; advance k (y.pc + 1) y s else s

end Sys2Proof.Machine
end

