-- ==== Sys2Proof/Machine/EtnakUnit.lean ====
section
/-!
DEFINITION. The Etnak block-unit, hash, MAU and host-memory instructions (R192, R193, R197, R289 to R294), and the ends
of their operations.
-/
namespace Sys2Proof.Machine

/-! ### Block instructions (R180, R192) -/

/-- The part of a data register a block operation takes, and the register it leaves (R173). -/
def blockIn (alg : Nat) (v : BitVec 128) : Bytes := (dBytes v).take (blockLen alg)
def blockOut (alg : Nat) (b : Bytes) : BitVec 128 := dOfBytes (fit (blockLen alg) b)

/-- BENC under R180: whether the handle may, and whether its output is tainted whatever the input (some true), never
(some false) or as the input (none). -/
def bencRule (h : Handle) : Option (Option Bool) :=
  let u := h.attr.usage.toNat
  let p (b : Nat) : Bool := h.attr.perm.getLsbD b
  if u = uPIN_ENC ∧ p pENC then some (some false)
  else if u = uDATA ∧ p pENC then some none
  else if (u = uPIN_VER ∨ u = uCVK) ∧ p pGEN then some none
  else if (u = uPIN_VER ∨ u = uCVK) ∧ p pVER then some (some true)
  else if u = uEMV_SK ∧ p pGEN then some none
  else none

/-- BDEC under R180. -/
def bdecRule (h : Handle) : Option (Option Bool) :=
  let u := h.attr.usage.toNat
  if ¬ h.attr.perm.getLsbD pDEC then none
  else if u = uPIN_ENC then some (some true) else if u = uDATA then some none else none

/-- BSTR under R180. -/
def bstrRule (h : Handle) (dec : Bool) : Option (Option Bool) :=
  let u := h.attr.usage.toNat
  if ¬ h.attr.perm.getLsbD (if dec then pDEC else pENC) then none
  else if u = uDATA then some none else if u = uPIN_ENC ∧ ¬ dec then some (some false) else none

def execBenc (k : Nat) (dd : BitVec 4) (kx : BitVec 3) (ds : BitVec 4) (s : State) : Res :=
  .next (seatInstr k 0x28 ⟨kR [kx] ++ dR [ds], dR [dd]⟩ (fun x s => guardedS k { d := [dd, ds], k := [kx] } x s fun s =>
    withKey k 0x28 kx x s fun h e s =>
      let alg := h.attr.alg.toNat
      match bencRule h, isBlockAlg alg with
      | some t, true => submitUnit k { unit := .block, opcode := 0x28, pc := x.pc, reg := kx.toNat, pins := [h.entry]
                                       dsts := [.dreg dd.toNat (blockOut alg (Config.blockEnc alg e.material (blockIn alg (getD x ds)))) (t.getD (taintD x ds))] } x s
      | _, _ => trap k 0x28 0x0C kx.toNat x s) s)

def execBdec (k : Nat) (dd : BitVec 4) (kx : BitVec 3) (ds : BitVec 4) (s : State) : Res :=
  .next (seatInstr k 0x29 ⟨kR [kx] ++ dR [ds], dR [dd]⟩ (fun x s => guardedS k { d := [dd, ds], k := [kx] } x s fun s =>
    withKey k 0x29 kx x s fun h e s =>
      let alg := h.attr.alg.toNat
      match bdecRule h, isBlockAlg alg with
      | some t, true => submitUnit k { unit := .block, opcode := 0x29, pc := x.pc, reg := kx.toNat, pins := [h.entry]
                                       dsts := [.dreg dd.toNat (blockOut alg (Config.blockDec alg e.material (blockIn alg (getD x ds)))) (t.getD (taintD x ds))] } x s
      | _, _ => trap k 0x29 0x0C kx.toNat x s) s)

/-- The mode of a BSTR code; 6 and 7 are reserved. -/
def bstrMode (c : Nat) : Option Mode :=
  if c = 0 then some .ecb else if c = 1 then some .cbc else if c = 2 then some .ctr else if c = 3 then some .cfb8
  else if c = 4 then some .cfbFull else if c = 5 then some .ofb else none

/-- BSTR: in place on the scratch range; dd receives the final IV or counter block (R192). -/
def execBstr (k : Nat) (kx : BitVec 3) (dd : BitVec 4) (ga : BitVec 5) (fn : BitVec 7) (s : State) : Res :=
  let dec := fn.getLsbD 3
  .next (seatInstr k 0x2A ⟨kR [kx] ++ dR [dd] ++ gR [ga, ga + 1], dR [dd]⟩ (fun x s =>
    match bstrMode (fn.toNat % 8), decide (fn.toNat < 16) with
    | some m, true => withPair k 0x2A ga 4096 x s fun o n s =>
      guardedS k { d := [dd], k := [kx], o := o, n := n } x s fun s => withKey k 0x2A kx x s fun h e s =>
        let alg := h.attr.alg.toNat
        match bstrRule h dec, isBlockAlg alg with
        | some t, true =>
          if m ≠ .ctr ∧ m ≠ .cfb8 ∧ n % blockLen alg ≠ 0 then trap k 0x2A 0x10 255 x s
          else
            let r := cipherRange m dec alg e.material (blockIn alg (getD x dd)) (scratchBytes x o n)
            let taint := t.getD (scratchTaint x o n || taintD x dd)
            submitUnit k { unit := .block, opcode := 0x2A, pc := x.pc, reg := kx.toNat, pins := [h.entry]
                           blocks := blocksOf m alg n
                           dsts := [.scratch o r.1 taint, .dreg dd.toNat (blockOut alg r.2) taint] } x s
        | _, _ => trap k 0x2A 0x0C kx.toNat x s
    | _, _ => trap k 0x2A 0x01 255 x s) s)

/-- A MAC's range: scratch or the operand buffer (fn[2]). -/
def macRange (x : SeatRun) (operand : Bool) (o n : Nat) : Bytes := if operand then operandBytes x o n else scratchBytes x o n

/-- A MAC key suits the algorithm (R180, R192): algorithm 3 takes TDES two-key only. -/
def macKeyOk (h : Handle) (bit algorithm : Nat) : Bool :=
  mayUse h [uMAC, uEMV_SK] bit && isBlockAlg h.attr.alg.toNat && (decide (algorithm ≠ 2) || decide (h.attr.alg = 1))

def execBmac (k : Nat) (dd : BitVec 4) (kx : BitVec 3) (ga : BitVec 5) (fn : BitVec 7) (s : State) : Res :=
  let a := fn.toNat % 4
  let op := fn.getLsbD 2
  .next (seatInstr k 0x2B ⟨kR [kx] ++ gR [ga, ga + 1], dR [dd]⟩ (fun x s => legalFn k 0x2B (decide (a ≠ 3) && decide (fn.toNat < 8)) x s fun s =>
    withPair k 0x2B ga (if op then 256 else 4096) x s fun o n s =>
    guardedS k { d := [dd], k := [kx], o := o, n := if op then 0 else n } x s fun s => withKey k 0x2B kx x s fun h e s =>
      if ¬ macKeyOk h pGEN a then trap k 0x2B 0x0C kx.toNat x s
      else
        let alg := h.attr.alg.toNat
        submitUnit k { unit := .block, opcode := 0x2B, pc := x.pc, reg := kx.toNat, pins := [h.entry]
                       blocks := n / blockLen alg + 1
                       dsts := [.dreg dd.toNat (dOfBytes (macOf a alg e.material (macRange x op o n)))
                                  (!op && scratchTaint x o n)] } x s) s)

/-- BMACV: a comparing instruction over the first m bytes, on the seat's block unit (R178, R192, R277). -/
def execBmacv (k : Nat) (kx : BitVec 3) (ds : BitVec 4) (ga : BitVec 5) (fn : BitVec 7) (s : State) : Res :=
  let a := fn.toNat % 4
  let op := fn.getLsbD 2
  let m := fn.toNat / 8 + 1
  .next (seatInstr k 0x2C ⟨kR [kx] ++ dR [ds] ++ gR [ga, ga + 1], []⟩ (fun x s => legalFn k 0x2C (decide (a ≠ 3) && decide (4 ≤ m)) x s fun s =>
    withPair k 0x2C ga (if op then 256 else 4096) x s fun o n s =>
    guardedS k { d := [ds], k := [kx], o := o, n := if op then 0 else n } x s fun s => withKey k 0x2C kx x s fun h e s =>
      if ¬ macKeyOk h pVER a then trap k 0x2C 0x0C kx.toNat x s
      else if x.cmpLeft = 0 then trap k 0x2C 0x0B ds.toNat x s
      else
        let alg := h.attr.alg.toNat
        let mac := fit 16 (macOf a alg e.material (macRange x op o n))
        submitAs k { unit := .block, opcode := 0x2C, pc := x.pc, reg := kx.toNat, pins := [h.entry], sync := true
                     blocks := n / blockLen alg + 1
                     dsts := [.flags (decide (mac.take m = (dBytes (getD x ds)).take m))] }
          x { x with cmpLeft := x.cmpLeft - 1 } s) s)

/-- A key FF1 can use: a cipher with 128-bit blocks (R180, R269). -/
def ffxAlg (alg : Nat) : Bool := isBlockAlg alg && decide (blockLen alg = 16)

/-- FFX: FF1 in place, one numeral per byte (R177, R192). -/
def execFfx (k : Nat) (kx : BitVec 3) (ds : BitVec 4) (ga : BitVec 5) (fn : BitVec 7) (s : State) : Res :=
  let dec := fn.getLsbD 0
  let radix := if fn.getLsbD 1 then 36 else 10
  let tw := fn.toNat / 4
  .next (seatInstr k 0x2D ⟨kR [kx] ++ dR [ds] ++ gR [ga, ga + 1], []⟩ (fun x s => legalFn k 0x2D (decide (tw ≤ 16)) x s fun s =>
    withPair k 0x2D ga 4096 x s fun o n s =>
    guardedS k { d := [ds], k := [kx], o := o, n := n } x s fun s => withKey k 0x2D kx x s fun h e s =>
      let nums := (scratchBytes x o n).map BitVec.toNat
      if ¬ (mayUse h [uFPE] (if dec then pDEC else pENC) ∧ ffxAlg h.attr.alg.toNat) then trap k 0x2D 0x0C kx.toNat x s
      else if scratchTaint x o n then trap k 0x2D 0x0A 255 x s
      else if taintD x ds then trap k 0x2D 0x0A ds.toNat x s
      else if n < 2 ∨ 56 < n ∨ (nums.any fun v => decide (radix ≤ v)) = true ∨ radix ^ n < 1000000 then trap k 0x2D 0x10 255 x s
      else
        let out := Config.ff1 dec radix h.attr.alg.toNat e.material ((dBytes (getD x ds)).take tw) nums
        submitUnit k { unit := .block, opcode := 0x2D, pc := x.pc, reg := kx.toNat, pins := [h.entry], blocks := 10
                       dsts := [.scratch o (fit n (out.map fun v => BitVec.ofNat 8 (v % radix))) false] } x s) s)

/-! ### Hash instructions (R192, R294) -/

/-- Digest length of a hash code. -/
def digestLen (f : Nat) : Nat := if f = 1 then 48 else if f = 2 ∨ f = 4 then 64 else if f = 6 then 20 else 32

/-- Block length of a hash code (R192). -/
def hashBlock (f : Nat) : Nat := if f = 1 ∨ f = 2 then 128 else if f = 3 then 136 else if f = 4 then 72 else 64

/-- Least padding of a hash: a bit and the message length, or the SHA-3 padding byte. -/
def hashPad (f : Nat) : Nat := if f = 3 ∨ f = 4 then 1 else if f = 1 ∨ f = 2 then 17 else 9

/-- Blocks a hash unit compresses as `n` bytes join `m` absorbed, and as a context finishes: HMAC's outer block is one
more (R294). -/
def dataBlocks (f m n : Nat) : Nat := (m + n) / hashBlock f - m / hashBlock f
def endBlocks (c : HashCtx) : Nat :=
  let n := c.data.length
  (n + hashPad c.alg + hashBlock c.alg - 1) / hashBlock c.alg - n / hashBlock c.alg + b2n c.key.isSome

/-- A context that a seat has open given up: its key's pin goes. -/
def dropHash (k : Nat) (x : SeatRun) (s : State) : State := match x.hash.bind HashCtx.pin with
  | some e => unpin (dieOfSeat k) e s
  | none => s

/-- A context opened in the hash unit, in place of one still open. -/
def openHash (k reg : Nat) (c : HashCtx) (x : SeatRun) (s : State) : State :=
  submitUnit k { unit := .hash, opcode := 0x1C, pc := x.pc, reg := reg, blocks := 0 } { x with hash := some c } (dropHash k x s)

/-- A context finished: its key's entry stays pinned until the operation has ended (R270). -/
def freeHash (k : Nat) (c : HashCtx) (o : PendOp) (y : SeatRun) (s : State) : State :=
  let s := submitUnit k { o with pins := c.pin.toList } y s
  match c.pin with
  | some e => unpin (dieOfSeat k) e s
  | none => s

/-- HSTART: opens the seat's context, keyed for HMAC (all hashes but SHA-1, R269), on the troupe's hash unit; the key's
entry stays pinned until the context is freed (R270). -/
def execHstart (k : Nat) (kx : BitVec 3) (fn : BitVec 7) (s : State) : Res :=
  let f := fn.toNat % 8
  let keyed := fn.getLsbD 3
  .next (seatInstr k 0x1C ⟨kR [kx], []⟩ (fun x s =>
    legalFn k 0x1C (decide (f ≠ 7) && decide (fn.toNat < 16) && !(keyed && decide (f = 6))) x s fun s =>
    if keyed then
      guardedS k { k := [kx] } x s fun s => withKey k 0x1C kx x s fun h e s =>
        if (mayUse h [uHMAC] pGEN ∨ mayUse h [uHMAC] pVER) ∧ h.attr.alg = 7 then
          withUnit k 0x1C .hash x s fun s =>
            openHash k kx.toNat { alg := f, key := some e.material, pin := some h.entry } x (pin (dieOfSeat k) h.entry s)
        else trap k 0x1C 0x0C kx.toNat x s
    else withUnit k 0x1C .hash x s fun s => openHash k 255 { alg := f } x s) s)

/-- HDATA: absorbs a range of scratch, the operand buffer or the result buffer, on the troupe's hash unit; with no context
open it is ILLEGAL (assumption log 34). -/
def execHdata (k : Nat) (ga : BitVec 5) (fn : BitVec 6) (s : State) : Res :=
  let src := fn.toNat
  .next (seatInstr k 0x1D ⟨gR [ga, ga + 1], []⟩ (fun x s => legalFn k 0x1D (decide (src ≤ 2)) x s fun s =>
    withPair k 0x1D ga (if src = 0 then 4096 else 256) x s fun o n s =>
    guardedS k { o := o, n := if src = 0 then n else 0 } x s fun s =>
      match x.hash with
      | none => trap k 0x1D 0x01 255 x s
      | some c =>
        let b := if src = 0 then scratchBytes x o n else if src = 1 then operandBytes x o n else resultBytes x o n
        submitAs k { unit := .hash, opcode := 0x1D, pc := x.pc, blocks := dataBlocks c.alg c.data.length b.length } x
          { x with hash := some { c with data := c.data ++ b, taint := c.taint || (decide (src = 0) && scratchTaint x o n) } } s) s)

/-- The digest's destinations: dd and the registers after it, zero-filled. -/
def digestRegs (dd : Nat) (t : Bool) (bs : Bytes) : List OpWrite :=
  (List.range ((bs.length + 15) / 16)).map fun i => .dreg (dd + i) (dOfBytes (slice (16 * i) 16 bs)) t

/-- HEND: the digest into dd and following registers, or into scratch at ga (R176, R192). -/
def execHend (k : Nat) (dd : BitVec 4) (ga : BitVec 5) (fn : BitVec 7) (s : State) : Res :=
  .next (seatInstr k 0x1E ⟨gR [ga], dR [dd, dd + 1, dd + 2, dd + 3]⟩ (fun x s => legalFn k 0x1E (decide (fn.toNat ≤ 1) && x.hash.isSome) x s fun s =>
    match x.hash with
    | none => s
    | some c =>
      let l := digestLen c.alg
      let regs := (l + 15) / 16
      let a := (getG x ga).toNat
      let dig := fit l (match c.key with
        | some key => Config.hmac c.alg key c.data
        | none => Config.hash c.alg c.data)
      let toRegs := decide (fn = 0)
      if toRegs ∧ 16 < dd.toNat + regs then trap k 0x1E 0x01 255 x s
      else if ¬ toRegs ∧ 4096 < a + l then trap k 0x1E 0x07 255 x s
      else guardedS k { d := if toRegs then (List.range regs).map fun i => dd + BitVec.ofNat 4 i else []
                        o := a, n := if toRegs then 0 else l } x s fun s =>
        withUnit k 0x1E .hash x s fun s =>
          freeHash k c { unit := .hash, opcode := 0x1E, pc := x.pc, reg := if toRegs then dd.toNat else 255
                         blocks := endBlocks c
                         dsts := if toRegs then digestRegs dd.toNat c.taint dig else [.scratch a dig c.taint] }
            { x with hash := none, sha1 := if c.alg = 6 then x.sha1 ++ [dig] else x.sha1 } s) s)

/-! ### MAU instructions (R193, R289 to R292) -/

/-- MEXP: modular exponentiation on public data (R177, R290, R291). -/
def execMexp (k : Nat) (t : BitVec 2) (ga gb gc : BitVec 5) (s : State) : Res :=
  .next (seatInstr k 0x0A ⟨gR [ga, gb, gc], []⟩ (fun x s =>
    let o := (getG x ga).toNat
    let i := (getG x gb).toNat
    let p := (getG x gc).toNat
    if 4096 < p + 8 then trap k 0x0A 0x07 255 x s
    else guardedS k { o := p, n := 8, ticket := some t.toNat } x s fun s =>
      let ln := leNat (scratchBytes x p 2)
      let le := leNat (scratchBytes x (p + 2) 2)
      if 4096 < p + 8 + ln + le ∨ 4096 < i + ln ∨ 4096 < o + ln then trap k 0x0A 0x07 255 x s
      else guardedS k { o := p, n := 8 + ln + le, o2 := i, n2 := ln } x s fun s => guardedS k { o := o, n := ln } x s fun s =>
        if scratchTaint x p (8 + ln + le) ∨ scratchTaint x i ln then trap k 0x0A 0x0A 255 x s
        else
          let m := scratchBytes x (p + 8) ln
          let e := scratchBytes x (p + 8 + ln) le
          let v := scratchBytes x i ln
          let bad := ln < 128 ∨ 512 < ln ∨ ln % 4 ≠ 0 ∨ le < 1 ∨ 512 < le ∨ leNat (scratchBytes x (p + 4) 4) ≠ 0 ∨
            beNat m % 2 = 0 ∨ (byteAt 0 m).toNat < 128 ∨ beNat m ≤ beNat v
          submitUnit k { unit := .mau, ticket := some t.toNat, opcode := 0x0A, pc := x.pc, fail := if bad then 0x10 else 0
                         dsts := [.scratch o (fit ln (Config.modExp m e v)) false] } x s) s)

/-- Signature length of a key (R264). -/
def sigLen (a : KeyAttr) : Nat := if a.alg = 0xE then (a.bits.toNat + 7) / 8 else 2 * curveLen a.alg.toNat

/-- What a signature function is told of a command's scheme: the RSA padding, and DIGEST_ALG where it names one (R264). -/
def sigScheme (padding digest : Nat) : Nat := padding + 2 * (digest + 1)

/-- Algorithms a signature key may have. -/
def sigAlg (alg : Nat) : Bool := decide (9 ≤ alg) && decide (alg ≤ 0xE)

/-- Digest bytes of a signature: the 32 bytes of e for an SM2 key (R292); for other keys the spec gives no length, and up to
64 bytes at the offset go to the signature function (assumption log 35). -/
def digestRoom (alg i : Nat) : Nat := if alg = 0xD then 32 else min 64 (4096 - i)

/-- The bytes at an offset are a SHA-1 digest the routine has finished (R192). -/
def sha1At (x : SeatRun) (i : Nat) : Bool := x.sha1.contains (scratchBytes x i 20)

/-- MSIGN (R193, R292): a signature, or Z_A for an SM2 key with fn[1] 1. -/
def execMsign (k : Nat) (t : BitVec 2) (ga gb gc : BitVec 5) (kx : BitVec 3) (fn : BitVec 6) (s : State) : Res :=
  let za := fn.getLsbD 1
  .next (seatInstr k 0x0B ⟨kR [kx] ++ gR [ga, gb, gc], []⟩ (fun x s => legalFn k 0x0B (decide (fn.toNat < 4)) x s fun s =>
    guardedS k { k := [kx], ticket := some t.toNat } x s fun s => withKey k 0x0B kx x s fun h e s =>
      let alg := h.attr.alg.toNat
      let o := (getG x ga).toNat
      let i := (getG x gb).toNat
      let p := (getG x gc).toNat
      if ¬ (mayUse h [uSIG_PRIV] pSIGN ∧ sigAlg alg) ∨ (sha1At x i ∧ ¬ za) then trap k 0x0B 0x0C kx.toNat x s
      else if za ∧ alg ≠ 0xD then trap k 0x0B 0x01 255 x s
      else
        let op : PendOp := { unit := .mau, ticket := some t.toNat, opcode := 0x0B, pc := x.pc, reg := kx.toNat, pins := [h.entry] }
        if za then
          if 4096 < p + 2 ∨ 4096 < o + 32 then trap k 0x0B 0x07 255 x s
          else
            let l := leNat (scratchBytes x p 2)
            if l ≤ 128 ∧ 4096 < p + 2 + l then trap k 0x0B 0x07 255 x s
            else guardedS k { o := p, n := 2 + l, o2 := o, n2 := 32 } x s fun s =>
              let z := fit 32 (Config.sm2Za (scratchBytes x (p + 2) l) (Config.publicKey 0xD e.material))
              submitUnit k { op with fail := if l = 0 ∨ 128 < l then 0x10 else 0
                                     dsts := [.scratch o z (scratchTaint x p (2 + l))] } x s
        else
          let n := digestRoom alg i
          if 4096 < i + 32 ∨ 4096 < o + sigLen h.attr then trap k 0x0B 0x07 255 x s
          else guardedS k { o := i, n := n, o2 := o, n2 := sigLen h.attr } x s fun s =>
            let run (secret : Bytes) (s : State) : State :=
              let sig := fit (sigLen h.attr) (Config.sign alg (fn.toNat % 2) e.material (scratchBytes x i n) []
                (BitVec.ofNat 128 (beNat (secret.take 16))))
              submitUnit k { op with fail := if rsaPrivOk h.attr e.material then 0 else 0x10
                                     dsts := [.scratch o sig (scratchTaint x i n)] } x s
            if alg = 0xC ∨ alg = 0xE then run [] s
            else withUnit k 0x0B .mau x s fun s => withDrbg k 0x0B (curveLen alg) x s run) s)

/-- ALG of a KEY_TYPE code (R265), as MVER's fn[5:2] gives it for a key in scratch (assumption log 36). -/
def keyTypeAlg (c : Nat) : Option Nat :=
  if c = 1 then some 9 else if c = 2 then some 0xA else if c = 3 then some 0xB else if c = 4 then some 0xC
  else if c = 5 then some 0xD else if c = 6 then some 0xE else none

/-- Public key and signature of a range at gc that holds the signature and then the key: an elliptic-curve signature has
the length of R264; where an RSA signature ends is a free value (assumption log 36). -/
def sigAndKey (alg : Nat) (r : Bytes) : Bytes × Bytes :=
  let n := if alg = 0xE then Config.rsaSplit r else 2 * curveLen alg
  (r.drop n, r.take n)

/-- A public key of R265's form that MVER and VERIFY take, and a signature below an RSA key's modulus (R205, R290). -/
def scratchKeyOk (alg : Nat) (pub sig : Bytes) : Bool :=
  Config.validPublic alg pub && (decide (alg ≠ 0xE) || (rsaKeyOk pub && decide (beNat sig < beNat (slice 2 (leAt 0 2 pub) pub))))

/-- The same of a handle's key. -/
def handleKeyOk (a : KeyAttr) (material sig : Bytes) : Bool :=
  Config.validPublic a.alg.toNat material && rsaPubOk a material &&
  (decide (a.alg.toNat ≠ 0xE) || decide (beNat sig < rsaModulus a material))

/-- Length of that range; an RSA key's ends with scratch at the latest. -/
def sigAndKeyLen (alg g : Nat) : Nat :=
  if alg = 0xE then 4096 - g else 2 * curveLen alg + (if alg = 0xC then 32 else 2 * curveLen alg)

/-- MVER: one byte at ga, 1 valid, 0 invalid (R193). -/
def execMver (k : Nat) (t : BitVec 2) (ga gb gc : BitVec 5) (kx : BitVec 3) (fn : BitVec 6) (s : State) : Res :=
  let inScratch := fn.getLsbD 1
  .next (seatInstr k 0x0C ⟨kR [kx] ++ gR [ga, gb, gc], []⟩ (fun x s =>
    let o := (getG x ga).toNat
    let i := (getG x gb).toNat
    let g := (getG x gc).toNat
    let go (alg : Nat) (pub sig : Bytes) (l : Nat) (bad : Bool) (pins : List Nat) (s : State) : State :=
      let n := digestRoom alg i
      if 4096 ≤ o ∨ 4096 < i + 20 ∨ 4096 < g + l then trap k 0x0C 0x07 255 x s
      else guardedS k { o := i, n := n, o2 := g, n2 := l, ticket := some t.toNat } x s fun s => guardedS k { o := o, n := 1 } x s fun s =>
        let ok := Config.verify alg (fn.toNat % 2) pub (scratchBytes x i n) sig
        submitUnit k { unit := .mau, ticket := some t.toNat, opcode := 0x0C, pc := x.pc, reg := if inScratch then 255 else kx.toNat, pins := pins
                       fail := if bad then 0x10 else 0
                       dsts := [.scratch o [BitVec.ofNat 8 (b2n ok)] (scratchTaint x i n || scratchTaint x g l)] } x s
    if inScratch then
      match keyTypeAlg (fn.toNat / 4) with
      | none => trap k 0x0C 0x01 255 x s
      | some alg =>
        let l := sigAndKeyLen alg g
        let r := sigAndKey alg (scratchBytes x g l)
        go alg r.1 r.2 l (!scratchKeyOk alg r.1 r.2) [] s
    else if 4 ≤ fn.toNat then trap k 0x0C 0x01 255 x s
    else guardedS k { k := [kx] } x s fun s => withKey k 0x0C kx x s fun h e s =>
      if ¬ (mayUse h [uSIG_PUB] pVER ∧ sigAlg h.attr.alg.toNat) then trap k 0x0C 0x0C kx.toNat x s
      else
        let sig := scratchBytes x g (sigLen h.attr)
        go h.attr.alg.toNat e.material sig (sigLen h.attr) (!handleKeyOk h.attr e.material sig) [h.entry] s) s)

/-! ### Host memory (R193, R197) -/

/-- XLD: a host read of 1 to 4,096 bytes into scratch (R197); a read the MEM gate denies, or of a command taken before an
FLR (R49), fails with HOST_ERROR. -/
def execXld (k : Nat) (t : BitVec 2) (ga gb gc : BitVec 5) (s : State) : Res :=
  .next (seatInstr k 0x2E ⟨gR [ga, gb, gc], []⟩ (fun x s =>
    let o := (getG x ga).toNat
    let a := (getG x gb).toNat
    let n := (getG x gc).toNat
    if n = 0 ∨ 4096 < n ∨ 4096 < o + n then trap k 0x2E 0x07 255 x s
    else guardedS k { o := o, n := n, ticket := some t.toNat } x s fun s =>
      let op : PendOp := { unit := .host, ticket := some t.toNat, opcode := 0x2E, pc := x.pc, dsts := [.scratch o (zeros n) false] }
      let (ok, s) := gateAccess 6 true a n 0 s
      if ok && !seatMuted s k then submit k op x s
      else commit k (x.pc + 1) { x with asyncs := x.asyncs ++
        [{ cause := 0x11, opcode := 0x2E, pc := x.pc, ticket := some t.toNat, dsts := op.dsts }] } s) s)

/-- XST: a host write from scratch or the result buffer, with the requester ID of the partition's function (R177, R197,
R89); of a command taken before an FLR it is dropped (R49). -/
def execXst (k : Nat) (t : BitVec 2) (ga gb gc : BitVec 5) (fn : BitVec 6) (s : State) : Res :=
  let res := fn.getLsbD 0
  .next (seatInstr k 0x2F ⟨gR [ga, gb, gc], []⟩ (fun x s => legalFn k 0x2F (decide (fn.toNat ≤ 1)) x s fun s =>
    let a := (getG x ga).toNat
    let o := (getG x gb).toNat
    let n := (getG x gc).toNat
    if (if res then 256 else 4096) < o + n then trap k 0x2F 0x07 255 x s
    else guardedS k { o := o, n := if res then 0 else n, ticket := some t.toNat } x s fun s =>
      if ¬ res ∧ scratchTaint x o n then trap k 0x2F 0x0A 255 x s
      else
        let (ok, s) := gateAccess 6 true a n 1 s
        if ok then commit k (x.pc + 1) x (if seatMuted s k then s
          else dataWrite (getSeat s k).part (getSeat s k).part (seatQp s k) a (if res then resultBytes x o n else scratchBytes x o n) s)
        else commit k (x.pc + 1) { x with asyncs := x.asyncs ++
          [{ cause := 0x11, opcode := 0x2F, pc := x.pc, ticket := some t.toNat }] } s) s)

/-- HOST_READ_COMPLETE: a routine's read ends with data, or with HOST_ERROR or HOST_POISON (R197). -/
def execHostReadComplete (k : Nat) (t : BitVec 2) (data : HostData) (s : State) : Res :=
  match (getSeat s k).x.ops.find? fun o => decide (o.unit = .host) && decide (o.ticket = some t.toNat) with
  | none => .next s
  | some o =>
    match data with
    | .ok b =>
      let dsts := o.dsts.map fun w => match w with
        | .scratch a z taint => .scratch a (fit z.length b) taint
        | .dreg i v taint => .dreg i v taint
        | .kreg i => .kreg i
        | .greg i v => .greg i v
        | .flags b => .flags b
        | .outcome b => .outcome b
      let s := updSeat k (fun st => { st with x := { st.x with ops := st.x.ops.map fun p => if p = o then { o with dsts := dsts } else p } }) s
      .next (completeOp k { o with dsts := dsts } 0 s)
    | .error => .next (completeOp k o 0x11 s)
    | .poison => .next (completeOp k o 0x12 s)

/-! ### The end of a unit operation (R195, R271, R273) -/

/-- A requested KAT starts once the unit has completed every operation it had accepted, and its die is up (R28, R31, R273). -/
def startKat (u : OpUnit) (n : Nat) (s : State) : State :=
  let x := getUnit s u n
  if x.katReq ∧ ¬ x.katBusy ∧ dieUp s (unitDie u n) = true ∧ (unitOps s u n).all (fun o => o.held) then updUnit u n (fun x => { x with katBusy := true }) s
  else s

/-- A failed check: counted, and Canvas event UNIT_CHECK (R271). -/
def unitCheck (u : OpUnit) (n : Nat) (s : State) : State :=
  let s := updUnit u n (fun x => { x with check := true, checkCnt := satInc x.checkCnt }) s
  raiseAlarm cUNIT_CHECK (calEventDie (unitDie u n) 0x190 none n (getUnit s u n).checkCnt.toNat s)

/-- The unit kinds that take operations from seats. -/
def opUnitOf : UnitKind → Option OpUnit
  | .block => some .block
  | .mau => some .mau
  | .hash => some .hash
  | .scu => none
  | .rng => none

/-- UNIT_OP_COMPLETE: the oldest operation of a seat on a unit ends; a failed check ends it with UNIT_ERROR.  A MAU runs
its operations in order of arrival (R289). -/
def execUnitOpComplete (k : Nat) (kind : UnitKind) (checkFail : Bool) (s : State) : Res :=
  match opUnitOf kind with
  | none => .next s
  | some u =>
    match (getSeat s k).x.ops.find? fun o => decide (o.unit = u) with
    | none => .next s
    | some o =>
      let n := unitOfSeat u k
      if o.held ∨ (u = .mau ∧ (unitOps s u n).any (fun p => decide (p.at_ < o.at_)) = true) then .next s
      else
        let s := countOps u k (if u = .mau then 1 else o.blocks) s
        let s := if checkFail then unitCheck u n s else s
        .next (wakeUnit u n (startKat u n (completeOp k o (if checkFail then 0x13 else o.fail) s)))

end Sys2Proof.Machine
end

