-- ==== Sys2Proof/Machine/Shares.lean ====
section
/-!
DEFINITION. The staged share registers: what one write changes (R122, R127, R128, R130, R162 to R164, R167).
-/
namespace Sys2Proof.Machine

def updShare (p : Nat) (f : ShareCfg → ShareCfg) (h : Shares) : Shares := { h with part := Tab.upd dShare h.part p f }

/-- The word `w` of a troupe's mask replaced. -/
def setMaskWord (m : BitVec 256) (w : Nat) (v : Word64) : BitVec 256 :=
  (m &&& ~~~ (BitVec.ofNat 256 ((2 ^ 64 - 1) * 2 ^ (64 * w)))) ||| BitVec.ofNat 256 (v.toNat * 2 ^ (64 * w))

/-- One write to a staged register, by PF BAR0 offset; reserved values leave their field (R8).  `none`: the offset is
no staged register. -/
def applyShare (troupes : Nat) (off : Nat) (v : Word64) (h : Shares) : Option Shares :=
  if 0x100000 ≤ off ∧ off < 0x104000 then
    let p := (off - 0x100000) / 0x40
    if off % 0x40 = 0 then
      some (updShare p (fun c => { c with
        pause := bitOf v 0, pauseRefuse := bitOf v 1, emptyRefuse := bitOf v 2
        weight := rwField c.weight (fld v 15 8) (fun n => n ≠ 0) }) h)
    else if off % 0x40 = 8 then
      some (updShare p (fun c => { c with
        cmdRate := BitVec.ofNat 24 (fld v 23 0)
        cmdDepth := rwField c.cmdDepth (fld v 47 32) (fun n => n ≠ 0) }) h)
    else if off % 0x40 = 0x10 then
      some (updShare p (fun c => { c with
        byteRate := BitVec.ofNat 16 (fld v 15 0)
        byteDepth := rwField c.byteDepth (fld v 55 32) (fun n => n ≠ 0) }) h)
    else none
  else if 0x104000 ≤ off ∧ off < 0x104000 + 28 * 0x20 ∧ off % 8 = 0 then
    let t := (off - 0x104000) / 0x20
    if t < troupes then some { h with map := Tab.upd dMap h.map t fun m => setMaskWord m (off % 0x20 / 8) v }
    else none
  else if off = 0x200000 then some { h with discipline := bitOf v 0 }
  else if 0x201000 ≤ off ∧ off < 0x202000 ∧ off % 0x10 = 0 then
    some (updShare ((off - 0x201000) / 0x10) (fun c => { c with
      budgetNs := rwField c.budgetNs (fld v 31 0) (fun n => n ≠ 0)
      expireEn := bitOf v 32
      flowMax := rwField c.flowMax (fld v 47 33) (fun n => decide (1 ≤ n) && decide (n ≤ 16384)) }) h)
  else if 0x301000 ≤ off ∧ off < 0x302000 ∧ off % 0x10 = 0 then
    some (updShare ((off - 0x301000) / 0x10) (fun c => { c with
      holdNs := BitVec.ofNat 24 (fld v 23 0)
      outMax := rwField c.outMax (fld v 48 32) (fun n => decide (1 ≤ n) && decide (n ≤ 65536)) }) h)
  else none

/-- A staged register as it reads back, by PF BAR0 offset. -/
def readShare (h : Shares) (off : Nat) : Word64 :=
  if 0x100000 ≤ off ∧ off < 0x104000 then
    let c := Tab.get dShare h.part ((off - 0x100000) / 0x40)
    BitVec.ofNat 64 (
      if off % 0x40 = 0 then b2n c.pause + b2n c.pauseRefuse * 2 + b2n c.emptyRefuse * 4 + c.weight.toNat * 2 ^ 8
      else if off % 0x40 = 8 then c.cmdRate.toNat + c.cmdDepth.toNat * 2 ^ 32
      else if off % 0x40 = 0x10 then c.byteRate.toNat + c.byteDepth.toNat * 2 ^ 32
      else 0)
  else if 0x104000 ≤ off ∧ off < 0x104000 + 28 * 0x20 then
    BitVec.ofNat 64 ((Tab.get dMap h.map ((off - 0x104000) / 0x20)).toNat / 2 ^ (64 * (off % 0x20 / 8)))
  else if off = 0x200000 then BitVec.ofNat 64 (b2n h.discipline)
  else if 0x201000 ≤ off ∧ off < 0x202000 then
    let c := Tab.get dShare h.part ((off - 0x201000) / 0x10)
    BitVec.ofNat 64 (c.budgetNs.toNat + b2n c.expireEn * 2 ^ 32 + c.flowMax.toNat * 2 ^ 33)
  else if 0x301000 ≤ off ∧ off < 0x302000 then
    let c := Tab.get dShare h.part ((off - 0x301000) / 0x10)
    BitVec.ofNat 64 (c.holdNs.toNat + c.outMax.toNat * 2 ^ 32)
  else 0

/-- The staged registers that a pair mirrors: all but JUG_CTL (R460). -/
def shareMirrored (off : Nat) : Bool := decide (off ≠ 0x200000)

end Sys2Proof.Machine
end

