-- ==== Sys2Proof/Machine/Service.lean ====
section
/-!
DEFINITION. Management routines as the control cores run them (R14, R230, R336, R365, R366, R384, R465): the common
checks, refusals, host accesses, and changes of the Cage with their mirror (R311, R315, R461).
-/
namespace Sys2Proof.Machine

/-! ### Roles (R459, R465, R472) -/

def fsmUNPAIRED : BitVec 16 := 0xAAAA
def fsmJOINING : BitVec 16 := 0xCCCC
def fsmSTANDBY : BitVec 16 := 0xF0F0
def fsmCLAIMING : BitVec 16 := 0xFF00
def fsmACTIVE : BitVec 16 := 0x9999
def fsmSOLO : BitVec 16 := 0xA5A5
def fsmHANDING_OVER : BitVec 16 := 0xC3C3
def fsmRELINQUISHED : BitVec 16 := 0x9696

/-- GLB_VF_STATUS.ACTIVE (R472). -/
def isActive (s : State) : Bool :=
  decide (s.trp.fsm = fsmUNPAIRED) || decide (s.trp.fsm = fsmACTIVE) || decide (s.trp.fsm = fsmSOLO)

/-- The unit whose role-dependent services are carried out: an active one, or one that hands over, whose queued Cage
services finish first (R459, R466). -/
def carriesOut (s : State) : Bool := isActive s || decide (s.trp.fsm = fsmHANDING_OVER)

/-- The role-dependent services (R465). -/
def roleDependent (r : Nat) : Bool :=
  [0x0F61, 0x0F63, 0x0F64, 0x0F65, 0x0F66, 0x0F67, 0x0F69, 0x0F6A, 0x0F6B, 0x0F6C, 0x0F6D, 0x0EF1, 0x0EF2, 0x0F40,
    0x0F80, 0x0F81, 0x0F82, 0x0FA2, 0x0FA3].contains r

/-- TRP_EVENT: a bit that goes from 0 to 1 raises one message on PF vector 0 (R473). -/
def trpEvent (b : Nat) (s : State) : State :=
  if s.trp.event.getLsbD b then s else vec0 0 { s with trp := { s.trp with event := setBit s.trp.event b } }

/-- A sticky TRP_ERR bit; a 0-to-1 change is recorded (R473, R481). -/
def trpErr (b : Nat) (s : State) : State :=
  if s.trp.err.getLsbD b then s
  else calEvent (0x160 + b) none 0 s.trp.epoch.toNat { s with trp := { s.trp with err := setBit s.trp.err b } }

/-! ### Which routine runs where (R13, R14, R230, R300, R336, R365) -/

/-- The routine-store services, open to every partition for its own routines (R230, R231). -/
def isStoreService (r : Nat) : Bool := decide (0x0EF0 ≤ r) && decide (r ≤ 0x0EF7)

/-- The management routines of partition 0. -/
def mgmtKnown (r : Nat) : Bool :=
  [0x0F20, 0x0F21, 0x0F22, 0x0F28, 0x0F29, 0x0F2A, 0x0F2B, 0x0F30, 0x0F40, 0x0F41, 0x0F50, 0x0F51, 0x0F52, 0x0F60,
    0x0F61, 0x0F62, 0x0F63, 0x0F64, 0x0F65, 0x0F66, 0x0F67, 0x0F68, 0x0F69, 0x0F6A, 0x0F6B, 0x0F6C, 0x0F6D, 0x0F6E,
    0x0F70, 0x0F71, 0x0F72, 0x0F73, 0x0F80, 0x0F81, 0x0F82, 0x0F90, 0x0F91, 0x0F92, 0x0F93, 0x0F94, 0x0FA0, 0x0FA1,
    0x0FA2, 0x0FA3, 0x0FB0, 0x0FC0, 0x0FC1, 0x0FC2].contains r

/-- A command runs on the control cores (R141). -/
def runsOnCore (p r : Nat) : Bool := isStoreService r || (decide (p = 0) && mgmtKnown r)

/-- The control-core pair of a service (R365). -/
def pairOf (r : Nat) : Nat :=
  if (0x0F60 ≤ r ∧ r ≤ 0x0F6E) ∨ (0x0F71 ≤ r ∧ r ≤ 0x0F73) ∨ (0x0F80 ≤ r ∧ r < 0x0FB0) then 0 else 1

/-! ### Ends and refusals (R223, R237) -/

/-- The refusal record, RESULT bytes 16 to 31. -/
def refusalRecord (cls check idx reg : Nat) : Bytes :=
  [BitVec.ofNat 8 cls, BitVec.ofNat 8 check] ++ toLE 2 idx ++ [BitVec.ofNat 8 reg] ++ zeros 11

/-- A service refused with a CLASS. -/
def refuse (id : Nat) (status : Byte) (cls : Nat) (s : State) : State :=
  finish id status (refusalRecord cls 0 0xFFFF 0xFF) false s

/-- A service done. -/
def done (id : Nat) (data : Bytes) (s : State) : State := finish id stOK data false s

/-! ### Serialisation (R231, R336, R362) -/

/-- The services that are carried out one at a time: group 1 store services and group 2 vault services of one partition,
group 3 the firmware services that change the device (R362). -/
def serialGroup (r : Nat) : Nat :=
  if [0x0EF1, 0x0EF2, 0x0EF4, 0x0EF5].contains r then 1
  else if 0x0F61 ≤ r ∧ r ≤ 0x0F6E ∧ r ≠ 0x0F68 then 2 else if 0x0F70 ≤ r ∧ r ≤ 0x0F72 then 3 else 0

/-- The partition a service of those groups names. -/
def svcPart (r : Nat) (raw : Bytes) : Nat :=
  let o := if r = 0x0EF1 then 48 else if r = 0x0F61 then 44
    else if r = 0x0F63 ∨ r = 0x0F6A ∨ r = 0x0F6E ∨ r = 0x0EF0 ∨ r = 0x0F60 ∨ r = 0x0F68 ∨ r = 0x0F40 then 24
    else if r = 0x0EF6 then 26 else 36
  (byteAt o raw).toNat

/-- An earlier service of the same group and partition has not completed. -/
def serialWaits (s : State) (i : Item) : Bool :=
  let g := serialGroup i.routine
  decide (g ≠ 0) && s.items.any fun j => decide (j.id < i.id) && decide (j.place = .core) &&
    decide (serialGroup j.routine = g) && (decide (g = 3) || decide (svcPart j.routine j.raw = svcPart i.routine i.raw))

/-- Services that change the Cage: they wait while a join runs (R462). -/
def cageService (r : Nat) : Bool :=
  [0x0F61, 0x0F65, 0x0F66, 0x0F67, 0x0F6C, 0x0F6D, 0x0EF1, 0x0EF2, 0x0FA1].contains r

/-- A service the control cores carry out: the command with admission number `id`, while it runs there and has not
begun; a stopped pair ends it with HALTED; it waits for handover and while pair 1 is halted (R357, R366, R403); a role-dependent service is
STALE_ROLE off the active unit or with another epoch (R459, R465); a service of a serial flow waits for its predecessor
(R134, R138). -/
def onService (id routine : Nat) (body : Item → State → State) (s : State) : State :=
  match getItem s id with
  | none => s
  | some i =>
    if i.place ≠ .core ∨ i.routine ≠ routine ∨ i.phase ≠ 0 then s
    else if (pairOf routine = 0 ∧ s.boot.stop0) ∨ (pairOf routine = 1 ∧ s.boot.stop1) then finish id stHALTED [] false s
    else if ¬ s.boot.handover ∨ (pairOf routine = 1 ∧ s.dbg.core1Halted) then s
    else if roleDependent routine ∧ (¬ carriesOut s ∨ i.le 60 4 ≠ s.trp.epoch.toNat) then finish id stSTALE_ROLE [] false s
    else if serialWaits s i ∨ i.serialWait ∨ (cageService routine ∧ s.trp.joining) then s
    else body i s

/-- The pointer form a store or vault service must have (R230, R336). -/
def withForm (i : Item) (pointer : Bool) (s : State) (body : State → State) : State :=
  if (byteAt 7 i.raw).getLsbD 7 = pointer then body s else refuse i.id stOPERAND_FORMAT 0x01 s

/-- A vault service while the Cage is not ready (R313). -/
def withCage (i : Item) (s : State) (body : State → State) : State :=
  if s.vault.ready then body s else refuse i.id stNOT_READY 0x0F s

/-! ### Host memory (R66, R378, R384) -/

/-- A transfer of a service in host space, through a Roustabout channel with colour 3, as the PF with Bus Master Enable: the
bytes that pass the MEM gate. -/
def svcAccess (a n t : Nat) (s : State) : Nat × State :=
  if ¬ (getFunc s 0).busMaster then (0, s) else passedBytes 64 3 true t a n s

/-- A service reads `n` bytes of host memory: `buf` says what the read returns. -/
def svcRead (id a n : Nat) (buf : HostData) (s : State) (body : Bytes → State → State) : State :=
  let (m, s) := svcAccess a n 0 s
  if m < n ∨ itemMuted s id = true then finish id stABORTED [] false s
  else match buf with
    | .ok b => body (fit n b) s
    | .error => finish id stABORTED [] false s
    | .poison => finish id stPOISONED [] false s

/-- A service writes host memory as the PF; what it writes for a VF's own command is logged for that VF (R89, R231).  What
was written before a denied request stands (R381). -/
def svcWrite (id a : Nat) (b : Bytes) (s : State) (body : State → State) : State :=
  let (m, s) := svcAccess a b.length 1 s
  let i := getItem s id
  let own := (i.map Item.part).getD 0
  let q := (i.map Item.qp).getD 0
  let s := if itemMuted s id ∨ m = 0 then s else dataWrite 0 own q a (b.take m) s
  if m < b.length then finish id stABORTED [] false s else body s

/-- A service's operand buffer in pointer form: address in bytes 24 to 31, length in 32 to 35 (R65); a buffer of no bytes
is not read. -/
def svcBuffer (i : Item) (buf : HostData) (s : State) (body : Bytes → State → State) : State :=
  if i.le 32 4 = 0 then body [] s else svcRead i.id (i.le 24 8) (i.le 32 4) buf s body

/-- A service that writes a whole output, or OPERAND_FORMAT with the size needed in bytes 16 to 19. -/
def svcOutput (i : Item) (a len : Nat) (out : Bytes) (s : State) : State :=
  if len < out.length then finish i.id stOPERAND_FORMAT (toLE 4 out.length) false s
  else svcWrite i.id a out s fun s => finish i.id stOK (toLE 4 out.length) true s

/-! ### Cage changes (R311, R315, R327, R329) -/

/-- A slot record changed: a bank is written only where contents are given. -/
def slotChange (gen : Word32) (valid : Bool) (role : BitVec 2) (alg : BitVec 4) (bank : Option Bytes) (r : CageRec) :
    CageRec :=
  let r := match bank with
    | some b => r.commit b
    | none => r
  { r with word := gen, valid := valid, role := role, alg := alg }

/-- A manifest or registry record changed. -/
def digestChange (counter : Word32) (digest : Option Bytes) (r : CageRec) : CageRec :=
  let r := match digest with
    | some b => r.commit b
    | none => r
  { r with word := counter, valid := true }

def dVault : Nat → VaultPart := fun _ => {}
def getVPart (s : State) (p : Nat) : VaultPart := Tab.get dVault s.vault.parts p
def updVPart (p : Nat) (f : VaultPart → VaultPart) (s : State) : State :=
  { s with vault := { s.vault with parts := Tab.upd dVault s.vault.parts p f } }

/-- One write of a change, on this unit.  A slot's generation change is sent to every die (R327). -/
def applyCageWrite (w : CageWrite) (s : State) : State := match w with
  | .slot p sl gen valid role alg bank =>
    sendGen p sl gen (setSlot p sl (slotChange gen valid role alg bank (slotRec s p sl)) s)
  | .man p counter digest => setMan p (digestChange counter (some digest) (manRec s p)) s
  | .reg p counter digest => setReg p (digestChange counter digest (regRec s p)) s
  | .pairing secret => { s with cage := { s.cage with pairing := (digestChange 0 (some secret) s.cage.pairing).plain } }
  | .registry p r => updVPart p (fun v => { v with registry := r }) s
  | .manifest p entries => updRPart p (fun r => { r with entries := entries }) s
  | .share off value => match applyShare (nTroupes s.part.variant) off value s.booth.staged with
    | none => s
    | some h => { s with booth := { s.booth with
        staged := h, writes := s.booth.writes ++ [{ at_ := s.time.time64, off := off, value := value }] } }
  | .dirQuota p n => { s with dir := { s.dir with parts := Tab.upd dDirPart s.dir.parts p fun x => { x with quota := BitVec.ofNat 23 n } } }
  | .routineQuota p c k => updRPart p (fun r => { r with countMax := c, kibMax := k }) s

/-- Every directory record of a partition freed (R344, R336). -/
def releaseDir (p : Nat) (s : State) : Nat × State :=
  let l := List.filter (fun (e : Nat × DirRec) => decide (e.2.part = p)) s.dir.recs
  (l.length, l.foldl (fun s e => { dropRef (dirRef p e.1 e.2.issue) s with dir := dirFree e.1 s.dir }) s)

/-- The first scheduling epoch that begins at least 200 ns after a commit (R122, R234), as TIME64 / 10,000. -/
def effectEpoch (t : Nat) : Nat := (t + 200 + 9999) / 10000

/-- What the unit that carries a change out does beside its writes; an install or revoke is stamped with its commit and
effect epoch. -/
def applyLocal (a : LocalAct) (s : State) : State := match a with
  | .routine p x => updRPart p (fun r => { r with
      restored := true, pending := r.pending ++ [{ x with at_ := s.time.time64, epoch := effectEpoch (now s) }] }) s
  | .endCeremony p => updVPart p (fun v => { v with ceremony := none }) s
  | .endTransfer p => updVPart p (fun v => { v with transfer := none }) s
  | .unloadManifest p => updRPart p (noRoutines s p) s
  | .releaseDir p => (releaseDir p s).2
  | .slotCmd gen => { s with vault := { s.vault with code := 0, gen := gen, keyStage := [] } }

/-- A VLT_SLOT_CMD waits for its mirror. -/
def slotCmdWaits (s : State) : Bool := s.trp.mirrors.any fun m => m.change.acts.any fun a => match a with
  | .slotCmd _ => true
  | _ => false

/-- BUSY clears and every change of a slot completes once its generation has been applied on every active die (R315,
R329). -/
def genSettled (s : State) : State :=
  if gensApplied s then
    let waiting := s.items.filter fun i => decide (i.place = .core) && decide (i.phase = 2)
    waiting.foldl (fun s i => match i.outcome with
      | some o => finish i.id o.status o.data o.hostBuf s
      | none => s) { s with vault := { s.vault with busy := s.vault.busy && slotCmdWaits s } }
  else s

/-- Whether a change alters a slot, and whether an install or revoke waits for its epoch. -/
def changesSlot (c : Change) : Bool := c.writes.any fun w => match w with
  | .slot _ _ _ _ _ _ _ => true
  | _ => false

def waitsEpoch (c : Change) : Bool := c.acts.any fun a => match a with
  | .routine _ _ => true
  | _ => false

/-- A change committed on this unit; its service completes now, when generations are applied (phase 2), or when an
install has drained (phase 3, R234). -/
def commitChange (c : Change) (s : State) : State :=
  let s := c.writes.foldl (fun s w => applyCageWrite w s) s
  let s := c.acts.foldl (fun s a => applyLocal a s) s
  match c.item with
  | none => genSettled s
  | some id =>
    let hold (ph : Nat) (data : Bytes) (s : State) : State :=
      updItem id (fun i => { i with phase := ph, outcome := some { status := stOK, data := data } }) s
    let late := toLE 4 (effectEpoch (now s))
    if changesSlot c then genSettled (hold 2 c.data s)
    else if waitsEpoch c then hold 3 (c.data.take 4 ++ late ++ c.data.drop 8) s
    else done id c.data s

/-- The unit serves with a standby: its changes are mirrored first (R461, R463). -/
def mirrors (s : State) : Bool := (decide (s.trp.fsm = fsmACTIVE) || decide (s.trp.fsm = fsmHANDING_OVER)) && s.trp.standby

/-- STATUS and CLASS of a service whose mirror failed, which the spec leaves open: a status of R10 that ends a command, by a
free value (assumption log 40); DEFERRED and LATE are the placeholder's and the late completion's alone (R12). -/
def mirrorStatus (s : State) : Byte :=
  let l : List Byte := [stOK, stKEY_STALE, stKEY_USAGE, stKEY_NOT_FOUND, stKEY_BLOCK_AUTH, stNOT_READY,
    stQUEUE_PAUSED, stADMISSION_REFUSED, stVERIFY_MISMATCH, stPOISONED, stOPERAND_FORMAT, stSTALE_ROLE, stHALTED,
    stROUTINE_FAULT, stROUTINE_NOT_LOADED, stTAINT_VIOLATION, stABORTED, stTIMED_OUT]
  l.getD ((Config.freeWord s.freeCtr).toNat % l.length) 0

/-- A change that its mirror refused: nothing commits; a VLT_SLOT_CMD ends with CODE 4, and a register change stays
held (R315, R461, R463). -/
def mirrorFail (c : Change) (s : State) : State :=
  let s := trpEvent 2 (trpErr 2 { s with trp := { s.trp with mirrorFails := satInc s.trp.mirrorFails } })
  match c.item with
  | some id =>
    let st := mirrorStatus s
    refuse id st ((Config.freeWord (s.freeCtr + 1)).toNat % 256) { s with freeCtr := s.freeCtr + 2 }
  | none =>
    if c.acts = [] then { s with trp := { s.trp with held := s.trp.held ++ [c] } }
    else { s with vault := { s.vault with busy := false, code := 4, keyStage := [] } }

/-- A change carried out: mirrored first where the unit has a standby (R461). -/
def submitChange (c : Change) (s : State) : State :=
  if ¬ mirrors s then commitChange c s
  else if ¬ s.trp.linkUp then
    (if c.item = none ∧ c.acts = [] then { s with trp := { s.trp with held := s.trp.held ++ [c] } } else mirrorFail c s)
  else
    let n := s.trp.mirrorSeq + 1
    let s := emit (.mirror n s.trp.epoch c.writes) { s with trp := { s.trp with
      mirrorSeq := n, txSeq := s.trp.txSeq + 1
      mirrors := s.trp.mirrors ++ [{ seq := n, at_ := s.time.time64, change := c }] } }
    match c.item with
    | some id => updItem id (fun i => { i with phase := 1 }) s
    | none => s

/-! ### Custodian authorisations (R233, R333) -/

/-- The default distinguishing identifier of SM2 (R217), the bytes "1234567812345678". -/
def sm2Id : Bytes := [0x31, 0x32, 0x33, 0x34, 0x35, 0x36, 0x37, 0x38, 0x31, 0x32, 0x33, 0x34, 0x35, 0x36, 0x37, 0x38]

/-- SM3 of a byte string. -/
def sm3 (b : Bytes) : Bytes := fit 32 (Config.hash 5 b)

/-- The digest e an SM2 signature with the default identifier covers. -/
def sm2Digest (pub msg : Bytes) : Bytes := sm3 (fit 32 (Config.sm2Za sm2Id pub) ++ msg)

/-- An SM2 signature over a message under a public key. -/
def sm2Verify (pub msg sig : Bytes) : Bool := Config.verify 0xD 0 pub (sm2Digest pub msg) sig

/-- Digest and signature of a custodian's scheme: SM2 with SM3, ECDSA P-256 with SHA-256, P-384 with SHA-384 (R331). -/
def custodianVerify (c : Custodian) (body sig : Bytes) : Bool :=
  if c.scheme = 1 then sm2Verify (c.key.take 64) body (sig.take 64)
  else if c.scheme = 2 then Config.verify 9 0 (c.key.take 64) (Config.hash 0 body) (sig.take 64)
  else Config.verify 0xA 0 c.key (Config.hash 1 body) sig

/-- Signature entry `k` after `o`: the custodian it names, and its 96 bytes. -/
def sigEntry (o k : Nat) (b : Bytes) : Nat × Bytes := ((byteAt (o + 100 * k) b).toNat, slice (o + 100 * k + 4) 96 b)

/-- One entry is well formed and valid under a registry. -/
def entryOk (r : Registry) (o k : Nat) (msg b : Bytes) : Bool :=
  let (idx, sig) := sigEntry o k b
  decide (leAt (o + 100 * k + 1) 3 b = 0) &&
  match r.custodians.find? fun c => decide (c.index = idx) with
  | none => false
  | some c => (decide (c.scheme = 3) || decide (sig.drop 64 = zeros 32)) && custodianVerify c msg sig

/-- An authorisation record meets R233 under a registry and a quorum: format, M entries of distinct custodians, every
signature over bytes 0 to 63. -/
def quorumOk (r : Registry) (quorum : Nat) (b : Bytes) : Bool :=
  let m := (byteAt 64 b).toNat
  decide (1 ≤ m) && decide (m ≤ 16) && decide (b.length = 68 + 100 * m) && decide (leAt 65 3 b = 0) && decide (quorum ≤ m) &&
  (List.range m).all (fun k => entryOk r 68 k (b.take 64) b) &&
  decide (((List.range m).map fun k => (sigEntry 68 k b).1).Nodup)

/-- The nonce an authorisation presents is the valid one: 600 s of TIME64 have not passed (R232). -/
def nonceOk (n : Option (BitVec 128 × Word64)) (b : Bytes) (s : State) : Bool :=
  match n with
  | none => false
  | some (v, t) => decide (slice 16 16 b = toBE 16 v.toNat) && decide (now s < t.toNat + 600000000000)

/-- Policy class of a vault action (R332); LCS_SCRAP takes ERASE (R412), and the debug, Canvas and pairing services
CUSTODIAN (R417, R443, R471). -/
def vaultClass (action : Nat) : Nat :=
  if action = 0x10 then 1 else if action = 0x11 ∨ action = 0x12 then 2 else if action = 0x13 then 3
  else if action = 0x14 ∨ action = 0x16 then 4 else if action = 0x15 then 5 else if action = 0x17 ∨ action = 0x18 then 6 else 1

/-- Registry digest zero: the registry is empty (R334). -/
def regEmpty (s : State) (p : Nat) : Bool := decide ((regRec s p).digest = zeros 32)

/-- The vault counter of a partition. -/
def vaultCounter (s : State) (p : Nat) : Word32 := (regRec s p).word

/-- An action of R333 on a partition: what the authorisation body must say. -/
structure AuthWant where
  action  : Nat
  part    : Nat
  slot    : Nat := 0xFF
  param   : Bytes := [0, 0, 0, 0]
  subject : Bytes
  deriving DecidableEq, Repr

/-- The body of a vault authorisation matches the command and the device state. -/
def authBodyOk (w : AuthWant) (signer : Nat) (b : Bytes) (s : State) : Bool :=
  decide (leAt 0 4 b = 0x00020002) && decide ((byteAt 4 b).toNat = w.action) && decide ((byteAt 5 b).toNat = w.part) &&
  decide ((byteAt 6 b).toNat = w.slot) && decide ((byteAt 7 b).toNat = signer) && decide (slice 8 4 b = fit 4 w.param) &&
  decide (leAt 12 4 b = (vaultCounter s w.part).toNat) && decide (slice 32 32 b = fit 32 w.subject)

/-- A vault nonce spent. -/
def spendVault (p : Nat) (s : State) : State := updVPart p (fun v => { v with nonce := none }) s

/-- A vault authorisation examined (R333 to R335): NOT_READY while the signing registry awaits restore; else the nonce
is spent and any failure is CLASS 0x07. -/
def vaultAuth (id : Nat) (w : AuthWant) (b : Bytes) (s : State) (body : State → State) : State :=
  let byte7 := (byteAt 7 b).toNat
  let p0 := decide (byte7 = 1)
  let signer := if p0 then 0 else w.part
  let unrestored (p : Nat) : Bool := !regEmpty s p && (getVPart s p).registry.isNone
  if unrestored signer ∨ unrestored w.part then refuse id stNOT_READY 0x0C s
  else
    let n := (getVPart s w.part).nonce
    let s1 := spendVault w.part s
    let p0Allowed := decide (w.action = 0x17) || ((decide (w.action = 0x10) || decide (w.action = 0x15)) && regEmpty s w.part)
    let ok := match (getVPart s signer).registry with
      | none => false
      | some r => (!p0 || p0Allowed) && decide (byte7 ≤ 1) && authBodyOk w byte7 b s && nonceOk n b s &&
          quorumOk r (r.policy.getD (vaultClass w.action) 17) b
    if ok then body s1 else refuse id stKEY_BLOCK_AUTH 0x07 s1

end Sys2Proof.Machine
end

