-- ==== Sys2Proof/Machine/Vault.lean ====
section
/-!
DEFINITION. The vault slot registers' operations, generations, custodians, ceremonies, blobs and the vault services (R306,
R314, R315, R327 to R344).
-/
namespace Sys2Proof.Machine

/-! ### Derivation and identity (R306, R307, R367, R368) -/

/-- ASCII bytes of a label. -/
def ascii (t : String) : Bytes := t.toList.map fun c => BitVec.ofNat 8 c.toNat

/-- The fuse root secret; zeros where it has been destroyed or never programmed. -/
def rootSecret (s : State) : Bytes := if s.fuses.rootGone then List.replicate 32 0xFF else s.fuses.root.getD (zeros 32)

/-- The orders of the SM2 and P-384 groups (GB/T 32918, FIPS 186-5). -/
def sm2Order : Nat := 0xFFFFFFFEFFFFFFFFFFFFFFFFFFFFFFFF7203DF6B21C6052B53BBF40939D54123
def p384Order : Nat :=
  0xFFFFFFFFFFFFFFFFFFFFFFFFFFFFFFFFFFFFFFFFFFFFFFFFC7634D81F4372DDF581A0DB248B0A77AECEC196ACCC52973

/-- The SM2 identity private key (R367). -/
def idPrivSm2 (s : State) : Bytes :=
  toBE 32 (1 + beNat (fit 40 (Config.kdf (rootSecret s) (ascii "PACHACA DEVID SM2") (toLE 8 s.fuses.serial.toNat) 40)) % (sm2Order - 1))

/-- The P-384 identity private key. -/
def idPrivP384 (s : State) : Bytes :=
  toBE 48 (1 + beNat (fit 56 (Config.kdf (rootSecret s) (ascii "PACHACA DEVID P384") (toLE 8 s.fuses.serial.toNat) 56)) % (p384Order - 1))

def idPubSm2 (s : State) : Bytes := fit 64 (Config.publicKey 0xD (idPrivSm2 s))

/-- The identity signer's SM2 signature over a message, with a secret of its own (R368). -/
def idSign (msg : Bytes) (s : State) : Bytes × State :=
  let (r, s) := drawRoot 16 s
  (fit 64 (Config.sign 0xD 0 (idPrivSm2 s) (sm2Digest (idPubSm2 s) msg) [] (BitVec.ofNat 128 (beNat r))), s)

/-- A role and an algorithm a slot may have (R307). -/
def slotKindOk (role alg : Nat) : Bool :=
  if role = 0 then decide (2 ≤ alg) && decide (alg ≤ 6) else decide (role ≤ 2) && decide (alg = 5)

/-- Root DRBG output for a service; NOT_READY while the generators are stopped (R298). -/
def withRoot (id n : Nat) (s : State) (body : Bytes → State → State) : State :=
  if drbgDown s ∨ ¬ s.units.rng.drbgReady then finish id stNOT_READY [] false s
  else
    let (b, s) := drawRoot n s
    body b s

/-- KCV of a slot's key, 5 bytes zero-padded, and its length (R345). -/
def slotKcv (r : CageRec) : Bytes := kcvOf r.alg.toNat r.key

/-! ### VLT_SLOT_CMD (R314, R315) -/

/-- A slot operation refused: the staged key is cleared whatever the CODE. -/
def slotRefused (code : Nat) (gen : Word32) (s : State) : State :=
  { s with vault := { s.vault with code := BitVec.ofNat 3 code, gen := gen, keyStage := [] } }

/-- A slot operation: no effect while BUSY; CODE 3, 1, 2 in that order; else BUSY and the change. -/
def slotCmd (write : Bool) (f : CageRec → CageWrite) (s : State) : State :=
  let v := s.vault
  let r := slotRec s v.selPart.toNat v.selSlot.toNat
  if v.busy then s
  else if ¬ v.ready then slotRefused 3 r.word s
  else if r.word = 0xFFFFFFFF then slotRefused 1 r.word s
  else if write ∧ ¬ slotKindOk v.role.toNat v.alg.toNat then slotRefused 2 r.word s
  else submitChange { writes := [f r], acts := [.slotCmd (r.word + 1)] } { s with vault := { v with busy := true, keyStage := [] } }

/-- The staged key, 32 bytes. -/
def stagedKey (s : State) : Bytes := (List.range 4).flatMap fun i => toLE 8 (Tab.get (fun _ => (0 : Word64)) s.vault.keyStage i).toNat

def execVltSlotWrite (s : State) : Res :=
  let v := s.vault
  .next (slotCmd true (fun r => .slot v.selPart.toNat v.selSlot.toNat (r.word + 1) true v.role v.alg (some (stagedKey s))) s)

def execVltSlotAdvance (s : State) : Res :=
  let v := s.vault
  .next (slotCmd false (fun r => .slot v.selPart.toNat v.selSlot.toNat (r.word + 1) r.valid r.role r.alg none) s)

def execVltSlotErase (s : State) : Res :=
  let v := s.vault
  .next (slotCmd false (fun r => .slot v.selPart.toNat v.selSlot.toNat (r.word + 1) false r.role r.alg none) s)

/-- GEN_APPLY: the oldest change sent to an active die is applied in the order of its key cache (R327, R328). -/
def execGenApply (die : Nat) (s : State) : Res :=
  if dieState s die = .active then .next (genSettled (updKc die applyGen s)) else .next s

/-! ### Challenges and registries (R331 to R337) -/

/-- VAULT_CHALLENGE. -/
def execVaultChallenge (id : Nat) (s : State) : Res :=
  .next (onService id 0x0F60 (fun i s => withForm i false s fun s => withCage i s fun s =>
    withRoot id 16 s fun b s =>
      done id b (updVPart (i.le 24 1) (fun v => { v with nonce := some (BitVec.ofNat 128 (beNat b), s.time.time64) }) s)) s)

/-- A registry's custodian entries. -/
def parseCustodians (b : Bytes) (n : Nat) : List Custodian :=
  (List.range n).map fun k =>
    let o := 16 + 112 * k
    { index := (byteAt o b).toNat, scheme := (byteAt (o + 1) b).toNat, key := slice (o + 16) 96 b }

/-- The smallest M of a class (R332). -/
def classMin (c : Nat) : Nat := if c = 3 then 1 else 2

/-- A registry that meets R331 and R332. -/
def parseRegistry (p : Nat) (b : Bytes) : Option Registry :=
  let n := (byteAt 5 b).toNat
  let cs := parseCustodians b n
  let policy := (List.range 7).map fun c => (byteAt (8 + c) b).toNat
  let entry (k : Nat) : Bool := decide (leAt (16 + 112 * k + 2) 2 b = 0)
  let keyOk (c : Custodian) : Bool := decide (c.index ≤ 15) && decide (1 ≤ c.scheme) && decide (c.scheme ≤ 3) &&
    (decide (c.scheme = 3) || decide (c.key.drop 64 = zeros 32))
  let rising := (cs.zip (cs.drop 1)).all fun x => decide (x.1.index < x.2.index)
  let polOk := (List.range 7).all fun c => decide (classMin c ≤ policy.getD c 0) && decide (policy.getD c 0 ≤ n)
  if leAt 0 4 b = 0x00040001 ∧ (byteAt 4 b).toNat = p ∧ 1 ≤ n ∧ n ≤ 16 ∧ leAt 6 2 b = 0 ∧ byteAt 15 b = 0 ∧
      b.length = 16 + 112 * n ∧ (List.range n).all entry = true ∧ cs.all keyOk = true ∧ rising = true ∧ polOk = true then
    some { policy := policy, custodians := cs, raw := b }
  else none

/-- The custodians of a registry whose public key is new to the partition. -/
def newCustodians (old : Option Registry) (r : Registry) : List Custodian :=
  r.custodians.filter fun c => match old with
    | none => true
    | some o => !(o.custodians.any fun d => decide (d.key = c.key) && decide (d.scheme = c.scheme))

/-- The proofs of possession of R337: one entry to each new custodian, in index order, over the SM3 of the registry and
the nonce. -/
def proofsOk (old : Option Registry) (r : Registry) (nonce proofs : Bytes) : Bool :=
  let l := newCustodians old r
  let msg := sm3 (r.raw ++ nonce)
  decide (proofs.length = 100 * l.length) &&
  (List.range l.length).all fun k => match l[k]? with
    | none => false
    | some c => decide ((sigEntry 0 k proofs).1 = c.index) && entryOk r 0 k msg proofs

/-- The first registry of partition 0: every custodian of the new registry signs (R334). -/
def firstRegistryAuth (id : Nat) (w : AuthWant) (r : Registry) (b : Bytes) (s : State) (body : State → State) : State :=
  let n := (getVPart s w.part).nonce
  let s1 := spendVault w.part s
  if authBodyOk w 0 b s ∧ nonceOk n b s ∧ quorumOk r r.custodians.length b then body s1 else refuse id stKEY_BLOCK_AUTH 0x07 s1

/-- VAULT_REGISTRY_SET (R334, R336, R337). -/
def execVaultRegistrySet (id : Nat) (buf : HostData) (s : State) : Res :=
  .next (onService id 0x0F61 (fun i s => withForm i true s fun s => withCage i s fun s => svcBuffer i buf s fun b s =>
    let p := i.le 44 1
    let l1 := i.le 36 4
    let l2 := i.le 40 4
    match parseRegistry p (b.take l1) with
    | none => refuse id stOPERAND_FORMAT 0x01 s
    | some r =>
      if b.length < l1 + l2 then refuse id stOPERAND_FORMAT 0x01 s
      else
        let auth := slice l1 l2 b
        let w : AuthWant := { action := 0x10, part := p, subject := sm3 r.raw }
        let old := (getVPart s p).registry
        let go (s : State) : State :=
          if proofsOk old r (slice 16 16 auth) (b.drop (l1 + l2)) then
            let c := vaultCounter s p + 1
            submitChange { item := some id, writes := [.reg p c (some (sm3 r.raw)), .registry p (some r)], data := toLE 4 c.toNat } s
          else refuse id stKEY_BLOCK_AUTH 0x07 s
        if p = 0 ∧ regEmpty s 0 then firstRegistryAuth id w r auth s go else vaultAuth id w auth s go) s)

/-- VAULT_REGISTRY_RESTORE (R335). -/
def execVaultRegistryRestore (id : Nat) (buf : HostData) (s : State) : Res :=
  .next (onService id 0x0F62 (fun i s => withForm i true s fun s => withCage i s fun s => svcBuffer i buf s fun b s =>
    let p := i.le 36 1
    if sm3 b ≠ (regRec s p).digest then refuse id stKEY_BLOCK_AUTH 0x08 s
    else match parseRegistry p b with
      | none => refuse id stOPERAND_FORMAT 0x01 s
      | some r => done id (toLE 4 (vaultCounter s p).toNat) (updVPart p (fun v => { v with registry := some r }) s)) s)

/-! ### Ceremonies (R338, R339) -/

/-- Open ceremonies and transfers of the package. -/
def openCount (s : State) : Nat :=
  (s.vault.parts.map fun e => b2n e.2.ceremony.isSome + b2n e.2.transfer.isSome).sum

/-- An ephemeral SM2 key pair and a nonce drawn: nonce, private key. -/
def drawEphemeral (s : State) : Bytes × Bytes × State :=
  let (n, s) := drawRoot 16 s
  let (d, s) := drawRoot 32 s
  (n, d, s)

/-- VAULT_CEREMONY_OPEN. -/
def execVaultCeremonyOpen (id : Nat) (s : State) : Res :=
  .next (onService id 0x0F63 (fun i s => withForm i false s fun s => withCage i s fun s =>
    let p := i.le 24 1
    let sl := i.le 25 1
    let role := i.le 26 1
    let alg := i.le 27 1
    let c := i.le 28 1
    if 8 ≤ sl ∨ ¬ slotKindOk role alg ∨ c < 2 ∨ 16 < c ∨ i.le 40 4 < 160 then refuse id stOPERAND_FORMAT 0x01 s
    else if 16 ≤ openCount s - b2n (getVPart s p).ceremony.isSome then refuse id stOPERAND_FORMAT 0x03 s
    else withRoot id 0 s fun _ s =>
      let (n, d, s) := drawEphemeral s
      let no := s.vault.nextId
      let head := toLE 4 0x00070001 ++ toLE 4 no ++ [BitVec.ofNat 8 p, BitVec.ofNat 8 sl, BitVec.ofNat 8 role,
        BitVec.ofNat 8 alg, BitVec.ofNat 8 c, 0, 0, 0] ++ n ++ fit 64 (Config.publicKey 0xD d)
      let (sig, s) := idSign head s
      svcWrite id (i.le 32 8) (head ++ sig) s fun s =>
        let x : Ceremony := { id := no, slot := sl, role := role, alg := alg, c := c, statement := head ++ sig, priv := d
                              at_ := s.time.time64 }
        let s := updVPart p (fun v => { v with ceremony := some x }) s
        finish id stOK (toLE 4 no) true { s with vault := { s.vault with nextId := no + 1 } }) s)

/-- An open ceremony, or CLASS 0x0A. -/
def withCeremony (id p no : Nat) (s : State) (body : Ceremony → State → State) : State :=
  match (getVPart s p).ceremony with
  | none => refuse id stOPERAND_FORMAT 0x0A s
  | some c =>
    if c.id ≠ no ∨ c.at_.toNat + 3600000000000 ≤ now s then refuse id stOPERAND_FORMAT 0x0A s else body c s

/-- VAULT_COMPONENT: a signature or custodian that does not hold is CLASS 0x07, a duplicate, surplus or malformed
component CLASS 0x0A. -/
def execVaultComponent (id : Nat) (buf : HostData) (s : State) : Res :=
  .next (onService id 0x0F64 (fun i s => withForm i true s fun s => withCage i s fun s => svcBuffer i buf s fun b s =>
    let p := i.le 36 1
    let cust := i.le 37 1
    withCeremony id p (i.le 40 4) s fun c s =>
      match (getVPart s p).registry with
      | none => refuse id stNOT_READY 0x0C s
      | some r =>
        let n := keyLen c.alg
        if b.length ≠ 96 + n + 100 ∨ (c.comps.any fun x => decide (x.1 = cust)) = true ∨ c.c ≤ c.comps.length then
          refuse id stOPERAND_FORMAT 0x0A s
        else if (sigEntry (96 + n) 0 b).1 ≠ cust ∨ ¬ entryOk r (96 + n) 0 (sm3 (c.statement ++ b.take (96 + n))) b then
          refuse id stKEY_BLOCK_AUTH 0x07 s
        else match Config.keyTransport 1 c.priv (b.take (96 + n)) with
          | none => refuse id stOPERAND_FORMAT 0x0A s
          | some m =>
            let m := fit n m
            let kcv := kcvOf c.alg m
            let comps := c.comps ++ [(cust, m)]
            done id (fit 5 kcv ++ [BitVec.ofNat 8 kcv.length, BitVec.ofNat 8 comps.length])
              (updVPart p (fun v => { v with ceremony := some { c with comps := comps } }) s)) s)

/-- The components combined by XOR; each byte of a TDES key gets odd parity (R339). -/
def combined (c : Ceremony) : Bytes :=
  let k := c.comps.foldl (fun k x => xorBytes k x.2) (zeros (keyLen c.alg))
  if isTdes c.alg then k.map oddParity else k

/-- A slot written with a new key, under the vault counter (R336): GEN and KCV in the result. -/
def writeSlotKey (id p sl role alg : Nat) (key : Bytes) (acts : List LocalAct) (s : State) : State :=
  let r := slotRec s p sl
  if r.word = 0xFFFFFFFF then refuse id stOPERAND_FORMAT 0x0B s
  else submitChange { item := some id, acts := acts, data := toLE 4 (r.word + 1).toNat ++ fit 5 (kcvOf alg key)
                      writes := [.slot p sl (r.word + 1) true (BitVec.ofNat 2 role) (BitVec.ofNat 4 alg) (some key),
                        .reg p (vaultCounter s p + 1) none] } s

/-- VAULT_CEREMONY_CLOSE: a KCV that differs ends the ceremony with VERIFY_MISMATCH (R338). -/
def execVaultCeremonyClose (id : Nat) (buf : HostData) (s : State) : Res :=
  .next (onService id 0x0F65 (fun i s => withForm i true s fun s => withCage i s fun s => svcBuffer i buf s fun b s =>
    let p := i.le 36 1
    withCeremony id p (i.le 40 4) s fun c s =>
      if c.comps.length ≠ c.c then refuse id stOPERAND_FORMAT 0x0A s
      else vaultAuth id { action := 0x11, part := p, slot := c.slot, subject := sm3 c.statement } b s fun s =>
        let key := combined c
        let kcv := kcvOf c.alg key
        if i.le 49 1 = kcv.length ∧ slice 44 kcv.length i.raw = kcv then
          writeSlotKey id p c.slot c.role c.alg key [.endCeremony p] s
        else finish id stVERIFY_MISMATCH [] false (applyLocal (.endCeremony p) s)) s)

/-! ### Slots (R336) -/

/-- VAULT_SLOT_GENERATE. -/
def execVaultSlotGenerate (id : Nat) (buf : HostData) (s : State) : Res :=
  .next (onService id 0x0F66 (fun i s => withForm i true s fun s => withCage i s fun s => svcBuffer i buf s fun b s =>
    let p := i.le 36 1
    let sl := i.le 37 1
    let role := i.le 38 1
    let alg := i.le 39 1
    if 8 ≤ sl ∨ ¬ slotKindOk role alg then refuse id stOPERAND_FORMAT 0x01 s
    else vaultAuth id { action := 0x12, part := p, slot := sl, param := [BitVec.ofNat 8 role, BitVec.ofNat 8 alg, 0, 0]
                        subject := zeros 32 } b s fun s =>
      withRoot id (keyLen alg) s fun key s => writeSlotKey id p sl role alg key [] s) s)

/-- VAULT_SLOT_INVALIDATE: mode 0 of an empty slot is refused; mode 1 advances GEN and leaves it empty. -/
def execVaultSlotInvalidate (id : Nat) (buf : HostData) (s : State) : Res :=
  .next (onService id 0x0F67 (fun i s => withForm i true s fun s => withCage i s fun s => svcBuffer i buf s fun b s =>
    let p := i.le 36 1
    let sl := i.le 37 1
    let mode := i.le 38 1
    if 8 ≤ sl ∨ 1 < mode then refuse id stOPERAND_FORMAT 0x01 s
    else vaultAuth id { action := 0x13, part := p, slot := sl, param := [BitVec.ofNat 8 mode, 0, 0, 0], subject := zeros 32 } b s
      fun s =>
        let r := slotRec s p sl
        if (mode = 0 ∧ ¬ r.valid) ∨ r.word = 0xFFFFFFFF then refuse id stOPERAND_FORMAT 0x0B s
        else submitChange { item := some id, data := toLE 4 (r.word + 1).toNat
                            writes := [.slot p sl (r.word + 1) (decide (mode = 0) && r.valid) r.role r.alg none,
                              .reg p (vaultCounter s p + 1) none] } s) s)

/-! ### PMK_FENCE (R330) -/

/-- A fence completes OK and its sweep starts. -/
def fenceDone (i : Item) (start : Nat) (s : State) : State :=
  let g : Word32 := BitVec.ofNat 32 (i.le 28 4)
  done i.id (toLE 4 ((now s - start) / 1000)) { s with dir := { s.dir with sweep := s.dir.sweep ++ [(i.le 24 1, i.le 25 1, g)] } }

def fencePins (i : Item) (s : State) : Nat := pinsBelow s (i.le 24 1) (i.le 25 1) (BitVec.ofNat 32 (i.le 28 4))

/-- PMK_FENCE. -/
def execPmkFence (id : Nat) (s : State) : Res :=
  .next (onService id 0x0F68 (fun i s => withForm i false s fun s => withCage i s fun s =>
    if 8 ≤ i.le 25 1 then refuse id stOPERAND_FORMAT 0x01 s
    else if (slotRec s (i.le 24 1) (i.le 25 1)).word.toNat ≠ i.le 28 4 then refuse id stOPERAND_FORMAT 0x0B s
    else if fencePins i s = 0 then fenceDone i (now s) s
    else updItem id (fun i => { i with phase := 4, waitAt := s.time.time64 }) s) s)

/-- The fence `id` while it waits. -/
def fenceWaiting (id : Nat) (s : State) : Option Item :=
  (getItem s id).filter fun i => decide (i.place = .core) && decide (i.routine = 0x0F68) && decide (i.phase = 4)

/-- PMK_FENCE_DONE: no pin of the older generations is left. -/
def execPmkFenceDone (id : Nat) (s : State) : Res :=
  match fenceWaiting id s with
  | none => .next s
  | some i => if fencePins i s = 0 then .next (fenceDone i i.waitAt.toNat s) else .next s

/-- PMK_FENCE_TIMEOUT: TIMED_OUT with the pins that remain. -/
def execPmkFenceTimeout (id : Nat) (s : State) : Res :=
  match fenceWaiting id s with
  | none => .next s
  | some i =>
    if i.le 32 4 ≠ 0 ∧ i.waitAt.toNat + i.le 32 4 * 1000 ≤ now s ∧ fencePins i s ≠ 0 then
      .next (finish id stTIMED_OUT (toLE 4 (fencePins i s)) false s)
    else .next s

/-- DIR_SWEEP_DONE: the oldest sweep has freed every record of its slot below its generation (R330). -/
def execDirSweepDone (s : State) : Res :=
  match s.dir.sweep with
  | [] => .next s
  | (p, sl, g) :: r => .next (sweepDir p sl g { s with dir := { s.dir with sweep := r } })

/-! ### Blobs (R340 to R343) -/

/-- The image entry of a slot. -/
def imageSlot (sl : Nat) (r : CageRec) : Bytes :=
  [BitVec.ofNat 8 sl, BitVec.ofNat 8 r.role.toNat, BitVec.ofNat 8 r.alg.toNat] ++ zeros 5 ++ fit 5 (slotKcv r) ++ zeros 3 ++ fit 32 r.key

/-- The slots a blob carries: every valid one, a backup without BACKUP slots (R341). -/
def carried (s : State) (p : Nat) (backup : Bool) : List Nat :=
  (List.range 8).filter fun sl => (slotRec s p sl).valid && !(backup && decide ((slotRec s p sl).role = 2))

/-- The partition image (R341; its zero field is the three bytes between offsets 5 and 8, log 56). -/
def partImage (s : State) (p : Nat) (backup : Bool) : Bytes :=
  let l := carried s p backup
  toLE 4 0x00050001 ++ [BitVec.ofNat 8 l.length] ++ zeros 3 ++ toLE 4 (vaultCounter s p).toNat ++
  toLE 4 (manRec s p).word.toNat ++ (regRec s p).digest ++ (manRec s p).digest ++ zeros 8 ++
  l.flatMap fun sl => imageSlot sl (slotRec s p sl)

/-- The first 24 bytes of a blob. -/
def blobHead (backup : Bool) (len p : Nat) (nonce : Bytes) : Bytes :=
  toLE 4 (if backup then 0x00060001 else 0x00060002) ++ toLE 4 len ++ [BitVec.ofNat 8 p, 0, 0, 0] ++ fit 12 nonce

/-- A blob: 192 bytes in clear, the image under AES-GCM-256, the tag. -/
def sealBlob (head key image : Bytes) : Bytes :=
  let nonce := slice 12 12 head
  let ct := fit image.length (Config.gcmEnc 5 key nonce head image)
  head ++ ct ++ fit 16 (Config.gcmTag 5 key nonce head ct)

/-- The sealing key of a backup: from the BACKUP slot's key, with context bytes 0 to 11 of the blob. -/
def backupKey (slotKey head : Bytes) : Bytes := fit 32 (Config.kdf slotKey (ascii "PACHACA BACKUP") (head.take 12) 32)

/-- Length of a blob of an image. -/
def blobLen (image : Bytes) : Nat := 192 + image.length + 16

/-- VAULT_BACKUP_EXPORT. -/
def execVaultBackupExport (id : Nat) (buf : HostData) (s : State) : Res :=
  .next (onService id 0x0F69 (fun i s => withForm i true s fun s => withCage i s fun s => svcBuffer i buf s fun b s =>
    let p := i.le 36 1
    let sl := i.le 37 1
    let r := slotRec s p sl
    if 8 ≤ sl then refuse id stOPERAND_FORMAT 0x01 s
    else vaultAuth id { action := 0x14, part := p, slot := sl, subject := sm3 (fit 5 (slotKcv r)) } b s fun s =>
      if ¬ r.valid ∨ r.role ≠ 2 then refuse id stOPERAND_FORMAT 0x0B s
      else withRoot id 12 s fun nonce s =>
        let image := partImage s p true
        let h := blobHead true (blobLen image) p nonce
        let head := h ++ fit 5 (slotKcv r) ++ zeros 3 ++ zeros 160
        svcOutput i (i.le 40 8) (i.le 48 4) (sealBlob head (backupKey r.key h) image) s) s)

/-- VAULT_TRANSFER_OPEN: the 224-byte target statement. -/
def execVaultTransferOpen (id : Nat) (s : State) : Res :=
  .next (onService id 0x0F6A (fun i s => withForm i false s fun s => withCage i s fun s =>
    let p := i.le 24 1
    if i.le 40 4 < 224 then refuse id stOPERAND_FORMAT 0x01 s
    else if 16 ≤ openCount s - b2n (getVPart s p).transfer.isSome then refuse id stOPERAND_FORMAT 0x03 s
    else withRoot id 0 s fun _ s =>
      let (n, d, s) := drawEphemeral s
      let no := s.vault.nextId
      let body := toLE 4 0x00070002 ++ toLE 4 no ++ [BitVec.ofNat 8 p] ++ zeros 7 ++ n ++ fit 64 (Config.publicKey 0xD d) ++ idPubSm2 s
      let (sig, s) := idSign body s
      svcWrite id (i.le 32 8) (body ++ sig) s fun s =>
        let x : Transfer := { id := no, statement := body ++ sig, priv := d, at_ := s.time.time64 }
        let s := updVPart p (fun v => { v with transfer := some x }) s
        finish id stOK (toLE 4 no) true { s with vault := { s.vault with nextId := no + 1 } }) s)

/-- A key of the trust anchors; none where the image has given none, or the wipe has taken them (R354, R413). -/
def anchorKey (anchors : Bytes) (off n : Nat) : Option Bytes := if anchors = [] then none else some (slice off n anchors)

/-- The Tvedlaide CA SM2 key, to which the chains of a target statement and of a peer lead (R342, R354). -/
def caKey (s : State) : Option Bytes := anchorKey s.boot.anchors 8 64

/-- The Tvedlaide CA P-384 key (R354). -/
def caKeyP384 (s : State) : Option Bytes := anchorKey s.boot.anchors 72 96

/-- A target statement that its identity has signed (R342). -/
def statementOk (ca : Option Bytes) (cert st : Bytes) : Bool :=
  match ca.bind fun k => Config.certLeaf k cert with
  | none => false
  | some pub => decide (slice 96 64 st = fit 64 pub) && sm2Verify (slice 96 64 st) (st.take 160) (slice 160 64 st)


/-- VAULT_TRANSFER_EXPORT: the source partition is unchanged. -/
def execVaultTransferExport (id : Nat) (buf : HostData) (s : State) : Res :=
  .next (onService id 0x0F6B (fun i s => withForm i true s fun s => withCage i s fun s => svcBuffer i buf s fun b s =>
    let p := i.le 36 1
    let lc := i.le 40 4
    let la := i.le 44 4
    let st := b.take 224
    if b.length ≠ 224 + lc + la ∨ leAt 0 4 st ≠ 0x00070002 ∨ leAt 9 7 st ≠ 0 then refuse id stOPERAND_FORMAT 0x01 s
    else if ¬ statementOk (caKey s) (slice 224 lc b) st then refuse id stKEY_BLOCK_AUTH 0x09 s
    else vaultAuth id { action := 0x16, part := p, subject := sm3 st } (b.drop (224 + lc)) s fun s =>
      withRoot id 60 s fun rnd s =>
        let key := rnd.take 32
        let image := partImage s p false
        let c := Config.sm2Enc (slice 32 64 st) key (BitVec.ofNat 128 (beNat (slice 44 16 rnd)))
        let head := blobHead false (blobLen image) p (slice 32 12 rnd) ++ zeros 8 ++ fit 160 (fit 128 c)
        svcOutput i (i.le 48 8) (i.le 56 4) (sealBlob head key image) s) s)

/-- The image a blob seals: none where the tag fails. -/
def openBlob (key b : Bytes) : Option Bytes :=
  let head := b.take 192
  let nonce := slice 12 12 b
  let ct := slice 192 (b.length - 208) b
  if fit 16 (Config.gcmTag 5 key nonce head ct) = slice (b.length - 16) 16 b then
    some (fit (b.length - 208) (Config.gcmDec 5 key nonce head ct))
  else none

/-- The slot entries of an image: slot, role, algorithm, key; an entry beyond slot 7 is none of the partition's (R343). -/
def imageSlots (m : Bytes) : List (Nat × Nat × Nat × Bytes) :=
  ((List.range (byteAt 4 m).toNat).map fun k =>
    let o := 88 + 48 * k
    ((byteAt o m).toNat, (byteAt (o + 1) m).toNat, (byteAt (o + 2) m).toNat, slice (o + 16) 32 m)).filter fun e => decide (e.1 < 8)

/-- What a restore writes (R343): carried slots, erased slots, the registry and manifest records. -/
def restoreWrites (s : State) (p : Nat) (m : Bytes) : List CageWrite :=
  let l := imageSlots m
  let has (sl : Nat) : Bool := l.any fun x => decide (x.1 = sl)
  let gone := (List.range 8).filter fun sl => !has sl && !((slotRec s p sl).valid && decide ((slotRec s p sl).role = 2))
  l.map (fun x => .slot p x.1 ((slotRec s p x.1).word + 1) true (BitVec.ofNat 2 x.2.1) (BitVec.ofNat 4 x.2.2.1) (some x.2.2.2)) ++
  gone.map (fun sl => .slot p sl ((slotRec s p sl).word + 1) false (slotRec s p sl).role (slotRec s p sl).alg none) ++
  [.reg p (BitVec.ofNat 32 (max (leAt 8 4 m) (vaultCounter s p).toNat + 1)) (some (slice 16 32 m)),
   .man p (BitVec.ofNat 32 (leAt 12 4 m)) (slice 48 32 m), .registry p none]

/-- A slot that the writes would advance is exhausted. -/
def exhausted (s : State) (l : List CageWrite) : Bool := l.any fun w => match w with
  | .slot p sl _ _ _ _ _ => decide ((slotRec s p sl).word = 0xFFFFFFFF)
  | _ => false

/-- An opened blob restored. -/
def restoreImage (id p : Nat) (acts : List LocalAct) (m : Bytes) (s : State) : State :=
  let w := restoreWrites s p m
  if exhausted s w then refuse id stOPERAND_FORMAT 0x0B s
  else submitChange { item := some id, writes := w, acts := .unloadManifest p :: acts
                      data := toLE 4 (max (leAt 8 4 m) (vaultCounter s p).toNat + 1) } s

/-- VAULT_RESTORE (R338, R343). -/
def execVaultRestore (id : Nat) (buf : HostData) (s : State) : Res :=
  .next (onService id 0x0F6C (fun i s => withForm i true s fun s => withCage i s fun s => svcBuffer i buf s fun b s =>
    let p := i.le 36 1
    let lb := i.le 40 4
    let tid := i.le 44 4
    let blob := b.take lb
    if b.length < lb ∨ lb < 296 ∨ leAt 4 4 blob ≠ lb ∨ leAt 0 4 blob ≠ (if tid = 0 then 0x00060001 else 0x00060002) then
      refuse id stOPERAND_FORMAT 0x01 s
    else vaultAuth id { action := 0x15, part := p, subject := sm3 blob } (b.drop lb) s fun s =>
      if tid = 0 then
        match (List.range 8).find? fun sl => (slotRec s p sl).valid && decide ((slotRec s p sl).role = 2) &&
            decide (fit 5 (slotKcv (slotRec s p sl)) = slice 24 5 blob) with
        | none => finish id stKEY_NOT_FOUND (refusalRecord 0x0B 0 0xFFFF 0xFF) false s
        | some sl => match openBlob (backupKey (slotRec s p sl).key (blob.take 24)) blob with
          | none => refuse id stKEY_BLOCK_AUTH 0x08 s
          | some m => restoreImage id p [] m s
      else match (getVPart s p).transfer with
        | none => refuse id stOPERAND_FORMAT 0x0A s
        | some t =>
          if t.id ≠ tid ∨ t.at_.toNat + 3600000000000 ≤ now s then refuse id stOPERAND_FORMAT 0x0A s
          else match (Config.keyTransport 1 t.priv (slice 32 128 blob)).bind fun k => openBlob (fit 32 k) blob with
            | none => refuse id stKEY_BLOCK_AUTH 0x08 s
            | some m => restoreImage id p [.endTransfer p] m s) s)

/-! ### Erase, release, expiry (R344, R336, R339) -/

/-- VAULT_PARTITION_ERASE. -/
def execVaultPartitionErase (id : Nat) (buf : HostData) (s : State) : Res :=
  .next (onService id 0x0F6D (fun i s => withForm i true s fun s => withCage i s fun s => svcBuffer i buf s fun b s =>
    let p := i.le 36 1
    vaultAuth id { action := 0x17, part := p, subject := zeros 32 } b s fun s =>
      let slots := (List.range 8).map fun sl =>
        CageWrite.slot p sl ((slotRec s p sl).word + 1) false (slotRec s p sl).role (slotRec s p sl).alg none
      let w := slots ++ [.reg p (vaultCounter s p + 1) (some (zeros 32)), .man p 0 (zeros 32), .registry p none]
      if exhausted s w then refuse id stOPERAND_FORMAT 0x0B s
      else submitChange { item := some id, writes := w
                          acts := [.unloadManifest p, .endCeremony p, .endTransfer p, .releaseDir p] } s) s)

/-- KEY_DIR_RELEASE. -/
def execKeyDirRelease (id : Nat) (s : State) : Res :=
  .next (onService id 0x0F6E (fun i s => withForm i false s fun s => withCage i s fun s =>
    let p := i.le 24 1
    let f := i.le 25 1
    let ref : Word64 := BitVec.ofNat 64 (i.le 32 8)
    if 1 < f ∨ (f = 1 ∧ ref ≠ 0) then refuse id stOPERAND_FORMAT 0x01 s
    else if f = 1 then
      let (n, s) := releaseDir p s
      done id (toLE 4 n) s
    else if ¬ (refIsDir ref ∧ refOk ref) then refuse id stOPERAND_FORMAT 0x01 s
    else if refPart ref ≠ p then refuse id stOPERAND_FORMAT 0x06 s
    else
      let r := getDir s (refIndex ref)
      if r.issue ≠ 0 ∧ r.issue.toNat = refIssue ref ∧ r.part = p then
        done id (toLE 4 1) { dropRef ref s with dir := dirFree (refIndex ref) s.dir }
      else done id (toLE 4 0) s) s)

/-- CEREMONY_EXPIRE: an open ceremony or transfer 3,600 s after its open (R339). -/
def execCeremonyExpire (part : Nat) (s : State) : Res :=
  let late (t : Word64) : Bool := decide (t.toNat + 3600000000000 ≤ now s)
  .next (updVPart part (fun v => { v with
    ceremony := v.ceremony.filter fun c => !late c.at_, transfer := v.transfer.filter fun t => !late t.at_ }) s)

/-- NONCE_EXPIRE: a routine or vault nonce 600 s after its challenge (R232, R333). -/
def execNonceExpire (part : Nat) (s : State) : Res :=
  let live (n : Option (BitVec 128 × Word64)) : Option (BitVec 128 × Word64) := n.filter fun x => decide (now s < x.2.toNat + 600000000000)
  .next (updRPart part (fun r => { r with nonce := live r.nonce }) (updVPart part (fun v => { v with nonce := live v.nonce }) s))

end Sys2Proof.Machine
end

