-- ==== Sys2Proof/Machine/Ready.lean ====
section
/-!
DEFINITION. Readiness (R272, R518): the readiness bits of a partition, PWR_READY, and what a change of them raises.
-/
namespace Sys2Proof.Machine

/-- PWR_EVENT: a bit that goes from 0 to 1 raises one message on PF vector 0 (R520). -/
def pwrEvent (b : Nat) (s : State) : State :=
  if s.power.event.getLsbD b then s else vec0 0 { s with power := { s.power with event := setBit s.power.event b } }

def dDieDrbg : Nat → DieDrbg := fun _ => {}

/-- An engine-die DRBG instance is producing; one whose die is off is seeded again by the wake that precedes its use (R297,
R501). -/
def dieProduces (s : State) (d : Nat) : Bool := (Tab.get dDieDrbg s.units.rng.dies d).seeded

/-- A die that readiness counts: Active, Retained, or brought up and off since (R503, R518). -/
def dieCounts (s : State) (d : Nat) : Bool := dieKept s d || (decide (dieState s d = .off) && s.power.dieReady.getLsbD d)

/-- The troupes of a partition that its readiness is about: those in the active map on a die that counts (R518). -/
def readyTroupes (s : State) (p : Nat) : List Nat :=
  (List.range (nTroupes s.part.variant)).filter fun t => mapped s t p && dieCounts s (dieOfTroupe t)

def unitReady (s : State) (u : OpUnit) (n : Nat) : Bool := (getUnit s u n).ready

/-- SYM_READY, PK_READY and BULK_READY of a partition (R518). -/
def symReady (s : State) (p : Nat) : Bool :=
  let l := readyTroupes s p
  s.vault.ready && !l.isEmpty && l.all fun t =>
    unitReady s .block (2 * t) && unitReady s .block (2 * t + 1) && unitReady s .hash t && dieProduces s (dieOfTroupe t)

def pkReady (s : State) (p : Nat) : Bool :=
  let l := readyTroupes s p
  !l.isEmpty && l.all fun t => unitReady s .mau t && dieProduces s (dieOfTroupe t)

def bulkReady (s : State) (p : Nat) : Bool :=
  let l := readyTroupes s p
  !l.isEmpty && l.all fun t => (getScu s (dieOfTroupe t)).ready && dieProduces s (dieOfTroupe t)

/-- GLB_VF_STATUS bits 19:17 of a partition. -/
def readyBits (s : State) (p : Nat) : Nat := b2n (symReady s p) + b2n (pkReady s p) * 2 + b2n (bulkReady s p) * 4

/-- PWR_READY (R520). -/
def pwrReady (s : State) : Nat :=
  b2n s.vault.ready + b2n s.units.rng.drbgReady * 2 + b2n s.power.memReady * 4 + b2n (decide (s.boot.stage = 3)) * 8 +
  s.power.dieReady.toNat * 16 + readyBits s 0 * 4096

/-- What follows a change that may move readiness: the event of R78 and code 0x1AA to each partition concerned,
READY_CHANGE where PWR_READY moved. -/
def noteReady (old s : State) : State :=
  let s := (List.range 256).foldl (fun s p =>
    if readyBits old p = readyBits s p then s else calEvent 0x1AA (some p) 0 (readyBits s p) (vec0 p s)) s
  if pwrReady old = pwrReady s then s else pwrEvent 1 s

end Sys2Proof.Machine
end

