-- ==== Sys2Proof/Machine/Calliope.lean ====
section
/-!
DEFINITION. Calliope (spec file 14): windows, what an arriving event does, records and their ring, freezes, reading and
the self-fault file.
-/
namespace Sys2Proof.Machine

def updCal (f : Cal → Cal) (s : State) : State := { s with cal := f s.cal }

/-- CAL_EVENT: a bit that goes from 0 to 1 raises one message on PF vector 0 (R496). -/
def calNotice (b : Nat) (s : State) : State :=
  if s.cal.event.getLsbD b then s else vec0 0 (updCal (fun c => { c with event := setBit c.event b }) s)

def calErr (b : Nat) (s : State) : State := updCal (fun c => { c with err := setBit c.err b }) s

/-- USED, and the free space of the ring (R487). -/
def calUsed (c : Cal) : Nat := c.lens.sum
def calFree (c : Cal) : Nat := 2097152 - calUsed c

/-- CAL_STATUS.STATE. -/
def calState (c : Cal) : Nat := if c.faulted then 4 else if c.frozen then 2 else if c.full then 3 else if c.enable then 1 else 0

/-- A code's bucket depth (R496). -/
def dDepth : Nat → Byte := fun k => if k < 128 then 0xFF else 0x10

/-! ### Windows (R475 to R479) -/

/-- A window opened at an instant: staged configuration applies, STATE full ends where 96 KiB are free (R478, R487). -/
def openWindow (start : Nat) (s : State) : State :=
  let c := s.cal
  let full := c.full && decide (calFree c < 98304)
  let w : CalWindow :=
    { seq := c.seq + 1, start := BitVec.ofNat 64 start, end_ := BitVec.ofNat 64 (start + c.staged.windowMs.toNat * 1000000)
      cfg := c.staged, blind := full, synced := s.time.peerSync, rtc := s.rtc.seconds }
  { s with cal := { c with seq := c.seq + 1, full := full, pendingCfg := false, window := some w } }

/-- The open window ends at `endT`; its record is written 10 µs later. -/
def endWindow (endT closeAt : Nat) (f : CalWindow → CalWindow) (c : Cal) : Cal :=
  match c.window with
  | none => c
  | some w => { c with window := none, closing := c.closing ++ [{ f w with end_ := BitVec.ofNat 64 endT, closeAt := closeAt }] }

/-- What TIME64 reaching a window's END does: the next window opens at that instant, unless a freeze keeps this one
open (R475, R490). -/
def calTick (s : State) : State :=
  match s.cal.window with
  | none => s
  | some w =>
    if s.cal.frozen ∨ now s < w.end_.toNat then s
    else openWindow w.end_.toNat (updCal (endWindow w.end_.toNat (w.end_.toNat + 10000) id) s)

/-- A step of TIME64 closes the window at the pre-step value; the next opens at the stepped value (R479). -/
def calStep (before : Nat) (s : State) : State :=
  match s.cal.window with
  | none => s
  | some _ =>
    let s := updCal (endWindow before (now s + 10000) fun w => { w with stepped := true }) s
    calEvent 0x1F3 none 0 0 (openWindow (now s) s)

/-- PEER_SYNC has fallen: no window in progress is SYNCED (R479). -/
def calUnsync (c : Cal) : Cal :=
  { c with window := c.window.map fun w => { w with synced := false }, closing := c.closing.map fun w => { w with synced := false } }

/-! ### Counting (R480, R483, R484) -/

/-- Order of code entries: code, then partition. -/
def codeKey (code : Nat) (part : Option Nat) : Nat := code * 512 + (match part with
  | none => 0
  | some p => p + 1)

/-- One occurrence counted in the code table: the table, and whether there was room. -/
def countCode (code : Nat) (part : Option Nat) (suppressed : Bool) : List CalCode → Nat → List CalCode × Bool
  | [], n => if 4096 ≤ n then ([], false)
    else ([{ code := code, part := part, occurred := 1, suppressed := if suppressed then 1 else 0 }], true)
  | e :: r, n =>
    if e.code = code ∧ e.part = part then
      ({ e with occurred := satInc e.occurred, suppressed := if suppressed then satInc e.suppressed else e.suppressed } :: r, true)
    else if codeKey code part < codeKey e.code e.part then
      (if 4096 ≤ n then (e :: r, false)
       else ({ code := code, part := part, occurred := 1, suppressed := if suppressed then 1 else 0 } :: e :: r, true))
    else
      let x := countCode code part suppressed r n
      (e :: x.1, x.2)

/-- An event counted in a window: its entry, and a detail entry where the bucket holds a token and the limit leaves
room (R480). -/
def countEvent (e : CalEvent) (w : CalWindow) : CalWindow :=
  let spent := Tab.get (fun _ => 0) w.spent e.code
  let token := decide (spent < (Tab.get dDepth w.cfg.depth e.code).toNat)
  let room := decide (w.details.length < w.cfg.detailMax.toNat)
  let x := countCode e.code e.part (!(token && room)) w.codes w.codes.length
  if ¬ x.2 then { w with overflow := satInc w.overflow, codesFull := true }
  else if token ∧ room then
    { w with codes := x.1, details := w.details ++ [e], spent := Tab.set (fun _ => 0) w.spent e.code (spent + 1) }
  else { w with codes := x.1, detailFull := w.detailFull || (token && !room) }

/-- The bucket of a value (R484). -/
def bucketOf (v : Nat) : Nat := if v < 2 then 0 else if v < 2 ^ 31 then ilog2 v else 31

def dHist : Nat → CalHist := fun _ => {}

/-- A sample in one slot: the earliest timestamp of an extreme is kept. -/
def addSample (v : Nat) (t : Word64) (h : CalHist) : CalHist :=
  let x := BitVec.ofNat 64 v
  { samples := satInc h.samples
    min := if h.samples = 0 ∨ v < h.min.toNat then x else h.min
    minAt := if h.samples = 0 ∨ v < h.min.toNat ∨ (x = h.min ∧ t.toNat < h.minAt.toNat) then t else h.minAt
    max := if h.samples = 0 ∨ h.max.toNat < v then x else h.max
    maxAt := if h.samples = 0 ∨ h.max.toNat < v ∨ (x = h.max ∧ t.toNat < h.maxAt.toNat) then t else h.maxAt
    buckets := Tab.upd (fun _ => (0 : Word32)) h.buckets (bucketOf v) satInc }

/-- A slot takes a quantity of a partition. -/
def slotTakes (c : CalCfg) (i q p : Nat) : Bool :=
  match c.hist[i]? with
  | none => false
  | some (k, all, part) => decide (k.toNat = q) && (all || decide (part.toNat = p))

def countSample (q p v : Nat) (t : Word64) (w : CalWindow) : CalWindow :=
  (List.range 16).foldl (fun w i => if slotTakes w.cfg i q p then { w with hists := Tab.upd dHist w.hists i (addSample v t) } else w) w

def dCalPart : Nat → CalPart := fun _ => {}

def countPart (kind p : Nat) (w : CalWindow) : CalWindow :=
  { w with parts := Tab.upd dCalPart w.parts p fun x =>
      if kind = 0 then { x with admitted := x.admitted + 1 }
      else if kind = 1 then { x with completions := x.completions + 1 }
      else if kind = 2 then { x with successes := x.successes + 1 }
      else if kind = 3 then { x with placeholders := x.placeholders + 1 }
      else if kind = 4 then { x with errors := x.errors + 1 }
      else { x with refusals := x.refusals + 1 } }

/-- The timestamp of an item. -/
def CalItem.stamp : CalItem → Word64
  | .event e => e.time
  | .sample _ _ _ t => t
  | .count _ _ t => t

/-- An item counted in a window; a window opened while STATE was full accumulates nothing. -/
def accumulate (i : CalItem) (w : CalWindow) : CalWindow :=
  if w.blind then w else match i with
    | .event e => countEvent e w
    | .sample q p v t => countSample q p v t w
    | .count k p _ => countPart k p w

/-- An item in the window its timestamp names: one past its END that has not closed, else the open one, where an
earlier timestamp is late (R476, R477). -/
def deliver (i : CalItem) (s : State) : State :=
  let t := i.stamp.toNat
  let c := s.cal
  let mine (w : CalWindow) : Bool := decide (w.start.toNat ≤ t) && decide (t < w.end_.toNat)
  if c.closing.any mine then
    { s with cal := { c with closing := c.closing.map fun w => if mine w then accumulate i w else w } }
  else match c.window with
    | none => s
    | some w =>
      if w.start.toNat ≤ t then { s with cal := { c with window := some (accumulate i w) } }
      else
        let w := accumulate i w
        calEvent 0x1F5 none 0 0 { s with cal := { c with window := some { w with late := satInc w.late }, late := satInc c.late } }

/-- CAL_EVENT_ARRIVE: the oldest item delivered. -/
def execCalEventArrive (s : State) : Res :=
  if ¬ pair1Up s then .next s
  else match s.cal.inbox with
  | [] => .next s
  | i :: r => .next (deliver i (updCal (fun c => { c with inbox := r }) s))

/-! ### Records (R485, R486) -/

/-- One bit of the reflected CRC-32C. -/
def crcStep (c : BitVec 32) : BitVec 32 := if c.getLsbD 0 then (c >>> 1) ^^^ 0x82F63B78 else c >>> 1

/-- One byte of it. -/
def crcByte (c : BitVec 32) (b : Byte) : BitVec 32 :=
  let x := c ^^^ b.setWidth 32
  crcStep (crcStep (crcStep (crcStep (crcStep (crcStep (crcStep (crcStep x)))))))

/-- CRC-32C: initial value and final exclusive or of all ones. -/
def crc32c (bs : Bytes) : BitVec 32 := (bs.foldl crcByte 0xFFFFFFFF) ^^^ 0xFFFFFFFF

def histEntry (w : CalWindow) (i : Nat) : Bytes :=
  let h := Tab.get dHist w.hists i
  let (q, all, p) := w.cfg.hist.getD i (0, true, 0)
  [BitVec.ofNat 8 i, BitVec.ofNat 8 q.toNat, p, BitVec.ofNat 8 (b2n all)] ++ toLE 4 h.samples.toNat ++ toLE 8 h.min.toNat ++
  toLE 8 h.minAt.toNat ++ toLE 8 h.max.toNat ++ toLE 8 h.maxAt.toNat ++
  (List.range 32).flatMap fun b => toLE 4 (Tab.get (fun _ => (0 : Word32)) h.buckets b).toNat

def partEntry (p : Nat) (x : CalPart) : Bytes :=
  [BitVec.ofNat 8 p, 0, 0, 0] ++ toLE 4 x.admitted.toNat ++ toLE 4 x.completions.toNat ++ toLE 4 x.successes.toNat ++
  toLE 4 x.placeholders.toNat ++ toLE 4 x.errors.toNat ++ toLE 4 x.refusals.toNat ++ zeros 4

def codeEntry (e : CalCode) : Bytes :=
  toLE 2 e.code ++ [BitVec.ofNat 8 (e.part.getD 0), BitVec.ofNat 8 (b2n e.part.isSome)] ++ toLE 2 e.occurred.toNat ++
  toLE 2 e.suppressed.toNat

def detailEntry (e : CalEvent) : Bytes :=
  toLE 5 e.time.toNat ++ [0] ++ toLE 2 e.code ++
  [BitVec.ofNat 8 (e.part.getD 0), BitVec.ofNat 8 (b2n e.part.isSome + 2 * e.die)] ++ toLE 2 e.unit ++ toLE 4 e.arg.toNat

/-- The slots a configuration enables. -/
def slotsOn (c : CalCfg) : List Nat := (List.range 16).filter fun i => decide ((c.hist.getD i (0, true, 0)).1 ≠ 0)

/-- LENGTH of a window's record (R486). -/
def recordLen (w : CalWindow) : Nat :=
  64 + 168 * (slotsOn w.cfg).length + 32 * w.parts.length + 8 * w.codes.length + 16 * w.details.length + 4

/-- The record of a window. -/
def recordBytes (lostBefore : Nat) (reset : Bool) (w : CalWindow) : Bytes :=
  let flags := b2n w.short + b2n w.extended * 2 + b2n w.stepped * 4 + b2n w.synced * 8 + b2n w.detailFull * 16 +
    b2n w.codesFull * 32 + b2n reset * 64
  let body := toLE 4 0x000E0001 ++ toLE 4 (recordLen w) ++ toLE 4 w.seq.toNat ++ toLE 2 flags ++ toLE 2 (slotsOn w.cfg).length ++
    toLE 8 w.start.toNat ++ toLE 8 w.end_.toNat ++ toLE 4 lostBefore ++ toLE 2 w.parts.length ++ toLE 2 w.codes.length ++
    toLE 2 w.details.length ++ zeros 2 ++ toLE 4 ((w.codes.map fun e => e.suppressed.toNat).sum) ++ toLE 4 w.late.toNat ++ toLE 4 w.overflow.toNat ++
    toLE 4 w.rtc.toNat ++ zeros 4 ++ (slotsOn w.cfg).flatMap (histEntry w) ++ (w.parts.flatMap fun e => partEntry e.1 e.2) ++
    w.codes.flatMap codeEntry ++ w.details.flatMap detailEntry
  body ++ toLE 4 (crc32c body).toNat

/-! ### The ring (R487 to R492) -/

def dByte : Nat → Byte := fun _ => 0

/-- Bytes written in the ring from an offset, wrapping. -/
def ringWrite (m : Tab Byte) (o : Nat) (b : Bytes) : Tab Byte :=
  let n := 2097152 - o
  Tab.setList dByte (Tab.setList dByte m o (b.take n)) 0 (b.drop n)

/-- `n` bytes of the ring from an offset, wrapping. -/
def ringRead (m : Tab Byte) (o n : Nat) : Bytes := (List.range n).map fun i => Tab.get dByte m ((o + i) % 2097152)

/-- A record at TAIL, where it fits; else its window is lost and STATE becomes full, and the window that is open
accumulates nothing (R487). -/
def putRecord (b : Bytes) (s : State) : State :=
  let c := s.cal
  if b.length ≤ calFree c then
    { s with cal := { c with
      mem := ringWrite c.mem c.tail b, tail := (c.tail + b.length) % 2097152, lens := c.lens ++ [b.length]
      lostBefore := 0, resetMark := false } }
  else
    let s := if c.full then s else calNotice 0 s
    updCal (fun c => { c with lost := satInc c.lost, lostBefore := satInc c.lostBefore, full := true
                              window := c.window.map fun w => { w with blind := true } }) s

/-- The record in the staging buffer is written; where it is lost, the windows it counted as lost are still to be told. -/
def putStaged (s : State) : State := match s.cal.staging with
  | none => s
  | some b =>
    let c := s.cal
    let s := updCal (fun c => { c with staging := none, stagedLost := 0, stagedReset := false }) s
    if b.length ≤ calFree c then
      updCal (fun x => { x with lostBefore := c.lostBefore, resetMark := c.resetMark }) (putRecord b s)
    else putRecord b (updCal (fun x => { x with
      lostBefore := satAdd x.lostBefore c.stagedLost.toNat, resetMark := x.resetMark || c.stagedReset }) s)

/-- The record of a window closed during a freeze takes the staging buffer, and what it tells is told. -/
def stageRecord (b : Bytes) (c : Cal) : Cal :=
  { c with staging := some b, stagedLost := c.lostBefore, stagedReset := c.resetMark, lostBefore := 0, resetMark := false }

/-- A window that has no record. -/
def loseWindow (c : Cal) : Cal := { c with lost := satInc c.lost, lostBefore := satInc c.lostBefore }

/-- A self-fault (R495): KIND, offset and syndrome in the file, recording stopped until fundamental reset. -/
def selfFault (kind off syndrome : Nat) (s : State) : State :=
  let e : BitVec 128 := BitVec.ofNat 128 (now s % 2 ^ 48 + kind * 2 ^ 48 + off % 2 ^ 32 * 2 ^ 64 + syndrome % 2 ^ 32 * 2 ^ 96)
  calNotice 1 (updCal (fun c => { c with
    faulted := true, window := none, closing := [], staging := none, stagedLost := 0, stagedReset := false
    file := if c.file.length < 8 then c.file ++ [e] else c.file
    fileOver := if c.file.length < 8 then c.fileOver else satInc c.fileOver }) s)

/-- WINDOW_CLOSE: 10 µs after its END the oldest ended window's record is written, kept in the staging buffer during a
freeze, or lost; `fault` names a self-fault found there: its KIND (1, 4 or 5), offset and syndrome (R477, R487, R491,
R495). -/
def execWindowClose (fault : Option (Nat × Nat × Nat)) (s : State) : Res :=
  match s.cal.closing with
  | [] => .next s
  | w :: r =>
    if now s < w.closeAt ∨ ¬ pair1Up s then .next s
    else
      let s := updCal (fun c => { c with closing := r }) s
      let b := recordBytes s.cal.lostBefore.toNat s.cal.resetMark w
      let s := if w.blind then updCal loseWindow s
        else if s.cal.frozen then
          updCal (fun c => if c.staging = none then stageRecord b c else loseWindow c) s
        else putRecord b s
      .next <| match fault with
      | none => s
      | some (k, o, y) => if k = 1 ∨ k = 4 ∨ k = 5 then selfFault k o y s else s

/-! ### ENABLE, freeze, clear (R475, R490, R496) -/

/-- The end of a freeze: the staged record is written; a window whose scheduled END has passed closes now. -/
def endFreeze (s : State) : State :=
  if ¬ s.cal.frozen then s
  else
    let s := calEvent 0x1F1 none 0 0 (updCal (fun c => { c with frozen := false, freezeReq := false }) s)
    let s := putStaged s
    match s.cal.window with
    | none => s
    | some w =>
      if w.end_.toNat ≤ now s then
        openWindow (now s) (updCal (endWindow (now s) (now s + 10000) fun w => { w with extended := true }) s)
      else s

/-- ENABLE written 0: any freeze ends, and the window closes with SHORT; EXTENDED too where its END had passed. -/
def calDisable (s : State) : State :=
  let late (w : CalWindow) : Bool := s.cal.frozen && decide (w.end_.toNat ≤ now s)
  let s1 := updCal (endWindow (now s) (now s + 10000) fun w => { w with short := true, extended := w.extended || late w }) s
  endFreeze (updCal (fun c => { c with enable := false, freezeReq := false }) s1)

/-- CAL_ENABLE: a write of CAL_CTL.ENABLE. -/
def execCalEnable (value : Bool) (s : State) : Res :=
  if value = s.cal.enable ∨ pfOpen s = false then .next s
  else if ¬ value then .next (calDisable s)
  else
    let s := updCal (fun c => { c with enable := true }) s
    if s.cal.faulted then .next s else .next (openWindow (now s) s)

/-- CAL_FREEZE. -/
def execCalFreeze (s : State) : Res :=
  if s.cal.frozen ∨ s.cal.faulted ∨ pfOpen s = false then .next s else .next (updCal (fun c => { c with freezeReq := true }) s)

/-- CAL_FREEZE_ENTER: no record write is in progress, and STATE becomes frozen. -/
def execCalFreezeEnter (s : State) : Res :=
  if s.cal.freezeReq ∧ ¬ s.cal.frozen ∧ ¬ s.cal.faulted then
    .next (calEvent 0x1F0 none 0 0 (updCal (fun c => { c with freezeReq := false, frozen := true, frozenAt := s.time.time64 }) s))
  else .next s

/-- CAL_THAW. -/
def execCalThaw (s : State) : Res := whenOpen s <| .next (endFreeze (updCal (fun c => { c with freezeReq := false }) s))

/-- FREEZE_TIMEOUT: 10 s after STATE became frozen. -/
def execFreezeTimeout (s : State) : Res :=
  if s.cal.frozen ∧ s.cal.frozenAt.toNat + 10000000000 ≤ now s then
    .next (endFreeze (calNotice 2 (calEvent 0x1F2 none 0 0 s)))
  else .next s

/-- CAL_CLEAR: acts only while ENABLE is 0. -/
def execCalClear (s : State) : Res :=
  if s.cal.enable ∨ pfOpen s = false then .next s
  else .next (updCal (fun c => { c with
    mem := [], head := 0, tail := 0, lens := [], lost := 0, late := 0, lostBefore := 0, seq := 0, full := false, staging := none
    resetMark := false, stagedLost := 0, stagedReset := false }) s)

/-! ### Release, reading, scrub (R488, R492, R493, R495) -/

/-- How many whole records from HEAD a byte count covers; none where it covers no whole number of them. -/
def wholeRecords : Nat → List Nat → Option Nat
  | 0, _ => some 0
  | _ + 1, [] => none
  | n + 1, l :: r => if l ≤ n + 1 then (if l = 0 then none else (wholeRecords (n + 1 - l) r).map (· + 1)) else none

/-- CAL_RELEASE. -/
def execCalRelease (bytes : Nat) (s : State) : Res :=
  whenOpen s <| match wholeRecords bytes s.cal.lens with
  | some (n + 1) => .next (updCal (fun c => { c with head := (c.head + bytes) % 2097152, lens := c.lens.drop (n + 1) }) s)
  | some 0 => .next (calErr 0 s)
  | none => .next (calErr 0 s)

/-- CAL_RD_DATA_READ: 8 bytes of record memory; an uncorrectable word reads as zero and is a self-fault of KIND 2 with
its ECC syndrome. -/
def execCalRdDataRead (bad : Option Nat) (s : State) : Res :=
  let o := s.cal.rdAddr.toNat * 8
  let s' := updCal (fun c => { c with rdAddr := c.rdAddr + 1 }) s
  if pfOpen s = false then .next { s with readData := 0 } else match bad with
  | none => .next { s' with readData := BitVec.ofNat 64 (leNat (ringRead s.cal.mem o 8)) }
  | some y => .next { selfFault 2 o y (calErr 1 s') with readData := 0 }

/-- SCRUB_PASS: every 10 s; `fixed` words were corrected, `bad` names an uncorrectable one. -/
def execScrubPass (fixed : Nat) (bad : Option (Nat × Nat)) (s : State) : Res :=
  if now s < s.cal.scrubAt.toNat + 10000000000 then .next s
  else
    let s := updCal (fun c => { c with scrubAt := s.time.time64, ceCnt := satAdd c.ceCnt fixed }) s
    match bad with
    | none => .next s
    | some (o, y) => .next (selfFault 3 o y s)

/-- CAL_FW_EVENT: a write of the register by a colour.  The register has no field for the UNIT of a latch event, which
is a free value. -/
def execCalFwEvent (colour : Nat) (value : Word64) (s : State) : Res :=
  let code := fld value 9 0
  let part := if bitOf value 24 then some (fld value 23 16) else none
  if fld value 15 10 ≠ 0 ∨ fld value 31 25 ≠ 0 then .next (calErr 2 s)
  else if 0x40 ≤ code ∧ code ≤ 0x7F ∧ colour = 1 then
    .next (calEvent code part ((Config.freeWord s.freeCtr).toNat % 65536) (fld value 63 32) { s with freeCtr := s.freeCtr + 1 })
  else if 0x200 ≤ code ∧ code ≤ 0x2FF ∧ (colour = 1 ∨ colour = 2) then .next (calEvent code part 0 (fld value 63 32) s)
  else .next (calErr 2 s)

/-- Records that end where a copy of `n` bytes from an offset ends; none where the range does not follow records. -/
def copyRecords (n o off : Nat) : List Nat → Option Nat
  | [] => none
  | l :: r => if o % 2097152 = off then (match wholeRecords n (l :: r) with
      | some (k + 1) => some (k + 1)
      | some 0 => none
      | none => none) else copyRecords n (o + l) off r

/-- The offset of a word within a range of the ring. -/
def ringPos (start n o : Nat) : Option Nat :=
  let k := (o + 2097152 - start % 2097152) % 2097152
  if k < n ∧ o < 2097152 then some k else none

/-- CAL_COPY; an uncorrectable word is a self-fault of KIND 2, and poison to the transfer, whose
64-byte requests before it stand (R381, R384, R495). -/
def execCalCopy (read : CalRead) (s : State) : Res :=
  let id := read.id
  .next (onService id 0x0FB0 (fun i s =>
    let n := i.le 40 4
    match copyRecords n s.cal.head (i.le 36 4) s.cal.lens with
    | none => finish id stOPERAND_FORMAT [] false s
    | some k =>
      if i.le 32 4 < n then finish id stOPERAND_FORMAT [] false s
      else match read.bad.bind fun w => (ringPos (i.le 36 4) n w.1).map fun p => (p, w) with
        | some (p, o, y) => svcWrite id (i.le 24 8) (ringRead s.cal.mem (i.le 36 4) (p / 64 * 64)) (selfFault 2 o y s) fun s =>
          finish id stPOISONED [] false s
        | none => svcWrite id (i.le 24 8) (ringRead s.cal.mem (i.le 36 4) n) s fun s =>
          finish id stOK (toLE 4 n ++ toLE 4 k) true s) s)

end Sys2Proof.Machine
end

