-- ==== Sys2Proof/Machine/PowerBase.lean ====
section
/-!
DEFINITION. Choosing the package power state, and waking dies and ungating troupes for allocation (R501 to R506): what
the host link, the Ticket Booth and the Juggler ask of the power manager.
-/
namespace Sys2Proof.Machine

def updPwr (f : Power → Power) (s : State) : State := { s with power := f s.power }

def dTPower : Nat → TroupePower := fun _ => {}
def getTP (s : State) (t : Nat) : TroupePower := Tab.get dTPower s.power.troupes t
def updTP (t : Nat) (f : TroupePower → TroupePower) (s : State) : State :=
  updPwr (fun p => { p with troupes := Tab.upd dTPower p.troupes t f }) s

/-- Exit latencies of PS0 to PS3, in ns (R504). -/
def psExit (n : Nat) : Nat := if n = 0 then 0 else if n = 1 then 2000 else if n = 2 then 40000 else 2000000

/-- The open partitions: those with a queue pair whose ENABLED is 1 (R502). -/
def openParts (s : State) : List Nat := (s.queues.filter fun e => e.2.enabled).map fun e => e.2.own.part.toNat

/-- The budget b of R504; none is infinity. -/
def minBudget (s : State) : Option Nat :=
  (openParts s).foldl (fun b p =>
    let n := (share s p).budgetNs.toNat
    match b with
    | none => some n
    | some m => some (min m n)) none

/-- A die that is off though it has been brought up: off on account of PS3 or PS4 (R503). -/
def dieParked (s : State) (d : Nat) : Bool := decide (dieState s d = .off) && s.power.dieReady.getLsbD d

/-- A die whose Midway link has been trained: what the pool may allocate to (R503). -/
def dieTrained (s : State) (d : Nat) : Bool := dieKept s d || dieParked s d

/-- The state R504 selects.  A standby's dies stay in retention except during a patrol cycle, when they are awake
(R468, R504). -/
def psTarget (s : State) : Nat :=
  let p := s.power
  if ¬ p.auto then 0
  else
    let fits (n : Nat) : Bool := decide (n ≤ p.deepest.toNat) && (match minBudget s with
      | none => true
      | some b => decide (psExit n ≤ b))
    let t := if fits 3 then 3 else if fits 2 then 2 else if fits 1 then 1 else 0
    if s.trp.fsm ≠ fsmSTANDBY then t
    else if s.trp.patrol then min t 1
    else if ¬ s.trp.hot ∧ t < 2 ∧ 2 ≤ p.deepest.toNat then 2 else t

/-- A package state entered: STATE, code 0x1A0, and STATE_CHANGE where PS2, PS3 or PS4 is entered or left (R520,
R523). -/
def enterPs (n : Nat) (s : State) : State :=
  let old := s.power.state.toNat
  let s := calEvent 0x1A0 none 0 n (updPwr (fun p => { p with state := BitVec.ofNat 3 n, changing := false }) s)
  if 2 ≤ old ∨ 2 ≤ n then pwrEvent 0 s else s

/-- The dies that an exit from PS2, PS3 or PS4 wakes. -/
def sleepers (s : State) : List Nat :=
  (List.range (nDies s.part.variant)).filter fun d => decide (dieState s d = .retention) || dieParked s d

/-- A die's wake started, once. -/
def startWake (d : Nat) (s : State) : State := updPwr (fun p => { p with waking := setBit p.waking d }) s

/-- Every sleeping die's wake started. -/
def wakeAll (s : State) : State := (sleepers s).foldl (fun s d => startWake d s) s

/-! ### Gating (R502) -/

/-- The conditions under which a troupe may be gated. -/
def gateAllowed (s : State) (t : Nat) : Bool :=
  let m := Tab.get dMap s.booth.active.map t
  s.power.auto && s.power.gateEn && decide (s.power.state.toNat ≤ 1) &&
  (decide (m = 0) || (openParts s).all fun p => !m.getLsbD p || decide (2000 ≤ (share s p).budgetNs.toNat))

/-- A gated troupe's ungating started; it ends 2 µs later (TROUPE_UNGATE_DONE). -/
def startUngate (t : Nat) (s : State) : State :=
  if (getTP s t).gated then updTP t (fun x => { x with ungating := true }) s else s

/-- Gated troupes whose conditions no longer hold are ungated. -/
def regate (s : State) : State :=
  (List.range (nTroupes s.part.variant)).foldl (fun s t => if gateAllowed s t then s else startUngate t s) s

/-! ### Reselection (R504, R506) -/

/-- The LTR message: sent when b changes by a factor of 2 or more. -/
def sendLtr (s : State) : State :=
  let b := minBudget s
  let moved : Bool := match s.power.ltr, b with
    | none, none => false
    | some x, some y => decide (2 * x ≤ y) || decide (2 * y ≤ x)
    | _, _ => true
  if moved then
    emit (.ltr (b.map fun n => n - psExit s.power.state.toNat - 1000)) (updPwr (fun p => { p with ltr := b }) s)
  else s

/-- The power manager reselects: an exit to a shallower state begins at once; a deeper one waits for PS_ENTER.  In PS4
the state is left only by the return to D0 (R505). -/
def reselect (s : State) : State :=
  let t := psTarget s
  let s := sendLtr (updPwr (fun p => { p with want := BitVec.ofNat 3 t }) s)
  let n := s.power.state.toNat
  let s := if n ≤ t ∨ n = 4 ∨ ¬ pair1Up s then s
    else if n = 1 then enterPs 0 s
    else if sleepers s = [] then enterPs (min t 1) s
    else wakeAll (updPwr (fun p => { p with changing := true }) s)
  regate s

/-! ### Waking for allocation (R502, R503) -/

/-- Allocation to a retained or parked die starts its wake, with code 0x1A1. -/
def wakeDie (d : Nat) (s : State) : State :=
  if s.power.waking.getLsbD d then s
  else if dieState s d = .retention then startWake d (calEvent 0x1A1 none d 40000 s)
  else if dieParked s d then startWake d (calEvent 0x1A1 none d 2000000 s)
  else s

/-- The troupes of a die that serve a partition. -/
def servingTroupes (s : State) (p d : Nat) : List Nat := (List.range 4).map (4 * d + ·) |>.filter fun t => mapped s t p

/-- Allocation of an item to a die on which every troupe serving its partition is gated ungates them. -/
def ungateFor (p d : Nat) (s : State) : State :=
  let l := servingTroupes s p d
  if l.all fun t => (getTP s t).gated then l.foldl (fun s t => startUngate t s) s else s

/-- What allocation to a die asks of the power manager. -/
def allocPower (p d : Nat) (s : State) : State := ungateFor p d (wakeDie d s)

/-- A troupe that can run: on an active die, and not gated. -/
def troupeRuns (s : State) (t : Nat) : Bool := decide (dieState s (dieOfTroupe t) = .active) && !(getTP s t).gated

/-! ### Halts (R431, R412, R514) -/

/-- Admission is halted: a Canvas halt, a part on its way to END_OF_LIFE, or an orderly power-down. -/
def dispatchHalted (s : State) : Bool :=
  s.canvas.halted || decide (s.lcs.programming = some 3) || s.power.shutdown.isSome

/-- Management routines that need an engine die: SCU_LOCK_SET, UNIT_KAT and ROUTINE_CACHE_PIN. -/
def needsDie (r : Nat) : Bool := [0x0F41, 0x0F51, 0x0F52].contains r

/-- Row 4 of R544: a halt is in force, and the command is no management routine that continues under it (R431). -/
def haltBlocks (s : State) (p r : Nat) : Bool := dispatchHalted s && !(decide (p = 0) && runsOnCore p r && !needsDie r)

end Sys2Proof.Machine
end

