-- ==== Sys2Proof/Machine/Scu.lean ====
section
/-!
DEFINITION. The streaming cipher units, self-tests, unit services and the random generators (R273, R278 to R288, R295 to
R303).
-/
namespace Sys2Proof.Machine

/-! ### SBULK (R279, R280, R287) -/

/-- Mode of a descriptor code. -/
def scuMode (c : Nat) : Mode :=
  if c = 0 then .ecb else if c = 1 then .cbc else if c = 2 then .ctr else if c = 3 then .cfbFull else .ofb

def descReenc (d : Bytes) : Bool := (byteAt 1 d).getLsbD 0
def descDec (d : Bytes) : Bool := (byteAt 0 d).getLsbD 3
def descMode (d : Bytes) : Nat := (byteAt 0 d).toNat % 8
def descLen (d : Bytes) : Nat := leAt 24 4 d

/-- ECB and CBC take whole blocks only. -/
def wholeBlocks (mode : Nat) : Bool := decide (mode ≤ 1)

/-- A descriptor that fails a check of R280. -/
def descBad (d : Bytes) : Bool :=
  let b0 := (byteAt 0 d).toNat
  let b1 := (byteAt 1 d).toNat
  let b2 := (byteAt 2 d).toNat
  let b3 := (byteAt 3 d).toNat
  let re := descReenc d
  let n := descLen d
  let src := leAt 8 8 d
  let dst := leAt 16 8 d
  decide (16 ≤ b0) || decide (4 < b0 % 8) || decide (32 ≤ b1) || decide (b1 / 2 % 4 = 3) || decide (b1 / 8 % 4 = 3) ||
  (if re then decide (4 < b2) || decide (8 ≤ b3) || !descDec d
    else decide (b2 ≠ 0) || decide (b3 ≠ 0) || decide (leAt 48 16 d ≠ 0)) ||
  decide (leAt 4 4 d ≠ 0) || decide (leAt 28 4 d ≠ 0) || decide (n = 0) || decide (0x40000000 < n) ||
  (decide (b0 % 8 = 0) && decide (leAt 32 16 d ≠ 0)) ||
  ((wholeBlocks (b0 % 8) || (re && wholeBlocks b2)) && decide (n % 16 ≠ 0)) ||
  (decide (src ≠ dst) && decide (src < dst + n) && decide (dst < src + n))

/-- REFUSED_CNT and ABORT_CNT. -/
def scuRefused (d p : Nat) (s : State) : State :=
  calEventDie d 0x193 (some p) d 0 (updScu d (fun u => { u with refused := satInc u.refused }) s)
def scuAborted (d : Nat) (s : State) : State := updScu d (fun u => { u with abort := satInc u.abort }) s

/-- A failed check of an SCU: counted, and Canvas event UNIT_CHECK (R271). -/
def scuCheck (d : Nat) (s : State) : State :=
  let s := updScu d (fun u => { u with check := true, checkCnt := satInc u.checkCnt }) s
  raiseAlarm cUNIT_CHECK (calEventDie d 0x190 none d (getScu s d).checkCnt.toNat s)

/-- The cause a key gives an SBULK: 0 none, USAGE, or UNIT_OPERAND for TDES (R180, R280). -/
def scuKeyCause (h : Handle) (bit : Nat) : Nat :=
  if ¬ mayUse h [uDATA] bit then 0x0C
  else if isTdes h.attr.alg.toNat then 0x10 else if isBlockAlg h.attr.alg.toNat then 0 else 0x0C

/-- A job taken into an SCU, under its number: active while a slot is free and no KAT holds it, else queued (R273, R282). -/
def enqueueJob (die : Nat) (j : ScuJob) (s : State) : ScuJob × State :=
  let u := getScu s die
  let held := u.katReq || u.katBusy
  let j := { j with no := u.next, held := held }
  (j, updScu die (fun u => if ¬ held ∧ u.active.length < 32 ∧ u.queue = [] then { u with active := u.active ++ [j], next := u.next + 1 }
    else { u with queue := u.queue ++ [j], next := u.next + 1 }) s)

/-- A job of an SBULK accepted; the seat stalls while the queue is full (R195, R282). -/
def acceptJob (k : Nat) (t : BitVec 2) (o : Nat) (pins : List Nat) (j : ScuJob) (x : SeatRun) (s : State) : State :=
  let die := dieOfSeat k
  if 64 ≤ (getScu s die).queue.length then waitIn k 5 (some .scu) x s
  else
    let (j, s) := enqueueJob die j s
    let iv2 := if descReenc j.desc then [OpWrite.scratch (o + 48) (zeros 16) j.taint] else []
    submit k { unit := .scu, ticket := some t.toNat, opcode := 0x36, pc := x.pc, pins := pins, job := j.no, held := j.held
               dsts := .scratch (o + 32) (zeros 16) j.taint :: iv2 } x s

/-- SBULK. -/
def execSbulk (k : Nat) (t : BitVec 2) (ga : BitVec 5) (kx : BitVec 3) (s : State) : Res :=
  .next (seatInstr k 0x36 ⟨kR [kx] ++ gR [ga], []⟩ (fun x s =>
    let o := (getG x ga).toNat
    let die := dieOfSeat k
    if 4096 < o + 64 then trap k 0x36 0x07 255 x s
    else if o % 16 ≠ 0 then trap k 0x36 0x10 255 x (scuAborted die s)
    else guardedS k { k := [kx], o := o, n := 64, ticket := some t.toNat } x s fun s => withKey k 0x36 kx x s fun h e s =>
      let d := scratchBytes x o 64
      let u := getScu s die
      let p := (getSeat s k).part
      let j : ScuJob := { no := 0, seat := k, part := p, desc := d, off := o, taint := scratchTaint x o 64
                          alg1 := h.attr.alg.toNat, key1 := e.material }
      if u.exclusive ∧ u.owner.toNat ≠ p then trap k 0x36 0x14 255 x (scuRefused die p s)
      else if ¬ u.ready then trap k 0x36 0x14 255 x s
      else if descBad d then trap k 0x36 0x10 255 x (scuAborted die s)
      else
        let c1 := scuKeyCause h (if descDec d then pDEC else pENC)
        if c1 = 0x10 then trap k 0x36 0x10 kx.toNat x (scuAborted die s)
        else if c1 ≠ 0 then trap k 0x36 c1 kx.toNat x s
        else if descReenc d then
          let r2 : BitVec 3 := BitVec.ofNat 3 (byteAt 3 d).toNat
          guardedS k { k := [r2] } x s fun s => withKey k 0x36 r2 x s fun h2 e2 s =>
            let c2 := scuKeyCause h2 pENC
            if c2 = 0x10 then trap k 0x36 0x10 r2.toNat x (scuAborted die s)
            else if c2 ≠ 0 then trap k 0x36 c2 r2.toNat x s
            else acceptJob k t o [h.entry, h2.entry] { j with alg2 := h2.attr.alg.toNat, key2 := e2.material } x s
        else acceptJob k t o [h.entry] j x s) s)

/-! ### A job's work (R281 to R286) -/

/-- Input padded with zeros to whole blocks, swapped, ciphered, cut to its length and swapped again as if zero-padded: the
output, and the next IV of each pass. -/
def runJob (j : ScuJob) (src : Bytes) : Bytes × Bytes × Bytes :=
  let d := j.desc
  let b1 := (byteAt 1 d).toNat
  let data := swapData (b1 / 2 % 4) (fit (roundUp src.length 16) src)
  let r := cipherRange (scuMode (descMode d)) (descDec d) j.alg1 j.key1 (slice 32 16 d) data
  let r2 := if descReenc d then cipherRange (scuMode ((byteAt 2 d).toNat % 8)) false j.alg2 j.key2 (slice 48 16 d) r.1 else (r.1, [])
  ((swapData (b1 / 8 % 4) (r2.1.take src.length)).take src.length, r.2, r2.2)

/-- LOCK_PENDING after a change of the jobs: it stays until no job of another partition is left (R288). -/
def lockSettled (u : Scu) : Scu :=
  { u with lockPending := u.lockPending && u.exclusive && (u.active ++ u.queue).any fun j => decide (j.part ≠ u.owner.toNat) }

/-- Queued jobs become active in queue order while a slot is free; those a KAT holds wait (R273, R282). -/
def activate : Nat → Scu → Scu
  | 0, u => u
  | k + 1, u =>
    match u.queue with
    | [] => u
    | j :: r => if j.held ∨ 32 ≤ u.active.length then u else activate k { u with queue := r, active := u.active ++ [j] }

/-- A requested KAT starts when every accepted job has ended, on a die that is up. -/
def scuKat (up : Bool) (u : Scu) : Scu :=
  if up ∧ u.katReq ∧ ¬ u.katBusy ∧ u.active = [] ∧ u.queue.all (fun j => j.held) = true then { u with katBusy := true } else u

/-- SCU_LOCK_SET services that waited for LOCK_PENDING to clear complete (R288). -/
def lockDone (die : Nat) (s : State) : State :=
  if (getScu s die).lockPending then s
  else (s.items.filter fun i => decide (i.place = .core) && decide (i.phase = 5) && decide (i.le 24 1 = die)).foldl
    (fun s i => done i.id [] s) s

/-- The operation of a seat that stands for a job. -/
def jobOp (s : State) (j : ScuJob) : Option PendOp :=
  (getSeat s j.seat).x.ops.find? fun o => decide (o.unit = .scu) && decide (o.job = j.no)

/-- A job leaves its SCU, and its ticket completes with the bytes written back or with a cause. -/
def endJob (die : Nat) (j : ScuJob) (cause : Nat) (ivs : List Bytes) (s : State) : State :=
  let s := updScu die (fun u => scuKat (dieUp s die) (lockSettled (activate 64 { u with
    active := u.active.filter fun a => decide (a.no ≠ j.no), queue := u.queue.filter fun a => decide (a.no ≠ j.no) }))) s
  let s := match jobOp s j with
    | none => s
    | some o =>
      let dsts := (o.dsts.zip (ivs ++ [[], []])).map fun w => match w.1 with
        | .scratch a _ t => OpWrite.scratch a (fit 16 w.2) t
        | .dreg i v t => .dreg i v t
        | .kreg i => .kreg i
        | .greg i v => .greg i v
        | .flags b => .flags b
        | .outcome _ => .outcome (fit 16 w.2)
      let o' := { o with dsts := dsts }
      let s := updSeat j.seat (fun st => { st with x := { st.x with ops := st.x.ops.map fun p => if p = o then o' else p } }) s
      completeOp j.seat o' cause s
  lockDone die (wakeSeats .scu (seatsOfDie die) s)

/-- No older job of its seat is left (R282). -/
def oldestJob (u : Scu) (j : ScuJob) : Bool := (u.active ++ u.queue).all fun a => decide (a.seat ≠ j.seat) || decide (j.no ≤ a.no)

/-- The end of a seat's oldest job: `src` is what the SCU read before the end; a stopped job has written its whole
blocks (R282, R285, R286); a job whose command was taken before an FLR stops and writes nothing (R49; log 54).  Accesses carry colour 7 and the requester ID of the partition's function. -/
def scuJobEnds (die job : Nat) (src : Bytes) (end_ : JobEnd) (s : State) : State :=
  match (getScu s die).active.find? fun j => decide (j.no = job) with
  | none => s
  | some j =>
    if ¬ oldestJob (getScu s die) j then s
    else if seatMuted s j.seat then endJob die j 0x11 [slice 32 16 j.desc, slice 48 16 j.desc] s else
    let n := descLen j.desc
    let (nr, s) := passedBytes 512 7 true 0 (leAt 8 8 j.desc) n s
    let end_ := if nr = n then end_ else .hostError
    let whole := decide (end_ = .done)
    let got := if whole then fit n src else src.take (min nr (min n src.length) / 16 * 16)
    let r := runJob j got
    let (nw, s) := if end_ = .check then (0, s) else passedBytes 512 7 true 1 (leAt 16 8 j.desc) r.1.length s
    let end_ := if nw = r.1.length ∨ end_ = .check then end_ else .hostError
    let abort (cause : Nat) (f : Scu → Scu) (s : State) : State :=
      endJob die j cause [slice 32 16 j.desc, slice 48 16 j.desc] (updScu die f (scuAborted die s))
    let host (u : Scu) : Scu := { u with hostFault := true }
    let s := if nw = 0 then s
      else updScu die (fun u => { u with bytes := u.bytes + BitVec.ofNat 64 nw })
        (dataWrite j.part j.part (seatQp s j.seat) (leAt 16 8 j.desc) (r.1.take nw) s)
    match end_ with
    | .done => endJob die j 0 [fit 16 r.2.1, fit 16 r.2.2] (updScu die (fun u => { u with jobs := u.jobs + 1 }) s)
    | .hostError => abort 0x11 host s
    | .poison => abort 0x12 host s
    | .check => endJob die j 0x13 [slice 32 16 j.desc, slice 48 16 j.desc] (scuCheck die (scuAborted die s))

/-- SCU_JOB_COMPLETE: a job ends (R271, R282, R285, R286). -/
def execScuJobComplete (die job : Nat) (src : Bytes) (end_ : JobEnd) (s : State) : Res := .next (scuJobEnds die job src end_ s)

/-! ### Self-tests (R272, R273) -/

/-- Number of units of a kind. -/
def unitCount (s : State) (kind : UnitKind) : Nat := match kind with
  | .block => 2 * nTroupes s.part.variant
  | .mau => nTroupes s.part.variant
  | .hash => nTroupes s.part.variant
  | .scu => nDies s.part.variant
  | .rng => 1

/-- The engine die of a unit; none for the generator on the control die. -/
def dieOfUnit (kind : UnitKind) (n : Nat) : Option Nat := match kind with
  | .block => some (n / 8)
  | .mau => some (n / 4)
  | .hash => some (n / 4)
  | .scu => some n
  | .rng => none

/-- A unit that can run a test: present, and not on a lost die. -/
def unitHere (s : State) (kind : UnitKind) (n : Nat) : Bool :=
  decide (n < unitCount s kind) && match dieOfUnit kind n with
  | none => true
  | some d => decide (dieState s d ≠ .lost)

/-- KAT_REQ written 1: a die that is not up applies it as it comes up (R28, R273, R301 to R303). -/
def katRequest (kind : UnitKind) (n : Nat) (s : State) : State :=
  if ¬ unitHere s kind n then s
  else match kind with
    | .block => startKat .block n (updUnit .block n (fun u => { u with katReq := true }) s)
    | .mau => startKat .mau n (updUnit .mau n (fun u => { u with katReq := true }) s)
    | .hash => startKat .hash n (updUnit .hash n (fun u => { u with katReq := true }) s)
    | .scu => updScu n (scuKat (dieUp s n)) (updScu n (fun u => { u with katReq := true }) s)
    | .rng => updRng (fun r => { r with katReq := true }) s

/-- The tests of a die that has come up: the power-up tests of units neither ready nor failed, and those requested
meanwhile (R28, R31, R272). -/
def startKats (die : Nat) (s : State) : State :=
  if ¬ dieUp s die then s
  else
    let up (u : OpUnit) (n : Nat) (s : State) : State := startKat u n (updUnit u n (fun x => { x with katBusy := x.katBusy || (!x.ready && !x.failed) }) s)
    let s := (List.range 8).foldl (fun s j => up .block (8 * die + j) s) s
    let s := (List.range 4).foldl (fun s j => up .hash (4 * die + j) (up .mau (4 * die + j) s)) s
    updScu die (fun u => scuKat true { u with katBusy := u.katBusy || (!u.ready && !u.failed) }) s

/-- A unit's KAT is still to end; whether the unit has failed. -/
def katPending (s : State) (kind : UnitKind) (n : Nat) : Bool := match kind with
  | .block => (getUnit s .block n).katReq
  | .mau => (getUnit s .mau n).katReq
  | .hash => (getUnit s .hash n).katReq
  | .scu => (getScu s n).katReq
  | .rng => s.units.rng.katReq

def unitFailed (s : State) (kind : UnitKind) (n : Nat) : Bool := match kind with
  | .block => (getUnit s .block n).failed
  | .mau => (getUnit s .mau n).failed
  | .hash => (getUnit s .hash n).failed
  | .scu => (getScu s n).failed
  | .rng => s.units.rng.failed

/-- KAT_REQ: the register write. -/
def execKatReq (kind : UnitKind) (n : Nat) (s : State) : Res := .next (katRequest kind n s)

/-- Kind code of UNIT_KAT. -/
def kindOf (c : Nat) : Option UnitKind :=
  if c = 1 then some .block else if c = 2 then some .mau else if c = 3 then some .hash else if c = 4 then some .scu
  else if c = 5 then some .rng else none

/-- The units a UNIT_KAT names among those `here`; none where one is absent or the kind is not one. -/
def katUnits (s : State) (here : UnitKind → Nat → Bool) (i : Item) : Option (List (UnitKind × Nat)) :=
  let all (k : UnitKind) : List (UnitKind × Nat) := ((List.range (unitCount s k)).filter (here k)).map fun n => (k, n)
  if i.le 24 1 = 0 then some ([UnitKind.block, .mau, .hash, .scu, .rng].flatMap all)
  else match kindOf (i.le 24 1) with
    | none => none
    | some k =>
      if i.le 26 2 = 0xFFFF then some (all k) else if here k (i.le 26 2) then some [(k, i.le 26 2)] else none

/-- The units a running UNIT_KAT tests: those of the dies it found, as its outcome's first byte keeps them. -/
def katTested (s : State) (i : Item) : List (UnitKind × Nat) :=
  let dies := byteAt 0 ((i.outcome.map Outcome.data).getD [])
  (katUnits s (fun k n => (dieOfUnit k n).all fun d => dies.getLsbD d) i).getD []

/-- UNIT_KAT services all of whose tests have ended complete; a test on a die lost meanwhile has ended in failure (R300). -/
def katsDone (s : State) : State :=
  (s.items.filter fun i => decide (i.place = .core) && decide (i.phase = 6)).foldl (fun s i =>
    let l := katTested s i
    if l.any (fun u => unitHere s u.1 u.2 && katPending s u.1 u.2) then s
    else done i.id (toLE 4 l.length ++ toLE 4 (l.filter fun u => unitFailed s u.1 u.2 || !unitHere s u.1 u.2).length) s) s

/-- UNIT_KAT. -/
def execUnitKat (id : Nat) (s : State) : Res :=
  .next (onService id 0x0F52 (fun i s =>
    match katUnits s (unitHere s) i with
    | none => refuse id stOPERAND_FORMAT 0x01 s
    | some l =>
      let dies : Byte := (List.range 7).foldl (fun m d => if dieState s d = .lost then m else setBit m d) 0
      let s := l.foldl (fun s u => katRequest u.1 u.2 s) s
      katsDone (updItem id (fun i => { i with phase := 6, outcome := some { status := stOK, data := [dies] } }) s)) s)

/-- A block unit's, MAU's or hash unit's test ends: held operations go on, or end with UNIT_NOT_READY (R273). -/
def endKat (u : OpUnit) (n : Nat) (pass : Bool) (s : State) : State :=
  let x := getUnit s u n
  if ¬ x.katBusy then s
  else
    let bad := !pass || x.failed
    let s := updUnit u n (fun x => { x with katReq := false, katBusy := false, ready := !bad, failed := bad
                                            katFail := x.katFail || !pass }) s
    let s := if pass then s else calEventDie (unitDie u n) 0x191 none n x.checkCnt.toNat s
    (seatsOfUnit u n).foldl (fun s k =>
      let held := (getSeat s k).x.ops.filter fun o => decide (o.unit = u) && o.held
      if bad then held.foldl (fun s o => completeOp k o 0x14 s) s
      else if held = [] then s
      else updSeat k (fun st => { st with x := { st.x with ops := st.x.ops.map fun o =>
        if o.unit = u ∧ o.held then { o with held := false } else o } }) s) s

/-- An SCU's test ends. -/
def endScuKat (die : Nat) (pass : Bool) (s : State) : State :=
  let u := getScu s die
  if ¬ u.katBusy then s
  else
    let bad := !pass || u.failed
    let s := updScu die (fun u => { u with katReq := false, katBusy := false, ready := !bad, failed := bad, katFail := u.katFail || !pass }) s
    let s := if pass then s else calEventDie die 0x191 none die u.checkCnt.toNat s
    if bad then
      (u.queue.filter fun j => j.held).foldl (fun s j => endJob die j 0x14 [slice 32 16 j.desc, slice 48 16 j.desc] s) s
    else updScu die (fun u => activate 64 { u with queue := u.queue.map fun j => { j with held := false } }) s

/-- The generator's test ends: the start-up tests pass and the root is instantiated, or it fails (R296, R303). -/
def endRngKat (pass : Bool) (s : State) : State :=
  let r := s.units.rng
  if ¬ r.katReq then s
  else if pass ∧ ¬ r.failed then
    updRng (fun r => { r with katReq := false, esReady := true, drbgReady := !r.recovering }) s
  else updRng (fun r => { r with katReq := false, esReady := false, drbgReady := false, failed := true }) (calEvent 0x191 none 0 0 s)

/-- KAT_COMPLETE: a running test of a unit ends, requested or of power-up; none runs on a die that is not up (R31, R272). -/
def execKatComplete (kind : UnitKind) (n : Nat) (pass : Bool) (s : State) : Res :=
  if ¬ unitHere s kind n ∨ ((dieOfUnit kind n).all fun d => dieUp s d) = false then .next s
  else
    let t := match kind with
      | .block => endKat .block n pass s
      | .mau => endKat .mau n pass s
      | .hash => endKat .hash n pass s
      | .scu => endScuKat n pass s
      | .rng => endRngKat pass s
    .next (noteReady s (katsDone t))

/-! ### Unit services (R300 to R302) -/

/-- IN_FLIGHT: contexts open in a hash unit; how many of a block unit's blocks are in its pipeline is a free value, none
while it has no operation (R301; assumption log 74). -/
def blocksInFlight (s : State) (u : OpUnit) (n : Nat) : Nat := match u with
  | .hash => ((seatsOfUnit u n).filter fun k => (getSeat s k).x.hash.isSome).length
  | .block =>
    let b := min 52 (((unitOps s u n).filter fun o => !o.held).map PendOp.blocks).sum
    Config.inFlight n [s.units.opCtr, now s, s.freeCtr] % (b + 1)
  | .mau => 0
  | .scu => 0
  | .host => 0
  | .key => 0

/-- The register block of a block unit, MAU or hash unit: 64 bytes. -/
def unitBlock (s : State) (u : OpUnit) (n : Nat) : Bytes :=
  let x := getUnit s u n
  let ops := unitOps s u n
  let status := b2n x.ready + b2n x.failed * 2 + b2n x.katBusy * 4 + b2n (!ops.isEmpty) * 8 + ops.length % 32 * 16 + blocksInFlight s u n % 64 * 65536
  toLE 8 status ++ toLE 8 x.ops.toNat ++ toLE 8 (b2n x.check + b2n x.katFail * 2 + x.checkCnt.toNat * 65536) ++
  toLE 8 (b2n x.katReq) ++ zeros 32

/-- The register block of an SCU: 256 bytes. -/
def scuBlock (s : State) (d : Nat) : Bytes :=
  let u := getScu s d
  toLE 8 (u.owner.toNat + b2n u.exclusive * 256) ++
  toLE 8 (b2n u.ready + b2n u.failed * 2 + b2n u.katBusy * 4 + b2n u.lockPending * 8 + u.queue.length * 16 + u.active.length * 65536) ++
  toLE 8 u.bytes.toNat ++ toLE 8 (u.jobs.toNat + u.refused.toNat * 2 ^ 32 + u.abort.toNat * 2 ^ 48) ++
  toLE 8 (b2n u.check + b2n u.katFail * 2 + b2n u.hostFault * 4 + u.checkCnt.toNat * 65536) ++ toLE 8 (b2n u.katReq) ++ zeros 208

/-- DIE_SEEDED. -/
def dieSeeded (s : State) : Nat := ((List.range 7).map fun d => b2n (dieProduces s d) * 2 ^ d).sum

/-- The source has sampled since reset. -/
def hasSampled (r : Rng) : Bool := r.esReady || r.recovering || r.failed

/-- RNG_HEALTH.  What the raw stream has counted since the last read is free below the thresholds 589 and 41; a failed test has
left its own there (R296, R303; assumption log 12). -/
def rngHealth (s : State) : Nat :=
  let r := s.units.rng
  let w := (Config.freeWord s.freeCtr).toNat
  let apt := if hasSampled r then max r.aptMax.toNat (w % 589) else r.aptMax.toNat
  let rct := if hasSampled r then max r.rctMax.toNat (1 + w / 1024 % 40) else r.rctMax.toNat
  r.rctFail.toNat + r.aptFail.toNat * 2 ^ 16 + apt * 2 ^ 32 + rct * 2 ^ 48

/-- RNG_RAW returns raw bits (R303). -/
def rawShown (s : State) : Bool := s.units.rng.rawEn && decide (s.lcs.state = 1)

/-- The RNG register block: 64 bytes. -/
def rngBlock (s : State) : Bytes :=
  let r := s.units.rng
  toLE 8 (b2n r.katReq + b2n r.rawEn * 2 + b2n r.lock * 2 ^ 31) ++
  toLE 8 (b2n r.esReady + b2n r.drbgReady * 2 + b2n r.failed * 4 + b2n r.recovering * 8 + r.recoveries.toNat * 16 +
    dieSeeded s * 2 ^ 16 + r.reseedCnt.toNat * 2 ^ 32) ++ toLE 8 (rngHealth s) ++
  toLE 8 (if rawShown s then (Config.freeWord (s.freeCtr + 1)).toNat else 0) ++ zeros 32

/-- What a read of RNG_HEALTH does: the maxima clear. -/
def healthRead (s : State) : State := { updRng (fun r => { r with aptMax := 0, rctMax := 0 }) s with freeCtr := s.freeCtr + 2 }

/-- What a read of RNG_RAW does: the raw bits shown are used. -/
def rawRead (s : State) : State :=
  if rawShown s then { updRng (fun r => { r with rawPos := r.rawPos + 1 }) s with freeCtr := s.freeCtr + 2 } else s

/-- What a read of the RNG registers does (R303). -/
def rngRead (s : State) : State := rawRead (healthRead s)

/-- A register block as it reads (R28): its status and counter words from the die's mirror at `base`, the others as `live`
holds them. -/
def shownBlock (s : State) (d base : Nat) (words : List Nat) (live : Bytes) : Bytes :=
  (List.range (live.length / 8)).flatMap fun k =>
    if words.contains k then toLE 8 (mirrored s d (base + 8 * k)) else slice (8 * k) 8 live

/-- The blocks of block unit, MAU, hash unit and SCU `n` as they read. -/
def shownBlk (s : State) (n : Nat) : Bytes := shownBlock s (n / 8) (0x64000000 + 0x40 * n) [0, 1, 2] (unitBlock s .block n)
def shownMau (s : State) (n : Nat) : Bytes := shownBlock s (n / 4) (0x65000000 + 0x40 * n) [0, 1, 2] (unitBlock s .mau n)
def shownHash (s : State) (n : Nat) : Bytes := shownBlock s (n / 4) (0x66000000 + 0x40 * n) [0, 1, 2] (unitBlock s .hash n)
def shownScu (s : State) (n : Nat) : Bytes := shownBlock s n (0x67000000 + 0x100 * n) [1, 2, 3, 4] (scuBlock s n)

/-- Every unit's register block in offset order (R300). -/
def unitBlocks (s : State) : Bytes :=
  let t := nTroupes s.part.variant
  (List.range (2 * t)).flatMap (shownBlk s) ++ (List.range t).flatMap (shownMau s) ++
  (List.range t).flatMap (shownHash s) ++ (List.range (nDies s.part.variant)).flatMap (shownScu s) ++ rngBlock s

/-- UNIT_STATUS_READ; it reads the registers it writes out (assumption log 57). -/
def execUnitStatusRead (id : Nat) (s : State) : Res :=
  .next (onService id 0x0F50 (fun i s =>
    let out := unitBlocks s
    if i.le 32 4 < out.length then finish id stOPERAND_FORMAT (toLE 4 out.length) false s
    else svcWrite id (i.le 24 8) out s fun s => finish id stOK (toLE 4 out.length) true (rngRead s)) s)

/-- SCU_LOCK_SET: completes once LOCK_PENDING is 0 (R287, R288). -/
def execScuLockSet (id : Nat) (s : State) : Res :=
  .next (onService id 0x0F51 (fun i s =>
    let d := i.le 24 1
    if nDies s.part.variant ≤ d ∨ 2 ≤ i.le 26 1 then refuse id stOPERAND_FORMAT 0x01 s
    else
      let s := updScu d (fun u => lockSettled { u with
        owner := BitVec.ofNat 8 (i.le 25 1), exclusive := decide (i.le 26 1 = 1), lockPending := true }) s
      lockDone d (updItem id (fun i => { i with phase := 5 }) s)) s)

/-- PRF_FAULT_LOG (R215): 16 bytes to a seat, PRF_SEAT_FAULT and PRF_SEAT_COUNT as they read. -/
def seatRecord (s : State) (k : Nat) : Bytes :=
  toLE 8 (mirrored s (dieOfSeat k) (0x60000008 + 0x40 * k)) ++ toLE 8 (mirrored s (dieOfSeat k) (0x60000010 + 0x40 * k))

/-- PRF_SEAT_FAULT.VALID cleared, in the seat and in the mirror (R212, R215). -/
def clearSeatFault (k : Nat) (s : State) : State :=
  clearMirror (dieOfSeat k) (0x60000008 + 0x40 * k) 1 (updSeat k (fun st => { st with fault := { st.fault with valid := false } }) s)

def execPrfFaultLog (id : Nat) (s : State) : Res :=
  .next (onService id 0x0F30 (fun i s =>
    let n := nSeats s.part.variant
    if i.le 32 4 < 16 * n ∨ 2 ≤ i.le 36 1 then finish id stOPERAND_FORMAT [] false s
    else svcWrite id (i.le 24 8) ((List.range n).flatMap (seatRecord s)) s fun s =>
      let s := if i.le 36 1 = 1 then ((List.range n).filter fun k => (byteAt 0 (seatRecord s k)).getLsbD 0).foldl (fun s k => clearSeatFault k s) s else s
      finish id stOK (toLE 2 n) true s) s)

/-! ### The generators (R295 to R298, R303) -/

/-- The seats stalled for DRBG output, a suspended one apart, fault (R298). -/
def faultStalled (s : State) : State :=
  ((List.range (nSeats s.part.variant)).filter fun k => (getSeat s k).x.waitRnd.isSome && !(getSeat s k).suspended).foldl (fun s k =>
    let st := getSeat s k
    if st.routine < 0x1000 then libFault k 0x14 s else seatFault k 0x14 (st.x.waitRnd.getD 0) st.x.pc 255 false s) s

/-- A failure of the repetition count test (`rct`) or of the adaptive proportion test: every generator stops, every troupe
buffer empties, and the fourth failure ends it (R296, R298). -/
def healthFail (rct : Bool) (s : State) : State :=
  let s0 := s
  let w := (Config.freeWord s.freeCtr).toNat
  let s := updRng (fun r => { r with
    rctFail := if rct then satInc r.rctFail else r.rctFail, aptFail := if rct then r.aptFail else satInc r.aptFail
    rctMax := if rct then 41 else r.rctMax
    aptMax := if rct then r.aptMax else BitVec.ofNat 11 (max r.aptMax.toNat (589 + w % 436))
    failAt := s.time.time64, fails := r.fails + 1, drbgReady := false, esReady := false
    recovering := decide (r.fails < 3) && !r.failed, failed := r.failed || decide (3 ≤ r.fails)
    dies := Tab.mapVals dDieDrbg (fun _ d => { d with seeded := false }) r.dies }) { s with freeCtr := s.freeCtr + 1 }
  let s := { s with troupes := Tab.mapVals dTroupe (fun _ t => { t with drbgBuf := 0 }) s.troupes }
  noteReady s0 (faultStalled (raiseAlarm cRNG_HEALTH (calEvent 0x192 none 0 0 s)))

/-- RNG_HEALTH_FAIL. -/
def execRngHealthFail (rct : Bool) (s : State) : Res := .next (healthFail rct s)

/-- RNG_RECOVERY: 10 ms after a failure the start-up tests are rerun; `bad` is the one that fails again, true the repetition
count (R298). -/
def execRngRecovery (bad : Option Bool) (s : State) : Res :=
  let r := s.units.rng
  if ¬ r.recovering ∨ now s < r.failAt.toNat + 10000000 then .next s
  else match bad with
  | some rct => .next (healthFail rct s)
  | none =>
    let dies := (List.range (nDies s.part.variant)).foldl (fun t d =>
      if dieState s d = .active then Tab.set dDieDrbg t d { seeded := true, at_ := s.time.time64 } else t) r.dies
    .next (noteReady s (updRng (fun r => { r with
      recovering := false, esReady := true, drbgReady := true, recoveries := r.recoveries + 1, reseedCnt := r.reseedCnt + 1
      reqs := ((List.range (nDies s.part.variant)).filter fun d => decide (dieState s d = .active)).length
      at_ := s.time.time64, dies := dies }) { s with freeCtr := s.freeCtr + 1 }))

/-- ROOT_DRBG_RESEED: due after 65,536 requests or 100 ms (R297). -/
def execRootDrbgReseed (s : State) : Res :=
  let r := s.units.rng
  if r.drbgReady ∧ (65536 ≤ r.reqs ∨ r.at_.toNat + 100000000 ≤ now s) then
    .next (updRng (fun r => { r with reqs := 0, at_ := s.time.time64, reseedCnt := r.reseedCnt + 1 }) { s with freeCtr := s.freeCtr + 1 })
  else .next s

/-- DIE_DRBG_RESEED: due after 2^20 requests or 1 s; during a root recovery the instance stops producing (R297). -/
def execDieDrbgReseed (die : Nat) (s : State) : Res :=
  let d := Tab.get dDieDrbg s.units.rng.dies die
  if dieState s die ≠ .active ∨ ¬ (1048576 ≤ d.reqs ∨ d.at_.toNat + 1000000000 ≤ now s) then .next s
  else
    let d' : DieDrbg := if s.units.rng.drbgReady then { seeded := true, reqs := 0, at_ := s.time.time64 } else { d with seeded := false }
    let (_, s') := if s.units.rng.drbgReady then drawRoot 48 s else ([], s)
    .next (updRng (fun r => { r with dies := Tab.set dDieDrbg r.dies die d' }) s')

/-- DRBG_BUFFER_REFILL: a troupe buffer below 128 bytes is filled to its 256 bytes (R297). -/
def execDrbgBufferRefill (troupe : Nat) (s : State) : Res :=
  let d := dieOfTroupe troupe
  let x := Tab.get dDieDrbg s.units.rng.dies d
  let buf := (getTroupe s troupe).drbgBuf
  if troupe < nTroupes s.part.variant ∧ dieState s d = .active ∧ x.seeded ∧ ¬ drbgDown s ∧ buf < 128 then
    let s := updRng (fun r => { r with dies := Tab.set dDieDrbg r.dies d { x with reqs := x.reqs + (256 - buf + 63) / 64 } })
      (updTroupe troupe (fun t => { t with drbgBuf := 256 }) s)
    .next ((seatsOfTroupe troupe).foldl (fun s k =>
      if (getSeat s k).x.waitRnd.isSome then updSeat k (fun st => { st with x := { st.x with wait := 0, waitRnd := none } }) s else s) s)
  else .next s

/-- RNG_RAW_READ: the next 64 raw bits, in TEST with RAW_EN set; else zero (R303). -/
def execRngRawRead (s : State) : Res :=
  .next { rawRead s with readData := if rawShown s then Config.freeWord (s.freeCtr + 1) else 0 }

/-- RNG_HEALTH_READ clears APT_MAX and RCT_MAX. -/
def execRngHealthRead (s : State) : Res :=
  .next { healthRead s with readData := BitVec.ofNat 64 (rngHealth s) }

end Sys2Proof.Machine
end

