-- ==== Sys2Proof/Machine/HostLink.lean ====
section
/-!
DEFINITION. Host link, device time, queue pages and interrupts: the commands of spec files 01 and 02 other than
register writes and the migration routines.
-/
namespace Sys2Proof.Machine

/-! ### Requests the host may not make (R43, R47) -/

/-- An offset of BAR0 in the result slots of a queue page (R50, R51, R76). -/
def inSlots (fn off : Nat) : Bool :=
  (if fn = 0 then decide (0x1000000 ≤ off) && decide (off < 0x1800000) else decide (0x1000 ≤ off) && decide (off < 0x9000)) &&
  decide (0x400 ≤ off % 0x1000) && decide (off % 0x1000 < 0x800)

/-- A legal register read of BAR0: 4 or 8 bytes, naturally aligned; 16 and 32 too in result slots (R47). -/
def readLegal (fn off size : Nat) : Bool :=
  (size == 4 || size == 8 || (inSlots fn off && (size == 16 || size == 32))) && decide (off % size = 0)

/-- MISALIGNED_ACCESS: zero data, no register set, Advisory Non-Fatal (R47). -/
def execMisalignedAccess (fn off size : Nat) (s : State) : Res :=
  if readLegal fn off size ∨ fnExists s fn = false then .next s
  else .next (updFunc fn (fun f => { f with aer := aerLog 1 [off, size] f.aer }) { s with readData := 0 })

/-- UNSUPPORTED_REQUEST: completes with Unsupported Request, logged as such (R43). -/
def execUnsupportedRequest (fn : Nat) (kind : UrKind) (s : State) : Res :=
  let k := match kind with
    | .pasidPrefix => 0
    | .atomicOp => 1
    | .translatedAddress => 2
  if fnExists s fn then .next (updFunc fn (fun f => { f with aer := aerLog 2 [k] f.aer }) s) else .next s

/-! ### Time (R30, R31, R38) -/

/-- CLK_TIME64_LOW_READ: the low half is returned and the high half latched (R38). -/
def execClkTime64LowRead (s : State) : Res :=
  if pfOpen s = false then .next { s with readData := 0 } else .next { s with
    time := { s.time with hiLatch := BitVec.ofNat 32 (now s / 2 ^ 32) }
    readData := BitVec.ofNat 64 (now s % 2 ^ 32) }

/-- REFCLK_CHANGE: loss gives holdover; the first lock locks; a later return relocks by slewing (R30). -/
def execRefclkChange (present : Bool) (s : State) : Res :=
  let pll := match present, s.time.pll with
    | true, .free => .locked
    | true, .holdover => .slewing
    | true, p => p
    | false, .free => .free
    | false, _ => .holdover
  .next { s with time := { s.time with refclk := present, pll := pll } }

/-- TIME_ALIGN: the die's copy of TIME64 is re-aligned (R31). -/
def execTimeAlign (die : Nat) (s : State) : Res :=
  match dieState s die with
  | .active => .next (startKats die (updDie die (fun d => { d with aligned := true, timeErr := 0 }) s))
  | _ => .next s

/-! ### Midway (R17, R19) -/

/-- The die an item is on, or in transit to or from. -/
def placeDie : Place → Option Nat
  | .dispatch d => some d
  | .ready d => some d
  | .handback d _ => some d
  | .move d => some d
  | .wing k => some (dieOfSeat k)
  | .seat k => some (dieOfSeat k)
  | .returning d => some d
  | .pool => none
  | .core => none
  | .done => none

/-- Items allocated to a die whose outcome is not with the Carousel. -/
def dieItems (s : State) (d : Nat) : List Nat :=
  (s.items.filter fun i => decide (placeDie i.place = some d)).map Item.id

/-- Each of them completes with ABORTED, released in flow order (R19, Collisions of 01). -/
def abortItems (ids : List Nat) (s : State) : State :=
  ids.foldl (fun s id => finish id stABORTED [] false s) s

/-- A partition is paused by PAUSE, or for want of a troupe on an active or retained die; partition 0 is never paused
for want of troupes (R125). -/
def pausedNow (s : State) (p : Nat) : Bool :=
  (share s p).pause ||
  (decide (p ≠ 0) && !((List.range (nTroupes s.part.variant)).any fun t => mapped s t p))

/-- PAUSED follows the active state, with the pause and resume event on vector 0 (R78, R125). -/
def refreshPause (p : Nat) (s : State) : State :=
  let b := pausedNow s p
  if b = (getPart s p).paused then s else vec0 p (updPart p (fun x => { x with paused := b }) s)

def refreshPauses (s : State) : State := (List.range 256).foldl (fun s p => refreshPause p s) s

/-- A Midway link is declared down: its die is lost, until a power-on or fundamental reset (R19), and what waited for its
jobs or tests goes on (R288, R300). -/
def linkDown (die : Nat) (s : State) : State :=
  let s := updDie die (fun d => { d with
    state := .lost, aligned := false, dispatchQ := [], resultQ := [], kc := {} }) s
  let s := { s with seats := Tab.mapVals dSeat (fun k x => if dieOfSeat k = die then clearedSeat x else x) s.seats }
  let s := updPwr (fun p => { p with waking := clrBit p.waking die })
    (updScu die (fun u => { u with active := [], queue := [], lockPending := false }) s)
  let s := (troupesOfDie die).foldl (fun s t => updTroupe t (fun x => { x with fetching := [] }) s) s
  genSettled (refreshPauses (katsDone (lockDone die (abortItems (dieItems s die) (pruneOld s)))))

/-- MIDWAY_FLIT_ERROR: replays, or the link down after 8 failures in succession or a GCM tag failure, which also
raises MIDWAY_AUTH (R17, R19). -/
def execMidwayFlitError (die fails : Nat) (gcmTagFail : Bool) (s : State) : Res :=
  match dieState s die with
  | .absent => .next s
  | .lost => .next s
  | _ =>
    if gcmTagFail then .next (noteReady s (linkDown die (raiseAlarm cMIDWAY_AUTH s)))
    else if 8 ≤ fails then .next (noteReady s (linkDown die s))
    else .next (updDie die (fun d => { d with replays := d.replays + fails }) s)

/-! ### Push submission (R67 to R69) -/

/-- PUSH_WRITE: bytes recorded in the slots of an enabled push-mode queue; bytes already held are dropped (R67, R68,
R70). -/
def execPushWrite (fn page pos : Nat) (data : Bytes) (s : State) : Res :=
  .next <| onQueue s fn page fun q =>
    let x := getQp s q
    if x.enabled ∧ ¬ x.cfg.mode then
      let r := fillSlots x pos data
      let y := tornTimer s.time.time64 r.1
      if r.2 then qpErr q 2 (setQp q { y with overrun := satInc y.overrun } s) else setQp q y s
    else s

/-- The 64 bytes of a complete slot. -/
def slotData (x : QueuePair) (i : Nat) : Bytes := (slotBytes x i).map fun b => b.getD 0

/-- The slot at PUSH_NEXT consumed: it is clear, and PUSH_NEXT and SQ_HEAD advance (R67). -/
def consumeSlot (t : Word64) (x : QueuePair) : QueuePair :=
  tornTimer t { clearSlot x.pushNext.toNat x with
    pushNext := x.pushNext + 1, sqHead := x.sqHead + 1, tornStart := none, doomed := clrBit x.doomed x.pushNext.toNat }

/-- SLOT_CONSUME: the complete slot at PUSH_NEXT enters the SQ once it has room (R67), or is dropped where a flush has
discarded its chunk (R113). -/
def execSlotConsume (q : Nat) (parity : Bytes) (s : State) : Res :=
  let x := getQp s q
  let i := x.pushNext.toNat
  if x.enabled ∧ ¬ x.cfg.mode ∧ ¬ x.pushErr ∧ slotComplete x i then
    let s' := updQp q (consumeSlot s.time.time64) s
    if x.doomed.getLsbD i then .next s'
    else if sqLevel x < sqCap x then .next (chunkArrive q (slotData x i) x.sqHead parity s')
    else .next s
  else .next s

/-- PUSH_TORN: the slot at PUSH_NEXT has stayed incomplete for 100 µs (R69). -/
def execPushTorn (q : Nat) (s : State) : Res :=
  let x := getQp s q
  match x.tornStart with
  | none => .next s
  | some t =>
    if x.enabled ∧ ¬ x.pushErr ∧ t.toNat + 100000 ≤ now s then
      .next (qpErr q 3 (setQp q { x with pushErr := true } s))
    else .next s

/-- Partial slots discarded (R58). -/
def dropPartial (x : QueuePair) : QueuePair :=
  { x with slots := x.slots.filter fun e => slotComplete x (e.1 / 64) }

/-- PUSH_RESET acts only while PUSH_ERROR is 1 (R58). -/
def execPushReset (fn page : Nat) (s : State) : Res :=
  .next <| onQueue s fn page fun q =>
    let x := getQp s q
    if x.pushErr then
      setQp q { dropPartial x with pushErr := false, pushNext := 0, tornStart := none
                                   sqHead := BitVec.ofNat 16 (roundUp x.sqHead.toNat 32) } s
    else s

/-! ### Fetched submission (R70 to R72) -/

/-- QUE_SQ_DB (R67, R70, R71). -/
def execQueSqDb (fn page : Nat) (value : Word32) (s : State) : Res :=
  .next <| onQueue s fn page fun q =>
    let x := getQp s q
    let t := fld value 15 0
    if ¬ x.cfg.enable then s
    else if ¬ x.cfg.mode then refuseDb q 1 s
    else if sqCap x ≤ t then refuseDb q 0 s
    else setQp q { x with sqTail := BitVec.ofNat 16 t, ready := (x.ready + (t + sqCap x - x.sqTail.toNat) % sqCap x) } s

/-- Ring entries under read and not to be dropped. -/
def inFlight (x : QueuePair) : Nat := ((x.fetches.filter fun f => !f.dropped).map Fetch.count).sum

/-- Next ring index to read. -/
def fetchIndex (x : QueuePair) : Nat := (x.sqHead.toNat + inFlight x) % sqCap x

/-- Entries one read request takes: at most 512 bytes, within the ring's end and the SQ's room (R70). -/
def fetchCount (x : QueuePair) : Nat :=
  min (min 8 x.ready) (min (sqCap x - fetchIndex x) (sqCap x - (sqLevel x + inFlight x)))

/-- SQ_FETCH_ISSUE (R70). -/
def execSqFetchIssue (q : Nat) (s : State) : Res :=
  let x := getQp s q
  if x.enabled ∧ x.cfg.mode ∧ ¬ x.fetchErr ∧ fetchCount x ≠ 0 then
    .next (setQp q { x with fetches := x.fetches ++ [{ start := fetchIndex x, count := fetchCount x }],
                              ready := x.ready - fetchCount x } s)
  else .next s

/-- Fetched chunks enter the SQ in index order. -/
def arriveAll (q : Nat) (data : Bytes) (par : Bytes) : Nat → Nat → State → State
  | 0, _, s => s
  | k + 1, i, s =>
    let x := getQp s q
    let n := x.sqHead
    let s := updQp q (fun x => { x with sqHead := BitVec.ofNat 16 ((n.toNat + 1) % sqCap x) }) s
    arriveAll q data (par.drop 1) k (i + 1) (chunkArrive q (slice (64 * i) 64 data) n (par.take 1) s)

/-- SQ_FETCH_COMPLETE: data of a read enters the SQ; a failed read consumes no entry and stops fetching; a dropped
read's data is dropped (R72, R113). -/
def execSqFetchComplete (q : Nat) (ok : Bool) (data parity : Bytes) (s : State) : Res :=
  let x := getQp s q
  match x.fetches with
  | [] => .next s
  | f :: r =>
    if f.dropped ∨ ¬ x.enabled then .next (setQp q { x with fetches := r } s)
    else if ok then .next (arriveAll q data parity f.count 0 (setQp q { x with fetches := r } s))
    else .next (qpErr q 4 (setQp q { x with fetchErr := true, ready := x.ready + inFlight x, fetches := r.map fun f => { f with dropped := true } } s))

/-- One refill of the oldest Back Lot line: every word poisoned where its tag fails (R101). -/
def refillOne (tagFail : Bool) (x : QueuePair) : QueuePair :=
  match x.middle with
  | [] => x
  | l :: r =>
    if x.headWin.length < 4 then
      let c := if l.inverted || tagFail then { l.chunk with poison := 0xFF } else l.chunk
      enterHead c { x with middle := r }
    else x

/-- HEAD_REFILL: up to four lines refill the head window, and the tail window moves on (R97, R100). -/
def execHeadRefill (q : Nat) (read : RefillRead) (s : State) : Res :=
  .next (settleQp q read.parity (touchQp q (fun x =>
    (List.range 4).foldl (fun x i => refillOne (read.tagFail.getD i false || keysGone s) x) x) s))

/-! ### CQ returns, enable, disable (R58, R75, R545) -/

/-- QUE_CQ_DB returns entries, or is refused (R75). -/
def execQueCqDb (fn page : Nat) (value : Word32) (s : State) : Res :=
  .next <| onQueue s fn page fun q =>
    let x := getQp s q
    let h := fld value 15 0
    let k := (h + cqCap x - x.cqHead.toNat) % cqCap x
    if cqCap x ≤ h ∨ x.cqWritten < k then refuseDb q 0 s
    else touchQp q (fun x => { x with cqHead := BitVec.ofNat 16 h, cqWritten := x.cqWritten - k }) s

/-- The checks of R545 in their order: the first that fails. -/
def enableCheck (s : State) (x : QueuePair) : Option (BitVec 4) :=
  let inRange (n : BitVec 5) : Bool := decide (6 ≤ n.toNat) && decide (n.toNat ≤ 16)
  if ¬ (inRange x.cfg.sqSize ∧ inRange x.cfg.cqSize) then some 2
  else if nVectors x.own.part.toNat ≤ x.cfg.vector.toNat then some 4
  else if x.cfg.cqBase = 0 ∨ (x.cfg.mode ∧ x.cfg.sqBase = 0) then some 5
  else if freeGranules s < granulesFor x then some 3
  else none

/-- A queue pair as its enable leaves it (R57, R58, R71, R99, R111, R112). -/
def enabledQp (x : QueuePair) : QueuePair :=
  { emptySq x with
    cfg := { x.cfg with enable := true }
    enabled := true, fetchErr := false, fetches := [], pushNext := 0, sqHead := 0, sqTail := 0
    cqTail := 0, cqPhase := true, cqHead := 0, cqWritten := 0, cqResv := 0, unsig := 0
    rslots := [], overrun := 0, chunkDrop := 0, dbErr := 0, granules := granulesFor x
    wm := { x.wm with flushedCnt := 0, partialCnt := 0, lateCnt := 0, poisonCnt := 0, admitted := 0 } }

/-- QUEUE_ENABLE: ENABLE written 1 (R58, R545). -/
def execQueueEnable (fn page : Nat) (s : State) : Res :=
  .next <| onQueue s fn page fun q =>
    let x := getQp s q
    if x.draining then setCfgErr q 8 s
    else if x.cfg.enable then s
    else
      match enableCheck s x with
      | some c => setCfgErr q c s
      | none => reselect (setQp q (enabledQp x) s)

/-- A flush completes: FLUSH reads 0, with the DISCARD notice if anything was discarded (R115). -/
def flushDone (q : Nat) (s : State) : State :=
  let x := getQp s q
  if x.flushBusy then
    let s := setQp q { x with flushBusy := false, flushAny := false, flushCnt := 0 } s
    if x.flushAny then calEvent 0x147 (some x.own.part.toNat) q x.flushCnt (qpNotice q 4 s) else s
  else s

/-- QUEUE_DISABLE: ENABLE written 0, any flush in progress having discarded its chunks (R58, R115). -/
def execQueueDisable (fn page : Nat) (s : State) : Res :=
  .next <| onQueue s fn page fun q =>
    if (getQp s q).cfg.enable then
      let s := flushDone q s
      let s := touchQp q (fun x => { emptySq x with
        cfg := { x.cfg with enable := false }, enabled := false, draining := true }) s
      reselect (drainEnd q s)
    else s

/-! ### Flush (R113 to R115) -/

/-- Complete and partial commands among chunks submitted and not yet in the SQ, in their order, after a pending first
chunk or none; `none` stands for a slot not submitted (R114). -/
def countRun : Bool → List (Option Nat) → Nat × Nat
  | pend, [] => (0, b2n pend)
  | pend, none :: r => let (c, p) := countRun false r; (c, p + b2n pend)
  | pend, some k :: r =>
    if k = 3 then let (c, p) := countRun false r; (c + 1 + b2n pend, p)
    else if k = 2 then let (c, p) := countRun true r; (c + b2n pend, p)
    else if k = 1 ∧ pend then let (c, p) := countRun false r; (c + 1, p)
    else countRun pend r

/-- The number of complete push slots from PUSH_NEXT on. -/
def completeRun (x : QueuePair) : Nat → Nat → Nat
  | 0, _ => 0
  | k + 1, i => if slotComplete x (i % 32) then 1 + completeRun x k (i + 1) else 0

/-- The push slots from PUSH_NEXT on, but those an earlier flush has discarded. -/
def freshSlots (x : QueuePair) : List Nat :=
  ((List.range 32).map fun j => (x.pushNext.toNat + j) % 32).filter fun i => !x.doomed.getLsbD i

/-- Complete and partial commands that a flush discards outside the SQ's three parts, a first chunk in the SQ that waits
for its last among them: in fetched mode an entry made ready completes it (R114). -/
def flushCounts (x : QueuePair) : Nat × Nat :=
  if x.cfg.mode then (if 0 < x.ready + inFlight x then (b2n x.part1, 0) else (0, b2n x.part1))
  else countRun x.part1 ((freshSlots x).map fun i => if slotComplete x i then some (chunkKind (slotData x i)) else none)

/-- The queue pair after the flush point: everything submitted is gone, FLUSH reads 1 (R113, R114).  A complete slot
behind an incomplete one is consumed and dropped when PUSH_NEXT reaches it, since slots are consumed in order (R67;
DEDUCED, log 66). -/
def flushedQp (t : Word64) (x : QueuePair) : QueuePair :=
  let run := if x.cfg.mode then 0 else completeRun x 32 x.pushNext.toNat
  let gone := if x.cfg.mode then [] else (freshSlots x).filter fun i => slotComplete x i
  let r := flushCounts x
  let complete := x.arrived + r.1
  let y := (List.range run).foldl (fun y j => clearSlot ((x.pushNext.toNat + j) % 32) y) x
  let any := decide (0 < sqLevel x) || !gone.isEmpty || (x.cfg.mode && decide (0 < x.ready + inFlight x))
  tornTimer t { y with
    headWin := [], middle := [], tailWin := [], arrived := 0, part1 := false, resync := true, headSync := false
    pushNext := BitVec.ofNat 5 (x.pushNext.toNat + run)
    doomed := (List.range 32).foldl (fun m i => if (x.doomed.getLsbD i || gone.contains i) && slotComplete y i then setBit m i else m) 0
    ready := 0
    sqHead := if x.cfg.mode then x.sqTail else BitVec.ofNat 16 (x.sqHead.toNat + run)
    fetches := x.fetches.map fun f => { f with dropped := true }
    flushBusy := true, flushAny := any, flushCnt := complete + r.2
    wm := { x.wm with flushedCnt := satAdd x.wm.flushedCnt complete
                      partialCnt := satAdd x.wm.partialCnt r.2 } }

/-- FLUSH: no further effect while FLUSH reads 1, while ENABLE is 0 or while DRAINING is 1 (R115). -/
def execFlush (fn page : Nat) (s : State) : Res :=
  .next <| onQueue s fn page fun q =>
    let x := getQp s q
    if x.flushBusy ∨ ¬ x.cfg.enable ∨ x.draining then s
    else touchQp q (flushedQp s.time.time64) s

/-- FLUSH_DONE (R115). -/
def execFlushDone (q : Nat) (s : State) : Res := .next (flushDone q s)

/-! ### QUE_COALESCE, QUE_OWNER, QUE_PEAK (R60, R61, R110) -/

/-- A refused PF write: its code in CFG_ERR and PF_CFG_ERR (R61). -/
def refusePf (q : Nat) (code : Nat) (s : State) : State :=
  updQp q (fun x => { x with
    cfg := { x.cfg with cfgErr := BitVec.ofNat 4 code }
    own := { x.own with pfCfgErr := BitVec.ofNat 3 code } }) s

/-- QUE_COALESCE_WRITE: RO in the VF view; COUNT 0 is a reserved value (R8, R60).  DESIGN CHOICE (log 62): a COUNT lowered
to or below the entries that wait sends no message at the write; the next entry, or the end of TIME, sends it. -/
def execQueCoalesceWrite (fn page : Nat) (value : Word32) (s : State) : Res :=
  if fn ≠ 0 ∨ 2048 ≤ page ∨ pfOpen s = false then .next s
  else
    let x := getQp s page
    let c := rwField x.own.count (fld value 7 0) (fun v => v ≠ 0)
    let t := BitVec.ofNat 16 (fld value 23 8)
    if 1 < c.toNat ∧ t = 0 then .next (refusePf page 7 s)
    else .next (setQp page { x with own := { x.own with count := c, time := t, pfCfgErr := 0 } } s)

/-- Another queue pair already has this PARTITION and VF_PAGE (R61). -/
def ownerConflict (s : State) (q part vpage : Nat) : Bool :=
  decide (part ≠ 0) && s.queues.any fun e =>
    decide (e.1 ≠ q) && decide (e.2.own.part.toNat = part) && decide (e.2.own.vfPage.toNat = vpage)

/-- QUE_OWNER_WRITE, PF view only (R61). -/
def execQueOwnerWrite (q : Nat) (value : Word32) (s : State) : Res :=
  if 2048 ≤ q ∨ pfOpen s = false then .next s
  else
    let x := getQp s q
    if x.enabled ∨ x.draining then .next (refusePf q 1 s)
    else if ownerConflict s q (fld value 7 0) (fld value 10 8) then .next (refusePf q 6 s)
    else .next (setQp q { x with own := { x.own with
      part := BitVec.ofNat 8 (fld value 7 0), vfPage := BitVec.ofNat 3 (fld value 10 8)
      rslotEn := bitOf value 16, pfCfgErr := 0 } } s)

/-- QUE_PEAK_READ: the peaks are returned and fall to the current levels (R110). -/
def execQuePeakRead (fn page : Nat) (s : State) : Res :=
  .next <| if fn = 0 ∧ pfOpen s = false then { s with readData := 0 } else match queueOf s fn page with
  | none => { s with readData := 0 }
  | some q =>
    let x := getQp s q
    { setQp q { x with wm := { x.wm with
        sqPeak := BitVec.ofNat 17 (sqLevel x), cqPeak := BitVec.ofNat 17 (cqLevel x) } } s with
      readData := BitVec.ofNat 64 (x.wm.sqPeak.toNat + x.wm.cqPeak.toNat * 2 ^ 32) }

/-! ### Function Level Reset (R49, R52, R80) -/

/-- A routine already started in a seat, or on the control cores: it runs on (R49). -/
def runsOn (i : Item) : Bool := match i.place with
  | .seat _ => true
  | .core => decide (i.phase ≠ 0)
  | .returning _ => true
  | .pool => false
  | .dispatch _ => false
  | .ready _ => false
  | .handback _ _ => false
  | .move _ => false
  | .wing _ => false
  | .done => false

/-- The queue pairs of a function. -/
def queuesOf (s : State) (fn : Nat) : List Nat :=
  (List.filter (fun (e : Nat × QueuePair) => decide (e.2.own.part.toNat = fn)) s.queues).map Prod.fst

/-- A queue page at its reset values, but for QUE_OWNER and QUE_COALESCE (R52); its SQ keeps its granules and its chunks
in the Back Lot while one of the commands `taken` from it has not ended (R99). -/
def resetQp (taken : List Nat) (x : QueuePair) : QueuePair :=
  { own := x.own
    heldSqs := if x.granules = 0 then x.heldSqs
      else x.heldSqs ++ [{ items := taken, granules := x.granules, lines := x.middle }] }

/-- The commands of a queue pair that no earlier reset has muted. -/
def takenOf (s : State) (q : Nat) : List Nat := (s.items.filter fun i => decide (i.qp = q) && !i.mute).map Item.id

/-- MSI-X after a function reset: Enable and Function Mask 0, every Mask bit 1 (R80). -/
def resetMsix (_ : MsixState) : MsixState := {}

/-- A Function Level Reset of one function (R49). -/
def flr (fn : Nat) (s : State) : State :=
  let qs := queuesOf s fn
  let s := qs.foldl (fun s q => updQp q (resetQp (takenOf s q)) s) s
  let gone := s.items.filter fun i => qs.contains i.qp && !runsOn i
  let s := { s with
    items := s.items.map fun i => if qs.contains i.qp then { i with mute := true } else i
    releaseQ := s.releaseQ.filter fun id => !(gone.any fun i => i.id == id)
    flows := Tab.mapVals dFlow (fun key c => if key / 16384 = fn then { c with holdStart := none } else c) s.flows }
  let s := qs.foldl (fun s q => drainEnd q s) (gone.foldl (fun s i => endItem i s) s)
  updFunc fn (fun f => { f with
    flrBusy := true, busMaster := false, bar0 := 0, bar2 := 0
    dev := { maxPayload := f.dev.maxPayload }, msix := resetMsix f.msix }) s

/-- VF_FLR (R49). -/
def execVfFlr (vf : Nat) (s : State) : Res :=
  if vf = 0 ∨ 256 ≤ vf then .next s else .next (flr vf s)

/-- The PF's reset domain: QUE_OWNER, QUE_COALESCE, BTH_, JUG_ and CAR_ registers, with the mirror words, counts and flow
contexts they show (R52, R127, R130, R131, R162). -/
def resetPfDomain (s : State) : State :=
  let d := decide (s.part.variant = .tvp4880)
  let busy (x : Seat) : Seat := if x.run.isSome then { x with busyAt := s.time.time64 } else x
  { s with
    flows := []
    dies := Tab.mapVals dDie (fun _ x => { x with
      selected := 0, movedIn := 0, movedOut := 0
      mirror := x.mirror.filter fun e => !(decide (0x204000 ≤ e.1) && decide (e.1 < 0x209000)) }) s.dies
    performers := Tab.mapVals dPerf (fun _ x => { x with busyNs := 0, started := 0 }) s.performers
    seats := Tab.mapVals dSeat (fun _ x => busy x) s.seats
    queues := List.filter (fun (e : Nat × QueuePair) => decide (e.2 ≠ {}))
      (s.queues.map fun e => (e.1, { e.2 with own := {} }))
    booth := { s.booth with staged := { discipline := d }, active := { discipline := d }
                            writes := [], hold := false, holdCleared := 0, appliedEpoch := 0 }
    parts := []
    jug := { nextId := s.jug.nextId, idleTick := s.jug.idleTick, lastD := s.jug.lastD }
    troupes := List.filter (fun (e : Nat × Troupe) => decide (e.2 ≠ {}))
      (s.troupes.map fun e => (e.1, { e.2 with jaser := false, preemptEn := false })) }

/-- The endpoint's registers after a reset of the PF: an FLR where the host has asked for one through Device Control, else a
hot reset or a link-down.  PRESUMED (log 47): an FLR leaves the ASPM controls and the link, as PCI Express has it; the others
reset them and the payload sizes too, and the link trains again. -/
def resetEndpoint (s : State) : State :=
  if s.pcie.flrReq then { s with vfEnable := false, pcie := { aspmL1 := s.pcie.aspmL1, l11 := s.pcie.l11, l12 := s.pcie.l12 } }
  else updPwr (fun p => { p with linkWidth := 0, linkSpeed := 0 })
    { s with vfEnable := false, pcie := {}, funcs := Tab.mapVals dFunc (fun _ f => { f with dev := {} }) s.funcs }

/-- PF_RESET: an FLR of the PF and of every VF, and VF Enable clear (R49); after a hot reset or a link-down the device
presents no function until the link reaches L0 again (R44). -/
def execPfReset (s : State) : Res :=
  .next (refreshPauses (resetPfDomain (resetEndpoint ((List.range 256).foldl (fun s f => flr f s) s))))

/-- FLR_COMPLETE: within 1 ms, whether or not commands taken before have ended (R49). -/
def execFlrComplete (fn : Nat) (s : State) : Res := .next (updFunc fn (fun f => { f with flrBusy := false }) s)

/-! ### Interrupts (R79, R80) -/

/-- A pending vector that nothing masks any longer sends its one message (R80). -/
def sendPending (fn vector : Nat) (s : State) : State :=
  let m := (getFunc s fn).msix
  if m.pba.getLsbD vector ∧ ¬ m.mask.getLsbD vector ∧ ¬ m.fmask ∧ m.enable then
    emit (.msix fn vector) (updFunc fn (fun f => { f with msix := { f.msix with pba := clrBit f.msix.pba vector } }) s)
  else s

/-- A vector's Mask bit cleared (R80). -/
def unmaskVector (fn vector : Nat) (s : State) : State :=
  sendPending fn vector (updFunc fn (fun f => { f with msix := { f.msix with mask := clrBit f.msix.mask vector } }) s)

/-- VECTOR_UNMASK: the Mask bit cleared, and one message for a pending vector (R80). -/
def execVectorUnmask (fn vector : Nat) (s : State) : Res :=
  if nVectors fn ≤ vector ∨ fnExists s fn = false then .next s else .next (unmaskVector fn vector s)

/-- COALESCE_TIMER: the oldest unsignalled entry has been visible for TIME × 100 ns (R79). -/
def execCoalesceTimer (q : Nat) (s : State) : Res :=
  let x := getQp s q
  if x.cfg.irqEn ∧ x.own.time ≠ 0 ∧ 0 < x.unsig ∧ x.unsigAt.toNat + x.own.time.toNat * 100 ≤ now s then
    .next (cqMessage q s)
  else .next s

end Sys2Proof.Machine
end

