-- ==== Sys2Proof/Machine/QueueRegs.lean ====
section
/-!
DEFINITION. The registers of a queue page as they read (R53 to R62, R105 to R112).
-/
namespace Sys2Proof.Machine

/-- QUE_STATUS (R55). -/
def queStatus (s : State) (x : QueuePair) : Nat :=
  b2n x.enabled + b2n (getPart s x.own.part.toNat).paused * 2 + b2n x.pushErr * 2 ^ 2 + b2n x.fetchErr * 2 ^ 3 +
  b2n (cqFull x) * 2 ^ 4 + b2n x.draining * 2 ^ 5 + x.pushNext.toNat * 2 ^ 8 + x.sqHead.toNat * 2 ^ 16 +
  x.cqTail.toNat * 2 ^ 32 + b2n x.cqPhase * 2 ^ 48

/-- QUE_ERR_COUNT (R57). -/
def queErrCount (x : QueuePair) : Nat := x.overrun.toNat + x.chunkDrop.toNat * 2 ^ 16 + x.dbErr.toNat * 2 ^ 32

/-- QUE_CTL (R58): FLUSH reads 1 while a flush runs (R115). -/
def queCtl (x : QueuePair) : Nat := b2n x.cfg.enable + b2n x.flushBusy * 2 ^ 2 + x.cfg.cfgErr.toNat * 2 ^ 8

/-- QUE_SQ_CFG and QUE_CQ_CFG (R59). -/
def queSqCfg (x : QueuePair) : Nat := b2n x.cfg.mode + b2n x.cfg.sqNoSnoop * 2 + x.cfg.sqSize.toNat * 2 ^ 4
def queCqCfg (x : QueuePair) : Nat :=
  x.cfg.cqSize.toNat + b2n x.cfg.cqNoSnoop * 2 ^ 5 + x.cfg.vector.toNat * 2 ^ 8 + b2n x.cfg.irqEn * 2 ^ 31

/-- QUE_COALESCE (R60). -/
def queCoalesce (x : QueuePair) : Nat := x.own.count.toNat + x.own.time.toNat * 2 ^ 8

/-- QUE_OWNER (R61). -/
def queOwner (x : QueuePair) : Nat :=
  x.own.part.toNat + x.own.vfPage.toNat * 2 ^ 8 + b2n x.own.rslotEn * 2 ^ 16 + x.own.pfCfgErr.toNat * 2 ^ 17

/-- QUE_WM_SQ, QUE_WM_CQ, QUE_LEVEL, QUE_PEAK, QUE_DISCARD_COUNT, QUE_ADMIT (R107 to R112). -/
def queWmSq (x : QueuePair) : Nat := x.wm.sqHigh.toNat + x.wm.sqLow.toNat * 2 ^ 32 + b2n x.wm.lowEn * 2 ^ 63
def queWmCq (x : QueuePair) : Nat := x.wm.cqHigh.toNat + x.wm.irqMask.toNat * 2 ^ 24
def queLevel (x : QueuePair) : Nat :=
  sqLevel x + x.headWin.length * 2 ^ 20 + min 4 x.tailWin.length * 2 ^ 24 + cqLevel x * 2 ^ 32
def quePeak (x : QueuePair) : Nat := x.wm.sqPeak.toNat + x.wm.cqPeak.toNat * 2 ^ 32
def queDiscard (x : QueuePair) : Nat :=
  x.wm.flushedCnt.toNat + x.wm.partialCnt.toNat * 2 ^ 16 + x.wm.lateCnt.toNat * 2 ^ 32 + x.wm.poisonCnt.toNat * 2 ^ 48
def queAdmit (x : QueuePair) : Nat := x.arrived + b2n x.part1 * 2 ^ 31 + x.wm.admitted.toNat * 2 ^ 32

/-- A result slot's 32 bytes (R76). -/
def rslotBytes (x : QueuePair) (k : Nat) : Bytes := toLE 32 (Tab.get (fun _ => (0 : BitVec 256)) x.rslots k).toNat

/-- A register of a queue page, by page offset, in the view of the owning function; the push window reads as zero
(R47) and QUE_OWNER only in the PF's view (R61). -/
def readQueue (s : State) (x : QueuePair) (pf : Bool) (off : Nat) : Nat :=
  if off = 0x040 then queStatus s x
  else if off = 0x050 then x.err.toNat
  else if off = 0x058 then queErrCount x
  else if off = 0x080 then x.wm.notice.toNat
  else if off = 0x088 then queWmSq x
  else if off = 0x090 then queWmCq x
  else if off = 0x098 then queLevel x
  else if off = 0x0A0 ∨ off = 0x0A8 then quePeak x
  else if off = 0x0B0 then queDiscard x
  else if off = 0x0B8 then queAdmit x
  else if off = 0x100 then queCtl x
  else if off = 0x108 then queSqCfg x
  else if off = 0x110 then x.cfg.sqBase.toNat * 4096
  else if off = 0x118 then x.cfg.cqBase.toNat * 4096
  else if off = 0x120 then queCqCfg x
  else if off = 0x128 then queCoalesce x
  else if off = 0x180 then (if pf then queOwner x else 0)
  else if 0x400 ≤ off ∧ off < 0x800 then leAt (off % 32) 8 (rslotBytes x ((off - 0x400) / 32))
  else 0

/-- The offsets of a VF-owned page that its PF page shows (R51). -/
def pfShown (off : Nat) : Bool := [0x040, 0x050, 0x058, 0x128, 0x180].contains off

end Sys2Proof.Machine
end

