-- ==== Sys2Proof/Machine/Migration.lean ====
section
/-!
DEFINITION. Live migration of a VF (R89 to R94): dirty-page logs, quiescing, the state blob.
-/
namespace Sys2Proof.Machine

/-! ### Dirty-page logs (R89 to R91) -/

def dRange : Nat → LogRange := fun _ => {}

/-- OPERAND_FORMAT of a migration routine: R90 gives it no result. -/
def badOperands (id : Nat) (s : State) : State := finish id stOPERAND_FORMAT [] false s

/-- Operands are inline: POINTER 1 is OPERAND_FORMAT.  DESIGN CHOICE (assumption log 63): R90 gives inline operands and
states no refusal of the other form. -/
def migForm (i : Item) (s : State) (body : State → State) : State :=
  if (byteAt 7 i.raw).getLsbD 7 then badOperands i.id s else body s

/-- A VF number. -/
def isVf (v : Nat) : Bool := decide (1 ≤ v) && decide (v ≤ 255)

/-- Bytes a VF's ranges other than `r` cover. -/
def loggedBytes (f : Func) (r : Nat) : Nat :=
  ((List.filter (fun (e : Nat × LogRange) => decide (e.1 ≠ r)) f.logRanges).map fun e => e.2.len).sum

/-- VFs that log, other than `v`. -/
def vfsLogging (s : State) (v : Nat) : Nat :=
  (List.filter (fun (e : Nat × Func) => decide (e.1 ≠ v) && logging e.2) s.funcs).length

/-- A range within the limits of R89. -/
def rangeOk (s : State) (v r base len : Nat) : Bool :=
  isVf v && decide (r ≤ 3) && decide (base % 4096 = 0) && decide (len % 4096 = 0) && decide (0 < len) &&
  decide (loggedBytes (getFunc s v) r + len ≤ 2 ^ 40) && decide (vfsLogging s v < 16)

/-- MIG_LOG_START: the range is logged with no page dirty; the untracked count starts with the VF's first range. -/
def execMigLogStart (id : Nat) (s : State) : Res :=
  .next (onService id 0x0F20 (fun i s => migForm i s fun s =>
    let v := i.le 24 1
    let r := i.le 25 1
    if ¬ rangeOk s v r (i.le 32 8) (i.le 40 8) then badOperands id s
    else done id [] (updFunc v (fun f => { f with
      untracked := if logging f then f.untracked else 0
      logRanges := Tab.set dRange f.logRanges r { base := i.le 32 8, len := i.le 40 8 } }) s)) s)

/-- Eight bits of a bitmap from page `p`. -/
def bitmapByte (dirty : List Nat) (p : Nat) : Byte :=
  BitVec.ofNat 8 ((List.range 8).foldl (fun n k => n + b2n (dirty.contains (p + k)) * 2 ^ k) 0)

/-- MIG_LOG_READ_CLEAR: the bitmap from the page offset onwards; what it reports is cleared. -/
def execMigLogReadClear (id : Nat) (s : State) : Res :=
  .next (onService id 0x0F21 (fun i s => migForm i s fun s =>
    let v := i.le 24 1
    let r := i.le 25 1
    let off := i.le 32 8
    let n := i.le 48 4
    let g := Tab.get dRange (getFunc s v).logRanges r
    if ¬ isVf v ∨ 3 < r ∨ off % 0x08000000 ≠ 0 ∨ g.len ≤ off ∨ n % 8 ≠ 0 ∨ 0x100000 < n then
      badOperands id s
    else
      let p := off / 4096
      let told := g.dirty.filter fun x => decide (p ≤ x) && decide (x < p + 8 * n)
      let map := (List.range n).map fun k => bitmapByte told (p + 8 * k)
      svcWrite id (i.le 40 8) map s fun s =>
        finish id stOK (toLE 8 told.length ++ toLE 8 (getFunc s v).untracked.toNat) true
          (updFunc v (fun f => { f with logRanges := Tab.upd dRange f.logRanges r fun g =>
            { g with dirty := g.dirty.filter fun x => !(told.contains x) } }) s)) s)

/-- MIG_LOG_STOP. -/
def execMigLogStop (id : Nat) (s : State) : Res :=
  .next (onService id 0x0F22 (fun i s => migForm i s fun s =>
    let v := i.le 24 1
    if ¬ isVf v then badOperands id s
    else done id [] (updFunc v (fun f => { f with logRanges := [] }) s)) s)

/-! ### Quiescing (R92) -/

/-- The phase of a VF_QUIESCE that waits. -/
def phQuiesce : Nat := 10

/-- VF_QUIESCE stops admission from the VF's queue pairs and waits. -/
def execVfQuiesce (id : Nat) (s : State) : Res :=
  .next (onService id 0x0F28 (fun i s => migForm i s fun s =>
    let v := i.le 24 1
    if ¬ isVf v then badOperands id s
    else updItem id (fun i => { i with phase := phQuiesce, waitAt := s.time.time64 })
      (updFunc v (fun f => { f with quiesced := true }) s)) s)

/-- The VF_QUIESCE of an admission number, while it waits on a pair 1 that runs. -/
def quiesceWaits (id : Nat) (s : State) : Option Item :=
  if pair1Up s then
    (getItem s id).filter fun i => decide (i.place = .core) && decide (i.routine = 0x0F28) && decide (i.phase = phQuiesce)
  else none

/-- A command of the VF has left its SQ and its last completion is not written (R92). -/
def vfOutstanding (s : State) (v : Nat) : Bool := s.items.any fun i => decide (i.part = v) && !i.mute

/-- VF_QUIESCE_DRAINED. -/
def execVfQuiesceDrained (id : Nat) (s : State) : Res :=
  match quiesceWaits id s with
  | none => .next s
  | some i => if vfOutstanding s (i.le 24 1) then .next s else .next (done id [] s)

/-- VF_QUIESCE_TIMEOUT: a timeout of 0 never expires. -/
def execVfQuiesceTimeout (id : Nat) (s : State) : Res :=
  match quiesceWaits id s with
  | none => .next s
  | some i =>
    if i.le 28 4 = 0 ∨ now s < i.waitAt.toNat + i.le 28 4 * 1000 ∨ ¬ vfOutstanding s (i.le 24 1) then .next s
    else .next (finish id stTIMED_OUT [] false s)

/-- VF_RESUME. -/
def execVfResume (id : Nat) (s : State) : Res :=
  .next (onService id 0x0F2B (fun i s => migForm i s fun s =>
    let v := i.le 24 1
    if ¬ isVf v then badOperands id s
    else done id [] (updFunc v (fun f => { f with quiesced := false }) s)) s)

/-! ### The state blob (R93) -/

/-- Every chunk of the SQ, oldest first. -/
def sqChunks (x : QueuePair) : List Chunk := x.headWin ++ x.middle.map SpillLine.chunk ++ x.tailWin

/-- A byte map's 64-bit word, and the contents, of push slot `i`. -/
def slotMap (x : QueuePair) (i : Nat) : Nat :=
  (List.zip (List.range 64) (slotBytes x i)).foldl (fun n (e : Nat × Option Byte) => n + b2n e.2.isSome * 2 ^ e.1) 0

/-- The state word at 3,448 of a record. -/
def recState (t : Nat) (x : QueuePair) : Nat :=
  b2n x.part1 + b2n x.pushErr * 2 + b2n x.fetchErr * 4 + b2n (x.resync || x.headSync) * 8 + b2n x.tornStart.isSome * 16 +
  (match x.tornStart with
   | none => 0
   | some a => min (2 ^ 24 - 1) ((t - a.toNat) / 1000)) * 2 ^ 8

/-- Age of the oldest unsignalled completion, in units of 100 ns, saturating. -/
def unsigAge (t : Nat) (x : QueuePair) : Nat :=
  if x.unsig = 0 then 0 else min (2 ^ 32 - 1) ((t - x.unsigAt.toNat) / 100)

/-- A queue-pair record of 3,584 bytes. -/
def queueRecord (t : Nat) (x : QueuePair) : Bytes :=
  [BitVec.ofNat 8 x.own.vfPage.toNat] ++ zeros 7 ++
  toLE 8 (queCtl x) ++ toLE 8 (queSqCfg x) ++ toLE 8 (x.cfg.sqBase.toNat * 4096) ++ toLE 8 (x.cfg.cqBase.toNat * 4096) ++
  toLE 8 (queCqCfg x) ++ toLE 8 (queCoalesce x) ++ toLE 8 (queOwner x) ++ zeros 40 ++
  toLE 2 x.sqHead.toNat ++ toLE 2 x.cqTail.toNat ++ [BitVec.ofNat 8 (b2n x.cqPhase), BitVec.ofNat 8 x.pushNext.toNat] ++
  toLE 2 x.unsig ++ toLE 4 (unsigAge t x) ++ zeros 4 ++
  (List.range 32).flatMap (fun i => toLE 8 (slotMap x i)) ++
  (List.range 32).flatMap (fun i => (slotBytes x i).map fun b => b.getD 0) ++
  (List.range 32).flatMap (rslotBytes x) ++ toLE 8 (recState t x) ++
  toLE 8 x.err.toNat ++ toLE 8 (queErrCount x) ++ toLE 8 x.wm.notice.toNat ++ toLE 8 (queWmSq x) ++ toLE 8 (queWmCq x) ++
  toLE 8 (quePeak x) ++ toLE 8 (queDiscard x) ++ toLE 8 (queAdmit x) ++ zeros 64

/-- The unconsumed chunks of a queue pair, behind their count. -/
def chunkList (x : QueuePair) : Bytes :=
  toLE 4 (sqChunks x).length ++ (sqChunks x).flatMap fun c => fit 64 c.bytes

/-- Flow contexts of a partition, by key. -/
def flowsOf (s : State) (p : Nat) : List (Nat × FlowCtx) :=
  List.filter (fun (e : Nat × FlowCtx) => decide (e.1 / 16384 = p) && e.2.valid) s.flows

/-- One flow context: the marking is bit 0 ordered and bit 1 serial (DESIGN CHOICE, assumption log 46). -/
def flowRecord (e : Nat × FlowCtx) : Bytes :=
  toLE 2 (e.1 % 16384) ++ toLE 2 (b2n e.2.ordered + b2n e.2.serial * 2) ++ toLE 8 e.2.nextSeq ++ zeros 4

/-- The queue pairs a save carries: those of the VF that are enabled (R94). -/
def savedQueues (s : State) (v : Nat) : List QueuePair :=
  (List.filter (fun (e : Nat × QueuePair) => decide (e.2.own.part.toNat = v) && e.2.enabled) s.queues).map Prod.snd

/-- What follows the 32 header bytes, before the tag. -/
def saveBody (s : State) (v : Nat) : Bytes :=
  (savedQueues s v).flatMap (queueRecord (now s)) ++ (savedQueues s v).flatMap chunkList ++
  (flowsOf s v).flatMap flowRecord ++ fit 64 (toLE 8 ((getFunc s v).msix.pba.toNat % 2 ^ 64))

/-- A partition's transfer key: its lowest-numbered valid TRANSFER slot (R308). -/
def transferKey (s : State) (p : Nat) : Option Bytes :=
  ((List.range 8).find? fun sl => (slotRec s p sl).valid && decide ((slotRec s p sl).role = 1)).map fun sl => (slotRec s p sl).key

/-- The sealing key of a blob (R306, R308). -/
def stateKey (key : Bytes) (p : Nat) : Bytes := fit 32 (Config.kdf key (ascii "PACHACA VF STATE") [BitVec.ofNat 8 p] 32)

/-- VF_SAVE.  DESIGN CHOICE (assumption log 63): a partition without a transfer key ends it with KEY_NOT_FOUND, the status
R94 gives the restore. -/
def execVfSave (id : Nat) (s : State) : Res :=
  .next (onService id 0x0F29 (fun i s => migForm i s fun s =>
    let v := i.le 24 1
    if ¬ isVf v then badOperands id s
    else if ¬ (getFunc s v).quiesced then finish id stNOT_READY [] false s
    else
      let body := saveBody s v
      let n := 32 + body.length + 16
      if i.le 40 4 < n then finish id stOPERAND_FORMAT (toLE 4 n) false s
      else match transferKey s v with
        | none => finish id stKEY_NOT_FOUND [] false s
        | some k => withRoot id 12 s fun nonce s =>
          let head := toLE 4 0x00010001 ++ toLE 4 n ++ [BitVec.ofNat 8 v, BitVec.ofNat 8 (savedQueues s v).length, 0, 0] ++
            fit 12 nonce ++ toLE 4 (flowsOf s v).length ++ zeros 4
          let ct := fit body.length (Config.gcmEnc 5 (stateKey k v) (fit 12 nonce) head body)
          svcWrite id (i.le 32 8) (head ++ ct ++ fit 16 (Config.gcmTag 5 (stateKey k v) (fit 12 nonce) head ct)) s fun s =>
            finish id stOK (toLE 4 n) true s) s)

/-! ### Restoring (R93, R94) -/

/-- Chunks of a saved SQ, restored: each with an SQ_HEAD value, the stamp of its arrival at the target, and a first chunk
whose last did not follow marked to be completed on its own (R64).  DESIGN CHOICE (assumption log 63): the blob does not
hold those SQ_HEAD values, and they are taken as contiguous up to the restored SQ_HEAD. -/
def restoredChunks (t : Word64) (x : QueuePair) (l : List Bytes) : List Chunk :=
  let m := if x.cfg.mode then sqCap x else 65536
  (List.zip (List.range l.length) l).map fun (e : Nat × Bytes) =>
    let last := decide (e.1 + 1 = l.length)
    let next := chunkKind (l.getD (e.1 + 1) [])
    let alone := decide (chunkKind e.2 = 2) && !last && decide (next ≠ 1)
    { bytes := e.2, n := BitVec.ofNat 16 ((x.sqHead.toNat + m - (l.length - e.1) % m) % m), alone := alone
      stamp := if chunkKind e.2 = 2 ∧ last then none else some t }

/-- The restored chunks put into the three parts. -/
def placeChunks (l : List Chunk) (x : QueuePair) : QueuePair :=
  let r := l.drop 4
  { x with headWin := l.take 4
           middle := (r.take (r.length - 4)).map fun c => { chunk := c, inverted := decide (c.poison ≠ 0) }
           tailWin := r.drop (r.length - 4) }

/-- Push slots from their byte maps and contents. -/
def restoredSlots (r : Bytes) : Tab (Option Byte) :=
  ((List.range 2048).filter fun k => (leAt (120 + 8 * (k / 64)) 8 r).testBit (k % 64)).map fun k => (k, some (byteAt (376 + k) r))

/-- A queue pair from its record and chunks; it stays with the target's VF and page.  The previous HEAD and TAIL, which
the record does not hold, are free values, and the ring entries up to that TAIL are ready. -/
def restoredQueue (t : Word64) (freeCtr : Nat) (r : Bytes) (chunks : List Bytes) (x : QueuePair) : QueuePair :=
  let w (k : Nat) : Word64 := BitVec.ofNat 64 (leAt k 8 r)
  let cfg : QueueCfg := {
    enable := true, cfgErr := BitVec.ofNat 4 (fld (w 8) 11 8)
    mode := bitOf (w 16) 0, sqNoSnoop := bitOf (w 16) 1, sqSize := BitVec.ofNat 5 (fld (w 16) 8 4)
    sqBase := BitVec.ofNat 52 (fld (w 24) 63 12), cqBase := BitVec.ofNat 52 (fld (w 32) 63 12)
    cqSize := BitVec.ofNat 5 (fld (w 40) 4 0), cqNoSnoop := bitOf (w 40) 5
    vector := BitVec.ofNat 11 (fld (w 40) 18 8), irqEn := bitOf (w 40) 31 }
  let own : QueueOwner := { x.own with
    count := BitVec.ofNat 8 (fld (w 48) 7 0), time := BitVec.ofNat 16 (fld (w 48) 23 8)
    rslotEn := bitOf (w 56) 16, pfCfgErr := BitVec.ofNat 3 (fld (w 56) 19 17) }
  let st := w 3448
  let wm : QueueWm := {
    notice := BitVec.ofNat 6 (fld (w 3472) 5 0), sqHigh := BitVec.ofNat 17 (fld (w 3480) 16 0)
    sqLow := BitVec.ofNat 17 (fld (w 3480) 48 32), lowEn := bitOf (w 3480) 63
    cqHigh := BitVec.ofNat 17 (fld (w 3488) 16 0), irqMask := BitVec.ofNat 6 (fld (w 3488) 29 24)
    sqPeak := BitVec.ofNat 17 (fld (w 3496) 16 0), cqPeak := BitVec.ofNat 17 (fld (w 3496) 48 32)
    flushedCnt := BitVec.ofNat 16 (fld (w 3504) 15 0), partialCnt := BitVec.ofNat 16 (fld (w 3504) 31 16)
    lateCnt := BitVec.ofNat 16 (fld (w 3504) 47 32), poisonCnt := BitVec.ofNat 16 (fld (w 3504) 63 48)
    admitted := BitVec.ofNat 32 (fld (w 3512) 63 32) }
  let y : QueuePair := {
    own := own, cfg := cfg, wm := wm, enabled := true
    pushErr := bitOf st 1, fetchErr := bitOf st 2, pushNext := BitVec.ofNat 5 (byteAt 109 r).toNat
    sqHead := BitVec.ofNat 16 (leAt 104 2 r), cqTail := BitVec.ofNat 16 (leAt 106 2 r), cqPhase := (byteAt 108 r).getLsbD 0
    err := BitVec.ofNat 6 (fld (w 3456) 5 0), overrun := BitVec.ofNat 16 (fld (w 3464) 15 0)
    chunkDrop := BitVec.ofNat 16 (fld (w 3464) 31 16), dbErr := BitVec.ofNat 16 (fld (w 3464) 47 32)
    slots := restoredSlots r
    tornStart := if bitOf st 4 then some (BitVec.ofNat 64 (t.toNat + 2 ^ 64 - fld st 31 8 * 1000)) else none
    arrived := fld (w 3512) 16 0, part1 := bitOf st 0
    resync := bitOf st 3 && chunks.isEmpty, headSync := bitOf st 3 && !chunks.isEmpty
    unsig := leAt 110 2 r, unsigAt := BitVec.ofNat 64 (t.toNat + 2 ^ 64 - leAt 112 4 r * 100)
    rslots := ((List.range 32).filter fun k => leAt (2424 + 32 * k) 32 r ≠ 0).map fun k =>
      (k, BitVec.ofNat 256 (leAt (2424 + 32 * k) 32 r)) }
  let head := (Config.freeWord freeCtr).toNat % cqCap y
  let tail := (Config.freeWord (freeCtr + 1)).toNat % sqCap y
  let z := { y with
    cqHead := BitVec.ofNat 16 head, cqWritten := (y.cqTail.toNat + cqCap y - head) % cqCap y
    sqTail := BitVec.ofNat 16 tail, granules := granulesFor y
    ready := if y.cfg.mode then (tail + sqCap y - y.sqHead.toNat % sqCap y) % sqCap y else 0 }
  placeChunks (restoredChunks t z chunks) z

/-- The chunk lists of `k` queue pairs from a body, and what follows them. -/
def takeChunkLists : Nat → Bytes → List (List Bytes) × Bytes
  | 0, b => ([], b)
  | k + 1, b =>
    let n := leAt 0 4 b
    let (l, r) := takeChunkLists k (b.drop (4 + 64 * n))
    ((List.range n).map (fun j => slice (4 + 64 * j) 64 b) :: l, r)

/-- The queue pair partition 0 has given the VF at a page index. -/
def targetQueue (s : State) (v page : Nat) : Option Nat := queueOf s v page

/-- The saved pairs of an opened body: page, record, chunks; the flow and PBA bytes behind them. -/
def openSaved (count : Nat) (body : Bytes) : List (Nat × Bytes × List Bytes) × Bytes :=
  let recs := (List.range count).map fun k => slice (3584 * k) 3584 body
  let (lists, rest) := takeChunkLists count (body.drop (3584 * count))
  ((List.zip recs lists).map fun (e : Bytes × List Bytes) => ((byteAt 0 e.1).toNat, e.1, e.2), rest)

/-- One saved pair written into the target's pair at its page. -/
def restoreOne (v : Nat) (e : Nat × Bytes × List Bytes) (s : State) : State :=
  match targetQueue s v e.1 with
  | none => s
  | some q =>
    setQp q (restoredQueue s.time.time64 s.freeCtr e.2.1 e.2.2 (getQp s q)) { s with freeCtr := s.freeCtr + 2 }

/-- A flow context restored: its sequence goes on from the saved value (R94). -/
def restoreFlow (v : Nat) (r : Bytes) (s : State) : State :=
  updFlow v (leAt 0 2 r % 16384) (fun _ => {
    valid := true, ordered := (byteAt 2 r).getLsbD 0, serial := (byteAt 2 r).getLsbD 1, nextSeq := leAt 4 8 r }) s

/-- An opened blob written into the target VF: queue pairs, flow contexts, pending vectors; the VF is quiesced. -/
def restoreVf (v f : Nat) (saved : List (Nat × Bytes × List Bytes)) (rest : Bytes) (s : State) : State :=
  let s := saved.foldl (fun s e => restoreOne v e s) s
  let s := (List.range f).foldl (fun s k => restoreFlow v (slice (16 * k) 16 rest) s) s
  updFunc v (fun x => { x with
    quiesced := true, msix := { x.msix with pba := BitVec.ofNat 2048 (leAt (16 * f) 8 rest) } }) s

/-- Back Lot granules the saved pairs need at the target (R99). -/
def savedGranules (saved : List (Nat × Bytes × List Bytes)) : Nat :=
  (saved.map fun e => (2 ^ fld (BitVec.ofNat 64 (leAt 16 8 e.2.1)) 8 4 * 64 + 4095) / 4096).sum

/-- VF_RESTORE: refused whole or restored whole.  The tag is checked first (R94); a length that is no blob's fails it
(DESIGN CHOICE, assumption log 63). -/
def execVfRestore (id : Nat) (buf : HostData) (s : State) : Res :=
  .next (onService id 0x0F2A (fun i s => migForm i s fun s =>
    let v := i.le 24 1
    let n := i.le 40 4
    if ¬ isVf v then badOperands id s
    else if (savedQueues s v).length ≠ 0 then finish id stNOT_READY [] false s
    else svcRead id (i.le 32 8) n buf s fun b s =>
      match transferKey s v with
      | none => finish id stKEY_NOT_FOUND [] false s
      | some k =>
        let len := leAt 4 4 b
        let head := b.take 32
        let ct := slice 32 (len - 48) b
        let key := stateKey k (byteAt 8 b).toNat
        if len < 112 ∨ n < len ∨ fit 16 (Config.gcmTag 5 key (slice 12 12 b) head ct) ≠ slice (len - 16) 16 b then
          finish id stKEY_BLOCK_AUTH [] false s
        else if leAt 0 4 b ≠ 0x00010001 then badOperands id s
        else
          let (saved, rest) := openSaved (byteAt 9 b).toNat (fit (len - 48) (Config.gcmDec 5 key (slice 12 12 b) head ct))
          if saved.any (fun e => (targetQueue s v e.1).isNone) ∨ freeGranules s < savedGranules saved then badOperands id s
          else done id [] (reselect (restoreVf v (leAt 24 4 b) saved rest s))) s)

end Sys2Proof.Machine
end

