-- ==== Sys2Proof/Machine/EtnakMem.lean ====
section
/-!
DEFINITION. The Etnak buffer and control instructions (R188, R189, R198 to R204), and an illegal word (R184).
-/
namespace Sys2Proof.Machine

/-! ### Buffers (R188) -/

/-- A d index with [25] set in format M, or a size a d register has not, is ILLEGAL (R184; sizes DEDUCED from R183). -/
def mForm (r : BitVec 5) (sz : BitVec 2) (k : BitVec 4 → Nat → IRes) : IRes :=
  if r.getLsbD 4 then .fault 0x01 255
  else match dSize sz with
    | some n => k (r.setWidth 4) n
    | none => .fault 0x01 255

def execLdo (k : Nat) (r base : BitVec 5) (sz : BitVec 2) (off : BitVec 14) (s : State) : Res :=
  .next (onSeat k 0x20 ⟨gR [base], gR [r]⟩ (fun x =>
    let a := effAddr x base off
    if 256 < a + gSize sz then .fault 0x07 255
    else .ok (setG r (BitVec.ofNat 64 (leNat (operandBytes x a (gSize sz)))) x)) s)

def execLdod (k : Nat) (r base : BitVec 5) (sz : BitVec 2) (off : BitVec 14) (s : State) : Res :=
  .next (onSeat k 0x21 ⟨gR [base], dR [r.setWidth 4]⟩ (fun x => mForm r sz fun dd n =>
    let a := effAddr x base off
    if 256 < a + n then .fault 0x07 dd.toNat
    else guarded { d := [dd] } x (.ok (setD dd (dOfBytes (operandBytes x a n)) false x))) s)

/-- LDS of a tainted granule into a g register faults TAINT (R177). -/
def execLds (k : Nat) (r base : BitVec 5) (sz : BitVec 2) (off : BitVec 14) (s : State) : Res :=
  .next (onSeat k 0x22 ⟨gR [base], gR [r]⟩ (fun x =>
    let a := effAddr x base off
    let n := gSize sz
    if 4096 < a + n then .fault 0x07 255
    else guarded { o := a, n := n } x
      (if scratchTaint x a n then .fault 0x0A 255
       else .ok (setG r (BitVec.ofNat 64 (leNat (scratchBytes x a n))) x))) s)

def execLdsd (k : Nat) (r base : BitVec 5) (sz : BitVec 2) (off : BitVec 14) (s : State) : Res :=
  .next (onSeat k 0x23 ⟨gR [base], dR [r.setWidth 4]⟩ (fun x => mForm r sz fun dd n =>
    let a := effAddr x base off
    if 4096 < a + n then .fault 0x07 dd.toNat
    else guarded { d := [dd], o := a, n := n } x
      (.ok (setD dd (dOfBytes (scratchBytes x a n)) (scratchTaint x a n) x))) s)

def execSts (k : Nat) (r base : BitVec 5) (sz : BitVec 2) (off : BitVec 14) (s : State) : Res :=
  .next (onSeat k 0x24 ⟨gR [base, r], []⟩ (fun x =>
    let a := effAddr x base off
    let n := gSize sz
    if 4096 < a + n then .fault 0x07 255
    else guarded { o := a, n := n } x (.ok (putScratchG a (toLE n (getG x r).toNat) x))) s)

def execStsd (k : Nat) (r base : BitVec 5) (sz : BitVec 2) (off : BitVec 14) (s : State) : Res :=
  .next (onSeat k 0x25 ⟨gR [base] ++ dR [r.setWidth 4], []⟩ (fun x => mForm r sz fun ds n =>
    let a := effAddr x base off
    if 4096 < a + n then .fault 0x07 ds.toNat
    else guarded { d := [ds], o := a, n := n } x
      (.ok (putScratch a ((dBytes (getD x ds)).take n) (taintD x ds) x))) s)

def execStr (k : Nat) (r base : BitVec 5) (sz : BitVec 2) (off : BitVec 14) (s : State) : Res :=
  .next (onSeat k 0x26 ⟨gR [base, r], []⟩ (fun x =>
    let a := effAddr x base off
    if 256 < a + gSize sz then .fault 0x07 255
    else .ok (putResult a (toLE (gSize sz) (getG x r).toNat) x)) s)

/-- STRD of a tainted register faults TAINT (R177). -/
def execStrd (k : Nat) (r base : BitVec 5) (sz : BitVec 2) (off : BitVec 14) (s : State) : Res :=
  .next (onSeat k 0x27 ⟨gR [base] ++ dR [r.setWidth 4], []⟩ (fun x => mForm r sz fun ds n =>
    let a := effAddr x base off
    if 256 < a + n then .fault 0x07 ds.toNat
    else guarded { d := [ds] } x
      (if taintD x ds then .fault 0x0A ds.toNat
       else .ok (putResult a ((dBytes (getD x ds)).take n) x))) s)

/-! ### Control (R189, R202 to R204) -/

/-- A branch target is allowed within the innermost body and the index after it, and within the routine (R202). -/
def targetOk (x : SeatRun) (len t : Nat) : Bool :=
  decide (t < len) && match x.loops with
    | [] => true
    | f :: _ => decide (t ≤ f.last + 1)

def execBr (k : Nat) (cond : BitVec 4) (dist : BitVec 12) (s : State) : Res :=
  let len := (getSeat s k).len
  .next (onSeat k 0x30 ⟨[], []⟩ (fun x =>
    if dist = 0 then .fault 0x01 255
    else match condHolds x cond with
      | none => .fault 0x01 255
      | some false => .ok x
      | some true =>
        let t := x.pc + dist.toNat
        if targetOk x len t then .goto x t else .fault 0x03 255) s)

/-- LOOP: the body within the routine and its enclosing body, a zero count skipped, at most four loops, ITER_LEFT
charged before the first iteration (R203, R204). -/
def execLoop (k : Nat) (gc : BitVec 5) (len : BitVec 12) (s : State) : Res :=
  let n := (getSeat s k).len
  .next (onSeat k 0x31 ⟨gR [gc], []⟩ (fun x =>
    let c := (getG x gc).toNat
    let last := x.pc + len.toNat
    let fits := decide (last < n) && match x.loops with
      | [] => true
      | f :: _ => decide (last ≤ f.last)
    if ¬ fits then .fault 0x02 255
    else if c = 0 then .goto x (last + 1)
    else if 4 ≤ x.loops.length then .fault 0x04 255
    else if x.iterLeft.toNat < c ∨ 65536 < c then .fault 0x05 255
    else
      let x := { x with iterLeft := x.iterLeft - BitVec.ofNat 17 c }
      if len = 0 then .ok x
      else .ok { x with loops := { start := x.pc + 1, last := last, left := c } :: x.loops }) s)

/-- BRK: pops the innermost loop and goes on after its body; outside a loop it faults BRANCH_TARGET (R189, R202). -/
def execBrk (k : Nat) (cond : BitVec 4) (s : State) : Res :=
  .next (onSeat k 0x32 ⟨[], []⟩ (fun x =>
    match condHolds x cond with
    | none => .fault 0x01 255
    | some b => match x.loops with
      | [] => .fault 0x03 255
      | f :: r => if b then .goto { x with loops := r } (f.last + 1) else .ok x) s)

/-- STATUS values END accepts (R201). -/
def endStatusOk (st : Byte) : Bool := st == stOK || st == stVERIFY_MISMATCH || st == stOPERAND_FORMAT

/-- END (R200, R201): waits while operations are outstanding, takes an asynchronous fault, then hands the completion
to the Carousel. -/
def execEnd (k : Nat) (status : Byte) (hostbuf : Bool) (s : State) : Res :=
  .next (seatInstr k 0x33 ⟨[], []⟩ (fun x s =>
    if ¬ endStatusOk status then seatFault k 0x09 0x33 x.pc 255 false s
    else if x.ops ≠ [] then setRun k { x with wait := 8, waitOn := none } s
    else match x.asyncs with
      | f :: _ => seatFault k f.cause f.opcode f.pc f.reg true s
      | [] => leaveSeat k { status := status, data := resultBytes x 0 16, hostBuf := hostbuf } (countIssue k s)) s)

/-- The tickets of a WAIT mask: 0 means all. -/
def waitMask (m : BitVec 4) : BitVec 4 := if m = 0 then 15 else m

def execWait (k : Nat) (mask : BitVec 4) (s : State) : Res :=
  .next (onSeat k 0x34 ⟨[], []⟩ (fun x =>
    let m := waitMask mask
    if x.tickets &&& m ≠ 0 then .stall { mask := m } 4
    else
      let covered (f : AsyncFault) : Bool := match f.ticket with
        | some t => m.getLsbD t
        | none => false
      match x.asyncs.find? covered with
      | some f => .async f
      | none => .ok x) s)

def execNop (k : Nat) (s : State) : Res := .next (onSeat k 0x35 ⟨[], []⟩ (fun x => .ok x) s)

/-- ILLEGAL_INSTRUCTION: a word the encoding does not assign faults ILLEGAL when it is reached (R184). -/
def execIllegalInstruction (k : Nat) (word : Word32) (s : State) : Res :=
  .next (onSeat k (fld word 31 26) ⟨[], []⟩ (fun _ => .fault 0x01 255) s)

end Sys2Proof.Machine
end

