-- ==== Sys2Proof/Machine/Verifier.lean ====
section
/-!
DEFINITION. Bundles and the static verifier (R216 to R222).  The verifier keeps one state for each instruction, joined
over the paths that reach it (assumption log 41).
-/
namespace Sys2Proof.Machine

/-! ### Words (R183 to R193) -/

/-- Major opcode of a word. -/
def wOp (w : Word32) : Nat := fld w 31 26

/-- Words whose fields follow the formats and whose fn value is not reserved: check 0x01. -/
def wordLegal (w : Word32) : Bool :=
  let f11 := fld w 10 0
  let f14 := fld w 13 0
  let f7 := fld w 6 0
  let f6 := fld w 5 0
  let z (hi lo : Nat) : Bool := decide (fld w hi lo = 0)
  let pairK : Bool := decide (fld w 11 7 ≠ 31)
  let cond : Bool := decide (fld w 25 22 ≠ 15)
  match wOp w with
  | 0x01 => decide (f11 ≤ 11) && (decide (f11 ≠ 11) || z 25 21)
  | 0x02 => true
  | 0x03 => true
  | 0x04 => true
  | 0x05 => true
  | 0x06 => decide (fld w 15 14 ≠ 3) && z 13 6
  | 0x07 => z 19 18
  | 0x08 => z 25 21
  | 0x09 => decide (f11 < 15)
  | 0x0A => z 5 0
  | 0x0B => decide (f6 < 4)
  | 0x0C => if f6 / 2 % 2 = 0 then decide (f6 < 4) else decide (1 ≤ f6 / 4) && decide (f6 / 4 ≤ 6)
  | 0x0D => decide (f7 ≤ 1) && pairK
  | 0x0E => decide (f7 ≤ 1) && pairK
  | 0x10 =>
    let c := f14 % 16
    if c < 4 ∨ c = 8 ∨ c = 9 then decide (f14 < 16)
    else z 7 4 && (((decide (c = 4) || decide (c = 5)) && decide (f14 / 256 ≤ 15)) ||
      ((decide (c = 6) || decide (c = 7)) && decide (f14 / 256 ≤ 31)))
  | 0x11 => z 16 1
  | 0x12 => z 16 1
  | 0x13 => z 25 22 && z 13 0
  | 0x14 => z 12 0
  | 0x15 => z 13 0
  | 0x16 => z 13 5
  | 0x17 => z 13 4
  | 0x18 => z 13 0
  | 0x19 => z 7 4 && decide (fld w 12 8 + fld w 3 0 + 1 ≤ 32)
  | 0x1C => decide (f7 < 16) && decide (f7 % 8 ≠ 7) && decide (f7 ≠ 14)
  | 0x1D => decide (f6 ≤ 2) && decide (fld w 23 19 ≠ 31)
  | 0x1E => decide (f7 ≤ 1)
  | 0x20 => true
  | 0x21 => z 25 25 && decide (2 ≤ fld w 15 14)
  | 0x22 => true
  | 0x23 => z 25 25 && decide (2 ≤ fld w 15 14)
  | 0x24 => true
  | 0x25 => z 25 25 && decide (2 ≤ fld w 15 14)
  | 0x26 => true
  | 0x27 => z 25 25 && decide (2 ≤ fld w 15 14)
  | 0x28 => z 6 0
  | 0x29 => z 6 0
  | 0x2A => decide (f7 < 16) && decide (f7 % 8 ≤ 5) && pairK
  | 0x2B => decide (f7 < 8) && decide (f7 % 4 ≠ 3) && pairK
  | 0x2C => decide (f7 % 4 ≠ 3) && decide (3 ≤ f7 / 8) && pairK
  | 0x2D => decide (f7 / 4 ≤ 16) && pairK
  | 0x2E => z 5 0
  | 0x2F => decide (f6 ≤ 1)
  | 0x30 => cond && z 21 12
  | 0x31 => z 20 12
  | 0x32 => cond && z 21 0
  | 0x33 => z 25 9
  | 0x34 => z 25 4
  | 0x35 => z 25 0
  | 0x36 => z 5 0
  | 0x38 => decide (f7 ≤ 1)
  | 0x39 => z 6 0
  | 0x3A => decide (f7 ≤ 1)
  | 0x3B => decide (f7 ≤ 1)
  | 0x3C => (deriveRow (f7 % 16) (f7 / 16)).isSome
  | 0x3D => decide (f7 ≤ 3) && pairK
  | 0x3E => (decide (f7 = 0) || decide (f7 = 2)) && pairK
  | 0x3F => z 6 0
  | _ => false

/-- The g register a word writes; 0 where it writes none. -/
def gWritten (w : Word32) : Nat :=
  let o := wOp w
  if o = 0x01 then (if fld w 10 0 = 11 then 0 else fld w 25 21)
  else if (0x02 ≤ o ∧ o ≤ 0x07) ∨ o = 0x09 ∨ o = 0x20 ∨ o = 0x22 then fld w 25 21
  else if o = 0x12 then fld w 21 17
  else if o = 0x3A ∨ o = 0x3B then fld w 11 7
  else if o = 0x3E then fld w 11 7 + 1
  else 0

/-- A word that writes flags (R186, R187, R190, R192). -/
def setsFlags (w : Word32) : Bool :=
  let o := wOp w
  if o = 0x01 then decide (fld w 10 0 ≤ 7) || decide (fld w 10 0 = 11)
  else [0x02, 0x03, 0x04, 0x05, 0x06, 0x08, 0x13, 0x16, 0x17, 0x2C].contains o

/-- A comparing instruction (R177). -/
def isComparing (w : Word32) : Bool := [0x16, 0x17, 0x2C].contains (wOp w)

/-- The k registers a word reads, other than as destination. -/
def kRead (w : Word32) : List Nat :=
  let o := wOp w
  let kx := fld w 25 23
  let ky := fld w 22 20
  let xk := fld w 8 6
  if o = 0x1C then (if fld w 3 3 = 1 then [kx] else [])
  else if (0x28 ≤ o ∧ o ≤ 0x2D) ∨ (0x39 ≤ o ∧ o ≤ 0x3B) then [kx]
  else if o = 0x3E then [kx, ky]
  else if o = 0x3C ∨ o = 0x3D ∨ o = 0x0D ∨ o = 0x0E then [ky]
  else if o = 0x0B ∨ o = 0x36 then [xk]
  else if o = 0x0C then (if fld w 1 1 = 0 then [xk] else [])
  else []

/-- The k register a word makes a handle in. -/
def kWritten (w : Word32) : Option Nat :=
  if [0x38, 0x3C, 0x3D, 0x3F, 0x0D, 0x0E].contains (wOp w) then some (fld w 25 23) else none

/-! ### Declared keys (R216, R221 check 0x0A) -/

/-- K_USAGE and K_PERM of a header. -/
structure KeyDecl where
  usage : Bytes := []
  perm  : Bytes := []
  deriving DecidableEq, Repr

/-- A handle as the header declares it; a K_USAGE beyond 6 bits is none of R179's codes. -/
def KeyDecl.handle (d : KeyDecl) (i : Nat) : Handle :=
  let u := byteAt i d.usage
  { entry := 0, attr := { usage := if u.toNat < 64 then u.setWidth 6 else 63, perm := byteAt i d.perm } }

/-- A use of register `i` by a word accepts the declared key (R180). -/
def useOk (d : KeyDecl) (w : Word32) (i : Nat) : Bool :=
  let h := d.handle i
  let u := h.attr.usage.toNat
  let f7 := fld w 6 0
  match wOp w with
  | 0x28 => (bencRule h).isSome
  | 0x29 => (bdecRule h).isSome
  | 0x2A => (bstrRule h (decide (f7 / 8 % 2 = 1))).isSome
  | 0x2B => mayUse h [uMAC, uEMV_SK] pGEN
  | 0x2C => mayUse h [uMAC, uEMV_SK] pVER
  | 0x2D => mayUse h [uFPE] (if f7 % 2 = 1 then pDEC else pENC)
  | 0x1C => mayUse h [uHMAC] pGEN || mayUse h [uHMAC] pVER
  | 0x3B => decide (1 ≤ u) && decide (u ≤ 0x0C)
  | 0x3C => match deriveRow (f7 % 16) (f7 / 16) with
    | some r => mayUse h [r.1] pDRV
    | none => false
  | 0x3D => mayUse h [uKBPK] pUNWRAP
  | 0x3E => decide (i ≠ fld w 22 20) || mayUse h [uKBPK] pWRAP
  | 0x0D => mayUse h [uKT_PRIV] pUNWRAP
  | 0x0E => mayUse h [uKA_PRIV] pDRV
  | 0x0B => mayUse h [uSIG_PRIV] pSIGN
  | 0x0C => mayUse h [uSIG_PUB] pVER
  | 0x36 => mayUse h [uDATA] pENC || mayUse h [uDATA] pDEC
  | _ => true

/-! ### The state at an instruction (R220) -/

/-- What the verifier keeps: a g register's bound, exact value and whether its latest write bounds it inside a loop;
may-be-tainted bits; the open hash context; k registers that certainly hold a handle, and those that do where Z = 1. -/
structure Abs where
  bound : List Nat := List.replicate 32 0
  exact : List (Option Nat) := List.replicate 32 (some 0)
  safe  : List Bool := List.replicate 32 false
  dT    : BitVec 16 := 0
  sT    : BitVec 256 := 0
  hT    : Bool := false
  hAlg  : Option Nat := none
  held  : BitVec 8 := 0
  tryZ  : BitVec 8 := 0
  deriving DecidableEq, Repr

def maxG : Nat := 2 ^ 64 - 1

def Abs.join (a b : Abs) : Abs :=
  { bound := List.zipWith max a.bound b.bound
    exact := List.zipWith (fun x y => if x = y then x else none) a.exact b.exact
    safe := List.zipWith (· && ·) a.safe b.safe
    dT := a.dT ||| b.dT, sT := a.sT ||| b.sT, hT := a.hT || b.hT
    hAlg := if a.hAlg = b.hAlg then a.hAlg else none
    held := a.held &&& b.held, tryZ := a.tryZ &&& b.tryZ }

/-- The taint and handle part of a loop's later iterations joined into its entry state; g registers stay as the entry
has them. -/
def Abs.joinBack (a b : Abs) : Abs := { a.join b with bound := a.bound, exact := a.exact, safe := a.safe }

def Abs.bd (a : Abs) (r : Nat) : Nat := a.bound.getD r 0
def Abs.ex (a : Abs) (r : Nat) : Option Nat := a.exact.getD r none
def Abs.taint (a : Abs) (r : Nat) : Bool := a.dT.getLsbD r

/-- A g register written: inside a loop body only the writes of R220's exception bound it. -/
def Abs.setG (a : Abs) (inLoop safe : Bool) (r bound : Nat) (exact : Option Nat) : Abs :=
  if r = 0 then a
  else
    let lose := inLoop && !safe
    { a with
      bound := a.bound.set r (if lose then maxG else min bound maxG)
      exact := a.exact.set r (if lose then none else exact)
      safe := a.safe.set r safe }

def Abs.setD (a : Abs) (r : Nat) (t : Bool) : Abs := { a with dT := putBit a.dT r t }

/-- Granules a scratch access may touch: every one where its offset is not exact. -/
def reach (o : Option Nat) (n : Nat) : BitVec 256 := match o with
  | some o => granules o (min n (4096 - o))
  | none => BitVec.allOnes 256

/-- A scratch access may read a tainted granule. -/
def Abs.mayTaint (a : Abs) (o : Option Nat) (n : Nat) : Bool := decide (a.sT &&& reach o n ≠ 0)

/-- A scratch write: taint spreads over all it may touch, and clears only where whole granules are certainly written. -/
def Abs.writeS (a : Abs) (o : Option Nat) (n : Nat) (exactLen t : Bool) : Abs :=
  if t then { a with sT := a.sT ||| reach o n }
  else match o with
    | some o => if exactLen ∧ o + n ≤ 4096 then { a with sT := a.sT &&& ~~~ fullGranules o n } else a
    | none => a

/-- Effective offset of a format M word, where exact. -/
def Abs.mOff (a : Abs) (w : Word32) : Option Nat := (a.ex (fld w 20 16)).map (· + fld w 13 0)

/-- Bytes of a format M word. -/
def mSize (w : Word32) (d : Bool) : Nat := if d then (if fld w 15 14 = 2 then 8 else 16) else 2 ^ fld w 15 14

/-- The scratch range of a register pair: offset where exact, largest length, and whether the length is exact. -/
def Abs.pairOf (a : Abs) (ga : Nat) : Option Nat × Nat × Bool := (a.ex ga, min (a.bd (ga + 1)) 4096, (a.ex (ga + 1)).isSome)

/-! ### Effects -/

/-- Bound and exact value of an integer result, and whether it bounds a register inside a loop. -/
def intResult (w : Word32) (a : Abs) : Nat × Option Nat × Bool :=
  let ra := fld w 20 16
  let rb := fld w 15 11
  let imm := fld w 15 0
  let top := (maxG, (none : Option Nat), false)
  match wOp w with
  | 0x01 => match fld w 10 0 with
    | 0 => (a.bd ra + a.bd rb, none, false)
    | 3 => (a.bd ra + a.bd rb, none, false)
    | 4 => (a.bd ra + a.bd rb, none, false)
    | 6 => match a.ex rb with
      | some n => (a.bd ra / 2 ^ (n % 64), none, false)
      | none => top
    | 8 => (a.bd ra * a.bd rb, none, false)
    | 9 => (min (a.bd ra) (a.bd rb), none, a.safe.getD ra false || a.safe.getD rb false)
    | _ => top
  | 0x02 => match a.ex ra with
    | some v =>
      let r := (v + ((BitVec.ofNat 16 imm).signExtend 64).toNat) % 2 ^ 64
      (r, some r, false)
    | none => if imm < 0x8000 then (a.bd ra + imm, none, false) else top
  | 0x03 => (min (a.bd ra) imm, none, true)
  | 0x04 => (a.bd ra + imm, none, false)
  | 0x05 => (a.bd ra + imm, none, false)
  | 0x06 => if fld w 15 14 = 1 then (a.bd ra / 2 ^ fld w 5 0, none, false) else top
  | 0x07 =>
    let c := imm * 2 ^ (16 * fld w 17 16)
    if fld w 20 20 = 0 then (c, some c, true) else (a.bd (fld w 25 21) + c, none, false)
  | 0x09 => (max (a.bd ra) (a.bd rb), none, false)
  | 0x20 => (2 ^ (8 * 2 ^ fld w 15 14) - 1, none, true)
  | _ => top

/-- Taint of a rule's output. -/
def ruleTaint (r : Option (Option Bool)) (input : Bool) : Bool := match r with
  | some t => t.getD input
  | none => true

/-- d registers and scratch after an instruction (R176). -/
def dataEffect (d : KeyDecl) (w : Word32) (a : Abs) : Abs :=
  let dd := fld w 25 22
  let da := a.taint (fld w 21 18)
  let db := a.taint (fld w 17 14)
  let kd := fld w 19 16
  let ks := a.taint (fld w 15 12)
  let h := d.handle (fld w 25 23)
  let (po, pn, pe) := a.pairOf (fld w 11 7)
  let xa := fld w 23 19
  let xb := fld w 18 14
  let xc := fld w 13 9
  match wOp w with
  | 0x10 =>
    let c := fld w 3 0
    a.setD dd (if c = 8 then false else if 1 ≤ c ∧ c ≤ 3 then da || db else da)
  | 0x14 => a.setD dd da
  | 0x15 => a.setD dd (da || db)
  | 0x17 => a.setD dd da
  | 0x18 => a.setD dd false
  | 0x19 => a.setD dd da
  | 0x21 => a.setD (fld w 24 21) false
  | 0x23 => a.setD (fld w 24 21) (a.mayTaint (a.mOff w) (mSize w true))
  | 0x25 => a.writeS (a.mOff w) (mSize w true) true (a.taint (fld w 24 21))
  | 0x28 => a.setD kd (ruleTaint (bencRule h) ks)
  | 0x29 => a.setD kd (ruleTaint (bdecRule h) ks)
  | 0x2A =>
    let t := ruleTaint (bstrRule h (decide (fld w 3 3 = 1))) (a.mayTaint po pn || a.taint kd)
    (a.writeS po pn pe t).setD kd t
  | 0x2B => a.setD kd (decide (fld w 2 2 = 0) && a.mayTaint po pn)
  | 0x2D => a.writeS po pn pe false
  | 0x1C => { a with hT := false, hAlg := some (fld w 2 0) }
  | 0x1D =>
    let (o, n, _) := a.pairOf xa
    if fld w 1 0 = 0 then { a with hT := a.hT || a.mayTaint o n } else a
  | 0x1E =>
    let l := (a.hAlg.map digestLen).getD 64
    if fld w 0 0 = 1 then a.writeS (a.ex (fld w 11 7)) l a.hAlg.isSome a.hT
    else if a.hT ∨ a.hAlg.isSome then (List.range ((l + 15) / 16)).foldl (fun a i => a.setD (kd + i) a.hT) a
    else a
  | 0x0B =>
    let src := if fld w 1 1 = 1 then a.mayTaint (a.ex xc) 130 else a.mayTaint (a.ex xb) 64
    a.writeS (a.ex xa) 512 false src
  | 0x0C => a.writeS (a.ex xa) 1 true (a.mayTaint (a.ex xb) 64 || a.mayTaint (a.ex xc) 1024)
  | 0x2E => a.writeS (a.ex xa) (min (a.bd xc) 4096) (a.ex xc).isSome false
  | _ => a

/-- Handles after an instruction. -/
def keyEffect (w : Word32) (a : Abs) : Abs :=
  let a := if setsFlags w then { a with tryZ := 0 } else a
  let a := match kWritten w with
    | some i =>
      if wOp w = 0x38 ∧ fld w 0 0 = 1 then { a with tryZ := setBit 0 i }
      else { a with held := setBit a.held i, tryZ := clrBit a.tryZ i }
    | none => a
  if wOp w = 0x39 then { a with held := clrBit a.held (fld w 25 23), tryZ := clrBit a.tryZ (fld w 25 23) } else a

/-- The state after an instruction. -/
def absStep (d : KeyDecl) (w : Word32) (inLoop : Bool) (a : Abs) : Abs :=
  let (b, e, s) := intResult w a
  keyEffect w ((dataEffect d w a).setG inLoop s (gWritten w) b e)

/-! ### Paths (R202, R203, R220) -/

def codeAt (code : List Word32) (i : Nat) : Word32 := code.getD i 0

/-- Last index of the body of a LOOP at `l`. -/
def bodyLast (code : List Word32) (l : Nat) : Nat := l + fld (codeAt code l) 11 0

/-- The LOOPs whose body holds an index, innermost first. -/
def loopsOf (code : List Word32) (i : Nat) : List Nat :=
  ((List.range i).filter fun l => decide (wOp (codeAt code l) = 0x31) && decide (i ≤ bodyLast code l)).reverse

/-- A branch target R202 allows. -/
def brTargetOk (code : List Word32) (i t : Nat) : Bool :=
  decide (i < t) && decide (t < code.length) && match loopsOf code i with
    | [] => true
    | l :: _ => decide (t ≤ bodyLast code l + 1)

/-- g registers written anywhere in a body are unbounded at its start. -/
def havoc (code : List Word32) (l : Nat) (a : Abs) : Abs :=
  ((List.range (bodyLast code l - l)).map fun j => gWritten (codeAt code (l + 1 + j))).foldl
    (fun a r => if r = 0 then a else
      { a with bound := a.bound.set r maxG, exact := a.exact.set r none, safe := a.safe.set r false }) a

/-- Where execution goes from an index: target, state, and whether the innermost loop is left by BRK. -/
def edges (d : KeyDecl) (code : List Word32) (i : Nat) (a : Abs) : List (Nat × Abs × Bool) :=
  let w := codeAt code i
  let ls := loopsOf code i
  let b := absStep d w (!ls.isEmpty) a
  let cond := fld w 25 22
  let onZ (want : Nat) (x : Abs) : Abs := if cond = want then { x with held := x.held ||| x.tryZ } else x
  match wOp w with
  | 0x30 =>
    let t := i + fld w 11 0
    (if cond = 0 then [] else [(i + 1, onZ 2 b, false)]) ++ (if brTargetOk code i t then [(t, onZ 1 b, false)] else [])
  | 0x31 =>
    let c := a.ex (fld w 25 21)
    (if c = some 0 ∨ fld w 11 0 = 0 then [] else [(i + 1, havoc code i b, false)]) ++
    (if c = none ∨ c = some 0 ∨ fld w 11 0 = 0 then [(bodyLast code i + 1, b, false)] else [])
  | 0x32 =>
    (if cond = 0 then [] else [(i + 1, b, false)]) ++ match ls with
      | [] => []
      | l :: _ => [(bodyLast code l + 1, b, true)]
  | 0x33 => []
  | _ => [(i + 1, b, false)]

/-- A state joined into a table. -/
def joinAt (t : Tab Abs) (i : Nat) (a : Abs) : Tab Abs := match Tab.find? t i with
  | some b => Tab.insert i (b.join a) (Tab.erase t i)
  | none => Tab.insert i a t

/-- One edge taken: its target's state, and a further iteration of every body it ends. -/
def takeEdge (code : List Word32) (i : Nat) (r : Tab Abs × Tab Abs) (e : Nat × Abs × Bool) : Tab Abs × Tab Abs :=
  let ls := if e.2.2 then (loopsOf code i).drop 1 else loopsOf code i
  let ends := ls.filter fun l => decide (e.1 = bodyLast code l + 1)
  (joinAt r.1 e.1 e.2.1, ends.foldl (fun t l => joinAt t (l + 1) e.2.1) r.2)

/-- One pass over the code: the state at every index reached, and what iterations bring back to each body's start. -/
def absPass (d : KeyDecl) (code : List Word32) (back : Tab Abs) : Tab Abs × Tab Abs :=
  (List.range code.length).foldl (fun r i => match Tab.find? r.1 i with
    | none => r
    | some a =>
      let a := match Tab.find? back i with
        | some b => a.joinBack b
        | none => a
      (edges d code i a).foldl (takeEdge code i) (Tab.insert i a (Tab.erase r.1 i), r.2)) ([(0, {})], [])

/-- Passes until what iterations bring back no longer changes. -/
def absFix : Nat → KeyDecl → List Word32 → Tab Abs → Tab Abs
  | 0, d, code, back => (absPass d code back).1
  | k + 1, d, code, back =>
    let r := absPass d code back
    if r.2 = back then r.1 else absFix k d code r.2

/-- The state at every index that some path reaches; index N stands for running past the code. -/
def absStates (d : KeyDecl) (code : List Word32) : Tab Abs := absFix 2000000 d code []

/-! ### Worst paths (checks 0x05 to 0x07) -/

/-- Bound B of a LOOP that a path reaches; 0 for another. -/
def loopBound (st : Tab Abs) (code : List Word32) (l : Nat) : Nat := match Tab.find? st l with
  | some a => a.bd (fld (codeAt code l) 25 21)
  | none => 0

/-- Worst cost from an index, from those of the later indexes of its region. -/
def worstAt (code : List Word32) (cost body : Nat → Nat) (bnd : Nat → Nat) (i : Nat) (later : List Nat) : Nat :=
  let w := codeAt code i
  let at_ (t : Nat) : Nat := later.getD (t - i - 1) 0
  let cond := fld w 25 22
  let fall := if cond = 0 then 0 else at_ (i + 1)
  match wOp w with
  | 0x30 => cost i + max fall (if brTargetOk code i (i + fld w 11 0) then at_ (i + fld w 11 0) else 0)
  | 0x31 => cost i + bnd i * body i + at_ (bodyLast code i + 1)
  | 0x32 => cost i + max fall (match loopsOf code i with
      | [] => 0
      | l :: _ => at_ (bodyLast code l + 1))
  | 0x33 => cost i
  | _ => cost i + at_ (i + 1)

/-- Worst cost of a region from `s` up to `e`; `fuel` is the depth of loops. -/
def worst (code : List Word32) (cost bnd : Nat → Nat) : Nat → Nat → Nat → Nat
  | 0, _, _ => 0
  | k + 1, s, e =>
    ((List.range (e - s)).foldl (fun l j =>
      worstAt code cost (fun i => worst code cost bnd k (i + 1) (bodyLast code i + 1)) bnd (e - 1 - j) l :: l) [0]).headD 0

/-- Iterations a LOOP contributes: B × the bounds of the enclosing LOOPs. -/
def loopIters (st : Tab Abs) (code : List Word32) (l : Nat) : Nat :=
  (loopsOf code l).foldl (fun n m => n * loopBound st code m) (loopBound st code l)

/-- The LOOPs of the code. -/
def loopIdx (code : List Word32) : List Nat := (List.range code.length).filter fun l => decide (wOp (codeAt code l) = 0x31)

/-- DECL_INSTR, DECL_ITER and DECL_CMP as computed. -/
def bounds (st : Tab Abs) (code : List Word32) : Nat × Nat × Nat :=
  (worst code (fun _ => 1) (loopBound st code) 6 0 code.length,
   ((loopIdx code).map (loopIters st code)).sum,
   worst code (fun i => b2n (isComparing (codeAt code i))) (loopBound st code) 6 0 code.length)

/-- The k registers the code names. -/
def kNamed (code : List Word32) : Byte :=
  code.foldl (fun m w => ((kRead w) ++ (kWritten w).toList).foldl (fun m i => setBit m i) m) 0

/-! ### The checks (R221) -/

/-- A failed check: code, index, register. -/
structure CheckFail where
  check : Nat
  index : Nat := 0xFFFF
  reg   : Nat := 0xFF
  deriving DecidableEq, Repr

/-- The first index at which `f` finds a failure. -/
def firstFail (n check : Nat) (f : Nat → Option Nat) : Option CheckFail :=
  ((List.range n).findSome? fun i => (f i).map fun r => { check := check, index := i, reg := r })

/-- A failure that concerns no register. -/
def failIf (b : Bool) : Option Nat := if b then some 0xFF else none

/-- Check 0x08 at an index: the register whose taint the instruction may not take (R177). -/
def taintFail (w : Word32) (a : Abs) : Option Nat :=
  let bad (b : Bool) (r : Nat) : Option Nat := if b then some r else none
  let (po, pn, _) := a.pairOf (fld w 11 7)
  match wOp w with
  | 0x12 => bad (a.taint (fld w 25 22)) (fld w 25 22)
  | 0x13 => (bad (a.taint (fld w 21 18)) (fld w 21 18)).or (bad (a.taint (fld w 17 14)) (fld w 17 14))
  | 0x22 => bad (a.mayTaint (a.mOff w) (mSize w false)) 0xFF
  | 0x27 => bad (a.taint (fld w 24 21)) (fld w 24 21)
  | 0x2F => bad (decide (fld w 0 0 = 0) && a.mayTaint (a.ex (fld w 18 14)) (min (a.bd (fld w 13 9)) 4096)) 0xFF
  | 0x3C => bad (a.taint (fld w 15 12)) (fld w 15 12)
  | 0x2D => (bad (a.mayTaint po pn) 0xFF).or (bad (a.taint (fld w 15 12)) (fld w 15 12))
  | 0x0A => bad (a.mayTaint (a.ex (fld w 13 9)) 1032 || a.mayTaint (a.ex (fld w 18 14)) 512) 0xFF
  | _ => none

/-- Check 0x0A at an index: a use that the declaration does not allow, or an output that differs from it. -/
def usageFail (d : KeyDecl) (w : Word32) (a : Option Abs) : Option Nat :=
  let differs (i u p : Nat) : Option Nat :=
    if (byteAt i d.usage).toNat = u ∧ (byteAt i d.perm).toNat = p then none else some i
  let kx := fld w 25 23
  ((kRead w).find? fun i => !useOk d w i).or
    (match wOp w with
     | 0x3C => (deriveRow (fld w 3 0) (fld w 6 4)).bind fun r => differs kx r.2.2.2.1 r.2.2.2.2
     | 0x3F => (a.bind fun a => a.ex (fld w 11 7)).bind fun t => differs kx (attrOf t).usage.toNat (attrOf t).perm.toNat
     | _ => none)

/-- Checks 0x01 to 0x04 in order: the form of the code. -/
def checkForm (d : KeyDecl) (code : List Word32) (st : Tab Abs) : Option CheckFail :=
  let n := code.length
  let w := codeAt code
  let live (i : Nat) (f : Abs → Option Nat) : Option Nat := (Tab.find? st i).bind f
  (firstFail n 0x01 fun i => failIf (!wordLegal (w i)))
  |>.or (firstFail n 0x02 fun i => live i fun a => failIf ((edges d code i a).any fun e => decide (e.1 = n)))
  |>.or (firstFail n 0x03 fun i => failIf ((decide (wOp (w i) = 0x30) && !brTargetOk code i (i + fld (w i) 11 0)) ||
      (decide (wOp (w i) = 0x32) && (loopsOf code i).isEmpty)))
  |>.or (firstFail n 0x04 fun i => failIf (decide (wOp (w i) = 0x31) && (decide (n ≤ bodyLast code i) ||
      (loopsOf code i).any (fun l => decide (bodyLast code l < bodyLast code i)) || decide (4 ≤ (loopsOf code i).length))))

/-- Checks 0x01 to 0x0B in order, the first failure of the first failing check. -/
def checkCode (d : KeyDecl) (kUsed : Byte) (code : List Word32) (st : Tab Abs) : Option CheckFail :=
  let n := code.length
  let w := codeAt code
  let live (i : Nat) (f : Abs → Option Nat) : Option Nat := (Tab.find? st i).bind f
  let (instr, _, cmp) := bounds st code
  let iters := loopIters st code
  (checkForm d code st)
  |>.or (firstFail n 0x05 fun i => failIf (decide (wOp (w i) = 0x31) && (decide (65536 < loopBound st code i) ||
      decide (65536 < (((loopIdx code).filter fun l => decide (l ≤ i)).map iters).sum))))
  |>.or (if 1048576 < instr then some { check := 0x06 } else none)
  |>.or (if 4 < cmp then some { check := 0x07 } else none)
  |>.or (firstFail n 0x08 fun i => live i (taintFail (w i)))
  |>.or (firstFail n 0x09 fun i => live i fun a => (kRead (w i)).find? fun r => !a.held.getLsbD r)
  |>.or (firstFail n 0x0A fun i => usageFail d (w i) (Tab.find? st i))
  |>.or (((List.range 8).find? fun i => kUsed.getLsbD i != decide (byteAt i d.usage ≠ 0)).map fun i => { check := 0x0A, reg := i })
  |>.or (firstFail n 0x0B fun i => failIf (decide (wOp (w i) = 0x33) && !endStatusOk (BitVec.ofNat 8 (fld (w i) 7 0))))

/-! ### Bundles (R216, R217, R218) -/

/-- The instruction words of a code section. -/
def codeWords (b : Bytes) : List Word32 := (List.range (b.length / 4)).map fun i => BitVec.ofNat 32 (leAt (4 * i) 4 b)

/-- A bundle's fields. -/
structure Bundle where
  raw     : Bytes
  routine : Nat
  jaser   : Bool
  library : Bool
  n       : Nat
  version : Nat
  decl    : Nat × Nat × Nat
  kUsed   : Byte
  keys    : KeyDecl
  code    : List Word32
  deriving DecidableEq, Repr

/-- The fields of R216. -/
def readBundle (b : Bytes) : Bundle :=
  { raw := b, routine := leAt 6 2 b, jaser := (byteAt 8 b).getLsbD 0, library := (byteAt 8 b).getLsbD 1
    n := leAt 10 2 b, version := leAt 12 4 b, decl := (leAt 16 4 b, leAt 20 4 b, (byteAt 24 b).toNat)
    kUsed := byteAt 25 b, keys := { usage := slice 32 8 b, perm := slice 40 8 b }, code := codeWords (b.drop 256) }

/-- Check 0x0C but for R218: the fixed and zero fields, the ranges and CODE_DIGEST. -/
def headerOk (b : Bytes) : Bool :=
  let h := readBundle b
  decide (leAt 0 4 b = 0x4B4E5445) && decide (leAt 4 2 b = 1) && decide (leAt 8 2 b < 4) && decide (1 ≤ h.n) &&
  decide (h.n ≤ 4096) && decide (b.length = 256 + 4 * h.n) && decide (1 ≤ h.version) && decide (h.decl.2.2 ≤ 4) &&
  (if h.library then decide (h.routine < 0x0F00) else decide (0x1000 ≤ h.routine)) &&
  decide (leAt 26 6 b = 0) && decide (leAt 168 24 b = 0) && decide (slice 48 32 b = sm3 (b.drop 256))

/-- SIGNATURE under the key in SIGNER (R217). -/
def bundleSigned (b : Bytes) : Bool := sm2Verify (slice 80 64 b) (b.take 192 ++ b.drop 256) (slice 192 64 b)

/-- The bundle digest (R217). -/
def bundleDigest (b : Bytes) : Bytes := sm3 b

/-- R218: the declared bounds and registers are those the verifier computes.  Code whose form fails has no bounds to compare;
it is left to the verifier (R234 step 8). -/
def declOk (h : Bundle) : Bool :=
  let st := absStates h.keys h.code
  (checkForm h.keys h.code st).isSome || (decide (h.decl = bounds st h.code) && decide (h.kUsed = kNamed h.code))

/-- Checks 0x01 to 0x0B: the first failure, or none where the code is accepted. -/
def verifyBundle (h : Bundle) : Option CheckFail := checkCode h.keys h.kUsed h.code (absStates h.keys h.code)

/-- A library bundle that is loaded at boot: well-formed, signed with the image's library signing key, and accepted by the
verifier (R217, R219). -/
def libraryOk (key : Option Bytes) (b : Bytes) : Bool :=
  let h := readBundle b
  headerOk b && h.library && decide (some (slice 80 64 b) = key) && bundleSigned b && declOk h && (verifyBundle h).isNone

/-- The routine a bundle becomes in the store. -/
def Bundle.image (h : Bundle) (gen : Nat) : Image :=
  { gen := gen, jaser := h.jaser, len := h.n, version := h.version, digest := bundleDigest h.raw, code := h.code }

end Sys2Proof.Machine
end

