-- ==== Sys2Proof/Machine/Routines.lean ====
section
/-!
DEFINITION. The routine store, its services and the routine caches (R216 to R238).
-/
namespace Sys2Proof.Machine

/-! ### Store (R224) -/

/-- Store bytes of a routine. -/
def storeUse (n : Nat) : Nat := roundUp (256 + 4 * n) 256

/-- Images a partition holds in the store: loaded, and committed and not yet in effect. -/
def storeImages (r : RoutinePart) : List (Nat × Image) :=
  r.loaded ++ r.pending.filterMap fun x => if x.inEffect then none else x.image.map fun m => (x.routine, m)

/-- Store bytes charged to a partition, one routine left out. -/
def partStore (r : RoutinePart) (skip : Nat) : Nat :=
  ((storeImages r).map fun e => if e.1 = skip then 0 else storeUse e.2.len).sum

/-- Store bytes in use, the library's and replaced generations included (R235). -/
def storeTotal (s : State) : Nat :=
  (s.routines.library.map fun e => storeUse e.2).sum +
  (s.routines.parts.map fun e => partStore e.2 0x10000 + (e.2.old.map fun x => storeUse x.2.len).sum).sum

/-! ### Manifests (R228, R229) -/

def manEntryBytes (e : ManEntry) : Bytes :=
  toLE 2 e.routine ++ [if e.revoked then 3 else 1, BitVec.ofNat 8 (b2n e.jaser)] ++ toLE 4 e.version ++ fit 32 e.digest ++
  toLE 2 e.gen ++ zeros 6

/-- The manifest of a partition with a counter and entries. -/
def manifestBytes (p : Nat) (counter : Word32) (l : List ManEntry) : Bytes :=
  toLE 4 0x00030001 ++ [BitVec.ofNat 8 p, 0, 0, 0] ++ toLE 4 counter.toNat ++ toLE 2 l.length ++ zeros 2 ++ l.flatMap manEntryBytes

/-- Entries of a manifest. -/
def parseEntries (b : Bytes) : List ManEntry :=
  (List.range (leAt 12 2 b)).map fun k =>
    let o := 16 + 48 * k
    { routine := leAt o 2 b, revoked := decide (byteAt (o + 2) b = 3), jaser := (byteAt (o + 3) b).getLsbD 0
      version := leAt (o + 4) 4 b, digest := slice (o + 8) 32 b, gen := leAt (o + 40) 2 b }

/-- An entry placed in ascending ROUTINE order, replacing one of the same ROUTINE. -/
def putEntry (e : ManEntry) (l : List ManEntry) : List ManEntry :=
  l.filter (fun x => decide (x.routine < e.routine)) ++ [e] ++ l.filter fun x => decide (e.routine < x.routine)

def entryOf (s : State) (p r : Nat) : Option ManEntry := (getRPart s p).entries.find? fun e => decide (e.routine = r)

/-- A partition's manifest is known: its counter is 0, or it has been restored since the boot (R229). -/
def manifestKnown (s : State) (p : Nat) : Bool := decide ((manRec s p).word = 0) || (getRPart s p).restored

/-! ### Common checks (R230, R231, R237) -/

/-- A VF names its own partition; partition 0 any (R231). -/
def withOwn (i : Item) (p : Nat) (s : State) (body : State → State) : State :=
  if i.part = 0 ∨ i.part = p then body s else refuse i.id stOPERAND_FORMAT 0x06 s

def withManifest (i : Item) (p : Nat) (s : State) (body : State → State) : State :=
  if manifestKnown s p then body s else refuse i.id stNOT_READY 0x08 s

/-- Check 0x0C. -/
def withHeader (i : Item) (b : Bytes) (s : State) (body : Bundle → State → State) : State :=
  if headerOk b ∧ declOk (readBundle b) = true then body (readBundle b) s
  else finish i.id stOPERAND_FORMAT (refusalRecord 0x01 0x0C 0xFFFF 0xFF) false s

def withSigned (i : Item) (b : Bytes) (s : State) (body : State → State) : State :=
  if bundleSigned b then body s else refuse i.id stKEY_BLOCK_AUTH 0x09 s

/-- The static verifier (R219, R223). -/
def withVerified (i : Item) (h : Bundle) (s : State) (body : State → State) : State :=
  match verifyBundle h with
  | none => body s
  | some f => finish i.id stOPERAND_FORMAT (refusalRecord 0x02 f.check f.index f.reg) false s

/-! ### Challenge and authorisation (R232, R233, R335) -/

/-- ROUTINE_CHALLENGE. -/
def execRoutineChallenge (id : Nat) (s : State) : Res :=
  .next (onService id 0x0EF0 (fun i s => withForm i false s fun s =>
    let p := i.le 24 1
    withOwn i p s fun s => withRoot id 16 s fun b s =>
      done id b (updRPart p (fun r => { r with nonce := some (BitVec.ofNat 128 (beNat b), s.time.time64) }) s)) s)

/-- The signed body names the action, the routine and the device state. -/
def routineBodyOk (action p r version : Nat) (digest b : Bytes) (s : State) : Bool :=
  decide (leAt 0 4 b = 0x00020001) && decide ((byteAt 4 b).toNat = action) && decide ((byteAt 5 b).toNat = p) &&
  decide (leAt 6 2 b = r) && decide (leAt 8 4 b = version) && decide (leAt 12 4 b = (manRec s p).word.toNat) &&
  decide (slice 32 32 b = digest)

/-- An authorisation examined: NOT_READY while the registry awaits restore; else the nonce is spent, and any failure is
CLASS 0x07. -/
def routineAuth (id action p r version : Nat) (digest b : Bytes) (s : State) (body : State → State) : State :=
  let v := getVPart s p
  if ¬ regEmpty s p ∧ v.registry.isNone then refuse id stNOT_READY 0x0C s
  else
    let n := (getRPart s p).nonce
    let s1 := updRPart p (fun x => { x with nonce := none }) s
    let ok := match v.registry with
      | none => false
      | some g => routineBodyOk action p r version digest b s && nonceOk n b s && quorumOk g (g.policy.getD 0 17) b
    if ok then body s1 else refuse id stKEY_BLOCK_AUTH 0x07 s1

/-! ### Install and revoke (R234 to R236) -/

/-- The manifest after an install or revoke, committed with what then waits for its epoch. -/
def commitManifest (id p : Nat) (e : ManEntry) (image : Option Image) (s : State) : State :=
  let c := (manRec s p).word + 1
  let l := putEntry e (getRPart s p).entries
  submitChange {
    item := some id
    writes := [.man p c (sm3 (manifestBytes p c l)), .manifest p l]
    acts := [.routine p { item := id, routine := e.routine, at_ := 0, epoch := 0, image := image, gen := e.gen }]
    data := toLE 4 c.toNat ++ zeros 4 ++ toLE 2 e.gen } s

/-- Quotas and the store's room (R224). -/
def quotaOk (s : State) (p r n : Nat) : Bool :=
  let x := getRPart s p
  let count := x.entries.length + b2n (entryOf s p r).isNone
  decide (count ≤ x.countMax) && decide (partStore x r + storeUse n ≤ x.kibMax * 1024) &&
  decide (storeTotal s + storeUse n ≤ 0x8000000)

/-- ROUTINE_INSTALL: the checks of R234 in their order. -/
def execRoutineInstall (id : Nat) (buf auth : HostData) (s : State) : Res :=
  .next (onService id 0x0EF1 (fun i s => withForm i true s fun s =>
    let p := i.le 48 1
    withOwn i p s fun s => withManifest i p s fun s => svcBuffer i buf s fun b s => withHeader i b s fun h s =>
    if h.library then refuse id stOPERAND_FORMAT 0x01 s
    else withSigned i b s fun s => svcRead id (i.le 36 8) (i.le 44 4) auth s fun a s =>
    routineAuth id 1 p h.routine h.version (bundleDigest b) a s fun s =>
      let old := entryOf s p h.routine
      if (old.map ManEntry.version).getD 0 ≥ h.version then refuse id stOPERAND_FORMAT 0x04 s
      else if (old.map ManEntry.jaser).getD h.jaser ≠ h.jaser then refuse id stOPERAND_FORMAT 0x05 s
      else withVerified i h s fun s =>
        if ¬ quotaOk s p h.routine h.n then refuse id stOPERAND_FORMAT 0x03 s
        else
          let gen := ((old.map ManEntry.gen).getD 0 + 1) % 65536
          commitManifest id p { routine := h.routine, jaser := h.jaser, version := h.version, digest := bundleDigest b, gen := gen }
            (some (h.image gen)) s) s)

/-- ROUTINE_REVOKE: the ROUTINE is the one the authorisation names; with no installed entry it is refused with CLASS
0x08 (assumption log 42). -/
def execRoutineRevoke (id : Nat) (auth : HostData) (s : State) : Res :=
  .next (onService id 0x0EF2 (fun i s => withForm i false s fun s =>
    let p := i.le 36 1
    withOwn i p s fun s => withManifest i p s fun s => svcRead id (i.le 24 8) (i.le 32 4) auth s fun a s =>
    let r := leAt 6 2 a
    routineAuth id 2 p r 0 (zeros 32) a s fun s => match entryOf s p r with
      | none => refuse id stKEY_BLOCK_AUTH 0x08 s
      | some e => if e.revoked then refuse id stKEY_BLOCK_AUTH 0x08 s
        else commitManifest id p { e with revoked := true } none s) s)

/-- An install or revoke whose epoch has begun takes effect (R234, R236). -/
def applyPending (s : State) (p : Nat) (r : RoutinePart) : RoutinePart :=
  let due (x : Pending) : Bool := !x.inEffect && decide (x.epoch * 10000 ≤ now s)
  let r := (r.pending.filter due).foldl (fun r x => replaceImage s p x.routine x.image r) r
  { r with pending := r.pending.map fun x => if due x then { x with inEffect := true } else x }

/-- Every partition's installs and revokes that are due. -/
def applyRoutines (s : State) : State :=
  { s with routines := { s.routines with parts := Tab.mapVals dRPart (applyPending s) s.routines.parts } }

/-- A seat that runs a generation an install or revoke replaces. -/
def oldGenRuns (s : State) (p r gen : Nat) (any : Bool) : Bool :=
  s.seats.any fun e => e.2.run.isSome && decide (e.2.part = p) && decide (e.2.routine = r) && (any || decide (e.2.gen ≠ gen))

/-- ROUTINE_GEN_DRAINED: the service completes once it is in effect and no seat runs an earlier generation (R234, R236). -/
def execRoutineGenDrained (id : Nat) (s : State) : Res :=
  match getItem s id with
  | none => .next s
  | some i =>
    match (List.find? (fun (e : Nat × RoutinePart) => e.2.pending.any fun x => decide (x.item = id)) s.routines.parts) with
    | none => .next s
    | some (p, r) => match r.pending.find? fun x => decide (x.item = id) with
      | none => .next s
      | some x =>
        if i.phase ≠ 3 ∨ ¬ x.inEffect ∨ oldGenRuns s p x.routine x.gen x.image.isNone then .next s
        else
          let s := updRPart p (fun r => { r with pending := r.pending.filter fun y => decide (y.item ≠ id) }) s
          match i.outcome with
          | some o => .next (finish id o.status o.data o.hostBuf s)
          | none => .next s

/-! ### Manifest services, load, query, verify (R229, R230) -/

def execRoutineManifestRead (id : Nat) (s : State) : Res :=
  .next (onService id 0x0EF3 (fun i s => withForm i false s fun s =>
    let p := i.le 36 1
    withOwn i p s fun s => withManifest i p s fun s =>
      svcOutput i (i.le 24 8) (i.le 32 4) (manifestBytes p (manRec s p).word (getRPart s p).entries) s) s)

def execRoutineManifestRestore (id : Nat) (buf : HostData) (s : State) : Res :=
  .next (onService id 0x0EF4 (fun i s => withForm i false s fun s =>
    let p := i.le 36 1
    withOwn i p s fun s => svcBuffer i buf s fun b s =>
      if sm3 b ≠ (manRec s p).digest then refuse id stKEY_BLOCK_AUTH 0x08 s
      else done id (toLE 4 (manRec s p).word.toNat)
        (updRPart p (fun r => { r with restored := true, entries := parseEntries b }) s)) s)

/-- ROUTINE_LOAD: a bundle already loaded, of its entry's generation and digest, has no effect; another is replaced. -/
def execRoutineLoad (id : Nat) (buf : HostData) (s : State) : Res :=
  .next (onService id 0x0EF5 (fun i s => withForm i true s fun s =>
    let p := i.le 36 1
    withOwn i p s fun s => withManifest i p s fun s => svcBuffer i buf s fun b s => withHeader i b s fun h s =>
    if h.library then refuse id stOPERAND_FORMAT 0x01 s
    else match (getRPart s p).entries.find? fun e => !e.revoked && decide (e.digest = bundleDigest b) with
      | none => refuse id stKEY_BLOCK_AUTH 0x08 s
      | some e => withSigned i b s fun s => withVerified i h s fun s =>
        let m := Tab.get dImage (getRPart s p).loaded e.routine
        if m.len ≠ 0 ∧ m.gen = e.gen ∧ m.digest = e.digest then done id (toLE 2 e.routine) s
        else if 0x8000000 < storeTotal s + storeUse h.n then refuse id stOPERAND_FORMAT 0x03 s
        else done id (toLE 2 e.routine)
          (updRPart p (replaceImage s p e.routine (some (h.image e.gen))) s)) s)

/-- Seats still running an earlier generation. -/
def oldGenSeats (s : State) (p r gen : Nat) : Nat :=
  (List.filter (fun (e : Nat × Seat) => e.2.run.isSome && decide (e.2.part = p) && decide (e.2.routine = r) &&
    decide (e.2.gen ≠ gen)) s.seats).length

def execRoutineQuery (id : Nat) (s : State) : Res :=
  .next (onService id 0x0EF6 (fun i s => withForm i false s fun s =>
    let r := i.le 24 2
    let p := i.le 26 1
    withOwn i p s fun s => withManifest i p s fun s => match entryOf s p r with
      | none => done id (zeros 16) s
      | some e =>
        let here := (storeImages (getRPart s p)).any fun x => decide (x.1 = r) && decide (x.2.gen = e.gen)
        let st : Byte := if e.revoked then 3 else if here then 1 else 2
        done id ([st, BitVec.ofNat 8 (b2n e.jaser)] ++ toLE 2 e.gen ++ toLE 4 e.version ++ toLE 2 (oldGenSeats s p r e.gen) ++
          e.digest.take 6) s) s)

/-- ROUTINE_VERIFY: the bounds, or the refusal record. -/
def execRoutineVerify (id : Nat) (buf : HostData) (s : State) : Res :=
  .next (onService id 0x0EF7 (fun i s => withForm i true s fun s => svcBuffer i buf s fun b s => withHeader i b s fun h s =>
    withVerified i h s fun s =>
      done id (toLE 4 h.decl.1 ++ toLE 4 h.decl.2.1 ++ [BitVec.ofNat 8 h.decl.2.2, h.kUsed]) s) s)

/-! ### Quotas and pinning (R224, R227) -/

def execRoutineQuotaSet (id : Nat) (s : State) : Res :=
  .next (onService id 0x0F40 (fun i s => withForm i false s fun s =>
    let p := i.le 24 1
    let c := i.le 28 2
    let k := i.le 32 4
    let x := getRPart s p
    if c < 1 ∨ 1024 < c then refuse id stOPERAND_FORMAT 0x01 s
    else if c < x.entries.length ∨ k * 1024 < partStore x 0x10000 then refuse id stOPERAND_FORMAT 0x03 s
    else submitChange { item := some id, writes := [.routineQuota p c k] } s) s)

/-- Bytes that library routines hold in a troupe's cache. -/
def pinBytes (s : State) (l : List Nat) : Nat :=
  (l.map fun r => match s.routines.library.find? fun e => e.1 == r with
    | some e => 256 * linesOf e.2
    | none => 0).sum

/-- The set of a line (R225); the library's lines are tagged 256. -/
def setOf (l : RLine) : Nat := Config.cacheSet (l.part.getD 256) l.routine l.gen l.index % 128

/-- The least recently used unpinned line of a set. -/
def oldestLine (l : List RLine) (st : Nat) : Option RLine :=
  (l.filter fun x => !x.pinned && decide (setOf x = st)).foldl (fun b x => match b with
    | none => some x
    | some y => if x.used < y.used then some x else some y) none

/-- A line placed in a cache: over an old copy, or over the least recently used unpinned way where its set is full; no
line comes in where every way is pinned. -/
def placeLine (x : RLine) (l : List RLine) : List RLine :=
  if l.any (sameLine x) then l.map fun y => if sameLine x y then { y with pinned := y.pinned || x.pinned, used := x.used, ecc := x.ecc } else y
  else if (l.filter fun y => decide (setOf y = setOf x)).length < 8 then l ++ [x]
  else match oldestLine l (setOf x) with
    | none => l
    | some o => l.filter (fun y => decide (y ≠ o)) ++ [x]

/-- A library routine's lines placed and pinned in a cache. -/
def pinLines (r n u : Nat) (l : List RLine) : List RLine :=
  (List.range (linesOf n)).foldl (fun l j =>
    placeLine { part := none, routine := r, gen := 0, index := j, pinned := true, used := u } l) l

/-- ROUTINE_CACHE_PIN: a further library routine pinned or unpinned on every troupe. -/
def execRoutineCachePin (id : Nat) (s : State) : Res :=
  .next (onService id 0x0F41 (fun i s => withForm i false s fun s =>
    let r := i.le 24 2
    let on := decide (i.le 26 1 = 1)
    match s.routines.library.find? fun e => e.1 == r with
    | none => refuse id stOPERAND_FORMAT 0x01 s
    | some (_, n) =>
      let rs := s.routines
      let fixed := rs.resident.contains r
      let pins := if fixed then rs.pins else if on then insertNat r rs.pins else rs.pins.filter fun x => decide (x ≠ r)
      if 1 < i.le 26 1 ∨ i.le 27 5 ≠ 0 then refuse id stOPERAND_FORMAT 0x01 s
      else if 65536 < pinBytes s pins then refuse id stOPERAND_FORMAT 0x03 s
      else
        let s := { s with routines := { rs with pins := pins, useCtr := rs.useCtr + 1 } }
        let f (l : List RLine) : List RLine :=
          if on then pinLines r n rs.useCtr l
          else if fixed then l
          else l.map fun x => if x.part = none ∧ x.routine = r then { x with pinned := false } else x
        let s := (List.range (nTroupes s.part.variant)).foldl (fun s t => updTroupe t (fun x => { x with lines := f x.lines }) s) s
        done id (toLE 4 (pinBytes s rs.resident + pinBytes s pins)) s) s)

/-! ### The routine caches (R225, R226, R235) -/

/-- The N of a generation the store holds: of the library, of a routine in effect, or of one it keeps (R235). -/
def storedLen (s : State) (p r gen : Nat) : Option Nat :=
  let kept := ((getRPart s p).old.find? fun e => decide (e.1 = r) && decide (e.2.gen = gen)).map fun e => e.2.len
  match routineImage s p r with
  | some m => if m.gen = gen then some m.len else kept
  | none => kept

/-- The errors of a line as it arrives: a line whose tag failed is poisoned, and reads as uncorrectable (R22, R225). -/
def lineEcc : LineData → Option Bool
  | .ok => none
  | .single => some false
  | .double => some true
  | .poison => some true

/-- A line the gate denies: the seats that wait for it fault with UNIT_ERROR (R394); what the record says of the instruction
that never came is a free value (assumption log 68). -/
def fetchDenied (troupe : Nat) (x : RLine) (s : State) : State :=
  (seatsOfTroupe troupe).foldl (fun s k =>
    if seatRuns s k = true ∧ sameLine x (seatLine s k) = true then
      seatFault k 0x13 ((Config.freeWord s.freeCtr).toNat % 64) (getSeat s k).x.pc 255 false { s with freeCtr := s.freeCtr + 1 }
    else s) s

/-- ROUTINE_CACHE_FILL: a line on its way arrives from the store, read with colour 6, in a troupe's cache (R20, R225, R226,
R386). -/
def execRoutineCacheFill (troupe part routine gen : Nat) (line : LineFill) (s : State) : Res :=
  let x := lineTag part routine gen line.index
  if nTroupes s.part.variant ≤ troupe ∨ ¬ (getTroupe s troupe).fetching.any (sameLine x) ∨ dieState s (dieOfTroupe troupe) ≠ .active then .next s
  else
    let s := updTroupe troupe (fun t => { t with fetching := t.fetching.filter fun y => !sameLine x y }) s
    match storedLen s part routine gen with
    | none => .next s
    | some _ =>
      let (ok, s) := gateAccess 6 false (0x1120000000 + 256 * (Config.storeLine (x.part.getD 256) routine gen line.index % 0x80000)) 256 0 s
      if ok then
        let u := s.routines.useCtr + 1
        .next (updTroupe troupe (fun t => { t with lines := placeLine { x with used := u, ecc := lineEcc line.words } t.lines })
          { s with routines := { s.routines with useCtr := u } })
      else .next (fetchDenied troupe x s)

end Sys2Proof.Machine
end

