-- ==== Sys2Proof/Machine/Admission.lean ====
section
/-!
DEFINITION. The Ticket Booth (spec file 03): one turn of the weighted deficit round robin, bucket credit, staged share
changes and their epoch.
-/
namespace Sys2Proof.Machine

/-! ### The head command (R63, R65, R102) -/

/-- The command at a queue's head: its chunks, and whether word 0 is poisoned. -/
structure HeadCmd where
  c1  : Chunk
  c2  : Option Chunk := none
  deriving DecidableEq, Repr

/-- The framing of R102 and R64: a chunk whose word 0 is poisoned, a single chunk, or a first chunk completed on its
own stands alone; a first chunk takes its last chunk whatever that reads. -/
def headCmd (x : QueuePair) : Option HeadCmd :=
  match x.headWin with
  | [] => none
  | c :: r =>
    if c.poison.getLsbD 0 ∨ chunkKind c.bytes ≠ 2 ∨ c.alone then some { c1 := c }
    else
      match r with
      | [] => none
      | d :: _ => some { c1 := c, c2 := some d }

def HeadCmd.chunks (h : HeadCmd) : Nat := if h.c2.isSome then 2 else 1
def HeadCmd.raw (h : HeadCmd) : Bytes := h.c1.bytes ++ (h.c2.map Chunk.bytes).getD []
def HeadCmd.w0 (h : HeadCmd) : Bool := h.c1.poison.getLsbD 0
def HeadCmd.poisoned (h : HeadCmd) : Bool :=
  decide (h.c1.poison ≠ 0) || decide ((h.c2.map Chunk.poison).getD 0 ≠ 0)

/-- Fields of a command (R63). -/
def cmdOrdered (raw : Bytes) : Bool := (byteAt 0 raw).getLsbD 5
def cmdSlot (raw : Bytes) : Bool := (byteAt 0 raw).getLsbD 4
def cmdPrio (raw : Bytes) : Nat := (byteAt 1 raw).toNat % 8
def cmdRoutine (raw : Bytes) : Nat := leAt 2 2 raw
def cmdFlow (raw : Bytes) : Nat := leAt 4 2 raw % 16384
def cmdHint (raw : Bytes) : Bool := (byteAt 5 raw).getLsbD 6
def cmdSerial (raw : Bytes) : Bool := (byteAt 5 raw).getLsbD 7
def cmdPointer (raw : Bytes) : Bool := (byteAt 7 raw).getLsbD 7
def cmdOplen (raw : Bytes) : Nat := leAt 6 2 raw % 32768
def cmdTag (raw : Bytes) : Nat := leAt 8 8 raw
def cmdBudget (raw : Bytes) : Nat := leAt 16 4 raw
def cmdPtrLen (raw : Bytes) : Nat := leAt 32 4 raw

/-- The checks of R63 and R65 on a command of `chunks` chunks. -/
def formatOk (raw : Bytes) (chunks : Nat) : Bool :=
  decide ((byteAt 0 raw).toNat % 16 = 0) && decide ((byteAt 1 raw).toNat < 8) && decide (leAt 20 4 raw = 0) &&
  if cmdPointer raw then
    decide (1 ≤ cmdPtrLen raw) && decide (cmdPtrLen raw ≤ 0x40000000) &&
    decide (cmdOplen raw ≤ if chunks = 2 then 91 else 28)
  else decide (cmdOplen raw ≤ if chunks = 2 then 103 else 40)

/-- Bytes a command costs: 64 to a chunk and, in pointer mode, the operand buffer (R117). -/
def byteCost (raw : Bytes) (chunks : Nat) : Nat := 64 * chunks + if cmdPointer raw then cmdPtrLen raw else 0

/-! ### Eligibility (R116, R119, R153) -/

/-- Delivered by result slot: CTL[4] on a queue with RSLOT_EN (R76). -/
def bySlot (x : QueuePair) (raw : Bytes) : Bool := x.own.rslotEn && cmdSlot raw

/-- A queue pair with a head command that may be taken (R75, R103, R116, R92). -/
def eligibleQp (s : State) (p : Nat) (x : QueuePair) : Bool :=
  decide (x.own.part.toNat = p) && x.enabled && decide (0 < x.arrived) && !(getFunc s p).quiesced &&
  match headCmd x with
  | none => false
  | some h => bySlot x h.raw || decide (0 < cqSpare x)

/-- Queue pairs of a partition with an arrived command. -/
def noArrived (s : State) (p : Nat) : Bool :=
  s.queues.all fun e => decide (e.2.own.part.toNat ≠ p) || decide (e.2.arrived = 0)

/-- The partition may be visited: not paused, or paused by PAUSE with PAUSE_REFUSE (R125); Carousel not full (R153);
admission not stopped by a planned handover or by D3hot (R466, R505). -/
def partOpen (s : State) (p : Nat) : Bool :=
  decide (s.items.length < 65536) && !s.trp.stopAdm && !s.power.d3 &&
  (!(getPart s p).paused || ((share s p).pause && (share s p).pauseRefuse))

/-- The next eligible queue pair of a partition in round robin. -/
def nextQp (s : State) (p : Nat) : Option Nat :=
  let l := (List.filter (fun (e : Nat × QueuePair) => eligibleQp s p e.2) s.queues).map Prod.fst
  match (getPart s p).lastQp with
  | none => l.head?
  | some q => match l.find? fun r => decide (q < r) with
    | some r => some r
    | none => l.head?

def eligible (s : State) (p : Nat) : Bool := partOpen s p && (nextQp s p).isSome

/-! ### Flow contexts (R135) -/

/-- Whether no command of a flow is outstanding. -/
def flowIdle (s : State) (key : Nat) : Bool :=
  s.items.all fun i => decide (flowKey i.part i.flow ≠ key) || decide (i.seq = 0)

/-- The context idle longest among those `ok`. -/
def idleLongest (s : State) (ok : Nat → Bool) : Option Nat :=
  ((List.filter (fun (e : Nat × FlowCtx) => e.2.valid && ok e.1 && flowIdle s e.1) s.flows).foldl
    (fun b e => match b with
      | none => some e
      | some b => if e.2.idleSince < b.2.idleSince then some e else some b)
    (none : Option (Nat × FlowCtx))).map Prod.fst

/-- A context reclaimed for a command of queue pair `q`: counted and traced with the fields of its flow (R135, R161,
R481). -/
def reclaim (q key : Nat) (s : State) : State :=
  let p := key / 16384
  let f := key % 16384
  let c := getFlow s p f
  let s := traceRaw 0x13 p (b2n c.ordered * 64 + b2n c.serial * 128) f f 0 c.nextSeq 7 s
  let s := calEvent 0x180 (some p) q f s
  { s with flows := Tab.erase s.flows key, jug := { s.jug with ctxEvict := satInc s.jug.ctxEvict } }

/-- A context for a flow that has none: `none` when none can be had (R135). -/
def allocCtx (q p f : Nat) (ordered serial : Bool) (s : State) : Option State :=
  if (getFlow s p f).valid then some s
  else
    let fresh (s : State) : State :=
      updFlow p f (fun _ => { valid := true, ordered := ordered, serial := serial }) s
    let held := (List.filter (fun (e : Nat × FlowCtx) => decide (e.1 / 16384 = p) && e.2.valid) s.flows).length
    let used := (List.filter (fun (e : Nat × FlowCtx) => e.2.valid) s.flows).length
    if (share s p).flowMax.toNat ≤ held then
      (idleLongest s fun k => decide (k / 16384 = p)).map fun k => fresh (reclaim q k s)
    else if used < 16384 then some (fresh s)
    else (idleLongest s fun _ => true).map fun k => fresh (reclaim q k s)

/-! ### Taking the head command (R102, R118, R136, R544) -/

/-- What the tests of R544 decide. -/
inductive Verdict where
  | unexecuted (status : Byte) (seq : Bool) (row : Nat)
  | wait                       -- row 8
  | accept                     -- row 9
  deriving DecidableEq, Repr

/-- A limited bucket is short of a cost. -/
def cmdShort (c : ShareCfg) (x : Part) : Bool := decide (c.cmdRate ≠ 0) && decide (x.cmdTokens < 1)
def byteShort (c : ShareCfg) (x : Part) (cost : Nat) : Bool := decide (c.byteRate ≠ 0) && decide (x.byteTokens < cost)

/-- A cost above a limited bucket's DEPTH (R118). -/
def overDepth (c : ShareCfg) (cost : Nat) : Bool :=
  (decide (c.cmdRate ≠ 0) && decide (c.cmdDepth.toNat < 1)) ||
  (decide (c.byteRate ≠ 0) && decide (c.byteDepth.toNat * 1024 < cost))

/-- The tests of R544, in order. -/
def verdict (s : State) (p : Nat) (h : HeadCmd) : Verdict :=
  let raw := h.raw
  let c := share s p
  let ctx := getFlow s p (cmdFlow raw)
  let cost := byteCost raw h.chunks
  let short := cmdShort c (getPart s p) || byteShort c (getPart s p) cost
  if h.poisoned then .unexecuted stPOISONED (!h.w0) 1
  else if h.c1.alone ∨ ¬ formatOk raw h.chunks then .unexecuted stOPERAND_FORMAT false 2
  else if ctx.valid ∧ (ctx.ordered ≠ cmdOrdered raw ∨ ctx.serial ≠ cmdSerial raw) then
    .unexecuted stOPERAND_FORMAT false 3
  else if haltBlocks s p (cmdRoutine raw) then .unexecuted stHALTED true 4
  else if ¬ isActive s ∧ p ≠ 0 then .unexecuted stSTALE_ROLE true 5
  else if c.pause ∧ c.pauseRefuse then .unexecuted stQUEUE_PAUSED true 6
  else if overDepth c cost ∨ (short ∧ c.emptyRefuse) then .unexecuted stADMISSION_REFUSED true 7
  else if short then .wait
  else .accept

/-- Both costs deducted from the limited buckets (R117). -/
def takeTokens (p : Nat) (cost : Nat) (s : State) : State :=
  let c := share s p
  updPart p (fun x => { x with
    cmdTokens := if c.cmdRate = 0 then x.cmdTokens else x.cmdTokens - 1
    byteTokens := if c.byteRate = 0 then x.byteTokens else x.byteTokens - cost }) s

/-- An executed command of a serial flow whose result is not with the Carousel (R138). -/
def serialBusy (s : State) (p f : Nat) : Bool :=
  (flowItems s p f).any fun i => i.executed && i.serial && decide (i.place ≠ .done)

/-- The item of a command (R139).  DESIGN CHOICE (log 65): CTL[4] picks the delivery of a command whose word 0 is
poisoned too, as the chunk holds it. -/
def mkItem (s : State) (q p : Nat) (h : HeadCmd) (seq : Nat) (run : Bool) : Item :=
  let raw := h.raw
  let arrival := (h.c1.stamp.getD s.time.time64)
  let budget := if cmdBudget raw = 0 then (share s p).budgetNs.toNat else cmdBudget raw
  let f := cmdFlow raw
  { id := s.jug.nextId, qp := q, part := p, flow := f, prio := cmdPrio raw
    ordered := cmdOrdered raw && !h.w0, serial := cmdSerial raw && !h.w0, hint := cmdHint raw
    routine := cmdRoutine raw, tag := BitVec.ofNat 64 (cmdTag raw), raw := raw, seq := seq
    arrival := arrival
    deadline := BitVec.ofNat 64 (min (2 ^ 64 - 1) (arrival.toNat + budget))
    rslot := if bySlot (getQp s q) raw then some h.c1.n else none
    jaser := (routineMode s p (cmdRoutine raw)).getD false
    place := if runsOnCore p (cmdRoutine raw) then .core else .pool
    serialWait := cmdSerial raw && run && serialBusy s p f
    poisonId := h.w0 || h.c1.poison.getLsbD 1, poisoned := h.poisoned, executed := run }

/-- The chunks of the command leave the head window (R75, R77, R96, R112). -/
def popHead (q : Nat) (h : HeadCmd) (i : Item) (s : State) : State :=
  let s := touchQp q (fun x => dropSync 4 { x with
    headWin := x.headWin.drop h.chunks, arrived := x.arrived - 1, headSync := h.w0
    cqResv := if i.rslot.isSome then x.cqResv else x.cqResv + 1
    wm := { x.wm with admitted := x.wm.admitted + 1 } }) s
  match i.rslot with
  | some n => rslotWrite q n (rslotTaken i n) s
  | none => s

/-- The trace TYPE of an outcome decided at the Ticket Booth (R161). -/
def verdictTrace (row : Nat) : Option Nat :=
  if row = 1 then some 0x04 else if row = 6 then some 0x03 else if row = 7 then some 0x02
  else if row = 9 then some 0x01 else none

/-- The command taken with its outcome (`none`: admitted for execution), given that any context it needs is there. -/
def takeCmd (q p : Nat) (h : HeadCmd) (seqd : Bool) (row : Nat) (status : Option Byte) (s : State) : State :=
  let f := cmdFlow h.raw
  let inFlow := seqd && !h.w0 && (cmdOrdered h.raw || cmdSerial h.raw)
  let seq := if inFlow then (getFlow s p f).nextSeq else 0
  let i := mkItem s q p h seq status.isNone
  let s := if inFlow then updFlow p f (fun c => { c with nextSeq := c.nextSeq + 1 }) s else s
  let s := popHead q h i { s with items := s.items ++ [i], jug := { s.jug with nextId := s.jug.nextId + 1 } }
  let s := updPart p (fun x => { x with
    deficit := x.deficit - h.chunks, lastQp := some q
    admitted := x.admitted + 1
    refused := if row = 6 ∨ row = 7 then satInc x.refused else x.refused }) s
  let s := calCount 0 p s
  let s := match verdictTrace row with
    | some ty => traceItem ty q 7 i s
    | none => s
  let s := if row = 3 then calEvent 0x183 (some p) q f { s with jug := { s.jug with err := setBit s.jug.err 1 } } else s
  match status with
  | some st => finish i.id st [] false s
  | none => s

/-- One head command tested and, unless it waits, taken.  Answers whether the partition is blocked for the turn. -/
def decideHead (q p : Nat) (h : HeadCmd) (s : State) : State × Bool :=
  let f := cmdFlow h.raw
  let o := cmdOrdered h.raw
  let sr := cmdSerial h.raw
  let withCtx (seqd : Bool) (k : State → State) : State × Bool :=
    if seqd ∧ ¬ h.w0 ∧ (o ∨ sr) then
      match allocCtx q p f o sr s with
      | some s' => (k s', false)
      | none => ({ s with jug := { s.jug with ctxWait := satInc s.jug.ctxWait } }, true)
    else (k s, false)
  if (share s p).outMax.toNat ≤ (s.items.filter fun i => decide (i.part = p)).length then (s, true)
  else
    match verdict s p h with
    | .wait => (s, true)
    | .unexecuted st seqd row => withCtx seqd (takeCmd q p h seqd row (some st))
    | .accept => withCtx true fun s =>
        takeCmd q p h true 9 none (takeTokens p (byteCost h.raw h.chunks) s)

/-- The Ticket Booth's read of the head chunks: words that fail parity become poisoned (R100). -/
def readHead (q : Nat) (par : Bytes) (s : State) : State × Bytes :=
  let x := getQp s q
  match x.headWin with
  | [] => (s, par)
  | c :: r =>
    let c' := readChunk (byteAt 0 par) c
    let s := recordParity q (newFails (byteAt 0 par) c) (setQp q { x with headWin := c' :: r } s)
    if c'.poison.getLsbD 0 ∨ chunkKind c'.bytes ≠ 2 ∨ c'.alone then (s, par.drop 1)
    else
      match r with
      | [] => (s, par.drop 1)
      | d :: r' =>
        let m := byteAt 1 par
        (recordParity q (newFails m d) (setQp q { x with headWin := c' :: readChunk m d :: r' } s), par.drop 2)

/-- The loop of a turn: head commands are taken while the deficit allows (R119), and the parts of the queue settle after
each (R96, R97, R100). -/
def turnLoop : Nat → Nat → Bytes → State → State
  | 0, _, _, s => s
  | fuel + 1, p, par, s =>
    if ¬ partOpen s p then s
    else
      match nextQp s p with
      | none => s
      | some q =>
        let (s, par) := readHead q par s
        match headCmd (getQp s q) with
        | none => s
        | some h =>
          if (getPart s p).deficit < h.chunks then s
          else
            let (s, blocked) := decideHead q p h s
            if blocked then s
            else
              let (s, par) := settlePar q par s
              turnLoop fuel p par s

/-- TICKET_TURN: one turn of the algorithm of R119. -/
def execTicketTurn (parity : Bytes) (s : State) : Res :=
  let p := (s.booth.lastP + 1) % 256
  let s := { s with booth := { s.booth with lastP := p } }
  if eligible s p then
    let w := (share s p).weight.toNat
    let s := updPart p (fun x => { x with deficit := min (x.deficit + w) (2 * w + 1) }) s
    .next (turnLoop (2 * w + 1) p parity s)
  else if noArrived s p then .next (updPart p (fun x => { x with deficit := 0 }) s)
  else .next s

/-! ### Buckets (R117, R128) -/

/-- One microsecond's credit of a partition's limited buckets, remainder carried, up to DEPTH.  DESIGN CHOICE (log 64): the
remainder is carried while the bucket stands at DEPTH too. -/
def creditPart (c : ShareCfg) (x : Part) : Part :=
  let acc := x.cmdFrac + c.cmdRate.toNat * 100
  { x with
    cmdTokens := if c.cmdRate = 0 then x.cmdTokens else min c.cmdDepth.toNat (x.cmdTokens + acc / 1000000)
    cmdFrac := if c.cmdRate = 0 then x.cmdFrac else acc % 1000000
    byteTokens := if c.byteRate = 0 then x.byteTokens
      else min (c.byteDepth.toNat * 1024) (x.byteTokens + c.byteRate.toNat) }

/-- BUCKET_CREDIT: every limited bucket is credited (R117). -/
def execBucketCredit (s : State) : Res :=
  .next (s.booth.active.part.foldl (fun s e => updPart e.1 (creditPart e.2) s) s)

/-! ### Share changes (R122, R127, R128, R130, R162 to R164, R167) -/

/-- A staged write that waits for the standby's acknowledgement: MIRROR_HELD (R461). -/
def holdShare (off : Nat) (value : Word64) (s : State) : State :=
  let c : Change := { writes := [.share off value] }
  let w : ShareWrite := { at_ := s.time.time64, off := off, value := value, held := some (if s.trp.linkUp then s.trp.mirrorSeq + 1 else 0) }
  trpEvent 2 (submitChange c { s with booth := { s.booth with writes := s.booth.writes ++ [w] } })

/-- SHARE_CHANGE_WRITE changes the staged copy only (R122); with a standby, a mirrored register's change is sent to it
and held until its acknowledgement (R461). -/
def execShareChangeWrite (off : Nat) (value : Word64) (s : State) : Res :=
  whenOpen s <| match applyShare (nTroupes s.part.variant) off value s.booth.staged with
  | none => .next s
  | some h =>
    let s := { s with booth := { s.booth with staged := h } }
    if mirrors s ∧ shareMirrored off then .next (holdShare off value s)
    else .next { s with booth := { s.booth with writes := s.booth.writes ++ [{ at_ := s.time.time64, off := off, value := value }] } }

/-- The staged writes in the order they were accepted: those an epoch beginning at `t` applies (accepted 200 ns before,
HOLD having been written 0 as long before, acknowledged where mirrored, no older write of the register still held) and
those that stay (R122, R461). -/
def splitWrites (b : Booth) (t : Nat) : List ShareWrite → List ShareWrite × List ShareWrite
  | [] => ([], [])
  | w :: r =>
    let x := splitWrites b t r
    let early := !b.hold && decide (b.holdCleared.toNat + 200 ≤ t) && decide (w.at_.toNat + 200 ≤ t)
    let free := w.held.isNone && !(b.writes.any fun v => v.held.isSome && decide (v.off = w.off) && decide (v.at_.toNat ≤ w.at_.toNat))
    if early && free then (w :: x.1, x.2) else (x.1, w :: x.2)

/-- A bucket after its registers changed: full when RATE leaves 0, clipped to a new DEPTH (R128). -/
def rebucket (o n : ShareCfg) (x : Part) : Part :=
  { x with
    cmdTokens := if o.cmdRate = 0 ∧ n.cmdRate ≠ 0 then n.cmdDepth.toNat else min x.cmdTokens n.cmdDepth.toNat
    cmdFrac := if o.cmdRate = 0 then 0 else x.cmdFrac
    byteTokens := if o.byteRate = 0 ∧ n.byteRate ≠ 0 then n.byteDepth.toNat * 1024
      else min x.byteTokens (n.byteDepth.toNat * 1024) }

/-- The partition has a troupe on a die in the active map. -/
def hasTroupeOn (s : State) (p d : Nat) : Bool := (troupesOfDie d).any fun t => mapped s t p

/-- The partition has a troupe anywhere. -/
def hasTroupe (s : State) (p : Nat) : Bool := (List.range (nTroupes s.part.variant)).any fun t => mapped s t p

/-- Room on a die's ready lists, which hold at most 4,096 items (R141). -/
def readyRoom (s : State) (d : Nat) : Bool := decide ((readyItems s d).length < 4096)

/-- A ready item on a die where its partition keeps no troupe, while it has one elsewhere, returns to the pool (R123,
R125). -/
def remapReady (s : State) (d : Nat) (i : Item) : Item :=
  if ¬ hasTroupeOn s i.part d ∧ hasTroupe s i.part then { i with place := .pool, front := false } else { i with place := .ready d }

/-- An unstarted item when the map changes: a wing item of a troupe its partition lost returns to the head of its ready
list, or to the pool where the list is full (DESIGN CHOICE, log 67); an item in transit to a die where the partition keeps
no troupe is handed back when it arrives (R123). -/
def remapItem (s : State) (i : Item) : Item := match i.place with
  | .wing k =>
    if mapped s (troupeOfSeat k) i.part then i
    else if readyRoom s (dieOfSeat k) then remapReady s (dieOfSeat k) { i with front := true }
    else { i with place := .pool }
  | .ready d => remapReady s d i
  | .dispatch d => { i with recalled := i.recalled || !hasTroupeOn s i.part d }
  | .move d => { i with recalled := i.recalled || !hasTroupeOn s i.part d }
  | _ => i

/-- Every item, in admission order. -/
def remapItems (s : State) : State := (s.items.map Item.id).foldl (fun s id => updItem id (remapItem s) s) s

/-- The staged changes of an epoch applied together (R122, R123, R125). -/
def applyShares (due rest : List ShareWrite) (s : State) : State :=
  let old := s.booth.active
  let act := due.foldl (fun h w => (applyShare (nTroupes s.part.variant) w.off w.value h).getD h) old
  let s := { s with booth := { s.booth with
    active := act, writes := rest, appliedEpoch := BitVec.ofNat 32 (now s / 10000) } }
  let s := (List.range 256).foldl (fun s p =>
    let o := Tab.get dShare old.part p
    let n := Tab.get dShare act.part p
    if o = n then s else updPart p (rebucket o n) s) s
  refreshPauses (remapItems s)

/-- EPOCH_APPLY at a TIME64 multiple of 10,000 (R122, R123, R125, R147, R162): share changes and due installs take
effect, and the package state is reselected (R234, R504). -/
def execEpochApply (s : State) : Res :=
  if now s % 10000 ≠ 0 then .next s
  else
    let x := splitWrites s.booth (now s) s.booth.writes
    let t := applyRoutines s
    if x.1 = [] then .next (reselect t) else .next (noteReady s (reselect (applyShares x.1 x.2 t)))

end Sys2Proof.Machine
end

