-- ==== Sys2Proof/Machine/Scheduling.lean ====
section
/-!
DEFINITION. Juggler, local jugglers, Carousel and decision trace (spec file 04).
-/
namespace Sys2Proof.Machine

/-! ### Allocation (R142, R143) -/

/-- JUG_ERR with one sticky bit set (R163). -/
def jugErr (b : Nat) (s : State) : State := { s with jug := { s.jug with err := setBit s.jug.err b } }

/-- A troupe serves at least one partition (R121, R143). -/
def troupeServes (s : State) (t : Nat) : Bool :=
  decide (Tab.get dMap s.booth.active.map t ≠ 0) && dieServes s (dieOfTroupe t)

/-- avail_seats: seats of serving troupes; a Jaser troupe counts one seat to a performer (R143). -/
def availSeats (s : State) (d : Nat) : Nat :=
  ((troupesOfDie d).map fun t =>
    if troupeServes s t then (if (getTroupe s t).jaser then 8 else 32) else 0).sum

/-- load[d] in 1/16 item per seat; none where no seat is available (R143). -/
def dieLoad (s : State) (d : Nat) : Option Nat :=
  if availSeats s d = 0 then none else some ((readyItems s d).length * 16 / availSeats s d)

/-- The partition has a troupe of the routine's mode on the die (R142). -/
def hasMode (s : State) (p d : Nat) (jaser : Bool) : Bool :=
  (troupesOfDie d).any fun t => mapped s t p && decide ((getTroupe s t).jaser = jaser)

/-- Candidate dies of an item, ascending (R142). -/
def candidates (s : State) (i : Item) : List Nat :=
  (List.range (nDies s.part.variant)).filter fun d => dieServes s d && hasMode s i.part d i.jaser

/-- Items on their way to a die's ready lists. -/
def comingItems (s : State) (d : Nat) : Nat := (s.items.filter fun i => match i.place with
  | .dispatch e => decide (e = d)
  | .handback _ e => decide (e = d)
  | .move e => decide (e = d)
  | _ => false).length

/-- Room on a die's ready lists for one item more than those on the way there (R141). -/
def roomFor (s : State) (d : Nat) : Bool := decide ((readyItems s d).length + comingItems s d < 4096)

/-- Candidates with ready-list room, a load and a trained link (R141, R143, R503). -/
def roomy (s : State) (i : Item) : List Nat :=
  (candidates s i).filter fun d => roomFor s d && (dieLoad s d).isSome && dieTrained s d

def loadOf (s : State) (d : Nat) : Nat := (dieLoad s d).getD 0

/-- First die of `cand` with load `m`, searching upwards from `last + 1` and wrapping (R143). -/
def searchUp (s : State) (cand : List Nat) (m last : Nat) : Option Nat :=
  match cand.find? fun d => decide (last < d) && decide (loadOf s d = m) with
  | some d => some d
  | none => cand.find? fun d => decide (loadOf s d = m)

/-- The home die of an item with affinity (R143). -/
def homeOf (s : State) (i : Item) (cand : List Nat) : Option Nat :=
  let c := getFlow s i.part i.flow
  match c.valid, c.home with
  | true, some d => some d
  | _, _ => cand[(i.flow ^^^ (i.part * 64)) % cand.length]?

/-- The die the Juggler chooses (R143). -/
def chooseDie (s : State) (i : Item) (cand : List Nat) : Option Nat :=
  let m := (cand.map (loadOf s)).foldl min (loadOf s (cand.headD 0))
  let home := if i.hint then homeOf s i cand else none
  match home with
  | some h =>
    if cand.contains h ∧ loadOf s h ≤ m + s.jug.affinitySlack.toNat then some h
    else searchUp s cand m s.jug.lastD
  | none => searchUp s cand m s.jug.lastD

/-- DISPATCH(i) sent to a die; a die in retention is woken, gated troupes are ungated (R142, R143, R502). -/
def dispatch (i : Item) (d : Nat) (s : State) : State :=
  let s := updFlow i.part i.flow (fun c => if c.valid then { c with home := some d } else c) s
  let s := updDie d (fun x => { x with dispatchQ := x.dispatchQ ++ [i.id] })
    (updItem i.id (fun i => { i with place := .dispatch d }) { s with jug := { s.jug with lastD := d } })
  allocPower i.part d (traceItem 0x10 d 7 i s)

/-- A pool item with its routine's mode as it stands: a routine may be loaded or replaced while the item waits (R142,
R235). -/
def withMode (s : State) (i : Item) : Item := { i with jaser := (routineMode s i.part i.routine).getD i.jaser }

/-- What the Juggler does with one pool item. -/
inductive Alloc where
  | keep                        -- passed over (R141)
  | notLoaded (noMode : Bool)   -- no such routine, or no troupe of its mode (R13, R14, R142)
  | to (die : Nat)
  deriving DecidableEq, Repr

def allocVerdict (s : State) (i : Item) : Alloc :=
  if i.serialWait then .keep
  else if (routineMode s i.part i.routine).isNone then .notLoaded false
  else if (candidates s i).isEmpty then (if (getPart s i.part).paused then .keep else .notLoaded true)
  else
    match chooseDie s i (roomy s i) with
    | some d => .to d
    | none => .keep

/-- The first pool item the Juggler can act on, in admission order. -/
def firstAlloc (s : State) : List Item → Option (Item × Alloc)
  | [] => none
  | i :: r => match allocVerdict s i with
    | .keep => firstAlloc s r
    | a => some (i, a)

/-- JUGGLER_ALLOCATE (R141 to R143). -/
def execJugglerAllocate (s : State) : Res :=
  .next <| match firstAlloc s ((poolItems s).map (withMode s)) with
  | none => s
  | some (i, .to d) => dispatch i d (updItem i.id (withMode s) s)
  | some (i, .notLoaded m) =>
    let s := if m then calEvent 0x184 (some i.part) i.qp i.flow (jugErr 2 s) else s
    finish i.id stROUTINE_NOT_LOADED [] false s
  | some (_, .keep) => s

/-! ### Lists, displacement and pre-emption (R145 to R151) -/

/-- The order of the priority list, then of the deadline list (R145), behind the items that R123 returned to their head. -/
def before (edf : Bool) (a b : Item) : Bool :=
  let key (i : Item) : Nat × Nat :=
    if edf then (if i.prio = 0 then 0 else 1, i.deadline.toNat) else (i.prio, 0)
  let x := key a
  let y := key b
  if a.front ≠ b.front then a.front
  else decide (x.1 < y.1) || (decide (x.1 = y.1) && (decide (x.2 < y.2) || (decide (x.2 = y.2) && decide (a.id < b.id))))

/-- The head of a list of items in an order. -/
def firstBy (lt : Item → Item → Bool) : List Item → Option Item
  | [] => none
  | i :: r => match firstBy lt r with
    | none => some i
    | some j => if lt j i then some j else some i

/-- A native seat with an empty wing slot (R145). -/
def wingFree (s : State) (k : Nat) : Bool := (wingItem s k).isNone

/-- An item placed in a wing slot; a seat with no routine starts it at once (R148). -/
def fillWing (i : Item) (k : Nat) (s : State) : State :=
  let s := updDie (dieOfSeat k) (fun x => { x with selected := x.selected + 1 }) s
  let s := updItem i.id (fun i => { i with place := .wing k, front := false, seatNo := k }) s
  let s := prefetch k i.part i.routine (traceItem 0x20 k (dieOfSeat k) i s)
  if seatFree s k then startSeat k s else s

/-- An item removed unexecuted because its deadline has passed (R140). -/
def expire (i : Item) (unit : Nat) (s : State) : State :=
  let s := calEvent 0x182 (some i.part) i.qp i.flow (traceItem 0x12 unit 7 i (jugErr 3 s))
  finish i.id stTIMED_OUT [] false s

/-- Past its deadline, in a partition with EXPIRE_EN (R140). -/
def overdue (s : State) (i : Item) : Bool := (share s i.part).expireEn && decide (i.deadline.toNat < now s)

/-- The PRIO 0 item displaces the wing item of its partition with the highest PRIO, then the latest admission (R149). -/
def displace (i : Item) (d : Nat) (s : State) : State :=
  let natives := (troupesOfDie d).filter fun t => mapped s t i.part && !(getTroupe s t).jaser
  if i.prio ≠ 0 ∨ natives = [] ∨ natives.any (fun t => (seatsOfTroupe t).any (wingFree s)) then s
  else
    let victims := s.items.filter fun j => decide (j.part = i.part) && decide (j.prio ≠ 0) &&
      match j.place with
      | .wing k => natives.contains (troupeOfSeat k)
      | _ => false
    match firstBy (fun a b => decide (b.prio < a.prio) || (decide (a.prio = b.prio) && decide (b.id < a.id))) victims with
    | none => s
    | some v =>
      if overdue s i then expire i d s
      else match v.place with
      | .wing k =>
        let s := updItem v.id (fun v => { v with place := .ready d }) s
        let s := traceItem 0x22 k d v { s with jug := { s.jug with displaceCnt := s.jug.displaceCnt + 1 } }
        fillWing i k s
      | _ => s

/-- Seat 0 of the performers of a troupe. -/
def seatZeros (t : Nat) : List Nat := (List.range 8).map fun n => 32 * t + 4 * n

/-- A Jaser performer that can take a delivery: seats 0 and 1 idle (R150, R151). -/
def jaserFree (s : State) (k0 : Nat) : Bool := seatFree s k0 && seatFree s (k0 + 1)

/-- The performer whose seat 0 a PRIO 0 item suspends (R151). -/
def preemptSeat (s : State) (i : Item) (t : Nat) : Option Nat :=
  let edf := s.booth.active.discipline
  let runs := (seatZeros t).filterMap fun k => match seatItem s k with
    | some j => if j.part = i.part ∧ j.prio ≠ 0 ∧ seatFree s (k + 1) ∧ (getSeat s k).preemptBy = none then some j else none
    | none => none
  let worse (a b : Item) : Bool :=
    if edf then decide (b.deadline.toNat < a.deadline.toNat) ||
      (decide (a.deadline = b.deadline) && decide (b.id < a.id))
    else decide (b.prio < a.prio) || (decide (a.prio = b.prio) && decide (b.id < a.id))
  (firstBy worse runs).map Item.seatNo

/-- Pre-emption chosen for a ready PRIO 0 item of a Jaser routine (R151). -/
def choosePreempt (i : Item) (d : Nat) (s : State) : State :=
  let ts := (troupesOfDie d).filter fun t => mapped s t i.part && (getTroupe s t).jaser
  if i.prio ≠ 0 ∨ ts.any (fun t => (seatZeros t).any (seatFree s)) then s
  else
    match (ts.filter fun t => (getTroupe s t).preemptEn).filterMap (preemptSeat s i) with
    | [] => s
    | k :: _ => updSeat k (fun x => { x with preemptBy := some i.id }) s

/-- An item becomes ready on a die: its lists, then displacement or pre-emption for PRIO 0 (R149, R151). -/
def becomeReady (id d : Nat) (s : State) : State :=
  match getItem s id with
  | none => s
  | some i =>
    let s := updItem id (fun i => { i with place := .ready d }) s
    if i.jaser then choosePreempt i d s else displace i d s

/-- An item at the end of its way to a die joins its partition's ready lists, or is handed back where its troupes were
taken away on the way (R123, R141). -/
def arriveAt (i : Item) (die : Nat) (s : State) : State :=
  if i.recalled ∨ ¬ hasTroupeOn s i.part die then updItem i.id (fun i => { i with place := .pool, recalled := false }) s
  else becomeReady i.id die s

/-- DISPATCH_ARRIVE: the oldest message of the DISPATCH class arrives, once the ready lists have room, where it is an item
the Juggler allocated (R18, R141). -/
def execDispatchArrive (die : Nat) (s : State) : Res :=
  if dieState s die ≠ .active ∨ ¬ readyRoom s die then .next s
  else
    match (getDie s die).dispatchQ with
    | [] => .next s
    | id :: r =>
      match getItem s id with
      | none => .next (updDie die (fun x => { x with dispatchQ := r }) s)
      | some i =>
        if i.place = .move die then .next s
        else
          let s := updDie die (fun x => { x with dispatchQ := r }) s
          if i.place = .dispatch die then .next (arriveAt i die s) else .next s

/-- JASER_SUSPEND: seat 0 is suspended at its instruction boundary, not while an instruction waits for its end (R209), and the PRIO 0 item is delivered to seat 1 (R151). -/
def execJaserSuspend (seat : Nat) (s : State) : Res :=
  match (getSeat s seat).preemptBy with
  | none => .next s
  | some id => if (getSeat s seat).x.ops.any (fun o => o.try_ || o.sync) then .next s else
    let s := updSeat seat (fun x => { x with preemptBy := none }) s
    match getItem s id, seatItem s seat with
    | some i, some r =>
      if i.place ≠ .ready (dieOfSeat seat) then .next s
      else if overdue s i then .next (expire i (dieOfSeat seat) s)
      else
        let s := updSeat seat (fun x => { x with suspended := true }) <| updPerf (performerOfSeat seat) (fun p => { p with cur := none, last := none })
          { s with jug := { s.jug with preemptCnt := s.jug.preemptCnt + 1 } }
        let s := traceItem 0x23 seat (dieOfSeat seat) r s
        .next (fillWing i (seat + 1) s)
    | _, _ => .next s

/-- Ready items of a partition runnable on a troupe. -/
def runnable (s : State) (t p : Nat) : List Item :=
  (readyItems s (dieOfTroupe t)).filter fun i => decide (i.part = p) && decide (i.jaser = (getTroupe s t).jaser)

/-- The next partition in a troupe's rotation with a runnable item (R120). -/
def nextGrant (s : State) (t : Nat) : Option Nat :=
  let ok (p : Nat) : Bool := mapped s t p && !(runnable s t p).isEmpty
  let last := (getTroupe s t).lastPart
  match (List.range 256).find? fun p => decide (last < p) && ok p with
  | some p => some p
  | none => (List.range 256).find? ok

/-- Occupied seats of a performer. -/
def occupied (s : State) (n : Nat) : Nat := ((List.range 4).filter fun j => !seatFree s (4 * n + j)).length

/-- The free seat to fill: the performer with the fewest occupied seats, then the lowest seat (R148). -/
def pickSeat (s : State) (t : Nat) : Option Nat :=
  if (getTroupe s t).jaser then (seatZeros t).find? (jaserFree s)
  else
    ((seatsOfTroupe t).filter (wingFree s)).foldl (fun b k => match b with
      | none => some k
      | some j => if occupied s (performerOfSeat k) < occupied s (performerOfSeat j) then some k else some j) none

/-- Selection for a free seat: expired items are removed and selection goes on (R147). -/
def selectLoop : Nat → Nat → State → State
  | 0, _, s => s
  | fuel + 1, t, s =>
    match pickSeat s t, nextGrant s t with
    | some k, some p =>
      match firstBy (before s.booth.active.discipline) (runnable s t p) with
      | none => s
      | some i =>
        if overdue s i then selectLoop fuel t (expire i (dieOfTroupe t) s)
        else
          let s := updTroupe t (fun x => { x with lastPart := p }) s
          fillWing i k s
    | _, _ => s

/-- LOCAL_SELECT: a troupe's free seat or performer is granted to the next partition of its rotation (R120, R147,
R148, R150). -/
def execLocalSelect (troupe : Nat) (s : State) : Res :=
  if troupeRuns s troupe then .next (selectLoop (s.items.length + 1) troupe s) else .next s

/-! ### Rebalancing and expiry (R140, R144) -/

/-- The active dies with a load, ascending, with that load. -/
def loadedDies (s : State) : List (Nat × Nat) :=
  (List.range (nDies s.part.variant)).filterMap fun d =>
    if dieState s d = .active then (dieLoad s d).map fun l => (d, l) else none

/-- Highest load, ties to the lower number; then lowest. -/
def maxLoad (l : List (Nat × Nat)) : Option (Nat × Nat) :=
  l.foldl (fun b e => match b with
    | none => some e
    | some b => if b.2 < e.2 then some e else some b) none

def minLoad (l : List (Nat × Nat)) : Option (Nat × Nat) :=
  l.foldl (fun b e => match b with
    | none => some e
    | some b => if e.2 < b.2 then some e else some b) none

/-- The item rebalancing chooses first: highest PRIO or latest deadline, then latest admission (R144). -/
def moveFirst (edf : Bool) (a b : Item) : Bool :=
  if edf then decide (b.deadline.toNat < a.deadline.toNat) ||
    (decide (a.deadline = b.deadline) && decide (b.id < a.id))
  else decide (b.prio < a.prio) || (decide (a.prio = b.prio) && decide (b.id < a.id))

/-- Up to `fuel` items returned by one die for another that has room for them. -/
def moveItems : Nat → Nat → Nat → State → State
  | 0, _, _, s => s
  | fuel + 1, src, dst, s =>
    match firstBy (moveFirst s.booth.active.discipline)
        ((readyItems s src).filter fun i => (candidates s i).contains dst && roomFor s dst) with
    | none => s
    | some i =>
      let s := updItem i.id (fun i => { i with place := .handback src dst, front := false }) s
      let s := updDie src (fun x => { x with movedOut := satInc x.movedOut, resultQ := x.resultQ ++ [i.id] })
        { s with jug := { s.jug with rebalMoved := s.jug.rebalMoved + 1 } }
      moveItems fuel src dst (traceItem 0x11 dst src i s)

/-- REBALANCE_EXAMINE at a TIME64 multiple of 1,000 (R144). -/
def execRebalanceExamine (s : State) : Res :=
  if now s % 1000 ≠ 0 ∨ ¬ s.jug.rebalEn then .next s
  else
    match maxLoad (loadedDies s), minLoad (loadedDies s) with
    | some a, some b =>
      if s.jug.rebalThresh.toNat < a.2 - b.2 then .next (moveItems s.jug.rebalBatch.toNat a.1 b.1 s) else .next s
    | _, _ => .next s

/-- ITEM_MOVE_ARRIVE: the oldest message of the DISPATCH class arrives at the destination's ready lists, where it is an
item that rebalancing moved (R18, R144). -/
def execItemMoveArrive (die : Nat) (s : State) : Res :=
  if dieState s die ≠ .active ∨ ¬ readyRoom s die then .next s
  else
    match (getDie s die).dispatchQ with
    | [] => .next s
    | id :: r =>
      match getItem s id with
      | none => .next s
      | some i =>
        if i.place = .move die then
          .next (arriveAt i die (updDie die (fun x => { x with dispatchQ := r, movedIn := satInc x.movedIn }) s))
        else .next s

/-- A returned item at the Juggler: re-dispatched to its destination, or back in the pool where that die no longer serves
its partition (R123, R144). -/
def redispatch (i : Item) (dst : Nat) (s : State) : State :=
  if hasTroupeOn s i.part dst then
    updDie dst (fun x => { x with dispatchQ := x.dispatchQ ++ [i.id] }) (updItem i.id (fun i => { i with place := .move dst }) s)
  else updItem i.id (fun i => { i with place := .pool }) s

/-- An unstarted item the sweep covers: in the pool or on a ready list (R140). -/
def sweepable : Place → Bool
  | .pool => true
  | .ready _ => true
  | _ => false

/-- EXPIRY_SWEEP (R140). -/
def execExpirySweep (s : State) : Res :=
  let late := s.items.filter fun i => sweepable i.place && overdue s i
  .next (late.foldl (fun s i => expire i (match i.place with | .ready d => d | _ => 7) s) s)

/-! ### JUG_TROUPE_CFG (R152) -/

/-- JUG_TROUPE_STATUS.IDLE: no routine running, no wing item, no Jaser delivery (R166). -/
def troupeIdle (s : State) (t : Nat) : Bool := (seatsOfTroupe t).all fun k => seatFree s k && wingFree s k

/-- JUG_TROUPE_CFG_WRITE (R152). -/
def execJugTroupeCfgWrite (troupe : Nat) (value : Word32) (s : State) : Res :=
  if nTroupes s.part.variant ≤ troupe ∨ pfOpen s = false then .next s
  else
    let j := bitOf value 0
    let s1 := updTroupe troupe (fun x => { x with preemptEn := bitOf value 1 }) s
    if j = (getTroupe s troupe).jaser then .next s1
    else if Tab.get dMap s.booth.active.map troupe = 0 ∧ troupeIdle s troupe then
      .next (updTroupe troupe (fun x => { x with jaser := j }) s1)
    else .next (jugErr 0 s1)

/-! ### Carousel (R138, R154 to R156) -/

/-- An item at the end of the RESULT class from a die: its RESULT is accepted, or an item that rebalancing returned is
re-dispatched (R144, R155). -/
def acceptResult (i : Item) (s : State) : State := match i.place with
  | .returning _ =>
    let s := updItem i.id (fun i => { i with accepted := true }) (acceptSample i (traceItem 0x30 i.seatNo 7 i s))
    outcomeArrives i.id (i.outcome.getD { status := stROUTINE_FAULT }) s
  | .handback _ dst => redispatch i dst s
  | _ => s

/-- RESULT_ACCEPT: the oldest message in transit from a die in the RESULT class is accepted (R18, R155). -/
def execResultAccept (die : Nat) (s : State) : Res :=
  match (getDie s die).resultQ with
  | [] => .next s
  | id :: r =>
    let s := updDie die (fun x => { x with resultQ := r }) s
    match getItem s id with
    | none => .next s
    | some i => .next (acceptResult i s)

/-- CAROUSEL_RELEASE: the oldest release decision is written, but in D3hot, where completions are held (R154, R505). -/
def execCarouselRelease (s : State) : Res :=
  if s.power.d3 then .next s
  else match s.releaseQ with
    | [] => .next s
    | id :: r => .next (writeRelease id { s with releaseQ := r })

/-- HOLD_EXPIRE: the flow's hold has lasted HOLD_NS (R155). -/
def execHoldExpire (part flow : Nat) (s : State) : Res :=
  match (getFlow s part flow).holdStart with
  | none => .next s
  | some t =>
    if t.toNat + (share s part).holdNs.toNat ≤ now s then .next (settleFlow part flow s) else .next s

/-- DEFERRAL_UNBLOCKED: a deferral that was due happens once it is allowed (R156). -/
def execDeferralUnblocked (part flow : Nat) (s : State) : Res :=
  match flowHead s part flow with
  | none => .next s
  | some h =>
    if (getFlow s part flow).blockedAt = some h.seq ∧ deferralAllowed s h then .next (settleFlow part flow s)
    else .next s

/-- SERIAL_RELEASE: the flow's next command may be allocated, or begun by the control cores, once no earlier one is allocated with its result not yet
accepted (R138). -/
def execSerialRelease (part flow : Nat) (s : State) : Res :=
  let l := (flowItems s part flow).filter fun i => i.executed && i.serial && decide (i.place ≠ .done)
  if l.any fun i => !i.serialWait then .next s
  else
    match firstBy (fun a b => decide (a.seq < b.seq)) l with
    | none => .next s
    | some i => .next (updItem i.id (fun i => { i with serialWait := false }) s)

/-! ### Decision trace (R159, R169) -/

/-- TRACE_LOST_WRITE: the LOST entry, once the FIFO has space (R159). -/
def execTraceLostWrite (die : Nat) (s : State) : Res :=
  let d := getDie s die
  if d.trcLost ≠ 0 ∧ d.trcFifo.length < 256 then
    let e := traceEntry (now s) 0xFE 0 (die * 8) 0 0 d.trcLost
    .next (updDie die (fun d => { d with trcFifo := d.trcFifo ++ [e], trcLost := 0 }) s)
  else .next s

/-- TRC_ENABLE: TRC_CTL written; a MARKER at enable (R159). -/
def execTrcEnable (value : Word32) (s : State) : Res :=
  let t := { s.trace with enable := bitOf value 0, wrap := bitOf value 1 }
  if pfOpen s = false then .next s
  else if bitOf value 0 ∧ ¬ s.trace.enable then
    let u := traceWrite (markerEntry (now s)) { s with trace := t }
    .next { u with trace := { u.trace with marker := now s / 2 ^ 40 } }
  else .next { s with trace := t }

/-- TRC_CLEAR acts only while ENABLE is 0 (R169). -/
def execTrcClear (s : State) : Res :=
  if s.trace.enable ∨ pfOpen s = false then .next s
  else .next { s with trace := { s.trace with
    mem := [], count := 0, full := false, wrapped := false, wrIndex := 0, lostCnt := 0 } }

/-- The trace entry at INDEX. What the registers show of one whose memory line has failed its tag, its keys discarded, is a
free value (R22; assumption log 76). -/
def traceShown (s : State) : Nat :=
  if keysGone s then (Config.freeWord s.freeCtr).toNat + (Config.freeWord (s.freeCtr + 1)).toNat * 2 ^ 64
  else (Tab.get (fun _ => (0 : BitVec 128)) s.trace.mem s.trace.rdIndex.toNat).toNat

/-- TRC_RD_HI_READ: bytes 8 to 15 of entry INDEX, and INDEX advances (R169). -/
def execTrcRdHiRead (s : State) : Res :=
  if pfOpen s = false then .next { s with readData := 0 }
  else .next { s with
                 readData := BitVec.ofNat 64 (traceShown s / 2 ^ 64)
                 freeCtr := if keysGone s then s.freeCtr + 2 else s.freeCtr
                 trace := { s.trace with rdIndex := s.trace.rdIndex + 1 } }

/-- CAR_PART_STATUS as read (R167). -/
def carPartStatus (s : State) (p : Nat) : Word64 :=
  let l := s.items.filter fun i => decide (i.part = p)
  BitVec.ofNat 64 (l.length + (l.filter fun i => i.deferred && !i.released).length * 2 ^ 17
    + (getPart s p).holdPeak.toNat * 2 ^ 32)

/-- HOLD_PEAK_READ: only HOLD_PEAK_NS clears (R167). -/
def execHoldPeakRead (part : Nat) (s : State) : Res :=
  if 256 ≤ part ∨ pfOpen s = false then .next { s with readData := 0 }
  else .next { updPart part (fun x => { x with holdPeak := 0 }) s with readData := carPartStatus s part }

end Sys2Proof.Machine
end

