-- ==== Sys2Proof/Machine/Role.lean ====
section
/-!
DEFINITION. What halts, roles and grants share: ending unstarted and running commands, the debug grant's end, the
interlock line and changes of role (R403, R431, R454, R459, R470, R472).
-/
namespace Sys2Proof.Machine

/-! ### Ending commands (R431, R459) -/

/-- A command admitted and not yet started: in the pool, on the way to a die, on a ready list or in a wing slot. -/
def unstarted (i : Item) : Bool := match i.place with
  | .pool => true
  | .dispatch _ => true
  | .ready _ => true
  | .handback _ _ => true
  | .move _ => true
  | .wing _ => true
  | .seat _ => false
  | .core => false
  | .returning _ => false
  | .done => false

/-- Every unstarted command completes with a status in its flow's order. -/
def endUnstarted (st : Byte) (s : State) : State :=
  let ids := (s.items.filter unstarted).map Item.id
  let s := { s with dies := Tab.mapVals dDie (fun _ d => { d with dispatchQ := [] }) s.dies }
  ids.foldl (fun s id => finish id st [] false s) s

/-- The routine of a seat stopped: its command completes with a status, and the seat is at its start state. -/
def stopSeat (st : Byte) (k : Nat) (s : State) : State :=
  match (getSeat s k).run with
  | none => s
  | some id => finish id st [] false (updSeat k clearedSeat (releaseKeys k (countBusy k s)))

/-- Every routine running or suspended in a seat stopped, with the SCU jobs. -/
def stopSeats (st : Byte) (s : State) : State :=
  let ks := (List.filter (fun (e : Nat × Seat) => e.2.run.isSome) s.seats).map Prod.fst
  let s := ks.foldl (fun s k => stopSeat st k s) s
  { s with units := { s.units with scu := Tab.mapVals dScu (fun _ u => { u with active := [], queue := [], lockPending := false }) s.units.scu } }

/-! ### The debug grant (R403) -/

/-- A grant ends; pair 1, if halted, resumes. -/
def endGrant (s : State) : State :=
  if s.dbg.grant then { s with dbg := { s.dbg with grant := false, scope := 0, expiry := 0, core1Halted := false } } else s

/-! ### Pins -/

def pinCLAIM : Nat := 0
def pinTHERM_ALERT : Nat := 1
def pinTHERM_TRIP : Nat := 2
def pinPWR_EN : Nat := 4                      -- PWR_EN0 to PWR_EN3: 4 to 7

/-! ### The interlock line (R454) -/

/-- The line released. -/
def releaseLine (s : State) : State :=
  if s.trp.driving then emit (.pin pinCLAIM true) { s with trp := { s.trp with driving := false, line := true } } else s

/-- The line driven low. -/
def driveLine (s : State) : State :=
  if s.trp.driving then s
  else emit (.pin pinCLAIM false) { s with trp := { s.trp with driving := true, line := false, fedAt := s.time.time64 } }

/-! ### Roles (R458, R465, R472, R473) -/

/-- The next epoch: one more, skipping 0 (R464). -/
def nextEpoch (e : Word32) : Word32 := if e + 1 = 0 then 1 else e + 1

/-- Every function told that its GLB_VF_STATUS.ACTIVE changed (R78). -/
def tellActive (s : State) : State := (List.range 256).foldl (fun s f => vec0 f s) s

/-- A change of role: ROLE_CHANGE, and where ACTIVE changes the event on vector 0 of every function; an active unit no longer
slews its time (R33). -/
def setRole (f : BitVec 16) (s : State) : State :=
  if s.trp.fsm = f then s
  else
    let t := trpEvent 0 { s with trp := { s.trp with fsm := f } }
    let t := if isActive t then { t with time := { t.time with slew := 0, slewAge := 0 } } else t
    if isActive s = isActive t then t else tellActive t

/-- A running unit that has lost its role completes its commands as a halt does, with STALE_ROLE (R459). -/
def loseCommands (s : State) : State := endUnstarted stSTALE_ROLE s

/-- A planned handover that cannot go on: the service that asked for it ends with a status. -/
def dropHandover (st : Byte) (s : State) : State :=
  match s.trp.handover with
  | none => s
  | some h =>
    let s := { s with trp := { s.trp with handover := none, stopAdm := false } }
    match h.item with
    | some id => finish id st [] false s
    | none => s

/-- A unit gives up the active role: RELINQUISH on path A, the line released, RELINQUISHED (R470). -/
def relinquish (s : State) : State :=
  if s.trp.fsm = fsmACTIVE ∨ s.trp.fsm = fsmSOLO ∨ s.trp.fsm = fsmHANDING_OVER ∨ s.trp.fsm = fsmCLAIMING then
    let s := if s.trp.linkUp then
        emit (.peer 0x21 (toLE 4 s.trp.epoch.toNat)) { s with trp := { s.trp with txSeq := s.trp.txSeq + 1 } } else s
    let s := dropHandover (if s.canvas.halted then stHALTED else stSTALE_ROLE) s
    setRole fsmRELINQUISHED (releaseLine { s with trp := { s.trp with standby := false, claimAt := none, stopAdm := false } })
  else s

end Sys2Proof.Machine
end

