-- ==== Sys2Proof/Machine/Canvas.lean ====
section
/-!
DEFINITION. Canvas and its sentinel (spec file 12): sources and severities, the response, the battery latch,
stimulation, configuration and the Canvas services.
-/
namespace Sys2Proof.Machine

def updCnv (f : Canvas → Canvas) (s : State) : State := { s with canvas := f s.canvas }

/-! ### Sources (R419, R421, R441) -/

/-- What R419's table gives a source: its severity in the factory map, the lowest severity it can be given, and whether
it is watched in case A and in case B; none where the code is unused. The case switches and wire loops share a row. -/
def srcRow (c : Nat) : Option (Nat × Nat × Bool × Bool) :=
  if c < 0x10 then some (5, 3, true, true)
  else match c with
    | 0x10 => some (5, 5, true, true)  -- MESH_OPEN
    | 0x11 => some (5, 5, true, true)  -- MESH_SHORT
    | 0x12 => some (4, 3, false, false)  -- VCORE_LOW
    | 0x13 => some (5, 4, false, false)  -- VCORE_HIGH
    | 0x14 => some (3, 2, false, false)  -- VIO_LOW
    | 0x15 => some (4, 4, false, false)  -- VIO_HIGH
    | 0x16 => some (2, 1, false, false)  -- VAUX_LOW
    | 0x17 => some (5, 4, true, false)  -- VAUX_HIGH
    | 0x18 => some (2, 2, true, true)  -- VBAT_LOW
    | 0x19 => some (5, 4, true, true)  -- VBAT_HIGH
    | 0x1A => some (4, 4, false, false)  -- VGLITCH
    | 0x1B => some (4, 4, false, false)  -- CLK_GLITCH
    | 0x1C => some (5, 5, true, true)  -- TEMP_LOW
    | 0x1D => some (5, 4, true, true)  -- TEMP_HIGH
    | 0x1E => some (4, 3, false, false)  -- CLK_FREQ
    | 0x1F => some (4, 3, true, false)  -- TCLK_FREQ
    | 0x20 => some (2, 2, true, true)  -- BCLK_STOP
    | 0x30 => some (4, 4, true, true)  -- INT_FSM
    | 0x31 => some (4, 4, false, false)  -- MIDWAY_AUTH
    | 0x32 => some (2, 1, false, false)  -- UNIT_CHECK
    | 0x33 => some (2, 2, false, false)  -- RNG_HEALTH
    | 0x34 => some (2, 2, false, false)  -- VAULT_RECORD
    | 0x35 => some (3, 3, false, false)  -- CORE_LOCKSTEP
    | 0x36 => some (1, 1, false, false)  -- GATE_VIOLATION
    | 0x37 => some (2, 2, false, false)  -- DEBUG_VIOLATION
    | 0x38 => some (2, 2, false, false)  -- DEBUG_UNLOCK
    | 0x39 => some (5, 5, false, false)  -- DEBUG_EXTEST
    | 0x3A => some (2, 1, false, false)  -- HEARTBEAT_PATH
    | 0x3B => some (2, 2, false, false)  -- STIM_FAIL
    | _ => none

/-- Default and floor severity of a source; 0 where the code is unused. -/
def srcDefault (c : Nat) : Nat := ((srcRow c).map (·.1)).getD 0
def srcFloor (c : Nat) : Nat := ((srcRow c).map (·.2.1)).getD 0

/-- Watched in case A, and in case B. -/
def srcInA (c : Nat) : Bool := ((srcRow c).map (·.2.2.1)).getD false
def srcInB (c : Nat) : Bool := ((srcRow c).map (·.2.2.2)).getD false

/-- The supply case: 0 S, 1 A, 2 B; none while no supply is present (R421). -/
def supplyCase (s : State) : Option Nat :=
  let q := s.power.seq
  if q.sysPower then some 0 else if q.vaux then some 1 else if q.vbat then some 2 else none

/-- A case switch or loop that a fuse disables (R441). -/
def srcDisabled (s : State) (c : Nat) : Bool := decide (c < 0x10) && s.fuses.disable.getLsbD c

/-- A source that is watched in a supply case; TCLK_FREQ is not raised while BCLK_STOP is (R428). -/
def srcWatched (s : State) (case c : Nat) : Bool :=
  decide (srcDefault c ≠ 0) && !srcDisabled s c && !(decide (c = 0x1F) && s.canvas.raw.getLsbD 0x20) && (if case = 0 then true else if case = 1 then srcInA c else srcInB c)

/-- The severity a configuration gives a source. -/
def srcSev (cfg : CanvasCfg) (c : Nat) : Nat := match cfg.sev with
  | [] => srcDefault c
  | l => (l.getD c 0).toNat

/-- CNV_STATE.CAP (R433): 0 none, 1 S2 in BLANK, 2 S1 in END_OF_LIFE. -/
def capCode (s : State) : Nat := if s.lcs.state = 0 then 1 else if s.lcs.state = 3 then 2 else 0

def capped (s : State) (n : Nat) : Nat := if capCode s = 1 then min n 2 else if capCode s = 2 then min n 1 else n

/-- The severity acted on: DEBUG_EXTEST is S5 in PRODUCTION whatever the map says; every other takes the map and the
cap (R404, R419, R433). -/
def actedSev (s : State) (c : Nat) : Nat :=
  if c = cDEBUG_EXTEST ∧ s.lcs.state = 2 then 5 else capped s (srcSev s.canvas.cfg c)

/-- The detectors' readings: a disabled source reads quiet. -/
def readRaw (raw : Word64) (s : State) : State :=
  updCnv (fun c => { c with raw := raw &&& ~~~ (BitVec.ofNat 64 s.fuses.disable.toNat) }) s

/-! ### The battery latch (R435, R436) -/

/-- One entry: word 0 and word 1. -/
def latchEntry (s : State) (code sev case : Nat) : Word64 × Word64 :=
  (BitVec.ofNat 64 (s.rtc.seconds.toNat + s.rtc.ticks.toNat * 2 ^ 32 + code % 64 * 2 ^ 48 + sev % 8 * 2 ^ 54 + case % 4 * 2 ^ 57 + 2 ^ 63),
   if case = 0 then BitVec.ofNat 64 (now s % 2 ^ 47) else 0)

/-- Firmware's copy of latch entry `i` in Calliope (R436, R481). -/
def copyLatch (i : Nat) (e : Word64 × Word64) (s : State) : State := calEvent (0x040 + fld e.1 53 48) none i (fld e.1 31 0) s

/-- An entry taken, or OVERFLOW; from STAGE 2 on firmware copies it while pair 0 runs (R435, R436). -/
def addLatch (code sev case : Nat) (s : State) : State :=
  let e := latchEntry s code sev case
  let n := s.canvas.sentinel.latch.length
  let t := updCnv (fun c => { c with sentinel :=
    if n < 16 then { c.sentinel with latch := c.sentinel.latch ++ [e] }
    else { c.sentinel with overflow := satInc c.sentinel.overflow } }) s
  if n < 16 ∧ case = 0 ∧ (s.boot.stage = 2 ∨ s.boot.stage = 3) ∧ ¬ s.boot.stop0 then copyLatch n e t else t

/-! ### The response steps (R430 to R434) -/

/-- Step 2: all 192 KiB of the Cage cleared, with what rests on it (R313). -/
def clearCage (s : State) : State :=
  let s := { s with
    cage := {}
    vault := { s.vault with ready := false, dkekValid := false, dkek := [], parts := [] }
    trp := { s.trp with paired := false } }
  updCnv (fun c => { c with zeroised := true }) s

/-- Step 3: the purge. -/
def purge (s : State) : State :=
  let s := stopSeats stHALTED s
  let s := { s with
    dies := Tab.mapVals dDie (fun _ d => { d with
      state := if d.state = .retention then .off else d.state
      kc := { d.kc with entries := [] } }) s.dies
    troupes := Tab.mapVals dTroupe (fun _ t => { t with drbgBuf := 0 }) s.troupes
    dir := { s.dir with key := none, recs := [], sweep := [] }
    vault := { s.vault with parts := Tab.mapVals dVault (fun _ v => { v with ceremony := none, transfer := none }) s.vault.parts }
    spdm := { s.spdm with sessions := [] } }
  let s := updRng (fun r => { r with drbgReady := false, dies := Tab.mapVals dDieDrbg (fun _ d => { d with seeded := false }) r.dies }) s
  updCnv (fun c => { c with purged := true }) s

/-- Step 4: memory, IDE and Midway keys discarded.  What LPDDR5X held cannot be read any more, and every present die is
lost, its commands completing with HALTED. -/
def discardKeys (s : State) : State :=
  let ids := (List.range (nDies s.part.variant)).flatMap fun d => dieItems s d
  let s := ids.foldl (fun s id => finish id stHALTED [] false s) s
  let s := (List.range (nDies s.part.variant)).foldl (fun s d => linkDown d s) s
  { s with
    spdm := { s.spdm with ideKeys := false }
    dies := Tab.mapVals dDie (fun _ d => { d with keyOut := [], keyIn := [] }) s.dies
    dir := { s.dir with recs := [], memKey := [], tagKey := [] }
    routines := { s.routines with parts := Tab.mapVals dRPart (fun p r => { noRoutines s p r with old := [] }) s.routines.parts } }

/-- Step 5: the halt, with what R403 and R470 tie to a response of S3 or above. -/
def startHalt (s : State) : State :=
  relinquish (endGrant (endUnstarted stHALTED (updCnv (fun c => { c with halted := true }) s)))

/-- The Canvas state machine's code (R444). -/
def cnvARMED : BitVec 16 := 0x9999
def cnvSTIMULATING : BitVec 16 := 0xA5A5
def cnvHALTED : BitVec 16 := 0xC3C3
def cnvPURGED : BitVec 16 := 0x0FF0
def cnvZEROISED : BitVec 16 := 0x55AA

def cnvCode (response : Nat) : BitVec 16 :=
  if response = 5 then cnvZEROISED else if response = 4 then cnvPURGED else if response = 3 then cnvHALTED else cnvARMED

/-- Steps 2 to 6 at a severity that rises above what was asked for since fundamental reset or the last resume; in case
A only step 2 (R423). -/
def escalate (old sev case code : Nat) (s : State) : State :=
  let s0 := s
  let s := if sev = 5 ∧ old < 5 then clearCage s else s
  if case ≠ 0 then s
  else
    let s := if 4 ≤ sev ∧ old < 4 then purge s else s
    let s := if sev = 5 ∧ old < 5 then discardKeys s else s
    let s := if 3 ≤ sev ∧ old < 3 then startHalt s else s
    let s := if sev = 5 ∧ old < 5 then addLatch code 5 0 s else s
    noteReady s0 s

/-- Step 7: a host notice. -/
def hostNotice (s : State) : State := vec0 0 (updCnv (fun c => { c with noticeSeq := c.noticeSeq + 1 }) s)

/-- Step 1: causes latched, with the first of them. -/
def latchCauses (codes : List Nat) (sev : Nat) (c : Canvas) (time : Word64) : Canvas :=
  let low := codes.foldl min (codes.headD 0)
  { c with
    cause := codes.foldl (fun m k => setBit m k) c.cause
    causeCnt := c.causeCnt + BitVec.ofNat 32 codes.length
    first := if c.firstValid then c.first else BitVec.ofNat 6 low
    multi := if c.firstValid then c.multi else decide (1 < codes.length)
    firstSev := if c.firstValid then c.firstSev else BitVec.ofNat 3 sev
    firstTime := if c.firstValid then c.firstTime else BitVec.ofNat 40 time.toNat
    firstValid := true }

/-- The response to causes detected in one cycle, treated as one cause of their highest severity; each has its record, and
each of S2 or above its host notice (R430, R434). -/
def respond (case : Nat) (codes : List Nat) (s : State) : State :=
  match codes with
  | [] => s
  | _ =>
    let sev := (codes.map (actedSev s)).foldl max 0
    let top := (codes.filter fun c => decide (actedSev s c = sev)).foldl min 63
    let old := s.canvas.response.toNat
    let s1 := updCnv (fun c => latchCauses codes sev c s.time.time64) s
    let s1 := if case = 0 then codes.foldl (fun t c => calEvent c none 0 (actedSev s c) t) s1 else s1
    let s1 := updCnv (fun c => { c with
      response := BitVec.ofNat 3 (max old sev), highSince := BitVec.ofNat 3 (max c.highSince.toNat sev) }) s1
    let s1 := if old < sev then escalate old sev case top s1 else s1
    let s1 := if case = 1 then codes.foldl (fun t c => addLatch c (actedSev s c) 1 t) s1 else s1
    let s1 := updCnv (fun c => { c with
      fsm := if c.stimBusy then cnvSTIMULATING else cnvCode c.response.toNat
      alarms := codes.foldl (fun l k => l.erase k) c.alarms }) s1
    if case = 0 then (codes.filter fun c => decide (2 ≤ actedSev s c)).foldl (fun t _ => hostNotice t) s1 else s1

/-- A real cause on another source ends a stimulation with no result (R440). -/
def abortStim (codes : List Nat) (s : State) : State :=
  if s.canvas.stimBusy ∧ codes ≠ [] then
    updCnv (fun c => { c with stimBusy := false, stimResult := 0, lastStim := Tab.set (fun _ => (0 : Word64)) c.lastStim c.source.toNat (s.time.time64 + 1) }) s
  else s

/-- CANVAS_DETECT: causes detected in one cycle on the main part, with the detectors' readings.  A source under
stimulation gives no response of its own (R439). -/
def execCanvasDetect (codes : List Nat) (raw : Word64) (s : State) : Res :=
  match supplyCase s with
  | some 0 => go 0
  | some 1 => go 1
  | _ => .next s
where
  /-- In case S or A. -/
  go (case : Nat) : Res :=
    let s := readRaw raw s
    let live := codes.eraseDups.filter fun c => srcWatched s case c && !(s.canvas.stimBusy && decide (s.canvas.source.toNat = c))
    .next (respond case live (abortStim live s))

/-! ### The sentinel (R420 to R424) -/

/-- Severity in case B: three sources act at S5 whatever the map says. -/
def sentinelSev (s : State) (c : Nat) : Nat :=
  capped s (if c = 0x18 ∨ c = 0x20 ∨ c = 0x30 then 5 else srcSev s.canvas.sentinel.cfg c)

/-- A cause detected in case B: latched in the battery latch, and the Cage cleared at S5. -/
def sentinelCause (s : State) (c : Nat) : State :=
  let sev := sentinelSev s c
  let s := if sev = 5 then
      updCnv (fun x => { x with sentinel := { x.sentinel with fsm := 0xF00F } }) (clearCage s)
    else s
  addLatch c sev 2 s

/-- SENTINEL_DETECT. -/
def execSentinelDetect (code : Nat) (s : State) : Res :=
  if supplyCase s = some 2 ∧ srcWatched s 2 code then .next (sentinelCause s code) else .next s

/-- SENTINEL_CONFIG_COPY. -/
def execSentinelConfigCopy (s : State) : Res :=
  match supplyCase s with
  | some 2 => .next s
  | none => .next s
  | some _ => .next (updCnv (fun c => { c with sentinel := { c.sentinel with cfg := c.cfg, stale := false } }) s)

/-! ### Stimulation (R439, R440, R447) -/

/-- A source that can be stimulated. -/
def stimulable (s : State) (c : Nat) : Bool := decide (c ≤ 0x20) && !srcDisabled s c

/-- The window of a stimulation and the 10 µs after it, in ns. -/
def stimWindow (c : Nat) : Nat :=
  10000 + (if c = 0x1E then 40000 else if c = 0x1C ∨ c = 0x1D then 440000 else if c = 0x1F ∨ c = 0x20 then 8000000 else 10000)

/-- Within 100 ms of the previous stimulation of the source. -/
def stimRecent (s : State) (c : Nat) : Bool :=
  let t := (Tab.get (fun _ => (0 : Word64)) s.canvas.lastStim c).toNat
  decide (t ≠ 0) && decide (now s < t - 1 + 100000000)

/-- One of the cases in which R440 refuses a stimulation of a source. -/
def stimBarred (s : State) (c : Nat) : Bool :=
  decide (3 ≤ s.canvas.response.toNat) || s.canvas.stimBusy || s.canvas.raw.getLsbD c || stimRecent s c

/-- CNV_STIM_START: a write of CNV_STIM with START. -/
def execCnvStimStart (source : BitVec 6) (raw : Word64) (s : State) : Res :=
  let s := readRaw raw s
  let busy := s.canvas.stimBusy
  let s := if busy then s else updCnv (fun c => { c with source := source }) s
  if stimBarred s source.toNat ∨ ¬ stimulable s source.toNat then .next (updCnv (fun c => { c with err := setBit c.err 3 }) s)
  else .next (updCnv (fun c => { c with stimBusy := true, stimResult := 0, stimAt := s.time.time64, fsm := cnvSTIMULATING }) s)

/-- The result of one stimulation: 1 PASS, 2 FAIL_DETECT, 3 FAIL_RELEASE; a failure raises STIM_FAIL, and a source that
stays tripped is a real detection. -/
def stimResult (c : Nat) (detected released : Bool) (s : State) : State :=
  let r : Nat := if ¬ detected then 2 else if ¬ released then 3 else 1
  let s := updCnv (fun x => { x with
    source := BitVec.ofNat 6 c, stimResult := BitVec.ofNat 2 r
    stimCnt := satInc x.stimCnt, stimFail := if r = 1 then x.stimFail else satInc x.stimFail
    lastStim := Tab.set (fun _ => (0 : Word64)) x.lastStim c (s.time.time64 + 1) }) s
  let s := if r = 1 then s else raiseAlarm cSTIM_FAIL s
  if r = 3 then raiseAlarm c s else s

/-- STIM_END: at the end of the window. -/
def execStimEnd (detected released : Bool) (s : State) : Res :=
  let c := s.canvas.source.toNat
  if ¬ s.canvas.stimBusy ∨ now s < s.canvas.stimAt.toNat + stimWindow c then .next s
  else
    .next (stimResult c detected released (updCnv (fun x => { x with
      stimBusy := false, fsm := cnvCode x.response.toNat }) s))

/-! ### Clearing and resuming (R432, R445) -/

/-- CNV_CAUSE_CLEAR: a W1C of CNV_CAUSE. -/
def execCnvCauseClear (value raw : Word64) (s : State) : Res :=
  let s := readRaw raw s
  let can (c : Nat) : Bool := value.getLsbD c && !s.canvas.raw.getLsbD c && decide (srcSev s.canvas.cfg c < 3) &&
    decide (s.canvas.response.toNat < 4)
  .next (updCnv (fun x => { x with cause := (List.range 64).foldl (fun m c => if can c then clrBit m c else m) x.cause }) s)

/-- CANVAS_RESUME. -/
def execCanvasResume (id : Nat) (raw : Word64) (s : State) : Res :=
  .next (onService id 0x0F90 (fun _ s =>
    let s := readRaw raw s
    let high (c : Nat) : Bool := s.canvas.cause.getLsbD c && decide (3 ≤ srcSev s.canvas.cfg c)
    if 4 ≤ s.canvas.highSince.toNat then refuse id stOPERAND_FORMAT 0x0D s
    else if ¬ s.canvas.halted then done id [] s
    else if (List.range 64).any (fun c => high c && s.canvas.raw.getLsbD c) then refuse id stOPERAND_FORMAT 0x0D s
    else
      let cause := (List.range 64).foldl (fun m c => if high c then clrBit m c else m) s.canvas.cause
      done id [] (updCnv (fun x => { x with cause := cause, halted := false, response := 0, fsm := cnvARMED }) s)) s)

/-- CANVAS_LATCH_CLEAR: the oldest n entries removed. -/
def execCanvasLatchClear (id : Nat) (s : State) : Res :=
  .next (onService id 0x0F91 (fun i s =>
    let n := i.le 24 1
    let l := s.canvas.sentinel.latch
    if n = 0 ∨ 16 < n ∨ l.length < n then refuse id stOPERAND_FORMAT 0x01 s
    else done id [BitVec.ofNat 8 (l.length - n)]
      (updCnv (fun c => { c with sentinel := { c.sentinel with latch := l.drop n } }) s)) s)

/-- CANVAS_STIMULATE: one source, or every stimulable one in ascending order.  `raw` holds the detectors' readings,
`undetected` and `stuck` the sources that were not detected and those that stay tripped. -/
def execCanvasStimulate (id : Nat) (raw undetected stuck : Word64) (s : State) : Res :=
  .next (onService id 0x0F92 (fun i s =>
    let s := readRaw raw s
    let code := i.le 24 1
    let all := (List.range 0x21).filter fun c => stimulable s c && !stimBarred s c
    if code ≠ 0xFF ∧ ¬ stimulable s code then refuse id stOPERAND_FORMAT 0x01 s
    else if 3 ≤ s.canvas.response.toNat ∨ s.canvas.stimBusy ∨ (code ≠ 0xFF ∧ stimBarred s code) then
      refuse id stOPERAND_FORMAT 0x0D s
    else
      let l := if code = 0xFF then all else [code]
      let bad := l.filter fun c => undetected.getLsbD c || stuck.getLsbD c
      let s := l.foldl (fun s c => stimResult c (!undetected.getLsbD c) (!stuck.getLsbD c) s) s
      done id (toLE 4 l.length ++ toLE 4 bad.length ++ toLE 8 ((bad.map fun c => 2 ^ c).sum)) s) s)

/-! ### Configuration (R427, R428, R442, R443, R447) -/

/-- Low and high bounds of a supply's thresholds, in mV: VIN_CORE, VDD_IO, VAUX, VBAT (R427). -/
def vmonLow (k : Nat) : Nat × Nat := [(760, 800), (1580, 1660), (2950, 3100), (2300, 2450)].getD k (0, 0)
def vmonHigh (k : Nat) : Nat × Nat := [(900, 950), (1950, 2050), (3550, 3700), (3700, 3900)].getD k (0, 0)
/-- Their defaults. -/
def vmonDefault (k : Nat) : Nat × Nat := [(780, 930), (1620, 1980), (3000, 3600), (2400, 3800)].getD k (0, 0)

/-- The fields of a 72-byte configuration block; what the registers reserve, or hold for unused codes, reads zero (R445). -/
def readBlock (b : Bytes) : CanvasCfg :=
  { sev := (List.range 64).map fun c => if srcDefault c = 0 then 0 else BitVec.ofNat 4 (leAt 0 32 b / 16 ^ c % 8)
    caseCfg := BitVec.ofNat 64 (leAt 32 8 b) &&& 0x7F7F7F7F7F7F7F7F#64, loopCfg := BitVec.ofNat 32 (leAt 40 2 b)
    vmon := (List.range 4).map fun k => BitVec.ofNat 32 (leAt (48 + 4 * k) 4 b), temp := BitVec.ofNat 32 (leAt 64 2 b) }

def caseExpect (v : Word64) (n : Nat) : Bool := bitOf v (8 * n)
def caseDebounce (v : Word64) (n : Nat) : Nat := fld v (8 * n + 6) (8 * n + 1)
def loopMode (v : Word32) (n : Nat) : Nat := fld v (2 * n + 1) (2 * n)
def vmonOf (c : CanvasCfg) (k : Nat) : Nat × Nat := let v := c.vmon.getD k 0#32; (fld v 15 0, fld v 31 16)
def tLow (c : CanvasCfg) : Int := (BitVec.ofNat 8 (fld c.temp 7 0)).toInt
def tHigh (c : CanvasCfg) : Int := (BitVec.ofNat 8 (fld c.temp 15 8)).toInt

def lowOk (k n : Nat) : Bool := decide ((vmonLow k).1 ≤ n) && decide (n ≤ (vmonLow k).2)
def highOk (k n : Nat) : Bool := decide ((vmonHigh k).1 ≤ n) && decide (n ≤ (vmonHigh k).2)
def tLowOk (t : Int) : Bool := decide (-60 ≤ t) && decide (t ≤ -45)
def tHighOk (t : Int) : Bool := decide (120 ≤ t) && decide (t ≤ 135)

/-- Every field at or above its floor and within its bounds. -/
def configOk (c : CanvasCfg) : Bool :=
  ((List.range 64).all fun k => decide (srcDefault k = 0) || (decide (srcFloor k ≤ srcSev c k) && decide (srcSev c k ≤ 5))) &&
  ((List.range 8).all fun n => decide (loopMode c.loopCfg n ≠ 3)) &&
  ((List.range 4).all fun k => lowOk k (vmonOf c k).1 && highOk k (vmonOf c k).2) && tLowOk (tLow c) && tHighOk (tHigh c)

/-- Less strict than the factory configuration (R442). -/
def lessStrict (c : CanvasCfg) : Bool :=
  ((List.range 64).any fun k => decide (srcSev c k < srcDefault k)) ||
  ((List.range 8).any fun n => decide (2 < caseDebounce c.caseCfg n) || caseExpect c.caseCfg n || decide (loopMode c.loopCfg n ≠ 2)) ||
  ((List.range 4).any fun k => decide ((vmonOf c k).1 < (vmonDefault k).1) || decide ((vmonDefault k).2 < (vmonOf c k).2)) ||
  decide (tLow c < -50) || decide (125 < tHigh c)

/-- The serial as the subject digests of R412, R417 and R443 take it. -/
def serialBytes (s : State) : Bytes := toLE 8 s.fuses.serial.toNat

/-- A service's authorisation, which an empty partition 0 registry lets be absent (R412, R443, R471). -/
def vaultAuthOr (id : Nat) (w : AuthWant) (b : Bytes) (s : State) (body : State → State) : State :=
  if b = [] ∧ regEmpty s 0 then body s else vaultAuth id w b s body

/-- CANVAS_CONFIG. -/
def execCanvasConfig (id : Nat) (buf : HostData) (s : State) : Res :=
  .next (onService id 0x0F93 (fun i s => withForm i true s fun s => svcBuffer i buf s fun b s =>
    let la := i.le 36 4
    let blk := b.take 72
    let c := readBlock blk
    if s.canvas.lock ∨ 4 ≤ s.canvas.response.toNat then refuse id stOPERAND_FORMAT 0x0D s
    else if b.length ≠ 72 + la ∨ 2 ≤ i.le 40 1 ∨ leAt 44 4 blk ≠ 0 ∨ leAt 68 4 blk ≠ 0 ∨ ¬ configOk c then
      refuse id stOPERAND_FORMAT 0x01 s
    else
      let apply (s : State) : State := done id [] (updCnv (fun x => { x with
        cfg := c, lock := x.lock || decide (i.le 40 1 = 1), sentinel := { x.sentinel with stale := true } }) s)
      if lessStrict c then
        vaultAuthOr id { action := 0x1A, part := 0, subject := sm3 (blk ++ serialBytes s) } (b.drop 72) s apply
      else apply s) s)

/-- CANVAS_DISABLE_FUSE. -/
def execCanvasDisableFuse (id : Nat) (buf : HostData) (s : State) : Res :=
  .next (onService id 0x0F94 (fun i s => withForm i true s fun s => svcBuffer i buf s fun b s =>
    let mask := i.le 36 2
    if 4 ≤ s.canvas.response.toNat then refuse id stOPERAND_FORMAT 0x0D s
    else if b.length ≠ i.le 38 2 then refuse id stOPERAND_FORMAT 0x01 s
    else vaultAuthOr id { action := 0x1B, part := 0, subject := sm3 (toLE 2 mask ++ serialBytes s) } b s fun s =>
      let d := s.fuses.disable ||| BitVec.ofNat 16 mask
      done id (toLE 2 d.toNat) (readRaw s.canvas.raw { s with fuses := { s.fuses with disable := d } })) s)

end Sys2Proof.Machine
end

