-- ==== Sys2Proof/Machine/Resets.lean ====
section
/-!
DEFINITION. The resets of R516 and the life-cycle vote that follows each (R408, R489).
-/
namespace Sys2Proof.Machine

/-! ### Life-cycle codes and the vote (R405, R408) -/

/-- The code of a state: 0 BLANK, 1 TEST, 2 PRODUCTION, 3 END_OF_LIFE. -/
def lcsCode (n : Nat) : Word32 := if n = 0 then 0 else if n = 1 then 0x0000FFFF else if n = 2 then 0x00FFFFFF else 0xFFFFFFFF

/-- The state of a code, where it is valid. -/
def lcsOf (c : Word32) : Option Nat :=
  if c = 0 then some 0 else if c = 0x0000FFFF then some 1 else if c = 0x00FFFFFF then some 2 else if c = 0xFFFFFFFF then some 3 else none

/-- Every bit of `a` is set in `b`. -/
def bitsIn (a b : Word32) : Bool := decide (a &&& b = a)

/-- A copy that lies below the agreed code: completed to it. -/
def completes (third agreed : Word32) : Bool := bitsIn third agreed && decide (third ≠ agreed)

/-- The outcome of a vote: the state, the copies after it, RESUMED and REPAIRED. -/
structure Vote where
  state    : Nat
  c0       : Word32
  c1       : Word32
  c2       : Word32
  resumed  : Bool := false
  repaired : Bool := false
  deriving DecidableEq, Repr

/-- The rules of R408, in order. -/
def vote (c0 c1 c2 : Word32) : Vote :=
  let rule2 : Vote :=
    match lcsOf c0, lcsOf c2 with
    | some n, some m =>
      if m < n ∧ bitsIn c1 c0 = true ∧ bitsIn c2 c1 = true then { state := n, c0 := c0, c1 := c0, c2 := c0, resumed := true }
      else { state := 3, c0 := c0, c1 := c1, c2 := c2 }
    | _, _ => { state := 3, c0 := c0, c1 := c1, c2 := c2 }
  match lcsOf c0, lcsOf c1 with
  | some n, _ =>
    if c0 = c1 then
      (if completes c2 c0 then { state := n, c0 := c0, c1 := c1, c2 := c0, repaired := true } else { state := n, c0 := c0, c1 := c1, c2 := c2 })
    else if c0 = c2 then
      (if completes c1 c0 then { state := n, c0 := c0, c1 := c0, c2 := c2, repaired := true } else { state := n, c0 := c0, c1 := c1, c2 := c2 })
    else match lcsOf c1 with
      | some m =>
        if c1 = c2 then
          (if completes c0 c1 then { state := m, c0 := c1, c1 := c1, c2 := c2, repaired := true } else { state := m, c0 := c0, c1 := c1, c2 := c2 })
        else rule2
      | none => rule2
  | none, some m =>
    if c1 = c2 then
      (if completes c0 c1 then { state := m, c0 := c1, c1 := c1, c2 := c2, repaired := true } else { state := m, c0 := c0, c1 := c1, c2 := c2 })
    else rule2
  | none, none => rule2

/-- The vote's outcome in the life-cycle registers and fuses. -/
def applyVote (s : State) : State :=
  let v := vote s.fuses.c0 s.fuses.c1 s.fuses.c2
  { s with
    fuses := { s.fuses with c0 := v.c0, c1 := v.c1, c2 := v.c2 }
    lcs := { waitLatch := s.lcs.waitLatch, state := BitVec.ofNat 2 v.state, resumed := v.resumed, repaired := v.repaired
             copy0 := s.fuses.c0, copy1 := s.fuses.c1, copy2 := s.fuses.c2 } }

/-! ### Thermometer rows (R349, R350) -/

/-- One plus the index of the highest bit blown, or 0. -/
def thermo {n : Nat} (v : BitVec n) : Nat := if v.toNat = 0 then 0 else Nat.log2 v.toNat + 1

/-- The fuse security version number. -/
def fuseSvn (s : State) : Nat := thermo s.fuses.svn

/-- The zeroisation counter as read: 0xFFFF from 512 on. -/
def zeroiseCnt (s : State) : Nat := let n := thermo s.fuses.zero; if 512 ≤ n then 0xFFFF else n

/-- The zeroisation counter's next bit blown. -/
def blowZero (s : State) : State :=
  let n := thermo s.fuses.zero
  if n < 512 then { s with fuses := { s.fuses with zero := setBit s.fuses.zero n } } else s

/-- The next bit of the anti-rollback row blown, while the fuse SVN is below a target (R349). -/
def blowSvn (target : Nat) (s : State) : State :=
  if fuseSvn s < target then { s with fuses := { s.fuses with svn := setBit s.fuses.svn (fuseSvn s) } } else s

/-- The phase of an FW_SVN_ADVANCE that blows bits. -/
def phBlow : Nat := 12

/-- An FW_SVN_ADVANCE that is blowing bits. -/
def svnBlows (i : Item) : Bool := decide (i.place = .core) && decide (i.routine = 0x0F71) && decide (i.phase = phBlow)

/-- A loss of power while a bit is programmed: whether that bit reads blown is a free value (R349). -/
def cutBlow (s : State) : State :=
  match s.items.find? svnBlows with
  | none => s
  | some i => if bitOf (Config.freeWord s.freeCtr) 0 then blowSvn (i.le 24 1) { s with freeCtr := s.freeCtr + 1 }
    else { s with freeCtr := s.freeCtr + 1 }

/-! ### What each reset leaves (R345, R489, R516) -/

/-- Calliope at a fundamental reset: the windows in progress are lost, the ring and CAL_LOST stay (R489). -/
def calFundamental (c : Cal) : Cal :=
  let gone := (if c.window.isSome then 1 else 0) + c.closing.length + (if c.staging.isSome then 1 else 0)
  { mem := c.mem, head := c.head, tail := c.tail, lens := c.lens, late := c.late
    lost := satAdd c.lost gone, lostBefore := satAdd c.lostBefore (gone + if c.staging.isSome then c.stagedLost.toNat else 0)
    resetMark := c.resetMark || c.stagedReset || c.window.isSome }

/-- TRP_CTL in its power-on domain; the beacon's counter goes on in the always-on domain (R452, R473, R498). -/
def trpFundamental (t : Trp) : Trp :=
  { tDetect := t.tDetect, tWd := t.tWd, revertS := t.revertS, prefer := t.prefer, claimDeg := t.claimDeg
    patrolEn := t.patrolEn, hot := t.hot, lock := t.lock, paired := t.paired, line := t.line || t.driving, session := t.session
    beaconTx := t.beaconTx }

/-- T_ALERT of a grade (R520). -/
def tAlertOf (p : PartId) : Byte := if p.grade = 2 then 0x64 else 0x5A

/-- The reset values of JUG_CTL (R163) for a variant. -/
def resetShares (p : PartId) : Shares := { discipline := decide (p.variant = .tvp4880) }

/-- The open-drain balls a fundamental reset releases: ACT_CLAIM_N, THERM_ALERT_N and THERM_TRIP_N (R473, R509, R510). -/
def releasePins (s : State) : List Emission :=
  (if s.trp.driving then [.pin pinCLAIM true] else []) ++ (if s.power.alert then [.pin pinTHERM_ALERT true] else []) ++
  (if s.power.trip then [.pin pinTHERM_TRIP true] else [])

/-- A fundamental reset: every fundamental-reset register, die and unit state, LPDDR5X and its keys; the power-on and
battery domains, fuses and what lies outside stay.  The outcome of the vote follows. -/
def fundamentalReset (s : State) : State :=
  applyVote {
    pending := s.pending
    part := s.part
    time := s.time
    booth := { staged := resetShares s.part, active := resetShares s.part, backlotSize := s.booth.backlotSize
               backlotLock := s.booth.backlotLock, parityCnt := s.booth.parityCnt, parityQp := s.booth.parityQp
               paritySeen := s.booth.paritySeen }
    jug := { nextId := s.jug.nextId }
    freeCtr := s.freeCtr
    writeCtr := s.writeCtr
    cage := s.cage
    vault := { ready := s.vault.ready, dkekValid := s.vault.dkekValid, dkek := s.vault.dkek, zeroised := s.vault.zeroised
               corrupt := s.vault.corrupt, corruptCnt := s.vault.corruptCnt }
    fuses := s.fuses
    boot := { aonFail := s.boot.aonFail }
    lcs := s.lcs
    dbg := { extest := s.dbg.extest, grantCnt := s.dbg.grantCnt, tokens := s.dbg.tokens }
    trace := { s.trace with mem := [] }
    cal := calFundamental s.cal
    canvas := { sentinel := { s.canvas.sentinel with stale := true } }
    trp := trpFundamental s.trp
    power := { tAlert := tAlertOf s.part, seq := s.power.seq }
    rtc := s.rtc
    hostMem := s.hostMem
    out := s.out ++ releasePins s }

/-- A power-on reset of the control die: the power-on domain and everything below.  The W1C bits of VLT_STATUS are outside it
(R345; assumption log 38). -/
def powerOnReset (s : State) : State :=
  let s := cutBlow s
  fundamentalReset { s with
    time := {}
    booth := { s.booth with backlotSize := 4, backlotLock := false, parityCnt := 0, parityQp := 0, paritySeen := false }
    vault := { zeroised := s.vault.zeroised, corrupt := s.vault.corrupt }
    boot := {}
    lcs := { s.lcs with waitLatch := false }
    dbg := {}
    trace := {}
    cal := {}
    trp := { paired := s.trp.paired, session := s.trp.session, beaconTx := s.trp.beaconTx }
    power := { s.power with seq := { s.power.seq with fault := 0, blocked := false } } }

/-- Loss of every supply: the battery domain too. -/
def batteryReset (s : State) : State :=
  powerOnReset { s with
    cage := {}
    vault := {}
    rtc := {}
    canvas := { s.canvas with sentinel := {} }
    trp := { s.trp with
      paired := false, beaconTx := 0 }
    power := { s.power with seq := { vaux := false, vbat := false, sysPower := false, porReleased := false, enabled := 0, good := 0 } } }

/-- POWER_ON_RESET. -/
def execPowerOnReset (s : State) : Res := .next (powerOnReset s)

/-- BATTERY_RESET. -/
def execBatteryReset (s : State) : Res := .next (batteryReset s)

/-- FUNDAMENTAL_RESET. -/
def execFundamentalReset (s : State) : Res := .next (fundamentalReset s)

end Sys2Proof.Machine
end

