-- ==== Sys2Proof/Machine/Boot.lean ====
section
/-!
DEFINITION. Boot: the image format and its checks, the boot ROM, handover, recovery, and the firmware services (R348 to
R366, R371 to R373, R513).
-/
namespace Sys2Proof.Machine

/-! ### Identification (R35, R36) -/

def partCode : Variant → Nat
  | .tvp4820 => 0x4820
  | .tvp4840 => 0x4840
  | .tvp4880 => 0x4880

/-- GLB_DEVICE_ID. -/
def deviceId (p : PartId) : Word64 := BitVec.ofNat 64 (partCode p.variant * 2 ^ 48 + 0xB0 * 2 ^ 40 + p.grade.toNat * 2 ^ 32)

/-- GLB_CONFIG. -/
def glbConfig (p : PartId) : Word64 :=
  let n := nDies p.variant
  BitVec.ofNat 64 (2 ^ n - 1 + 4 * n * 2 ^ 16 + 4 * n * 2 ^ 32)

/-! ### The image (R352 to R355) -/

/-- A component entry. -/
structure Component where
  type   : Nat
  off    : Nat
  len    : Nat
  digest : Bytes
  deriving DecidableEq, Repr

def component (h : Bytes) (i : Nat) : Component :=
  let o := 32 + 48 * i
  { type := (byteAt o h).toNat, off := leAt (o + 4) 4 h, len := leAt (o + 8) 4 h, digest := slice (o + 16) 32 h }

/-- The five entries in use. -/
def componentsOf (h : Bytes) : List Component := (List.range 5).map (component h)

/-- A component's length limit. -/
def compLimit (t : Nat) : Nat :=
  if t = 1 then 0x200000 else if t = 2 then 0x1000000 else if t = 3 then 0x2000000 else if t = 4 then 256 else 8192

/-- Bytes of an image slot (R351). -/
def imageBytes : Nat := 0x4000000

/-- A component entry keeps R353 and lies in its slot (R351). -/
def componentOk (h : Bytes) (i : Nat) : Bool :=
  let o := 32 + 48 * i
  let c := component h i
  decide (1 ≤ c.type) && decide (c.type ≤ 5) && decide (leAt (o + 1) 3 h = 0) && decide (leAt (o + 12) 4 h = 0) &&
  decide (c.off % 4096 = 0) && decide (0x1000 ≤ c.off) && decide (c.len ≤ compLimit c.type) &&
  decide (c.off + c.len ≤ imageBytes)

/-- Check 0x01: the fixed fields, ranges, zero fields and component entries. -/
def imageFormatOk (h : Bytes) : Bool :=
  decide (leAt 0 4 h = 0x49484350) && decide (leAt 4 2 h = 1) && decide (leAt 6 2 h = 1024) && decide (1 ≤ leAt 8 4 h) &&
  decide (leAt 12 1 h ≤ 64) && decide (leAt 13 1 h ≤ 3) && decide (leAt 14 1 h ≤ 1) && decide (leAt 15 1 h ≤ 7) &&
  decide (leAt 17 1 h = 5) && decide (leAt 18 14 h = 0) && decide (leAt 864 96 h = 0) &&
  (List.range 5).all (componentOk h) && decide (leAt 272 528 h = 0) &&
  decide (((componentsOf h).map Component.type).Nodup)

/-- The bit of PARTS that names a variant. -/
def partBit : Variant → Nat
  | .tvp4820 => 0
  | .tvp4840 => 1
  | .tvp4880 => 2

/-- Check 0x02: the signer's digest is fused at KEY_INDEX and not revoked. -/
def signerFused (s : State) (h : Bytes) : Bool :=
  let k := leAt 13 1 h
  let d := s.fuses.signers.getD k []
  decide (d ≠ []) && decide (sm3 (slice 800 64 h) = fit 32 d) && !s.fuses.revoked.getLsbD k

/-- Check 0x05: the part, its stepping, and TEST_ONLY against the life-cycle state. -/
def imageFits (s : State) (h : Bytes) : Bool :=
  (byteAt 15 h).getLsbD (partBit s.part.variant) && decide (leAt 16 1 h ≤ 0xB0) &&
  ((byteAt 14 h).getLsbD 0 == decide (s.lcs.state.toNat < 2))

/-- Checks 0x01 to 0x05 of a header in order: the FAIL code, 0 where it passes (R355). -/
def headerFail (s : State) (h : Bytes) : Nat :=
  if ¬ imageFormatOk h then 0x01
  else if ¬ signerFused s h then 0x02
  else if ¬ sm2Verify (slice 800 64 h) (h.take 960) (slice 960 64 h) then 0x03
  else if leAt 12 1 h < fuseSvn s then 0x04
  else if ¬ imageFits s h then 0x05
  else 0

/-- The check of a header as read: 0x07 for a read error. -/
def headerReadFail (s : State) (h : HostData) : Nat := match h with
  | .ok b => headerFail s (fit 1024 b)
  | .error => 0x07
  | .poison => 0x07

/-- The components loaded in entry order, each digest checked as it arrives: their bytes, or the FAIL code. -/
def loadComps : List Component → List HostData → Except Nat (List (Nat × Bytes))
  | [], _ => .ok []
  | c :: cs, l => match l.headD .error with
    | .ok b =>
      let b := fit c.len b
      if sm3 b ≠ c.digest then .error 0x06
      else match loadComps cs (l.drop 1) with
        | .ok r => .ok ((c.type, b) :: r)
        | .error e => .error e
    | _ => .error 0x07

/-- The bytes of a component. -/
def compBytes (l : List (Nat × Bytes)) (t : Nat) : Bytes := ((l.find? fun e => decide (e.1 = t)).map Prod.snd).getD []

/-! ### The loaded image (R353, R354, R371) -/

/-- The trust anchors as R354 lays them out.  The spec gives no FAIL code for others: a component that is not of this form
gives no key (DESIGN CHOICE, assumption log 30). -/
def anchorsOk (b : Bytes) : Bool :=
  decide (b.length = 256) && decide (leAt 0 4 b = 0x00090001) && decide (leAt 4 4 b = 0) && decide (leAt 232 24 b = 0)

/-- Library bundles, each zero-padded to a multiple of 256 bytes: the routine and N of each that is signed with the library
signing key and that the verifier accepts; another is not loaded (R217, R219; assumption log 30). -/
def libraryOf (key : Option Bytes) : Nat → Bytes → List (Nat × Nat)
  | 0, _ => []
  | k + 1, b =>
    let n := 256 + 4 * leAt 10 2 b
    let h := readBundle (b.take n)
    (if libraryOk key h.raw then [(h.routine, h.n)] else []) ++ libraryOf key k (b.drop (roundUp n 256))

/-- What the ROM leaves of an image: the running image of R361, its measurements, anchors, library and resident set. -/
def loadImage (slot : Nat) (h : Bytes) (l : List (Nat × Bytes)) (s : State) : State :=
  let blocks := [h, compBytes l 1, compBytes l 2, compBytes l 3, compBytes l 4]
  let lib := compBytes l 3
  let anchors := if anchorsOk (compBytes l 4) then compBytes l 4 else []
  let res := compBytes l 5
  { s with
    boot := { s.boot with
      stage := 1, slot := slot, keyIndex := BitVec.ofNat 2 (leAt 13 1 h), version := BitVec.ofNat 32 (leAt 8 4 h)
      svn := BitVec.ofNat 7 (leAt 12 1 h), meas := blocks.map sm3, meas384 := blocks.map fun b => fit 48 (Config.hash 1 b)
      anchors := anchors, libRaw := lib
      residents := (List.range (leAt 0 2 res)).map fun i => leAt (2 + 2 * i) 2 res }
    routines := { s.routines with
      library := libraryOf (anchorKey anchors 168 64) (leAt 0 4 lib) (lib.drop 4)
      resident := (List.range (leAt 0 2 res)).map fun i => leAt (2 + 2 * i) 2 res } }

/-! ### The boot ROM (R355 to R357) -/

/-- The FAIL code of a slot. -/
def setFail (slot code : Nat) (s : State) : State :=
  { s with boot :=
    if slot = 0 then { s.boot with failA := BitVec.ofNat 8 code }
    else if slot = 1 then { s.boot with failB := BitVec.ofNat 8 code }
    else { s.boot with failRec := BitVec.ofNat 8 code } }

/-- A header's bytes. -/
def headerOf (r : ImageRead) : Bytes := match r.header with
  | .ok b => fit 1024 b
  | _ => zeros 1024

/-- Slots that pass, the one to choose first: higher SVN, then higher VERSION, then A (R356). -/
def slotOrder (a b : ImageRead) (okA okB : Bool) : List Nat :=
  let key (r : ImageRead) : Nat := leAt 12 1 (headerOf r) * 2 ^ 32 + leAt 8 4 (headerOf r)
  if okA ∧ okB then (if key a < key b then [1, 0] else [0, 1])
  else if okA then [0] else if okB then [1] else []

/-- Loads the first slot whose components load; recovery where none does. -/
def tryLoad (a b : ImageRead) : List Nat → State → State
  | [], s => { s with boot := { s.boot with stage := 4 } }
  | k :: ks, s =>
    let r := if k = 0 then a else b
    match loadComps (componentsOf (headerOf r)) r.comps with
    | .ok l => loadImage k (headerOf r) l s
    | .error e => tryLoad a b ks (setFail k e s)

/-- Both headers checked, and the image chosen and loaded; FAIL codes 0x08 come from the always-on record (R356, R358). -/
def bootSlots (a b : ImageRead) (s : State) : State :=
  let fail (k : Nat) (r : ImageRead) : Nat := if s.boot.aonFail.getLsbD k then 0x08 else headerReadFail s r.header
  let fa := fail 0 a
  let fb := fail 1 b
  let s := if s.boot.aonFail.getLsbD 2 then setFail 2 0x08 s else s
  tryLoad a b (slotOrder a b (fa = 0) (fb = 0)) (setFail 1 fb (setFail 0 fa s))

/-! ### The Cage at power-up (R306, R312, R313, R350) -/

/-- A record whose CHECK fails, treated as empty: a slot keeps GEN. -/
def emptyRecord (keepGen : Bool) (r : CageRec) : CageRec := { word := if keepGen then r.word else 0, seq := r.seq }

/-- One record treated as empty, with code 0x173: its number and CORRUPT_CNT (R312, R481).  Kind 0 slot, 1 manifest, 2 registry, 3 battery secret, 4 pairing secret. -/
def dropRecord (kind i : Nat) (s : State) : State :=
  let c := s.cage
  let c := if kind = 0 then { c with slots := Tab.upd dRec c.slots i (emptyRecord true) }
    else if kind = 1 then { c with mans := Tab.upd dRec c.mans i (emptyRecord false) }
    else if kind = 2 then { c with regs := Tab.upd dRec c.regs i (emptyRecord false) }
    else if kind = 3 then { c with battery := {} }
    else { c with pairing := {} }
  let n := satInc s.vault.corruptCnt
  calEvent 0x173 none i n.toNat (raiseAlarm cVAULT_RECORD { s with
    cage := c, vault := { s.vault with corrupt := true, corruptCnt := n } })

/-- Contents that a lost device KEK makes unreadable: free values. -/
def freeBank (ctr : Nat) (b : Bytes) : Bytes :=
  if b = [] then [] else (List.range 4).flatMap fun i => toLE 8 (Config.freeWord (ctr + i)).toNat

/-- Slot banks that outlive the battery secret decrypt under another device KEK. -/
def scrambleSlots (s : State) : State :=
  { s with
    freeCtr := s.freeCtr + 16384
    cage := { s.cage with slots := Tab.mapVals dRec (fun k r => { r with
      bankA := freeBank (s.freeCtr + 8 * k) r.bankA, bankB := freeBank (s.freeCtr + 8 * k + 4) r.bankB }) s.cage.slots } }

/-- The battery secret is absent, or its record fails its CHECK. -/
def batteryAbsent (bad : List (Nat × Nat)) (s : State) : Bool := !s.cage.battery.valid || bad.any fun e => decide (e.1 = 3)

/-- The battery and pairing secrets drawn where they are absent (R313, R374). -/
def drawSecrets (s : State) : State :=
  let s := if s.cage.battery.valid then s
    else
      let (b, s) := drawRoot 32 (scrambleSlots s)
      { s with
        cage := { s.cage with battery := ({ s.cage.battery.commit b with valid := true } : CageRec).plain }
        vault := { s.vault with zeroised := true } }
  if s.cage.pairing.valid then s
  else
    let (b, s) := drawRoot 32 s
    { s with cage := { s.cage with pairing := ({ s.cage.pairing.commit b with valid := true } : CageRec).plain }, trp := { s.trp with paired := false } }

/-- The Cage checked and the device KEK derived; a part in BLANK does not use its Cage (R405). -/
def bootCage (bad : List (Nat × Nat)) (s : State) : State :=
  if s.lcs.state = 0 then s
  else
    let s := bad.foldl (fun s e => dropRecord e.1 e.2 s) s
    let s := drawSecrets s
    { s with vault := { s.vault with
        dkekValid := true, dkek := Config.kdf (rootSecret s) (ascii "PACHACA DKEK") s.cage.battery.digest 32, ready := true } }

/-- The wipe begun or resumed in END_OF_LIFE (R413): STAGE 6 once it has ended. -/
def bootEndOfLife (s : State) : State :=
  if s.fuses.wipe = 0x1F then { s with boot := { s.boot with stage := 6 }, lcs := { s.lcs with fsm := 0x5A5A } }
  else { s with lcs := { s.lcs with
    fsm := 0x6666, wipeStep := BitVec.ofNat 3 (((List.range 5).find? fun i => !s.fuses.wipe.getLsbD i).getD 0) } }

/-- The boot ROM may run: after a reset that has been released, and not yet past its memory training. -/
def bootCanRun (s : State) : Bool :=
  decide (s.boot.stage = 0) && !s.power.memReady && (decide (s.lcs.fsm = 0xCCCC) || decide (s.lcs.fsm = 0xAAAA)) &&
  s.power.seq.porReleased && !s.units.rng.recovering && !s.units.rng.failed

/-- The seeds of the eight wire loops (R425). -/
def loopSeeds (b : Bytes) : List (BitVec 31) := (List.range 8).map fun n => BitVec.ofNat 31 (leAt (4 * n) 4 b)

/-- BOOT_ROM_START: the steps of R357 up to the loaded image; in the wait of R410 only the vote, in END_OF_LIFE the
wipe.  `a`, `b` are what the flash reads return, `bad` the Cage records whose CHECK fails, `entropyFail` the start-up
test that fails, true the repetition count (R296, R298).  In PRODUCTION a boot that finds the battery secret absent first
blows a bit of the zeroisation row and no more; the next command goes on from there (R350). -/
def execBootRomStart (a b : ImageRead) (bad : List (Nat × Nat)) (entropyFail : Option Bool) (s : State) : Res :=
  if ¬ bootCanRun s then .next s
  else
    let s := { s with lcs := { s.lcs with fsm := 0xAAAA } }
    if s.lcs.waitLatch then .next s
    else if s.lcs.state = 3 then .next (bootEndOfLife s)
    else match entropyFail with
    | some rct => execRngHealthFail rct s
    | none =>
      let s0 := s
      let s := updRng (fun r => { r with esReady := true, drbgReady := true, at_ := s.time.time64 }) s
      if s.lcs.state = 2 ∧ batteryAbsent bad s = true ∧ ¬ s.boot.zeroBlown then
        .next (noteReady s0 (blowZero { s with boot := { s.boot with zeroBlown := true } }))
      else
      let s := bootCage bad s
      let (k, s) := drawRoot 32 s
      let (m, s) := drawRoot 64 s
      let (g, s) := drawRoot 32 s
      let (w, s) := drawRoot 32 s
      let s := { s with
        dir := { s.dir with key := some k, memKey := m, tagKey := g }
        power := { s.power with memReady := true }
        canvas := { s.canvas with fsm := cnvARMED, sentinel := { s.canvas.sentinel with loops := loopSeeds w } } }
      .next (noteReady s0 (bootSlots a b s))

/-! ### Handover (R357, R365, R369, R372, R435, R456, R513) -/

/-- The life-cycle code in force. -/
def lcsWord (s : State) : Word32 := lcsCode s.lcs.state.toNat

/-- What block 7 is a digest of (R371). -/
def fuseItem (s : State) : Bytes :=
  Config.measItem 7 [(lcsWord s).toNat, fuseSvn s, s.fuses.revoked.toNat, s.fuses.disable.toNat]

/-- Whether a chain's leaf key is one of the identity keys (R369). -/
def idLeaf (s : State) (chain : Bytes) : Bool := match Config.certKey chain with
  | none => false
  | some k => decide (k = idPubSm2 s) || decide (k = fit 96 (Config.publicKey 0xA (idPrivP384 s)))

/-- The chain of a certificate slot as read, where its 4-byte length fits the slot. -/
def slotChain (b : Bytes) : Option Bytes :=
  let n := leAt 0 4 b
  if 1 ≤ n ∧ n + 4 ≤ 8192 ∧ n + 4 ≤ b.length then some (slice 4 n b) else none

/-- The certificate slots that pass the leaf check. -/
def readCerts (certs : List Bytes) (s : State) : List (Nat × Bytes) :=
  (List.range 8).filterMap fun k => match slotChain (certs.getD k []) with
    | none => none
    | some c => if idLeaf s c then some (k, c) else none

/-- Typical voltage of a supply, in mV (R526). -/
def nominalMv (supply : Nat) : Nat := [850, 850, 1200, 1800, 1050, 500, 1800].getD (supply - 1) 0

/-- A set point within 3 % of nominal (R513). -/
def clampMv (supply : Nat) (mv : Int) : Nat :=
  let n := nominalMv supply
  let lo : Int := (n * 97 + 99) / 100
  let hi : Int := n * 103 / 100
  (if mv < lo then lo else if hi < mv then hi else mv).toNat

/-- The board record's rails, where it is valid (R513). -/
def parseRecord (b : Bytes) : Option (List Rail) :=
  let n := (byteAt 6 b).toNat
  let ok (i : Nat) : Bool :=
    let o := 16 + 16 * i
    decide (1 ≤ leAt o 1 b) && decide (leAt o 1 b ≤ 7) && decide (leAt (o + 1) 1 b < 128) && decide (leAt (o + 3) 1 b ≤ 3) &&
    decide (leAt (o + 6) 10 b = 0)
  let crc := (crc32c (b.take (16 + 16 * n))).toNat
  if leAt 0 4 b = 0x42484350 ∧ leAt 4 2 b = 1 ∧ 1 ≤ n ∧ n ≤ 16 ∧ leAt 7 1 b ≤ 1 ∧ leAt 8 8 b = 0 ∧ (List.range n).all ok = true ∧
      leAt (16 + 16 * n) 4 b = crc then
    some ((List.range n).map fun i =>
      let o := 16 + 16 * i
      let mv := clampMv (leAt o 1 b) (leAt (o + 4) 2 b)
      { supply := leAt o 1 b, group := leAt (o + 3) 1 b, record := mv, setMv := BitVec.ofNat 16 mv })
  else none

/-- The board record read after handover: its set points written, or RECORD_BAD. -/
def bootRecord (record : Bytes) (s : State) : State := match parseRecord record with
  | some l => updPwr (fun p => { p with rails := l, recordOk := true }) s
  | none => pwrEvent 5 (calEvent 0x1A9 none 0 0 s)

/-- The role at STAGE 2: never paired, active with a fresh epoch; paired, joining (R456, R462). -/
def bootRole (s : State) : State :=
  let s := { s with trp := { s.trp with startAt := s.time.time64 } }
  if s.trp.paired then setRole fsmJOINING s
  else
    let (b, s) := drawRoot 4 s
    { s with trp := { s.trp with epoch := if leNat b = 0 then 1 else BitVec.ofNat 32 (leNat b) } }

/-- Battery-latch entries reported by the next boot, with a host notice (R435). -/
def bootLatch (s : State) : State :=
  let l := s.canvas.sentinel.latch
  let s := l.zipIdx.foldl (fun s (e : (Word64 × Word64) × Nat) => copyLatch e.2 e.1 s) s
  if l = [] then s else hostNotice s

/-- Firmware starts Calliope (R475, R496). -/
def startCal (s : State) : State :=
  if s.cal.enable then s else openWindow (now s) (updCal (fun c => { c with enable := true }) s)

/-- BOOT_HANDOVER: pair 0 enters secure and pair 1 normal firmware; `certs` and `record` are what the flash reads of the
certificate area and the board record return. -/
def execBootHandover (certs : List Bytes) (record : Bytes) (s : State) : Res :=
  if s.boot.stage ≠ 1 then .next s
  else
    let s := { s with
      boot := { s.boot with stage := 2, handover := true, handoverAt := s.time.time64, fuseItem := fuseItem s }
      spdm := { s.spdm with slots := readCerts certs s } }
    .next (bootRole (bootRecord record (bootLatch (startCal s))))

/-! ### BOOT_OK and the watchdog (R358, R393, R397, R517) -/

/-- A gate entry as firmware programs it: mask, permissions R 1, W 2, X 4, locked. -/
def fwEntry (host isSealed : Bool) (base limit mask perm : Nat) : GateEntry :=
  let b := BitVec.ofNat 52 base
  let l := BitVec.ofNat 52 limit
  { base := b, limit := l, sBase := b, sLimit := l
    cfg := BitVec.ofNat 32 (mask + perm * 2 ^ 16 + b2n host * 2 ^ 19 + b2n isSealed * 2 ^ 20 + 2 ^ 21 + 2 ^ 31) }

/-- Entries 0 to 6 of the MEM gate (R397). -/
def memEntries : List GateEntry :=
  [fwEntry false false 0x1000000 0x10FFFFF 0x0004 3, fwEntry false false 0x1100000 0x111FFFF 0x0082 3,
   fwEntry false false 0x1120000 0x1127FFF 0x004C 3, fwEntry false false 0x1128000 0x112FFFF 0x040C 7,
   fwEntry false false 0x1130000 0x11300FF 0x050C 3, fwEntry false true 0x1140000 0x13FFFFF 0x000E 3,
   fwEntry true false 0 0xFFFFFFFFFFFFF 0x00C8 3]

/-- An entry written by firmware, unless it is locked. -/
def putGateEntry (g e : Nat) (x : GateEntry) (s : State) : State := updEntry g e (fun y => if y.lock then y else x) s

/-- Firmware programs and locks the gates: the MEM gate as R397 shows, entry 31 of every gate disabled and locked. -/
def lockGates (s : State) : State :=
  let s := memEntries.zipIdx.foldl (fun s (x : GateEntry × Nat) => putGateEntry 4 x.2 x.1 s) s
  (List.range (6 + nDies s.part.variant)).foldl (fun s g =>
    updEntry g 31 (fun y => if y.lock then y else { y with cfg := setBit (clrBit y.cfg 21) 31 }) s) s

/-- Every present die is die-ready. -/
def diesReady (s : State) : Bool := (List.range (nDies s.part.variant)).all fun d => s.power.dieReady.getLsbD d

/-- BOOT_OK. -/
def execBootOk (s : State) : Res :=
  if s.boot.stage = 2 ∧ diesReady s = true then
    .next (noteReady s (lockGates { s with boot := { s.boot with stage := 3 } }))
  else .next s

/-- BOOT_WATCHDOG: 2 s after handover without BOOT_OK. -/
def execBootWatchdog (s : State) : Res :=
  if s.boot.stage ≠ 2 ∨ now s < s.boot.handoverAt.toNat + 2000000000 then .next s
  else
    .next (fundamentalReset { s with boot := { s.boot with aonFail := setBit s.boot.aonFail s.boot.slot } })

/-! ### Recovery (R360) -/

/-- An image held as one byte string: its header, and its components where its entries place them. -/
def imageOf (b : Bytes) : ImageRead :=
  { header := .ok (fit 1024 b), comps := (componentsOf (fit 1024 b)).map fun c => .ok (slice c.off c.len b) }

/-- Checks 0x01 to 0x06 of a whole image: the FAIL code, or the components. -/
def checkImage (s : State) (b : Bytes) : Except Nat (List (Nat × Bytes)) :=
  let r := imageOf b
  let f := headerFail s (headerOf r)
  if f ≠ 0 then .error f else loadComps (componentsOf (headerOf r)) r.comps

/-- GLB_RECOVERY_GO: a write of GO; `img` is what the read of the image returns. -/
def execGlbRecoveryGo (img : HostData) (s : State) : Res :=
  if s.boot.stage ≠ 4 ∨ s.lcs.state = 3 then .next s
  else
    let n := s.boot.recLen.toNat * 1024
    match img, (getFunc s 0).busMaster with
    | .ok b, true => match checkImage s (fit n b) with
      | .ok l => .next (loadImage 2 (fit 1024 (fit n b)) l (setFail 2 0 s))
      | .error e => .next (setFail 2 e s)
    | _, _ => .next (setFail 2 0x07 s)

/-! ### Firmware services (R362 to R364, R373) -/

/-- The base of an image slot (R351). -/
def slotBase (k : Nat) : Nat := k * 0x4000000

/-- FW_STAGE: the header erased first, then the components written, then the header. -/
def execFwStage (id : Nat) (buf : HostData) (s : State) : Res :=
  .next (onService id 0x0F70 (fun i s => withForm i true s fun s =>
    let k := i.le 36 1
    if 1 < k ∨ k = s.boot.slot then refuse id stOPERAND_FORMAT 0x01 s
    else svcBuffer i buf s fun b s => match checkImage s b with
      | .error f =>
        if f = 0x02 ∨ f = 0x03 then refuse id stKEY_BLOCK_AUTH 0x09 s
        else refuse id stOPERAND_FORMAT (if f = 0x04 then 0x04 else 0x01) s
      | .ok _ =>
        let s := emit (.erase (slotBase k) 1024) s
        let s := (componentsOf (fit 1024 b)).foldl (fun s c => emit (.flash (slotBase k + c.off) (slice c.off c.len b)) s) s
        done id [BitVec.ofNat 8 k] (emit (.flash (slotBase k) (fit 1024 b)) s)) s)

/-- One bit more, and the end once the target reads blown. -/
def svnStep (id n : Nat) (s : State) : State :=
  let s := blowSvn n s
  if fuseSvn s < n then updItem id (fun i => { i with phase := phBlow }) s else done id [BitVec.ofNat 8 (fuseSvn s)] s

/-- FW_SVN_ADVANCE: each command blows one bit, in ascending order, until the target is reached (R349, R364). -/
def execFwSvnAdvance (id : Nat) (s : State) : Res :=
  match (getItem s id).filter svnBlows with
  | some i => .next (if s.boot.stop0 then s else svnStep id (i.le 24 1) s)
  | none => .next (onService id 0x0F71 (fun i s => withForm i false s fun s =>
    let n := i.le 24 1
    if s.boot.stage ≠ 3 ∨ n < fuseSvn s ∨ s.boot.svn.toNat < n then refuse id stOPERAND_FORMAT 0x04 s
    else svnStep id n s) s)

/-- FW_KEY_REVOKE. -/
def execFwKeyRevoke (id : Nat) (s : State) : Res :=
  .next (onService id 0x0F72 (fun i s => withForm i false s fun s =>
    let k := i.le 24 1
    if 3 < k then refuse id stOPERAND_FORMAT 0x01 s
    else if k = s.boot.keyIndex.toNat then refuse id stOPERAND_FORMAT 0x04 s
    else
      let r := setBit s.fuses.revoked k
      done id [BitVec.ofNat 8 r.toNat] { s with fuses := { s.fuses with revoked := r } }) s)

/-- The item bytes of block 9. -/
def idItem (s : State) : Bytes := Config.measItem 9 [(deviceId s.part).toNat, (glbConfig s.part).toNat]

/-- The digests of the nine blocks under SM3 or SHA-384 (R371). -/
def measDigests (sha384 : Bool) (s : State) : List Bytes :=
  let h (b : Bytes) : Bytes := if sha384 then fit 48 (Config.hash 1 b) else sm3 b
  [h Config.romImage] ++ (List.range 5).map (fun k => (if sha384 then s.boot.meas384 else s.boot.meas).getD k []) ++
  [h s.boot.fuseItem, h s.dbg.tokens, h (idItem s)]

/-- One 40-byte log entry (R372). -/
def logEntry (s : State) (i : Nat) (digest : Bytes) : Bytes :=
  [BitVec.ofNat 8 i, BitVec.ofNat 8 (Config.measType i)] ++ zeros 2 ++
  toLE 4 (if 2 ≤ i ∧ i ≤ 4 then s.boot.svn.toNat else 0) ++ fit 32 digest

/-- The measurement log, 360 bytes. -/
def measLog (s : State) : Bytes := ((measDigests false s).zipIdx.map fun e => logEntry s (e.2 + 1) e.1).flatten

/-- Bytes 0 to 191 of a quote of a partition (R372). -/
def quoteBody (s : State) (p : Nat) (nonce : Bytes) : Bytes :=
  toLE 4 0x00080001 ++ toLE 4 616 ++ toLE 8 s.fuses.serial.toNat ++ toLE 4 (lcsWord s).toNat ++ toLE 2 (zeroiseCnt s) ++
  [BitVec.ofNat 8 (fuseSvn s), BitVec.ofNat 8 s.boot.slot] ++ toLE 4 s.boot.version.toNat ++ [BitVec.ofNat 8 p] ++ zeros 3 ++
  fit 32 nonce ++ toLE 8 (now s) ++ zeros 8 ++ sm3 (measLog s) ++ (manRec s p).digest ++ (regRec s p).digest ++
  toLE 4 (regRec s p).word.toNat ++ toLE 4 (manRec s p).word.toNat ++ zeros 8

/-- ATTEST_QUOTE. -/
def execAttestQuote (id : Nat) (s : State) : Res :=
  .next (onService id 0x0F73 (fun i s => withForm i false s fun s => withCage i s fun s =>
    if i.le 40 4 < 616 then finish id stOPERAND_FORMAT (toLE 4 616) false s
    else if drbgDown s ∨ ¬ s.units.rng.drbgReady then finish id stNOT_READY [] false s
    else
      let body := quoteBody s (i.le 24 1) (slice 65 32 i.raw)
      let log := measLog s
      let (sig, s) := idSign body s
      svcOutput i (i.le 32 8) (i.le 40 4) (body ++ sig ++ log) s) s)

/-! ### Lockstep (R366) -/

/-- LOCKSTEP_MISMATCH: the pair stops, its services complete with HALTED, and CORE_LOCKSTEP is raised. -/
def execLockstepMismatch (pair : Nat) (s : State) : Res :=
  if 1 < pair then .next s
  else
    let s := { s with boot := if pair = 0 then { s.boot with stop0 := true } else { s.boot with stop1 := true } }
    let ids := (s.items.filter fun i => decide (i.place = .core) && decide (pairOf i.routine = pair)).map Item.id
    .next (raiseAlarm cCORE_LOCKSTEP (ids.foldl (fun s id => finish id stHALTED [] false s) s))

end Sys2Proof.Machine
end

