-- ==== Sys2Proof/Machine/Spdm.lean ====
section
/-!
DEFINITION. The SPDM responder and the unit challenge (R367 to R371, R374 to R376).  A request arrives with the fields
the responder acts on as operands and its message bytes; the layouts of the messages are DMTF's, and the fields of a
response the spec does not give are Config.spdmFields (assumption log 44).
-/
namespace Sys2Proof.Machine

/-! ### The responder (R365, R370, R519) -/

def updSpdm (f : Spdm → Spdm) (s : State) : State := { s with spdm := f s.spdm }

/-- The doublewords of a byte string, padded with zeros. -/
def dwords : Nat → Bytes → List Word32
  | 0, _ => []
  | n + 1, b => BitVec.ofNat 32 (leAt 0 4 b) :: dwords n (b.drop 4)

/-- The DOE object of a message: vendor 1 and its type, its length in doublewords, the message (PRESUMED: PCI Express's
layout, log 47). -/
def doeObject (type : Byte) (msg : Bytes) : List Word32 :=
  let n := (msg.length + 3) / 4
  BitVec.ofNat 32 (1 + type.toNat * 65536) :: BitVec.ofNat 32 (n + 2) :: dwords n msg

/-- A response sent: its code and fields; where its request came through the PF's DOE mailbox, it is read there (R370). -/
def respondSpdm (code : Nat) (fields : Bytes) (s : State) : State :=
  let s := emit (.spdm code fields) s
  match s.pcie.doe.busy with
  | none => s
  | some t => { s with pcie := { s.pcie with doe := { s.pcie.doe with
      busy := none, read := s.pcie.doe.read ++ doeObject t (Config.spdmMessage code fields) } } }

/-- An error response. -/
def spdmError (s : State) : State := respondSpdm 0x7F [] s

/-- The responder is running: both pairs, from handover on; a wiped or unstarted part answers nothing. -/
def spdmUp (s : State) : Bool := (decide (s.boot.stage = 2) || decide (s.boot.stage = 3)) && !s.boot.stop0 && !s.boot.stop1 && !s.dbg.core1Halted

/-- A request in a phase at least `phase`: an error response where it is too long, too early, or before
VLT_STATUS.READY. -/
def onSpdm (phase : Nat) (msg : Bytes) (s : State) (body : State → State) : Res :=
  if ¬ spdmUp s then .next s
  else if 4096 < msg.length ∨ ¬ s.vault.ready ∨ s.spdm.phase < phase then .next (spdmError s)
  else .next (body (updSpdm (fun x => { x with log := x.log ++ msg }) s))

/-- A session by its number. -/
def findSession (s : State) (k : Nat) : Option SpdmSession := s.spdm.sessions.find? fun x => decide (x.id = k)

/-- A request within a finished session. -/
def inSession (k : Nat) (s : State) (body : State → State) : State := match findSession s k with
  | some x => if x.finished then body s else spdmError s
  | none => spdmError s

def updSession (k : Nat) (f : SpdmSession → SpdmSession) (s : State) : State :=
  updSpdm (fun x => { x with sessions := x.sessions.map fun y => if y.id = k then f y else y }) s

/-! ### The identity signer (R367, R368) -/

def idPubP384 (s : State) : Bytes := fit 96 (Config.publicKey 0xA (idPrivP384 s))

/-- The negotiated hash: SM3 or SHA-384. -/
def spdmHash (s : State) (b : Bytes) : Bytes := if s.spdm.sha384 then fit 48 (Config.hash 1 b) else sm3 b

/-- The negotiated identity key signs a message. -/
def spdmSign (msg : Bytes) (s : State) : Bytes × State :=
  if s.spdm.sha384 then
    let (r, s) := drawRoot 16 s
    (fit 96 (Config.sign 0xA 0 (idPrivP384 s) (Config.hash 1 msg) [] (BitVec.ofNat 128 (beNat r))), s)
  else idSign msg s

/-- A certificate slot whose leaf is the negotiated identity key. -/
def signingSlot (s : State) (slot : Nat) : Bool := match s.spdm.slots.find? fun e => decide (e.1 = slot) with
  | none => false
  | some e => decide (Config.certKey e.2 = some (if s.spdm.sha384 then idPubP384 s else idPubSm2 s))

/-- A signed response: its fields, then the signature over what SPDM defines. -/
def signedResponse (code : Nat) (fields : Bytes) (s : State) : State :=
  if drbgDown s ∨ ¬ s.units.rng.drbgReady then spdmError s
  else
    let (n, s) := drawRoot 32 s
    let (sig, s) := spdmSign (Config.spdmSigned code s.spdm.log (fields ++ n)) s
    respondSpdm code (fields ++ n ++ sig) s

/-! ### The requests (R369 to R371) -/

/-- GET_VERSION: SPDM 1.2; the negotiation starts anew. -/
def execGetVersion (msg : Bytes) (s : State) : Res :=
  onSpdm 0 msg s fun s => respondSpdm 0x04 [0x12] (updSpdm (fun x => { x with phase := 1, log := msg }) s)

/-- GET_CAPABILITIES. -/
def execGetCapabilities (msg : Bytes) (s : State) : Res :=
  onSpdm 1 msg s fun s => respondSpdm 0x61 (Config.spdmFields 0x61 s.spdm.log) (updSpdm (fun x => { x with phase := max x.phase 2 }) s)

/-- NEGOTIATE_ALGORITHMS: SM2 with SM3 where the requester offers it, else P-384 with SHA-384. -/
def execNegotiateAlgorithms (sm2 p384 : Bool) (msg : Bytes) (s : State) : Res :=
  onSpdm 2 msg s fun s =>
    if ¬ sm2 ∧ ¬ p384 then spdmError s
    else respondSpdm 0x63 [BitVec.ofNat 8 (b2n (!sm2))] (updSpdm (fun x => { x with phase := 3, sha384 := !sm2 }) s)

/-- GET_DIGESTS: the slot mask, and the digest of each present chain. -/
def execGetDigests (msg : Bytes) (s : State) : Res :=
  onSpdm 3 msg s fun s =>
    let mask := (s.spdm.slots.map fun e => 2 ^ e.1).sum
    respondSpdm 0x01 (BitVec.ofNat 8 mask :: s.spdm.slots.flatMap fun e => spdmHash s e.2) s

/-- GET_CERTIFICATE: part of a present slot's chain. -/
def execGetCertificate (slot off len : Nat) (msg : Bytes) (s : State) : Res :=
  onSpdm 3 msg s fun s => match s.spdm.slots.find? fun e => decide (e.1 = slot) with
    | none => spdmError s
    | some e => if e.2.length ≤ off then spdmError s else respondSpdm 0x02 ((e.2.drop off).take len) s

/-- CHALLENGE: signed by the identity signer; none after step 5 of the wipe (R413). -/
def execChallenge (slot : Nat) (msg : Bytes) (s : State) : Res :=
  onSpdm 3 msg s fun s =>
    if s.fuses.rootGone ∨ ¬ signingSlot s slot then spdmError s
    else signedResponse 0x03 (BitVec.ofNat 8 slot :: spdmHash s (((s.spdm.slots.find? fun e => decide (e.1 = slot)).map Prod.snd).getD [])) s

/-- GET_MEASUREMENTS: index 0 the number of blocks, 1 to 9 one block, 0xFF all. -/
def execGetMeasurements (index : Nat) (signed : Bool) (slot : Nat) (msg : Bytes) (s : State) : Res :=
  onSpdm 3 msg s fun s =>
    let block (k : Nat) : Bytes := [BitVec.ofNat 8 k, BitVec.ofNat 8 (Config.measType k)] ++ (measDigests s.spdm.sha384 s).getD (k - 1) []
    let fields : Option Bytes :=
      if index = 0 then some [9] else if index ≤ 9 then some (block index)
      else if index = 0xFF then some ((List.range 9).flatMap fun k => block (k + 1)) else none
    match fields with
    | none => spdmError s
    | some f => if ¬ signed then respondSpdm 0x60 f s
      else if s.fuses.rootGone ∨ ¬ signingSlot s slot then spdmError s else signedResponse 0x60 f s

/-- KEY_EXCHANGE: a session opened, at most 4 at once. -/
def execKeyExchange (slot : Nat) (msg : Bytes) (s : State) : Res :=
  onSpdm 3 msg s fun s =>
    if 4 ≤ s.spdm.sessions.length ∨ s.fuses.rootGone ∨ ¬ signingSlot s slot then spdmError s
    else if drbgDown s ∨ ¬ s.units.rng.drbgReady then spdmError s
    else
      let n := s.spdm.nextId
      let s := updSpdm (fun x => { x with sessions := x.sessions ++ [{ id := n }], nextId := n + 1 }) s
      signedResponse 0x64 (toLE 2 n ++ Config.spdmFields 0x64 s.spdm.log) s

/-- FINISH: `valid` says whether the requester's verify data is right. -/
def execFinish (session : Nat) (valid : Bool) (msg : Bytes) (s : State) : Res :=
  onSpdm 3 msg s fun s => match findSession s session with
    | none => spdmError s
    | some x =>
      if x.finished then spdmError s
      else if ¬ valid then spdmError (updSpdm (fun y => { y with sessions := y.sessions.filter fun z => decide (z.id ≠ session) }) s)
      else respondSpdm 0x65 [] (updSession session (fun y => { y with finished := true }) s)

/-- HEARTBEAT. -/
def execHeartbeat (session : Nat) (msg : Bytes) (s : State) : Res :=
  onSpdm 3 msg s fun s => inSession session s fun s => respondSpdm 0x68 [] s

/-- KEY_UPDATE. -/
def execKeyUpdate (session : Nat) (msg : Bytes) (s : State) : Res :=
  onSpdm 3 msg s fun s => inSession session s fun s =>
    respondSpdm 0x69 [] (updSession session (fun y => { y with updates := y.updates + 1 }) s)

/-- END_SESSION. -/
def execEndSession (session : Nat) (msg : Bytes) (s : State) : Res :=
  onSpdm 3 msg s fun s => inSession session s fun s =>
    respondSpdm 0x6C [] (updSpdm (fun y => { y with sessions := y.sessions.filter fun z => decide (z.id ≠ session) }) s)

/-- SET_CERTIFICATE: slots 2 to 7, in PRODUCTION and in a secured session only; the chain goes to flash with its
length, and counts from the next leaf check, which is made at once. -/
def execSetCertificate (session slot : Nat) (chain msg : Bytes) (s : State) : Res :=
  onSpdm 3 msg s fun s => inSession session s fun s =>
    if slot < 2 ∨ 7 < slot ∨ s.lcs.state.toNat ≠ 2 ∨ 8192 < chain.length + 4 then spdmError s
    else
      let s := emit (.flash (0x8000000 + slot * 0x2000) (toLE 4 chain.length ++ chain)) s
      let rest := s.spdm.slots.filter fun e => decide (e.1 ≠ slot)
      let l := if idLeaf s chain then (rest.filter fun e => decide (e.1 < slot)) ++ [(slot, chain)] ++ (rest.filter fun e => decide (slot < e.1)) else rest
      respondSpdm 0x6E [BitVec.ofNat 8 slot] (updSpdm (fun x => { x with slots := l }) s)

/-- VENDOR_DEFINED: only IDE_KM, which keys the IDE streams, in a secured session. -/
def execVendorDefined (session : Nat) (ideKm : Bool) (msg : Bytes) (s : State) : Res :=
  onSpdm 3 msg s fun s => inSession session s fun s =>
    if ideKm then respondSpdm 0x7E [] (updSpdm (fun x => { x with ideKeys := true }) s) else spdmError s

/-! ### Unit challenge (R374 to R376) -/

/-- The response under the pairing secret: the first 16 bytes of HMAC-SM3 over "PCH-UCH1" and the challenge. -/
def uchResponse (s : State) : Bytes :=
  (fit 32 (Config.hmac 5 s.cage.pairing.digest (ascii "PCH-UCH1" ++ toLE 8 s.uch.chal0.toNat ++ toLE 8 s.uch.chal1.toNat))).take 16

/-- UCH_START: a write of START. -/
def execUchStart (s : State) : Res :=
  if s.uch.code = 0x20 then .next s
  else .next { s with uch := { s.uch with code := if s.vault.ready then 0x20 else 0x12, seq := s.uch.seq + 1, resp0 := 0, resp1 := 0 } }

/-- UCH_DONE: the response is ready; without a pairing secret since, CODE 0x12. -/
def execUchDone (s : State) : Res :=
  if s.uch.code ≠ 0x20 then .next s
  else if ¬ s.vault.ready then .next { s with uch := { s.uch with code := 0x12 } }
  else
    let r := uchResponse s
    .next { s with uch := { s.uch with code := 0x00, resp0 := BitVec.ofNat 64 (leAt 0 8 r), resp1 := BitVec.ofNat 64 (leAt 8 8 r) } }

end Sys2Proof.Machine
end

