-- ==== Sys2Proof/Machine/Mover.lean ====
section
/-!
DEFINITION. The Roustabout mover (R377 to R382).
-/
namespace Sys2Proof.Machine

/-! ### Channels -/

def dMov : Nat → MovCh := fun _ => {}
def getMov (s : State) (n : Nat) : MovCh := Tab.get dMov s.mov.ch n
def updMov (n : Nat) (f : MovCh → MovCh) (s : State) : State := { s with mov := { s.mov with ch := Tab.upd dMov s.mov.ch n f } }

def MovCh.srcHost (c : MovCh) : Bool := bitOf c.cfg 0
def MovCh.dstHost (c : MovCh) : Bool := bitOf c.cfg 1
def MovCh.swap (c : MovCh) : Nat := fld c.cfg 3 2
def MovCh.colour (c : MovCh) : Nat := fld c.cfg 11 8

/-- A channel that moves or waits to (R377). -/
def MovCh.busy (c : MovCh) : Bool := decide (c.state = 1) || decide (c.state = 2)

/-- MOV_STATUS.PENDING. -/
def movPending (s : State) : Nat := ((List.range 8).map fun n => if (getMov s n).state = 1 then 2 ^ n else 0).sum

/-- The first pending channel after the one that ended last, in ascending order, wrapping (R377). -/
def nextMov (s : State) : Option Nat :=
  ((List.range 8).map fun k => (s.mov.last + 1 + k) % 8).find? fun n => decide ((getMov s n).state = 1)

/-- The next pending channel becomes active where none is. -/
def startNext (s : State) : State :=
  if s.mov.active.isSome then s
  else match nextMov s with
    | none => s
    | some n => updMov n (fun c => { c with state := 2 }) { s with mov := { s.mov with active := some n } }

/-- What START finds wrong: COUNT, SWAP or a reserved value (ERR 4 of R382). -/
def movCfgBad (c : MovCh) : Bool :=
  decide (c.count = 0) || decide (0x40000000 < c.count.toNat) || decide (c.swap = 3) ||
  (decide (c.swap ≠ 0) && decide (c.count.toNat % 4 ≠ 0))

/-- A transfer over: its state, the IRQ bits it raises, and the next channel. -/
def endMov (n : Nat) (f : MovCh → MovCh) (irq : BitVec 24) (s : State) : State :=
  let s := updMov n f s
  startNext { s with mov := { s.mov with irq := s.mov.irq ||| irq, active := none, last := n } }

/-! ### Commands -/

/-- MOV_START: a write of START by a control-core pair. -/
def execMovStart (ch pair : Nat) (s : State) : Res :=
  if 7 < ch then .next s
  else
    let c := getMov s ch
    if c.busy then .next (updMov ch (fun c => { c with cfgBusy := true }) s)
    else if movCfgBad c then
      .next (updMov ch (fun c => { c with state := 5, err := 4, done := 0, pair := pair, stop := false })
        { s with mov := { s.mov with irq := setBit s.mov.irq (16 + ch) } })
    else .next (startNext (updMov ch (fun c => { c with state := 1, err := 0, done := 0, pair := pair, stop := false }) s))

/-- MOV_STOP: a write of STOP.  A channel that has not begun stops at once; an active one at the next 64-byte boundary. -/
def execMovStop (ch : Nat) (s : State) : Res :=
  if 7 < ch then .next s
  else if (getMov s ch).state = 1 then .next (updMov ch (fun c => { c with state := 4 }) s)
  else if (getMov s ch).state = 2 then .next (updMov ch (fun c => { c with stop := true }) s)
  else .next s

/-- MOV_HALF: floor(COUNT / 2) bytes have been written and acknowledged. -/
def execMovHalf (ch : Nat) (s : State) : Res :=
  let c := getMov s ch
  if ch ≤ 7 ∧ c.state = 2 then
    .next (updMov ch (fun c => { c with done := BitVec.ofNat 31 (max c.done.toNat (c.count.toNat / 2)) })
      (if bitOf c.cfg 4 then { s with mov := { s.mov with irq := setBit s.mov.irq ch } } else s))
  else .next s

/-- One side of a transfer at its target: accesses as R378 states, 64 bytes at most each (assumption log 73).  A host access
without Bus Master Enable is a host error; the answer is an ERR code, 0 where all pass, with the bytes that passed. -/
def movAccess (c : MovCh) (host : Bool) (a n t : Nat) (s : State) : Nat × Nat × State :=
  if host ∧ ¬ (getFunc s 0).busMaster then (2, 0, s)
  else
    let (m, s) := passedBytes 64 c.colour host t a n s
    (if m < n then 1 else 0, m, s)

/-- Where a transfer reaches: all of it, or as far as its end says, at the next 64-byte boundary of a stop. -/
def movReach (c : MovCh) (upTo : Nat) : Nat :=
  if c.stop then min c.count.toNat ((max c.done.toNat upTo + 63) / 64 * 64) else min upTo c.count.toNat

/-- What the written bytes leave in host memory; control-die targets hold no plain memory of this model but through
their own commands. -/
def movWrite (c : MovCh) (data : Bytes) (s : State) : State :=
  if data = [] then s
  else if c.dstHost then dataWrite 0 0 0 c.dst.toNat data s
  else emit (.devMem c.dst.toNat data) s

/-- The HALF bit, where a transfer passes its half before MOV_HALF has said so. -/
def halfIrq (c : MovCh) (ch reach : Nat) : BitVec 24 :=
  if bitOf c.cfg 4 ∧ c.count.toNat / 2 ≤ reach ∧ (c.done.toNat < c.count.toNat / 2 ∨ c.count = 1) then BitVec.ofNat 24 (2 ^ ch) else 0

/-- MOV_TRANSFER_END: the active transfer ends.  `data` is what its reads returned, `reach` how many bytes had been
written and acknowledged when a stop or an error on the way ended it, `end_` that error: host, or poisoned or ECC-failed
read data.  It reaches no further than its first denied access, and what was written stands (R381). -/
def execMovTransferEnd (data : Bytes) (reach : Nat) (end_ : JobEnd) (s : State) : Res :=
  match s.mov.active with
  | none => .next s
  | some ch =>
    let c := getMov s ch
    let n := c.count.toNat
    let data := swapData c.swap (fit n data)
    let upTo := if end_ = .done then (if c.stop then movReach c reach else n) else min reach n
    let fail (e k : Nat) (s : State) : State :=
      endMov ch (fun c => { c with state := 5, err := BitVec.ofNat 4 e, done := BitVec.ofNat 31 k })
        (BitVec.ofNat 24 (2 ^ (16 + ch)) ||| halfIrq c ch k) (movWrite c (data.take k) s)
    let (er, mr, s) := movAccess c c.srcHost c.src.toNat upTo 0 s
    let (ew, mw, s) := movAccess c c.dstHost c.dst.toNat mr 1 s
    if ew ≠ 0 then .next (fail ew mw s)
    else if er ≠ 0 then .next (fail er mr s)
    else match end_ with
        | .hostError => .next (fail 2 upTo s)
        | .poison => .next (fail 3 upTo s)
        | .check => .next (fail 3 upTo s)
        | .done =>
          if upTo < n then
            .next (endMov ch (fun c => { c with state := 4, done := BitVec.ofNat 31 upTo }) (halfIrq c ch upTo) (movWrite c (data.take upTo) s))
          else
            let irq : BitVec 24 := if bitOf c.cfg 5 then BitVec.ofNat 24 (2 ^ (8 + ch)) else 0
            .next (endMov ch (fun c => { c with state := 3, done := c.count }) (irq ||| halfIrq c ch n) (movWrite c data s))

end Sys2Proof.Machine
end

