-- ==== Sys2Proof/Machine/Lifecycle.lean ====
section
/-!
DEFINITION. Gate entries and barriers, the debug port's instructions other than DBG_ACCESS, and the life cycle (R392,
R396, R400 to R417).
-/
namespace Sys2Proof.Machine

/-! ### Gate entries and barriers (R392, R396, R398) -/

/-- A gate the package has. -/
def gatePresent (s : State) (g : Nat) : Bool := decide (g < 6 + nDies s.part.variant)

/-- Address of a gate's registers. -/
def gateReg (g : Nat) : Nat := 0x6B000000 + g * 0x1000

/-- An entry's configuration committed with its staged base and limit. -/
def commitEntry (g e : Nat) (v : Word32) (s : State) : State :=
  let x := (entriesOf s g).getD e {}
  if x.lock then updGate g (fun y => { y with err := setBit y.err 0 }) s
  else if x.sLimit < x.sBase ∨ (bitOf v 19 = true ∧ g ≠ 4) then updGate g (fun y => { y with err := setBit y.err 1 }) s
  else
    let cfg := (v &&& 0x803FFFFF) ||| (x.cfg &&& 0x80100000)
    updEntry g e (fun x => { x with base := x.sBase, limit := x.sLimit, cfg := cfg }) s

/-- GAT_ENT_CFG_WRITE by a colour. -/
def execGatEntCfgWrite (colour gate entry : Nat) (value : Word32) (s : State) : Res :=
  if ¬ gatePresent s gate ∨ 31 < entry then .next s
  else
    let (ok, s) := gateAccess colour false (gateReg gate + 0x110 + entry * 0x20) 4 1 s
    .next (if ok then commitEntry gate entry value s else s)

/-- The accesses that have passed a gate and not completed: at MEM, the host reads of the seats (R396; assumption log
75). -/
def gateReads (s : State) (g : Nat) : List (Nat × Nat) :=
  if g ≠ 4 then []
  else (List.range (4 * nTroupes s.part.variant)).flatMap fun k =>
    ((getSeat s k).x.ops.filter fun o => decide (o.unit = .host)).map fun o => (k, o.at_)

/-- GATE_SYNC: a write of SYNC by a colour starts or extends the barrier. -/
def execGateSync (colour gate : Nat) (s : State) : Res :=
  if ¬ gatePresent s gate then .next s
  else
    let (ok, s) := gateAccess colour false (gateReg gate + 8) 4 1 s
    .next (if ok then updGate gate (fun y => { y with sync := true, syncFor := gateReads s gate }) s else s)

/-- GATE_SYNC_DONE: every access the barrier covers has completed. -/
def execGateSyncDone (gate : Nat) (s : State) : Res :=
  if gatePresent s gate ∧ (getGate s gate).syncFor.all (fun r => !(gateReads s gate).contains r) then
    .next (updGate gate (fun y => { y with sync := false, syncFor := [] }) s)
  else .next s

/-! ### The debug port (R400 to R404) -/

/-- A word shifted out. -/
def shiftOut (v : Word64) (err : Bool) (s : State) : State := emit (.debug v err) s

/-- BYPASS: the one-bit bypass register; nothing of the device changes. -/
def execBypass (s : State) : Res := .next s

/-- IDCODE. -/
def execIdcode (s : State) : Res :=
  .next (shiftOut (BitVec.ofNat 64 (0xB * 2 ^ 28 + partCode s.part.variant * 2 ^ 12 + 0x73D * 2 + 1)) false s)

/-- SAMPLE/PRELOAD: the balls are sampled and the boundary cells loaded; nothing of the device changes. -/
def execSamplePreload (s : State) : Res := .next s

/-- The END_OF_LIFE wipe has ended. -/
def wiped (s : State) : Bool := decide (s.fuses.wipe = 0x1F)

/-- EXTEST: its cause is acted on first; EXTEST_SEEN is set.  Before the wipe of END_OF_LIFE it acts as BYPASS. -/
def execExtest (s : State) : Res :=
  if supplyCase s ≠ some 0 ∨ (s.lcs.state = 3 ∧ ¬ wiped s) then .next s
  else
    let s := respond 0 [cDEBUG_EXTEST] (abortStim [cDEBUG_EXTEST] s)
    .next { s with dbg := { s.dbg with extest := true } }

/-- DBG_STATUS register (R399). -/
def dbgStatus (s : State) : Nat :=
  s.dbg.scope.toNat + b2n s.dbg.grant * 16 + b2n s.dbg.extest * 32 + b2n s.dbg.core1Halted * 64 + s.dbg.grantCnt.toNat * 256

/-- DBG_STATUS instruction: DBG_STATUS and DBG_EXPIRY shifted out. -/
def execDbgStatus (s : State) : Res :=
  .next (shiftOut s.dbg.expiry false (shiftOut (BitVec.ofNat 64 (dbgStatus s)) false s))

/-- A grant in force: its scopes; none once TIME64 has reached DBG_EXPIRY (R403). -/
def grantScope (s : State) : BitVec 4 := if s.dbg.grant ∧ now s < s.dbg.expiry.toNat then s.dbg.scope else 0

/-- DBG_CORE1 is available: in BLANK and TEST, under scope CORE1 in PRODUCTION, after the wipe in END_OF_LIFE. -/
def core1Port (s : State) : Bool :=
  decide (s.lcs.state.toNat < 2) || (decide (s.lcs.state = 2) && (grantScope s).getLsbD 3) || (decide (s.lcs.state = 3) && wiped s)

/-- DBG_CORE1 halt. -/
def execDbgCore1Halt (s : State) : Res :=
  if core1Port s then .next { s with dbg := { s.dbg with core1Halted := true } } else .next s

/-- DBG_CORE1 step: a halted pair executes an instruction and is halted again; what the instruction does is firmware's. -/
def execDbgCore1Step (s : State) : Res := .next s

/-- DBG_CORE1 resume. -/
def execDbgCore1Resume (s : State) : Res :=
  if core1Port s then .next { s with dbg := { s.dbg with core1Halted := false } } else .next s

/-- Fuse bits that are blown stay blown. -/
def orBytes (a b : Bytes) : Bytes := List.zipWith (· ||| ·) (fit 32 a) (fit 32 b)

/-- FUSE_PROG of a row: 0 the serial, 1 to 4 the signer digests, 5 the root secret, which the device draws itself. -/
def execFuseProg (row : Nat) (data : Bytes) (s : State) : Res :=
  if 2 ≤ s.lcs.state.toNat then .next s
  else if row = 0 then
    .next { s with fuses := { s.fuses with serial := s.fuses.serial ||| BitVec.ofNat 64 (leAt 0 8 data) } }
  else if row ≤ 4 then
    .next { s with fuses := { s.fuses with signers := s.fuses.signers.modify (row - 1) fun d => orBytes d data } }
  else if row = 5 ∧ s.lcs.state = 0 ∧ s.units.rng.drbgReady = true then
    let (b, s) := drawRoot 32 s
    .next { s with fuses := { s.fuses with root := some (orBytes (s.fuses.root.getD []) b) } }
  else .next s

/-! ### Life-cycle requests (R409 to R411, R414) -/

def updLcs (f : Lcs → Lcs) (s : State) : State := { s with lcs := f s.lcs }

/-- LCS_REQ reaches the controller: from the port in BLANK and TEST, or as a register write of a colour at its gate. -/
def lcsReq (colour : Option Nat) (s : State) (body : State → State) : State := match colour with
  | none => if s.lcs.state.toNat < 2 then body s else s
  | some c =>
    let (ok, s) := gateAccess c false 0x6C000018 8 1 s
    if ok then body s else s

/-- LCS_REQ_ARM: TARGET written with GO 0. -/
def execLcsReqArm (colour : Option Nat) (target : Word32) (s : State) : Res :=
  .next (lcsReq colour s fun s => updLcs (fun l =>
    if l.programming.isSome then { l with result := 5 }
    else { l with target := target, armed := true, armAt := s.time.time64, fsm := 0x3C3C }) s)

/-- A transition of R409 that LCS_REQ may request. -/
def lcsAllowed (s : State) (n : Nat) : Bool :=
  let m := s.lcs.state.toNat
  (decide (m = 0) && decide (n = 1)) || (decide (m = 1) && decide (n = 2)) || (decide (m < 2) && decide (n = 3))

/-- Its precondition. -/
def lcsReady (s : State) (n : Nat) : Bool :=
  if n = 1 then decide (s.fuses.serial ≠ 0) && (s.fuses.signers.all fun d => decide (d ≠ [])) && s.fuses.root.isSome
  else if n = 2 then decide (s.fuses.revoked ≠ 0xF) else true

/-- LCS_REQ_GO: TARGET written with GO 1. -/
def execLcsReqGo (colour : Option Nat) (target : Word32) (s : State) : Res :=
  .next (lcsReq colour s fun s =>
    let l := s.lcs
    let off (r : Nat) : State := updLcs (fun l => { l with armed := false, fsm := 0xAAAA, result := BitVec.ofNat 3 r }) s
    if l.programming.isSome then updLcs (fun l => { l with result := 5 }) s
    else if ¬ l.armed ∨ target ≠ l.target then updLcs (fun l => { l with result := 3 }) s
    else if l.armAt.toNat + 1000000 < now s then off 3
    else match lcsOf target with
      | none => off 2
      | some n =>
        if ¬ lcsAllowed s n then off 2
        else if ¬ lcsReady s n then off 4
        else updLcs (fun l => { l with armed := false, fsm := 0xF0F0, result := 0, programming := some (BitVec.ofNat 2 n) }) s)

/-- LCS_ARM_EXPIRE: 1 ms after arming. -/
def execLcsArmExpire (s : State) : Res :=
  if s.lcs.armed ∧ s.lcs.armAt.toNat + 1000000 ≤ now s then .next (updLcs (fun l => { l with armed := false, fsm := 0xAAAA }) s)
  else .next s

/-- Phase of a service that waits for the life-cycle controller. -/
def phLifecycle : Nat := 8

/-- The service that started the programming completes and its completion is written (R412). -/
def endScrap (s : State) : State :=
  ((s.items.filter fun i => decide (i.place = .core) && decide (i.phase = phLifecycle)).map Item.id).foldl
    (fun s id => writeRelease id (finish id stOK [] false s)) s

/-- LCS_PROGRAM_DONE: the bits of the new code are blown in the three copies, and the reset of R409 follows; on the way to
PRODUCTION the Cage is cleared and the wait latch set first. -/
def execLcsProgramDone (s : State) : Res :=
  match s.lcs.programming with
  | none => .next s
  | some n =>
    let c := lcsCode n.toNat
    let s := { endScrap s with
      fuses := { s.fuses with c0 := s.fuses.c0 ||| c, c1 := s.fuses.c1 ||| c, c2 := s.fuses.c2 ||| c } }
    let s := if n = 2 then updLcs (fun l => { l with waitLatch := true }) (clearCage s) else s
    .next (fundamentalReset s)

/-! ### The wipe (R413) -/

/-- A wipe step, 0 to 4. -/
def wipeStep (k : Nat) (s : State) : State :=
  if k = 0 then clearCage s
  else if k = 1 then purge s
  else if k = 2 then { s with
    trace := { s.trace with mem := [] }
    dir := { s.dir with recs := [] }
    routines := { s.routines with library := [], parts := Tab.mapVals dRPart (fun p r => { noRoutines s p r with old := [] }) s.routines.parts } }
  else if k = 3 then { s with
    boot := { s.boot with anchors := [] }
    troupes := Tab.mapVals dTroupe (fun _ t => { t with lines := [] }) s.troupes }
  else { s with fuses := { s.fuses with rootGone := true } }

/-- WIPE_STEP_DONE: the step's effect, its bit blown, and the next step or the end. -/
def execWipeStepDone (s : State) : Res :=
  if s.lcs.fsm ≠ 0x6666 then .next s
  else
    let k := s.lcs.wipeStep.toNat
    let s := wipeStep k s
    let s := { s with fuses := { s.fuses with wipe := setBit s.fuses.wipe k } }
    .next (bootEndOfLife s)

/-! ### Debug grants and the services (R403, R412, R417) -/

/-- DEBUG_GRANT_EXPIRE. -/
def execDebugGrantExpire (s : State) : Res :=
  if s.dbg.grant ∧ s.dbg.expiry.toNat ≤ now s then .next (endGrant s) else .next s

/-- LCS_SCRAP: authorised in PRODUCTION; dispatch stops as at S3 and programming starts. -/
def execLcsScrap (id : Nat) (buf : HostData) (s : State) : Res :=
  .next (onService id 0x0F80 (fun i s => withForm i true s fun s => svcBuffer i buf s fun b s =>
    let go (s : State) : State :=
      updItem id (fun i => { i with phase := phLifecycle })
        (endUnstarted stHALTED (updLcs (fun l => { l with programming := some 3, armed := false, fsm := 0xF0F0 }) s))
    if s.lcs.programming.isSome then s
    else if s.lcs.state.toNat < 2 then go s
    else vaultAuthOr id { action := 0x18, part := 0, subject := sm3 (serialBytes s) } b s go) s)

/-- The action parameter of DEBUG_UNLOCK: its 4 bytes where scope and duration are in range. -/
def unlockParam (b : Bytes) : Option (Nat × Nat) :=
  let scope := leAt 8 1 b
  let minutes := leAt 9 2 b
  if scope < 16 ∧ 1 ≤ minutes ∧ minutes ≤ 1440 ∧ leAt 11 1 b = 0 then some (scope, minutes) else none

/-- DEBUG_UNLOCK: a grant of the authorised scopes and duration, which replaces the one in force. -/
def execDebugUnlock (id : Nat) (buf : HostData) (s : State) : Res :=
  .next (onService id 0x0F81 (fun i s => withForm i true s fun s =>
    if s.lcs.state ≠ 2 then refuse id stOPERAND_FORMAT 0x04 s
    else svcBuffer i buf s fun b s =>
      let p := unlockParam b
      let param := match p with
        | some _ => slice 8 4 b
        | none => (slice 8 4 b).map (· + 1)
      vaultAuth id { action := 0x19, part := 0, param := param, subject := sm3 (serialBytes s) } b s fun s =>
        let (scope, minutes) := p.getD (0, 1)
        let e := s.time.time64 + BitVec.ofNat 64 (minutes * 60000000000)
        let s := endGrant s
        done id (toLE 8 e.toNat) (raiseAlarm cDEBUG_UNLOCK { s with dbg := { s.dbg with
          grant := true, scope := BitVec.ofNat 4 scope, expiry := e, grantCnt := satInc s.dbg.grantCnt
          tokens := s.dbg.tokens ++ b } })) s)

/-- DEBUG_LOCK. -/
def execDebugLock (id : Nat) (s : State) : Res :=
  .next (onService id 0x0F82 (fun i s => withForm i false s fun s => done id [] (endGrant s)) s)

end Sys2Proof.Machine
end

