-- ==== Sys2Proof/Machine/Duplex.lean ====
section
/-!
DEFINITION. Duplex pairs (spec file 13, and R33, R34): the peer link, heartbeats and the interlock, mirroring, claims and
takeover, planned handover, patrol and the Trapeze services.  A frame row carries `ok`, whether its tag verifies and its
SEQ is the next one, and `epoch`, the ROLE_EPOCH of its header.
-/
namespace Sys2Proof.Machine

def updTrp (f : Trp → Trp) (s : State) : State := { s with trp := f s.trp }

/-- Trapeze and Mirror House run: on pair 0, from handover on. -/
def trpUp (s : State) : Bool := (decide (s.boot.stage = 2) || decide (s.boot.stage = 3)) && !s.boot.stop0 && s.power.seq.sysPower

/-- T_DETECT in ns. -/
def tDetectNs (s : State) : Nat := s.trp.tDetect.toNat * 1000

/-- This unit has the lower GLB_SERIAL. -/
def lowerSerial (s : State) : Bool := decide (s.fuses.serial < s.trp.peer)

/-- This unit is preferred (R457). -/
def preferred (s : State) : Bool :=
  if s.trp.err.getLsbD 4 then lowerSerial s
  else if s.trp.prefer = 1 then true else if s.trp.prefer = 2 then false else lowerSerial s

/-! ### Frames (R449 to R451) -/

/-- A frame sent. -/
def sendFrame (kind : Nat) (payload : Bytes) (s : State) : State :=
  if s.trp.linkUp then emit (.peer kind payload) (updTrp (fun t => { t with txSeq := t.txSeq + 1 }) s) else s

/-- A frame received: dropped while the link is down, rejected where its tag or SEQ is wrong. -/
def onFrame (ok : Bool) (s : State) (body : State → State) : Res :=
  if ¬ trpUp s ∨ ¬ s.trp.linkUp then .next s
  else if ¬ ok then .next (trpErr 9 (updTrp (fun t => { t with authFail := satInc t.authFail }) s))
  else .next (body (updTrp (fun t => { t with rxSeq := t.rxSeq + 1 }) s))

/-- A stale frame (R465). -/
def staleFrame (s : State) : State := trpErr 3 (updTrp (fun t => { t with stales := satInc t.stales }) s)

/-- A frame whose epoch is checked. -/
def onEpoch (epoch : Word32) (s : State) (body : State → State) : State := if epoch = s.trp.epoch then body s else staleFrame s

/-! ### Health (R452, R453, R467) -/

/-- A path dies or returns: PATH_CHANGE. -/
def setPathA (b : Bool) (s : State) : State := if s.trp.pathA = b then s else trpEvent 1 (updTrp (fun t => { t with pathA := b }) s)
def setPathB (b : Bool) (s : State) : State := if s.trp.pathB = b then s else trpEvent 1 (updTrp (fun t => { t with pathB := b }) s)

/-- The count of R467 begins or breaks. -/
def noteHealth (s : State) : State :=
  let t := s.trp
  let good := decide (t.fsm = fsmSTANDBY) && t.pathA && t.pathB && !t.degraded
  if good ∧ t.healthyAt = none then updTrp (fun t => { t with healthyAt := some s.time.time64 }) s
  else if ¬ good ∧ t.healthyAt ≠ none then updTrp (fun t => { t with healthyAt := none }) s
  else s

/-! ### Held register changes (R461, R463) -/

/-- The first unsent staged write becomes the one that awaits MIRROR `n`. -/
def tagShare (n : Nat) : List ShareWrite → List ShareWrite
  | [] => []
  | w :: r => if w.held = some 0 then { w with held := some n } :: r else w :: tagShare n r

/-- A held register change sent. -/
def sendHeldOne (c : Change) (s : State) : State :=
  let n := s.trp.mirrorSeq + 1
  let share := c.writes.any fun w => match w with
    | .share _ _ => true
    | _ => false
  let s := if share then { s with booth := { s.booth with writes := tagShare n s.booth.writes } } else s
  submitChange c s

/-- Every held register change sent, once the link is back. -/
def sendHeld (s : State) : State :=
  if mirrors s ∧ s.trp.linkUp then s.trp.held.foldl (fun s c => sendHeldOne c s) (updTrp (fun t => { t with held := [] }) s) else s

/-- An acknowledged or local register change takes effect: a staged write is released, any other commits. -/
def releaseChange (n : Option Nat) (c : Change) (s : State) : State :=
  let share := c.writes.any fun w => match w with
    | .share _ _ => true
    | _ => false
  if share ∧ c.item = none then
    { s with booth := { s.booth with writes := s.booth.writes.map fun w =>
      if n = none ∨ w.held = n then { w with held := none } else w } }
  else commitChange c s

/-- Held changes take effect locally: the unit serves alone. -/
def commitHeld (s : State) : State :=
  let l := s.trp.held
  let s := updTrp (fun t => { t with held := [] }) s
  let s := { s with booth := { s.booth with writes := s.booth.writes.map fun w => { w with held := none } } }
  l.foldl (fun s c => releaseChange none c s) s

/-- The peer is lost: an active unit goes to SOLO and stops mirroring (R453, R463). -/
def losePeer (s : State) : State :=
  let s := trpEvent 5 (updTrp (fun t => { t with peerLost := true, standby := false, joining := false, joinActive := false }) s)
  if s.trp.fsm = fsmACTIVE then commitHeld (setRole fsmSOLO s) else s

/-! ### The full copy (R460, R462) -/

/-- The records of the Cage, the empty ones too: a joining unit's are overwritten whole. -/
def cageCopy (s : State) : List CageWrite :=
  (List.range 2048).map (fun n =>
    let r := slotRec s (n / 8) (n % 8)
    .slot (n / 8) (n % 8) r.word r.valid r.role r.alg (some r.active)) ++
  (List.range 256).map (fun p => .man p (manRec s p).word (manRec s p).digest) ++
  (List.range 256).map (fun p => .reg p (regRec s p).word (some (regRec s p).digest))

/-- Registry and manifest bodies, quotas, of every partition. -/
def copyBodies (s : State) : List CageWrite :=
  (List.range 256).flatMap fun p =>
    let r := getRPart s p
    [.registry p (getVPart s p).registry, .manifest p r.entries, .routineQuota p r.countMax r.kibMax,
      .dirQuota p (Tab.get dDirPart s.dir.parts p).quota.toNat]

/-- The mirrored registers. -/
def copyRegisters (s : State) : List CageWrite :=
  let h := s.booth.staged
  let part (p : Nat) : List Nat := [0x100000 + p * 0x40, 0x100008 + p * 0x40, 0x100010 + p * 0x40, 0x201000 + p * 0x10, 0x301000 + p * 0x10]
  let offs := (List.range 256).flatMap part ++
    (List.range (nTroupes s.part.variant)).flatMap fun t => (List.range 4).map fun w => 0x104000 + t * 0x20 + w * 8
  offs.map fun o => .share o (readShare h o)

/-- Everything R460 names. -/
def fullCopy (s : State) : List CageWrite := cageCopy s ++ copyBodies s ++ copyRegisters s

/-- A loaded bundle is still that of an installed entry. -/
def stillNamed (l : List ManEntry) (e : Nat × Image) : Bool := l.any fun m =>
  !m.revoked && decide (m.routine = e.1) && decide (m.gen = e.2.gen) && decide (m.digest = e.2.digest)

/-- A body follows its record on the standby: a manifest record without its body leaves the manifest to be restored, and
one with its body drops the loaded bundles that it names no longer (R238). -/
def followBodies (l : List CageWrite) (s : State) : State :=
  let hasBody (p : Nat) : Bool := l.any fun w => match w with
    | .manifest q _ => decide (p = q)
    | _ => false
  l.foldl (fun s w => match w with
    | .man p _ _ => updRPart p (fun r => if hasBody p then { r with restored := true } else noRoutines s p r) s
    | .manifest p _ => updRPart p (fun r => { r with restored := true, loaded := List.filter (stillNamed r.entries) r.loaded }) s
    | _ => s) s

/-- Mirrored writes taken by the standby (R461, R462). -/
def takeWrites (l : List CageWrite) (s : State) : State := followBodies l (l.foldl (fun s w => applyCageWrite w s) s)

/-! ### Link (R449, R450) -/

/-- LINK_UP: peer-link training ends; HELLO is sent, and a session begins. -/
def execLinkUp (lanes : BitVec 4) (s : State) : Res :=
  if ¬ trpUp s ∨ lanes = 0 then .next s
  else
    let s := updTrp (fun t => { t with
      lanes := lanes, linkUp := false, session := t.session + 1, txSeq := 0, rxSeq := 0, nonce := [], linkKeys := [] }) s
    if drbgDown s ∨ ¬ s.units.rng.drbgReady then .next s
    else
      let (n, s) := drawRoot 16 s
      let body := toLE 8 s.fuses.serial.toNat ++ n
      let (sig, s) := idSign body (updTrp (fun t => { t with nonce := n }) s)
      .next (emit (.peer 0x01 (body ++ sig)) s)

/-- The keys of a session: from the pairing secret, with the two nonces as context, the lower serial's first (R450). -/
def sessionKeys (serial : Word64) (nonce : Bytes) (s : State) : Bytes :=
  let ctx := if s.fuses.serial < serial then s.trp.nonce ++ nonce else nonce ++ s.trp.nonce
  fit 64 (Config.kdf s.cage.pairing.digest (ascii "PACHACA PEER LINK") ctx 64)

/-- HELLO: the peer's serial is known and the session keys are derived; held changes are sent. -/
def execHello (frame : HelloFrame) (s : State) : Res :=
  if ¬ trpUp s ∨ s.trp.lanes = 0 then .next s
  else .next (sendHeld (updTrp (fun t => { t with
    peer := frame.serial, linkUp := true, linkKeys := sessionKeys frame.serial frame.nonce s }) s))

/-- PEER_LINK_RETRAIN: flits that fail their CRC are replayed; after the eighth failure the link trains anew. -/
def execPeerLinkRetrain (fails : Nat) (s : State) : Res :=
  if s.trp.lanes = 0 then .next s
  else
    let s := updTrp (fun t => { t with crc := satAdd t.crc fails }) s
    if fails < 8 then .next s
    else .next (updTrp (fun t => { t with retrains := satInc t.retrains, linkUp := false, lanes := 0, linkKeys := [] }) s)

/-! ### Planned handover, its start (R466) -/

/-- Admission stops and the drain begins. -/
def startHandover (drain : Nat) (item : Option Nat) (s : State) : State :=
  setRole fsmHANDING_OVER (updTrp (fun t => { t with
    stopAdm := true, handover := some { at_ := s.time.time64, drain := drain, item := item } }) s)

/-- Active with a healthy standby. -/
def canHandOver (s : State) : Bool := decide (s.trp.fsm = fsmACTIVE) && s.trp.standby && s.trp.peerHealthy && s.trp.linkUp

/-! ### Heartbeat path A (R452) -/

/-- Digest of TRP_CTL as a KEEPALIVE carries it. -/
def ctlDigest (t : Trp) : Bytes :=
  sm3 (toLE 8 (t.tDetect.toNat + t.tWd.toNat * 2 ^ 24 + t.revertS.toNat * 2 ^ 32 + t.prefer.toNat * 2 ^ 48 + b2n t.claimDeg * 2 ^ 50 +
    b2n t.patrolEn * 2 ^ 51 + b2n t.hot * 2 ^ 52))

/-- ROLE code of a state (R472). -/
def roleCode (f : BitVec 16) : Nat :=
  if f = fsmUNPAIRED then 0 else if f = fsmJOINING then 1 else if f = fsmSTANDBY then 2 else if f = fsmCLAIMING then 3
  else if f = fsmACTIVE then 4 else if f = fsmSOLO then 5 else if f = fsmHANDING_OVER then 6 else 7

/-- The unit is healthy, as its beacon and KEEPALIVE say (R452, R468, R470). -/
def healthy (s : State) : Bool := trpUp s && !s.trp.degraded && decide (s.canvas.response.toNat < 3)

/-- What the peer's role asks of this unit: a joining unit adopts the active unit's epoch, the active unit starts and
ends a join (R462). -/
def peerRole (role : Nat) (epoch : Word32) (s : State) : State :=
  let active := decide (role = 4) || decide (role = 5)
  let serving := decide (s.trp.fsm = fsmACTIVE) || decide (s.trp.fsm = fsmSOLO)
  if active ∧ (s.trp.fsm = fsmJOINING ∨ (s.trp.fsm = fsmRELINQUISHED ∧ s.canvas.response.toNat < 3)) ∧ s.cage.pairing.valid = true then
    setRole fsmJOINING (updTrp (fun t => { t with joinActive := true, epoch := epoch }) s)
  else if serving ∧ role = 1 ∧ ¬ s.trp.joining then
    emit (.resync s.trp.epoch (fullCopy s)) (updTrp (fun t => { t with joining := true, standby := false }) s)
  else if serving ∧ role = 2 ∧ ¬ s.trp.peerHalted then
    let joined := s.trp.joining
    let s := updTrp (fun t => { t with standby := true, joining := false }) s
    let s := if s.trp.fsm = fsmSOLO then setRole fsmACTIVE s else s
    if joined then trpEvent 4 s else s
  else s

/-- KEEPALIVE received: role, health, whether the TRP_CTL digest agrees, patrol result, and a request of R467. -/
def execKeepalive (ok : Bool) (epoch : Word32) (role : Nat) (cfgMatch patrolFault revert : Bool) (s : State) : Res :=
  onFrame ok s fun s =>
    let s := setPathA true (updTrp (fun t => { t with lastA := s.time.time64, peerLost := t.peerLost && t.peerHalted }) s)
    let s := if cfgMatch then s else trpErr 4 s
    let s := if patrolFault then trpEvent 3 (trpErr 7 s) else s
    let s := peerRole role epoch s
    noteHealth (if revert ∧ canHandOver s = true then startHandover 4000 none s else s)

/-- Trapeze runs again after its driver has released the line: RELINQUISHED (R454). -/
def afterRelease (s : State) : State :=
  if s.trp.wdReleased ∧ (s.trp.fsm = fsmACTIVE ∨ s.trp.fsm = fsmSOLO ∨ s.trp.fsm = fsmHANDING_OVER ∨ s.trp.fsm = fsmCLAIMING) then
    loseCommands (relinquish s)
  else s

/-- KEEPALIVE_SEND: a KEEPALIVE, and the line driver fed. -/
def execKeepaliveSend (s : State) : Res :=
  if ¬ trpUp s then .next s
  else
    let s := afterRelease s
    let s := sendFrame 0x02 ([BitVec.ofNat 8 (roleCode s.trp.fsm), BitVec.ofNat 8 (b2n (healthy s) + b2n s.trp.degraded * 2)] ++ ctlDigest s.trp) s
    .next (if s.trp.driving then updTrp (fun t => { t with fedAt := s.time.time64 }) s else s)

/-! ### Time (R33, R34) -/

/-- TIME64 stepped to a value: the window closes, the dies' copies lag until they are aligned again. -/
def stepTime (v : Word64) (s : State) : State :=
  let before := now s
  let s := { s with
    time := { s.time with time64 := v, stepped := true, slew := 0 }
    dies := Tab.mapVals dDie (fun _ d => { d with timeErr := d.timeErr + (before : Int) - (v.toNat : Int) }) s.dies }
  calStep before s

/-- A signed offset in 16 bits, saturating at ±32,767. -/
def satOffset (d : Int) : BitVec 16 := BitVec.ofInt 16 (max (-32767) (min 32767 d))

/-- PEER_SYNC falls. -/
def loseSync (s : State) : State :=
  if s.time.peerSync then
    calEvent 0x1F4 none 0 0 { s with time := { s.time with peerSync := false, syncLost := true }, cal := calUnsync s.cal }
  else s

/-- An exchange with the active unit's value at a standby: a step above 10 µs on regaining sync, else slewing. -/
def syncTo (v : Word64) (s : State) : State :=
  let d : Int := (v.toNat : Int) - (now s : Int)
  let far := decide (10000 < d.natAbs)
  let s := { s with time := { s.time with peerOffset := satOffset d, lastPeer := s.time.time64 } }
  if far ∧ ¬ s.time.peerSync ∧ s.time.stepAllow then
    let s := stepTime v s
    { s with time := { s.time with peerSync := true, lastPeer := s.time.time64 } }
  else
    let s := { s with time := { s.time with slew := d } }
    if d.natAbs ≤ 100 then { s with time := { s.time with peerSync := true } } else loseSync s

/-- TIME: a TIME frame; the active unit never changes its own time. -/
def execTime (ok : Bool) (value : Word64) (s : State) : Res :=
  onFrame ok s fun s =>
    if ¬ s.time.syncEn then s
    else if s.trp.fsm = fsmSTANDBY then syncTo value s
    else if s.trp.fsm = fsmACTIVE then
      { s with time := { s.time with peerSync := true, lastPeer := s.time.time64
                                     peerOffset := satOffset ((value.toNat : Int) - (now s : Int)) } }
    else s

/-- PEER_TIME_EXCHANGE: this unit's TIME frame. -/
def execPeerTimeExchange (s : State) : Res :=
  if trpUp s ∧ s.time.syncEn = true then .next (sendFrame 0x03 (toLE 8 (now s)) (updTrp (fun t => { t with lastSync := s.time.time64 }) s))
  else .next s

/-- PEER_SYNC_LOSS: 10 ms without a successful exchange. -/
def execPeerSyncLoss (s : State) : Res :=
  if s.time.lastPeer.toNat + 10000000 ≤ now s then .next (loseSync s) else .next s

/-! ### Mirroring (R461, R462, R465) -/

/-- MIRROR_ACK sent. -/
def sendAck (seq : Nat) (result : Byte) (s : State) : State := sendFrame 0x11 (toLE 8 seq ++ [result]) s

/-- MIRROR received: the record committed, or STALE_ROLE. -/
def execMirror (ok : Bool) (epoch : Word32) (seq : Nat) (writes : List CageWrite) (s : State) : Res :=
  onFrame ok s fun s =>
    if epoch ≠ s.trp.epoch ∨ s.trp.fsm ≠ fsmSTANDBY then sendAck seq stSTALE_ROLE (staleFrame s)
    else sendAck seq stOK (takeWrites writes s)

/-- A MIRROR that failed. -/
def failMirror (m : MirrorWait) (s : State) : State :=
  let s := { s with booth := { s.booth with writes := s.booth.writes.map fun w => if w.held = some m.seq then { w with held := some 0 } else w } }
  let s := mirrorFail m.change s
  if mirrors s then s else commitHeld s

/-- MIRROR_ACK received: the active unit commits, or MIRROR_FAIL. -/
def execMirrorAck (ok : Bool) (epoch : Word32) (seq : Nat) (result : Byte) (s : State) : Res :=
  onFrame ok s fun s => onEpoch epoch s fun s =>
    match s.trp.mirrors.find? fun m => decide (m.seq = seq) with
    | none => s
    | some m =>
      let rtt := now s - m.at_.toNat
      let s := updTrp (fun t => { t with mirrors := t.mirrors.filter fun x => decide (x.seq ≠ seq) }) s
      if result ≠ stOK ∨ 500000 < rtt then failMirror m s
      else releaseChange (some seq) m.change (updTrp (fun t => { t with
        mirrored := t.mirrored + 1, rtt := BitVec.ofNat 16 (min rtt 65535) }) s)

/-- MIRROR_TIMEOUT: the oldest MIRROR has waited 500 µs. -/
def execMirrorTimeout (s : State) : Res :=
  match s.trp.mirrors with
  | [] => .next s
  | m :: r => if now s < m.at_.toNat + 500000 then .next s else .next (failMirror m (updTrp (fun t => { t with mirrors := r }) s))

/-- RESYNC received: the joining unit's records are overwritten whatever their counters. -/
def execResync (ok : Bool) (epoch : Word32) (writes : List CageWrite) (s : State) : Res :=
  onFrame ok s fun s => onEpoch epoch s fun s =>
    if s.trp.fsm = fsmJOINING ∧ s.trp.joinActive then takeWrites writes s else s

/-! ### Patrol (R468) -/

/-- A unit that failed the patrol's test. -/
def patrolFail (u : UnitKind × Nat) (s : State) : State :=
  if ¬ unitHere s u.1 u.2 then s
  else match u.1 with
    | .block => endKat .block u.2 false (updUnit .block u.2 (fun x => { x with katBusy := true }) s)
    | .mau => endKat .mau u.2 false (updUnit .mau u.2 (fun x => { x with katBusy := true }) s)
    | .hash => endKat .hash u.2 false (updUnit .hash u.2 (fun x => { x with katBusy := true }) s)
    | .scu => endScuKat u.2 false (updScu u.2 (fun x => { x with katBusy := true }) s)
    | .rng => endRngKat false (updRng (fun r => { r with katReq := true }) s)

/-- Every unit that can run a test. -/
def allUnits (s : State) : List (UnitKind × Nat) :=
  [UnitKind.block, .mau, .hash, .scu, .rng].flatMap fun k => ((List.range (unitCount s k)).filter (unitHere s k)).map fun n => (k, n)

/-- A test of the patrol that runs ends; those that still wait for their unit's operations go on. -/
def patrolPass (u : UnitKind × Nat) (s : State) : State := match u.1 with
  | .block => endKat .block u.2 true s
  | .mau => endKat .mau u.2 true s
  | .hash => endKat .hash u.2 true s
  | .scu => endScuKat u.2 true s
  | .rng => endRngKat true s

/-- The findings of a cycle: failing units, sources not detected or stuck, and other faults (Midway links, key caches,
routine caches). -/
def patrolFindings (units : List (UnitKind × Nat)) (undetected stuck : Word64) (others : Nat) (s : State) : State :=
  let old := s
  let s := katsDone ((allUnits s).foldl (fun s u => patrolPass u s) (units.foldl (fun s u => patrolFail u s) s))
  let l := (List.range 0x21).filter fun c => stimulable s c && !stimBarred s c
  let bad := l.filter fun c => undetected.getLsbD c || stuck.getLsbD c
  let s := l.foldl (fun s c => stimResult c (!undetected.getLsbD c) (!stuck.getLsbD c) s) s
  let n := units.length + bad.length + others
  let s := updTrp (fun t => { t with
    cycles := t.cycles + 1, lastFails := BitVec.ofNat 8 (min n 255), degraded := decide (n ≠ 0), patrol := false }) s
  noteReady old (if n = 0 then s else trpEvent 3 (trpErr 7 s))

/-- PATROL_CYCLE: every 10 s on a standby; every unit's KAT is requested, and retained dies are woken for it. -/
def execPatrolCycle (s : State) : Res :=
  let t := s.trp
  if trpUp s ∧ t.fsm = fsmSTANDBY ∧ t.patrolEn = true ∧ ¬ t.patrol ∧ t.patrolAt.toNat + 10000000000 ≤ now s then
    .next ((allUnits s).foldl (fun s u => katRequest u.1 u.2 s) (reselect (updTrp (fun t => { t with
      patrol := true, patrolAt := s.time.time64 }) s)))
  else .next s

/-- PATROL_DONE. -/
def execPatrolDone (units : List (UnitKind × Nat)) (undetected stuck : Word64) (others : Nat) (s : State) : Res :=
  if ¬ s.trp.patrol then .next s
  else .next (reselect (noteHealth (patrolFindings units undetected stuck others s)))

/-- TIME64 of a unit that joins steps to the active unit's value; where steps are forbidden its offset is slewed away (R34,
R38). -/
def joinTime (v : Word64) (s : State) : State :=
  if s.time.stepAllow then
    let s := stepTime v s
    { s with time := { s.time with peerSync := s.time.syncEn, lastPeer := s.time.time64 } }
  else
    let d : Int := (v.toNat : Int) - (now s : Int)
    { s with time := { s.time with slew := d, peerSync := s.time.syncEn && decide (d.natAbs ≤ 100), lastPeer := s.time.time64 } }

/-- JOIN_COMPLETE: after the copy, TIME64 steps to the active unit's value, one patrol cycle runs, and the unit is
STANDBY. -/
def execJoinComplete (time : Word64) (units : List (UnitKind × Nat)) (undetected stuck : Word64) (others : Nat) (s : State) : Res :=
  if trpUp s ∧ s.trp.fsm = fsmJOINING ∧ s.trp.joinActive = true ∧ s.trp.linkUp = true then
    let s := patrolFindings units undetected stuck others (joinTime time s)
    let s := updTrp (fun t => { t with
      wdReleased := false, relinquished := false, peerLost := false, lastA := s.time.time64, patrolAt := s.time.time64 }) s
    .next (reselect (noteHealth (setRole fsmSTANDBY s)))
  else .next s

/-! ### Claims and takeover (R455 to R458) -/

/-- The line read: high for `ns`, 0 while it reads low. -/
def readLine (ns : Nat) (s : State) : State := updTrp (fun t => { t with line := decide (ns ≠ 0) && !t.driving }) s

/-- The claim: line driven, epoch, CLAIM. -/
def claim (epoch : Word32) (s : State) : State :=
  let s := setRole fsmCLAIMING (driveLine (updTrp (fun t => { t with epoch := epoch, claimAt := some s.time.time64, windowOver := false }) s))
  sendFrame 0x20 (toLE 4 epoch.toNat) s

/-- CLAIM_START: a standby that lost its peer, or whose peer has relinquished, claims once the line has read high for
2 µs; SILENT_HELD while it reads low. -/
def execClaimStart (highNs : Nat) (s : State) : Res :=
  let t := s.trp
  if ¬ trpUp s ∨ t.fsm ≠ fsmSTANDBY ∨ ¬ (t.peerLost ∨ t.relinquished) ∨ t.wdReleased ∨ (t.degraded ∧ ¬ t.claimDeg) then .next s
  else
    let s := readLine highNs s
    if highNs = 0 then .next (trpErr 8 s) else if highNs < 2000 then .next s else .next (claim (nextEpoch t.epoch) s)

/-- STARTUP_CLAIM: a paired unit that knows no active peer, after 10 ms of a high line if it is preferred, else 20 ms. -/
def execStartupClaim (highNs : Nat) (s : State) : Res :=
  let t := s.trp
  let wait := if preferred s then 10000000 else 20000000
  if ¬ trpUp s ∨ t.fsm ≠ fsmJOINING ∨ t.joinActive ∨ t.wdReleased ∨ t.lastAct ≠ 0 ∨ drbgDown s ∨ ¬ s.units.rng.drbgReady then .next s
  else
    let s := readLine highNs s
    if highNs < wait ∨ now s < t.startAt.toNat + wait then .next s
    else
      let (b, s) := drawRoot 4 s
      .next (claim (if leNat b = 0 then 1 else BitVec.ofNat 32 (leNat b)) s)

/-- A claim contested within its window: the non-preferred unit withdraws (R457). -/
def contest (s : State) : State :=
  let open_ := match s.trp.claimAt with
    | some t => decide (now s ≤ t.toNat + 50000)
    | none => false
  if s.trp.fsm = fsmCLAIMING ∧ open_ = true ∧ ¬ s.trp.windowOver ∧ ¬ s.trp.adopting ∧ ¬ preferred s then
    setRole fsmJOINING (releaseLine (trpErr 6 (updTrp (fun t => { t with claimAt := none, peerLost := false, joinActive := true }) s)))
  else s

/-- CLAIM received. -/
def execClaim (ok : Bool) (s : State) : Res := onFrame ok s fun s => contest s

/-- RELINQUISH received: a standby claims without waiting for T_DETECT. -/
def execRelinquish (ok : Bool) (epoch : Word32) (s : State) : Res :=
  onFrame ok s fun s => onEpoch epoch s fun s => if s.trp.fsm = fsmSTANDBY then updTrp (fun t => { t with relinquished := true }) s else s

/-- CLAIM_WINDOW_CLOSE: 50 µs after the claim; retained dies are woken. -/
def execClaimWindowClose (s : State) : Res :=
  match s.trp.claimAt with
  | none => .next s
  | some t =>
    if s.trp.fsm = fsmCLAIMING ∧ ¬ s.trp.windowOver ∧ t.toNat + 50000 ≤ now s then
      .next (wakeAll (updTrp (fun t => { t with windowOver := true }) s))
    else .next s

/-- What a new active unit starts without: directory records, cached keys and idle flow contexts (R458). -/
def startEmpty (s : State) : State :=
  let idx := s.dir.recs.map Prod.fst
  { s with
    dir := idx.foldl (fun d i => dirFree i d) s.dir
    dies := Tab.mapVals dDie (fun _ d => { d with kc := { d.kc with entries := List.filter (fun (e : Nat × CacheEntry) => decide (0 < e.2.pins)) d.kc.entries } }) s.dies
    flows := List.filter (fun (e : Nat × FlowCtx) => !(flowItems s (e.1 / 16384) (e.1 % 16384)).isEmpty) s.flows }

/-- TAKEOVER_COMPLETE: every die is awake; ACTIVE, or SOLO while the peer stays lost. -/
def execTakeoverComplete (s : State) : Res :=
  if s.trp.fsm ≠ fsmCLAIMING ∨ ¬ s.trp.windowOver ∨ sleepers s ≠ [] then .next s
  else
    let planned := s.trp.adopting
    let solo := s.trp.peerLost
    let s := startEmpty s
    let s := updTrp (fun t => { t with
      claimAt := none, windowOver := false, adopting := false, relinquished := false, standby := planned, stopAdm := false
      takeovers := if planned then t.takeovers else satInc t.takeovers
      handovers := if planned then satInc t.handovers else t.handovers }) s
    .next (reselect (noteHealth (setRole (if solo then fsmSOLO else fsmACTIVE) s)))

/-! ### Heartbeat path B and the interlock (R452 to R454, R469) -/

/-- One bit of CRC-8 with polynomial 0x07. -/
def crc8Step (c : Byte) (b : Bool) : Byte := let x := c.getLsbD 7 != b; if x then (c <<< 1) ^^^ 0x07 else c <<< 1

/-- CRC-8 over bits 23 to 0 of a word, most significant first, from 0. -/
def crc8 (w : Word32) : Byte := (List.range 24).foldl (fun c i => crc8Step c (w.getLsbD (23 - i))) 0

/-- This unit's beacon word. -/
def beaconWord (s : State) : Word32 :=
  let t := s.trp
  let claiming := decide (t.fsm = fsmCLAIMING)
  let flags := b2n ((isActive s || claiming) && s.power.seq.sysPower) + b2n t.driving * 2 + b2n (healthy s) * 4 + b2n s.canvas.halted * 8 + b2n (preferred s) * 16 +
    b2n (decide (t.fsm = fsmRELINQUISHED)) * 32 + b2n (decide (t.fsm = fsmSOLO)) * 64 + b2n claiming * 128
  let low := BitVec.ofNat 32 (flags + t.beaconTx.toNat * 256)
  low ||| BitVec.ofNat 32 ((crc8 low).toNat * 2 ^ 24)

/-- BEACON_SEND, on VAUX or system power. -/
def execBeaconSend (s : State) : Res :=
  if s.power.seq.sysPower ∨ s.power.seq.vaux then
    let s := updTrp (fun t => { t with beaconTx := t.beaconTx + 1 }) s
    .next (emit (.beacon (beaconWord s)) s)
  else .next s

/-- What a received beacon's flags say. -/
def beaconFlags (w : Word32) (highNs : Nat) (s : State) : State :=
  let s := readLine highNs s
  let s := updTrp (fun t => { t with
    peerHealthy := w.getLsbD 2, peerDriving := w.getLsbD 1, peerHalted := w.getLsbD 3
    lastAct := if w.getLsbD 0 then s.time.time64 + 1 else t.lastAct
    relinquished := t.relinquished || (w.getLsbD 5 && decide (t.fsm = fsmSTANDBY)) }) s
  let s := if w.getLsbD 0 ∨ w.getLsbD 7 then contest s else s
  if s.trp.fsm = fsmSTANDBY ∧ s.trp.line ∧ w.getLsbD 0 ∧ w.getLsbD 1 then trpEvent 3 (trpErr 5 s) else s

/-- BEACON received, with how long the line has read high: a wrong CRC is ignored; an advanced counter with HEALTHY
keeps path B alive. -/
def execBeacon (word : Word32) (highNs : Nat) (s : State) : Res :=
  if ¬ trpUp s ∨ BitVec.ofNat 8 (fld word 31 24) ≠ crc8 word then .next s
  else
    let c : BitVec 16 := BitVec.ofNat 16 (fld word 23 8)
    let advanced := decide (c ≠ s.trp.beacon) && decide ((c - s.trp.beacon).toNat < 32768)
    let s := beaconFlags word highNs (updTrp (fun t => { t with beacon := c }) s)
    let s := if advanced ∧ word.getLsbD 2 then setPathB true (updTrp (fun t => { t with lastB := s.time.time64, peerLost := false }) s) else s
    .next (noteHealth s)

/-- PATH_SILENT: a path alive until now has been silent for T_DETECT.  With the other path alive it is an alarm; with
both silent the peer is lost, and so is, to the active unit, a standby whose beacon shows a Canvas halt (R453, R470). -/
def execPathSilent (s : State) : Res :=
  let t := s.trp
  let a := t.pathA && decide (t.lastA.toNat + tDetectNs s ≤ now s)
  let b := t.pathB && decide (t.lastB.toNat + tDetectNs s ≤ now s)
  if ¬ trpUp s ∨ ¬ (a ∨ b) then .next s
  else
    let s := if a then setPathA false s else s
    let s := if b then setPathB false s else s
    let s := if s.trp.pathA ∨ s.trp.pathB then
        let s := raiseAlarm cHEARTBEAT_PATH (trpErr (if a then 0 else 1) s)
        if b ∧ s.trp.peerHalted ∧ s.trp.fsm = fsmACTIVE then losePeer s else s
      else losePeer s
    .next (noteHealth s)

/-- WATCHDOG_RELEASE: the driver has not been fed for min(T_WD, T_DETECT / 2). -/
def execWatchdogRelease (s : State) : Res :=
  let limit := min (s.trp.tWd.toNat * 1000) (tDetectNs s / 2)
  if s.trp.driving ∧ s.trp.fedAt.toNat + limit ≤ now s then
    .next (releaseLine (updTrp (fun t => { t with wdReleased := true }) s))
  else .next s

/-! ### Planned handover (R466, R467) -/

/-- Work that a handover waits for, the service that asked for it excepted. -/
def unfinished (s : State) (own : Option Nat) : List Item :=
  s.items.filter fun i => decide (i.place ≠ .done) && decide (some i.id ≠ own)

/-- HANDOVER_DRAIN_EXPIRE: at DRAIN, or once everything admitted has ended, what is unfinished completes with ABORTED
and HANDOVER is sent.  A Cage service finishes first. -/
def execHandoverDrainExpire (s : State) : Res :=
  match s.trp.handover with
  | none => .next s
  | some h =>
    let l := unfinished s h.item
    let cage := l.any fun i => decide (i.place = .core) && cageService i.routine
    if s.trp.fsm ≠ fsmHANDING_OVER ∨ h.sentAt.isSome ∨ cage = true ∨ (l ≠ [] ∧ now s < h.at_.toNat + h.drain * 1000) then .next s
    else
      let s := stopSeats stABORTED (endUnstarted stABORTED s)
      let s := (unfinished s h.item).foldl (fun s i => finish i.id stABORTED [] false s) s
      let s := sendFrame 0x22 (toLE 4 (nextEpoch s.trp.epoch).toNat) s
      .next (updTrp (fun t => { t with handover := some { h with sentAt := some s.time.time64 } }) s)

/-- HANDOVER received: the standby adopts the new epoch. -/
def execHandover (ok : Bool) (epoch newEpoch : Word32) (s : State) : Res :=
  onFrame ok s fun s => onEpoch epoch s fun s =>
    if s.trp.fsm = fsmSTANDBY then sendFrame 0x23 [] (updTrp (fun t => { t with epoch := newEpoch, adopting := true }) s) else s

/-- HANDOVER_ACK received, under the new epoch: the line is released and the unit is STANDBY. -/
def execHandoverAck (ok : Bool) (epoch : Word32) (s : State) : Res :=
  onFrame ok s fun s => match s.trp.handover with
    | none => s
    | some h =>
      let n := nextEpoch s.trp.epoch
      if s.trp.fsm ≠ fsmHANDING_OVER ∨ h.sentAt = none then s
      else if epoch ≠ n then staleFrame s
      else
        let s := updTrp (fun t => { t with
          epoch := n, handover := none, standby := false, stopAdm := false, handovers := satInc t.handovers, patrolAt := s.time.time64 }) s
        let s := noteHealth (setRole fsmSTANDBY (releaseLine s))
        let s := match h.item with
          | some id => done id (toLE 4 n.toNat) s
          | none => s
        reselect s

/-- HANDOVER_ACK_TIMEOUT: 100 µs without it, admission resumes under the old epoch; a unit that lost its peer meanwhile
serves as SOLO (R453). -/
def execHandoverAckTimeout (s : State) : Res :=
  match s.trp.handover with
  | none => .next s
  | some h => match h.sentAt with
    | none => .next s
    | some t =>
      if now s < t.toNat + 100000 then .next s
      else
        let s := updTrp (fun t => { t with handover := none, stopAdm := false }) s
        let s := if s.trp.peerLost then commitHeld (setRole fsmSOLO s) else setRole fsmACTIVE s
        let s := trpEvent 2 (trpErr 2 s)
        .next (match h.item with
          | none => s
          | some id => refuse id (mirrorStatus s) ((Config.freeWord (s.freeCtr + 1)).toNat % 256) { s with freeCtr := s.freeCtr + 2 })

/-- HANDOVER_LINE_HIGH: the former standby drives the line and goes on as R458 from 50 µs. -/
def execHandoverLineHigh (s : State) : Res :=
  if trpUp s ∧ s.trp.adopting = true ∧ s.trp.fsm = fsmSTANDBY ∧ ¬ s.trp.wdReleased then
    .next (wakeAll (setRole fsmCLAIMING (driveLine (updTrp (fun t => { t with claimAt := some s.time.time64, windowOver := true }) s))))
  else .next s

/-- REVERT_REQUEST: the conditions of R467 have held for REVERT_S seconds. -/
def execRevertRequest (s : State) : Res :=
  match s.trp.healthyAt with
  | none => .next s
  | some t =>
    let n := s.trp.revertS.toNat
    if n ≠ 0 ∧ preferred s = true ∧ s.trp.fsm = fsmSTANDBY ∧ t.toNat + n * 1000000000 ≤ now s then
      .next (sendFrame 0x02 ([2, BitVec.ofNat 8 (b2n (healthy s) + 4)] ++ ctlDigest s.trp) (updTrp (fun t => { t with healthyAt := some s.time.time64 }) s))
    else .next s

/-! ### Services (R463, R466, R471) -/

/-- TRP_PAIR: `helloOk` says whether the peer's HELLO signature verifies under its chain's leaf, `shared` is the result
of the SM2 key exchange. -/
def execTrpPair (id : Nat) (buf : HostData) (helloOk : Bool) (shared : Bytes) (s : State) : Res :=
  .next (onService id 0x0FA0 (fun i s => withForm i true s fun s => withCage i s fun s => svcBuffer i buf s fun b s =>
    let lc := i.le 36 4
    let src := i.le 44 1
    let f := s.trp.fsm
    if b.length ≠ lc + i.le 40 4 ∨ 1 < src then refuse id stOPERAND_FORMAT 0x01 s
    else if f = fsmSTANDBY ∨ f = fsmCLAIMING ∨ f = fsmHANDING_OVER ∨ (f = fsmACTIVE ∧ s.trp.standby) ∨ s.trp.peer = 0 ∨ ¬ s.trp.linkUp ∨
        s.lcs.state ≠ 2 then refuse id stOPERAND_FORMAT 0x0E s
    else match (caKey s).bind fun ca => Config.certLeaf ca (b.take lc) with
    | none => refuse id stKEY_BLOCK_AUTH 0x09 s
    | some leaf =>
      if ¬ helloOk then refuse id stKEY_BLOCK_AUTH 0x09 s
      else
        let subject := sm3 (toLE 8 s.trp.peer.toNat ++ fit 64 leaf ++ [BitVec.ofNat 8 src])
        vaultAuthOr id { action := 0x1C, part := 0, subject := subject } (b.drop lc) s fun s =>
          let s := applyCageWrite (.pairing (fit 32 (Config.kdf shared (ascii "PACHACA PAIRING") [] 32))) s
          let s := updTrp (fun t => { t with paired := true, standby := false, startAt := s.time.time64 }) s
          let s := if src = 1 then setRole fsmACTIVE (driveLine (updTrp (fun t => { t with epoch := nextEpoch t.epoch }) s))
            else loseCommands (setRole fsmJOINING (releaseLine (updTrp (fun t => { t with joinActive := false, lastAct := 0 }) s)))
          done id (toLE 4 s.trp.epoch.toNat ++ toLE 8 s.trp.peer.toNat) s) s)

/-- TRP_DETACH: the pair ends on this unit, which draws a new pairing secret. -/
def execTrpDetach (id : Nat) (buf : HostData) (s : State) : Res :=
  .next (onService id 0x0FA1 (fun i s => withForm i true s fun s => withCage i s fun s => svcBuffer i buf s fun b s =>
    if b.length ≠ i.le 36 4 then refuse id stOPERAND_FORMAT 0x01 s
    else if s.trp.fsm = fsmUNPAIRED then refuse id stOPERAND_FORMAT 0x0E s
    else vaultAuthOr id { action := 0x1D, part := 0, subject := sm3 (serialBytes s) } b s fun s =>
      withRoot id 36 s fun r s =>
        let e := BitVec.ofNat 32 (leNat (r.drop 32))
        let s := dropHandover stSTALE_ROLE (applyCageWrite (.pairing (r.take 32)) s)
        let s := updTrp (fun t => { t with
          paired := false, standby := false, joining := false, stopAdm := false, adopting := false
          epoch := if t.epoch ≠ 0 then t.epoch else if e = 0 then 1 else e }) s
        done id [] (reselect (commitHeld (setRole fsmUNPAIRED (releaseLine s))))) s)

/-- TRP_HANDOVER: it completes when the standby has accepted. -/
def execTrpHandover (id : Nat) (s : State) : Res :=
  .next (onService id 0x0FA2 (fun i s => withForm i false s fun s =>
    let d := i.le 24 4
    if d < 100 ∨ 4000 < d then refuse id stOPERAND_FORMAT 0x01 s
    else if ¬ canHandOver s then refuse id stOPERAND_FORMAT 0x0E s
    else startHandover d (some id) (updItem id (fun i => { i with phase := 9 }) s)) s)

/-- TRP_SOLO: an ACTIVE unit whose peer link is down acts alone under a new epoch. -/
def execTrpSolo (id : Nat) (s : State) : Res :=
  .next (onService id 0x0FA3 (fun i s => withForm i false s fun s =>
    if s.trp.fsm ≠ fsmACTIVE ∨ s.trp.linkUp then refuse id stOPERAND_FORMAT 0x0E s
    else
      let e := nextEpoch s.trp.epoch
      let s := setRole fsmSOLO (updTrp (fun t => { t with epoch := e, standby := false, joining := false }) s)
      done id (toLE 4 e.toNat) (commitHeld s)) s)

end Sys2Proof.Machine
end

