-- ==== Sys2Proof/Machine/Power.lean ====
section
/-!
DEFINITION. Power, clocks and bring-up (spec file 15, R44, R438, R454): package states, gating, operating points, the
thermal paths, the supply sequencer, rails, die bring-up, orderly power-down and the loss of supplies.
-/
namespace Sys2Proof.Machine

/-! ### Package states (R501 to R505) -/

/-- Nothing ready or running on any engine die (R504). -/
def diesIdle (s : State) : Bool := s.items.all fun i => (placeDie i.place).isNone

/-- The resident set pinned in a troupe's routine cache (R226). -/
def pinResidents (s : State) (l : List RLine) : List RLine :=
  (s.routines.resident ++ s.routines.pins).foldl (fun l r => match s.routines.library.find? fun e => e.1 == r with
    | some e => pinLines r e.2 s.routines.useCtr l
    | none => l) l

/-- A troupe's PRF domain off: its routine cache holds nothing (R499). -/
def dropLines (t : Nat) (s : State) : State := updTroupe t (fun x => { x with lines := [], fetching := [] }) s

/-- A troupe's PRF domain on again: the pinned lines are there (R226, R227). -/
def reloadLines (t : Nat) (s : State) : State := updTroupe t (fun x => { x with lines := pinResidents s x.lines }) s

/-- The troupe of a retained die that stays awake: the lowest with a non-zero active mask (R501). -/
def awakeTroupe (s : State) (d : Nat) : Option Nat :=
  (troupesOfDie d).find? fun t => decide (Tab.get dMap s.booth.active.map t ≠ 0)

/-- A die put in retention: PS2.  Its awake troupe keeps its routine-cache lines. -/
def retainDie (d : Nat) (s : State) : State :=
  if dieState s d = .active then
    ((troupesOfDie d).filter fun t => decide (awakeTroupe s d ≠ some t)).foldl (fun s t => dropLines t s)
      (updDie d (fun x => { x with state := .retention }) s)
  else s

/-- A key cache switched off: its entries are lost, its counters stay (R346, R501). -/
def emptyCache (c : KeyCache) : KeyCache :=
  { hits := c.hits, misses := c.misses, stale := c.stale, notFound := c.notFound, applied := c.applied }

/-- A die switched off: its key cache, routine caches and DRBG buffers are lost, its copy of TIME64 stops (R501). -/
def parkDie (d : Nat) (s : State) : State :=
  if dieKept s d then
    let s := updDie d (fun x => { x with state := .off, aligned := false, kc := emptyCache x.kc }) s
    (troupesOfDie d).foldl (fun s t => updTroupe t (fun x => { x with drbgBuf := 0, lines := [], fetching := [] }) s) s
  else s

/-- Every present die put in the state of PS2, or of PS3 and PS4. -/
def sleepDies (n : Nat) (s : State) : State :=
  (List.range (nDies s.part.variant)).foldl (fun s d =>
    if s.power.waking.getLsbD d then s else if n = 2 then retainDie d s else parkDie d s) s

/-- PS_ENTER: 10 × the exit latency has passed with no engine-die work; a state from PS2 on may be entered again to put
dies back that allocation had woken. -/
def execPsEnter (s : State) : Res :=
  let t := psTarget s
  let n := s.power.state.toNat
  if ¬ pair1Up s ∨ n = 4 ∨ ¬ diesIdle s ∨ s.power.waking ≠ 0 ∨ ¬ (n < t ∨ (n = t ∧ 2 ≤ t)) then .next s
  else
    let s := if 2 ≤ t then sleepDies t s else s
    let s := updPwr (fun p => { p with want := BitVec.ofNat 3 t }) s
    .next (genSettled (if n = t then s else enterPs t s))

/-- A woken die: what was queued for it applied before any dispatch, or its tables loaded from the Cage (R327, R329,
R501). -/
def wakeOne (d : Nat) (s : State) : State :=
  let off := decide (dieState s d = .off)
  let s := updDie d (fun x => { x with state := .active, aligned := true, timeErr := 0, kc := if off then loadGens s x.kc else applyGens x.kc }) s
  let s := (troupesOfDie d).foldl (fun s t => reloadLines t (updTP t (fun x => { x with gated := false, ungating := false }) s)) s
  let s := if off ∧ s.units.rng.drbgReady then
      let (_, s) := drawRoot 48 s
      updRng (fun r => { r with dies := Tab.set dDieDrbg r.dies d { seeded := true, at_ := s.time.time64 } }) s
    else s
  startKats d s

/-- DIE_WAKE_DONE: 40 µs from retention, 2 ms from off; the last wake of an exit ends it. -/
def execDieWakeDone (die : Nat) (s : State) : Res :=
  if ¬ s.power.waking.getLsbD die ∨ ¬ pair1Up s ∨ ¬ (dieState s die = .retention ∨ dieParked s die = true) then .next s
  else
    let s0 := s
    let s := updPwr (fun p => { p with waking := clrBit p.waking die }) (wakeOne die s)
    let s := if sleepers s = [] ∧ 2 ≤ s.power.state.toNat then enterPs (min s.power.want.toNat 1) s else s
    .next (noteReady s0 (genSettled s))

/-! ### Gating (R502) -/

/-- No ready item is runnable on the troupe. -/
def nothingRunnable (s : State) (t : Nat) : Bool := (readyItems s (dieOfTroupe t)).all fun i => !mapped s t i.part

/-- TROUPE_GATE: the troupe has been idle for IDLE_US. -/
def execTroupeGate (troupe : Nat) (s : State) : Res :=
  if troupe < nTroupes s.part.variant ∧ pair1Up s = true ∧ dieState s (dieOfTroupe troupe) = .active ∧ ¬ (getTP s troupe).gated ∧
      gateAllowed s troupe = true ∧ troupeIdle s troupe = true ∧ nothingRunnable s troupe = true then
    .next (dropLines troupe (updTP troupe (fun x => { x with gated := true, ungating := false }) s))
  else .next s

/-- TROUPE_UNGATE_DONE: 2 µs after the ungating began. -/
def execTroupeUngateDone (troupe : Nat) (s : State) : Res :=
  if (getTP s troupe).ungating then
    .next (reloadLines troupe (updTP troupe (fun x => { x with gated := false, ungating := false }) s)) else .next s

/-! ### D3hot (R505) -/

/-- D3HOT_ENTRY: PS4.  Admission stops on every queue pair still enabled or draining, and what has been taken and not
released completes with HALTED, its completion held. -/
def execD3hotEntry (s : State) : Res :=
  if s.power.d3 then .next s
  else
    let held := (List.filter (fun (e : Nat × QueuePair) => e.2.enabled || e.2.draining) s.queues).map Prod.fst
    let s := stopSeats stHALTED (endUnstarted stHALTED (updPwr (fun p => { p with d3 := true, held := held }) s))
    let ids := (s.items.filter fun i => decide (i.place ≠ .done)).map Item.id
    let s := ids.foldl (fun s id => finish id stHALTED [] false s) s
    let s := { s with dies := Tab.mapVals dDie (fun _ d => { d with dispatchQ := [], resultQ := [] }) s.dies }
    .next (genSettled (enterPs 4 (sleepDies 4 (updPwr (fun p => { p with waking := 0, changing := false }) s))))

/-- D0_RETURN: held completions may be written and admission resumes; PS4 is left for the state R504 selects. -/
def execD0Return (s : State) : Res :=
  if ¬ s.power.d3 then .next s
  else
    let s := updPwr (fun p => { p with d3 := false, held := [] }) s
    let t := psTarget s
    let s := updPwr (fun p => { p with want := BitVec.ofNat 3 t }) s
    .next (if t = 3 ∨ sleepers s = [] then enterPs (if t = 3 then 3 else min t 1) s else wakeAll (updPwr (fun p => { p with changing := true }) s))

/-! ### Operating points (R507 to R509) -/

/-- The VIN_CORE set point in mV: the board record's rail, else the supply's typical value. -/
def vinCore (s : State) : Nat :=
  match s.power.rails.find? fun r => decide (r.supply = 1) with
  | some r => r.setMv.toNat
  | none => 850

/-- A troupe's setting, before throttling. -/
def oppSetting (s : State) (t : Nat) : Nat :=
  let x := getTP s t
  if x.manual then (if 4 ≤ x.target.toNat ∧ vinCore s < 850 then 3 else x.target.toNat)
  else if s.power.dvfsAuto then 3 else (if 4 ≤ x.opp.toNat ∧ vinCore s < 850 then 3 else x.opp.toNat)

/-- One OPP towards the setting; no step up while throttling holds the troupe. -/
def oppNext (s : State) (t : Nat) : Nat :=
  let x := getTP s t
  let want := oppSetting s t
  if want < x.opp.toNat then x.opp.toNat - 1
  else if x.opp.toNat < want ∧ ¬ s.power.alert ∧ ¬ x.throttled then x.opp.toNat + 1 else x.opp.toNat

/-- DVFS_STEP of a troupe. -/
def execDvfsStep (troupe : Nat) (s : State) : Res :=
  if troupe < nTroupes s.part.variant ∧ pair1Up s = true ∧ dieState s (dieOfTroupe troupe) = .active ∧ oppNext s troupe ≠ (getTP s troupe).opp.toNat then
    let n := oppNext s troupe
    .next (calEvent 0x1A2 none troupe n (updTP troupe (fun x => { x with opp := BitVec.ofNat 3 n }) s))
  else .next s

/-- T_TRIP of the grade (R510). -/
def tTrip (p : PartId) : Int := if p.grade = 2 then 115 else 105

/-- The trip: THERM_TRIP_N low and every present die lost. -/
def trip (s : State) : State :=
  let s0 := s
  let s := emit (.pin pinTHERM_TRIP false) (updPwr (fun p => { p with trip := true }) s)
  let s := (List.range (nDies s.part.variant)).foldl (fun s d => if dieState s d = .lost then s else linkDown d s) s
  noteReady s0 (pwrEvent 3 (calEvent 0x1A5 none 0 s.power.tNow.toNat s))

/-- THERMAL_SAMPLE: the highest reading of the die sensors. -/
def execThermalSample (t : Byte) (s : State) : Res :=
  let s := updPwr (fun p => { p with tNow := t }) s
  let low := s.power.tAlert.toInt - 5
  let s :=
    if s.power.tAlert.toInt ≤ t.toInt ∧ ¬ s.power.alert then
      pwrEvent 2 (calEvent 0x1A3 none 0 t.toNat (emit (.pin pinTHERM_ALERT false) (updPwr (fun p => { p with alert := true }) s)))
    else if s.power.alert ∧ t.toInt ≤ low then
      calEvent 0x1A4 none 0 t.toNat (emit (.pin pinTHERM_ALERT true) (updPwr (fun p => { p with alert := false }) s))
    else s
  if tTrip s.part ≤ t.toInt ∧ ¬ s.power.trip then .next (trip s) else .next s

/-- A troupe is held below its setting by throttling. -/
def throttling (s : State) : Bool := (List.range (nTroupes s.part.variant)).any fun t => (getTP s t).throttled

/-- THROTTLE_MS runs while THROTTLING is set. -/
def noteThrottle (s : State) : State :=
  match s.power.throttleAt, throttling s with
  | none, true => updPwr (fun p => { p with throttleAt := some s.time.time64 }) s
  | some t, false => updPwr (fun p => { p with
      throttleAt := none, throttleMs := satAdd p.throttleMs ((now s - t.toNat) / 1000000) }) s
  | _, _ => s

/-- One throttle step of a troupe: down under alert; after it up, to its setting. -/
def throttleOne (t : Nat) (s : State) : State :=
  let x := getTP s t
  let set (n : Nat) (held : Bool) (s : State) : State :=
    calEvent 0x1A6 none t n (updTP t (fun x => { x with opp := BitVec.ofNat 3 n, throttled := held }) s)
  if s.power.alert then
    (if 0 < x.opp.toNat then set (x.opp.toNat - 1) true s
     else if 0 < oppSetting s t then updTP t (fun x => { x with throttled := true }) s else s)
  else if x.throttled then
    (if x.opp.toNat + 1 < oppSetting s t then set (x.opp.toNat + 1) true s
     else if x.opp.toNat < oppSetting s t then set (x.opp.toNat + 1) false s
     else updTP t (fun x => { x with throttled := false }) s)
  else s

/-- THROTTLE_STEP: each 1 ms under alert, each 10 ms after it. -/
def execThrottleStep (s : State) : Res :=
  if ¬ pair1Up s then .next s
  else
    let l := (List.range (nTroupes s.part.variant)).filter fun t => decide (dieState s (dieOfTroupe t) = .active)
    .next (noteThrottle (l.foldl (fun s t => throttleOne t s) s))

/-! ### The supply sequencer (R511, R512) -/

def updSeq (f : Sequencer → Sequencer) (s : State) : State := updPwr (fun p => { p with seq := f p.seq }) s

/-- SEQUENCE_START: VAUX is valid and POR_N released; `vbat` says whether VBAT is present. -/
def execSequenceStart (vbat : Bool) (s : State) : Res :=
  let q := s.power.seq
  let s := updSeq (fun q => { q with vaux := true, vbat := vbat }) s
  if q.blocked ∨ q.enabled ≠ 0 then .next s
  else .next (emit (.pin (pinPWR_EN) true) (updSeq (fun q => { q with enabled := 1, good := 0 }) s))

/-- POWER_GOOD_RISE of the group that was enabled last: the next enable, or the release of control-die power-on reset. -/
def execPowerGoodRise (s : State) : Res :=
  let q := s.power.seq
  if q.enabled = 0 ∨ q.good + 1 ≠ q.enabled then .next s
  else if q.enabled < 4 then
    .next (emit (.pin (pinPWR_EN + q.enabled) true) (updSeq (fun q => { q with good := q.enabled, enabled := q.enabled + 1 }) s))
  else
    let s := powerOnReset (updSeq (fun q => { q with good := 4, sysPower := true }) s)
    .next (updSeq (fun q => { q with porReleased := true }) s)

/-- The enables released from group 3 down to group 0. -/
def releaseEnables (s : State) : State :=
  let n := s.power.seq.enabled
  let s := (List.range n).foldl (fun s k => emit (.pin (pinPWR_EN + (n - 1 - k)) false) s) s
  updSeq (fun q => { q with enabled := 0, good := 0 }) s

/-- System power gone: the interlock line is released, and of the control die only the always-on domain keeps its state;
the rest is at reset when power returns (R454, R498, R516). -/
def losePower (s : State) : State :=
  let s := releaseLine s
  let t := powerOnReset s
  { t with
    canvas := s.canvas
    boot := { t.boot with aonFail := s.boot.aonFail }
    lcs := { t.lcs with waitLatch := s.lcs.waitLatch }
    trp := { t.trp with beaconTx := s.trp.beaconTx, line := s.trp.line }
    power := { t.power with seq := { s.power.seq with sysPower := false, porReleased := false } } }

/-- PG_FAULT: a power-good of an enabled group late or fallen. -/
def execPgFault (group : Nat) (s : State) : Res :=
  let q := s.power.seq
  if q.enabled ≤ group ∨ (group < q.good ∧ q.enabled ≤ group + 1 ∧ group ≠ 3) then .next s
  else
    let s := updSeq (fun q => { q with fault := BitVec.ofNat 3 (group + 1), blocked := true }) (releaseEnables s)
    .next (if q.sysPower then losePower s else s)

/-- SYSTEM_POWER_LOSS while VAUX or VBAT remains. -/
def execSystemPowerLoss (s : State) : Res :=
  let q := s.power.seq
  if q.sysPower ∧ (q.vaux = true ∨ q.vbat = true) then .next (losePower (updSeq (fun q => { q with enabled := 0, good := 0 }) s)) else .next s

/-- CASE_B_SWITCHOVER: VAUX is lost too; VBAT already below its threshold is detected at once. -/
def execCaseBSwitchover (vbatLow : Bool) (s : State) : Res :=
  let q := s.power.seq
  if q.sysPower ∨ ¬ q.vaux ∨ ¬ q.vbat then .next s
  else
    let s := updSeq (fun q => { q with vaux := false }) s
    let s := { s with
      canvas := { sentinel := s.canvas.sentinel }
      trp := { s.trp with beaconTx := 0 } }
    .next (if vbatLow then sentinelCause s 0x18 else s)

/-! ### Rails (R513) -/

/-- What one rail's readings change. -/
def pollRail (i : Nat) (r : RailReading) (s : State) : State :=
  if ¬ r.ack then calEvent 0x1A8 none i 0 (updPwr (fun p => { p with busFault := true }) s)
  else
    let s := updPwr (fun p => { p with
      busFault := false
      rails := p.rails.modify i fun x => { x with vout := r.vout, iout := r.iout, temp := r.temp } }) s
    if r.status = 0 then s
    else pwrEvent 4 (calEvent 0x1A7 none i r.status.toNat (updPwr (fun p => { p with
      faultRail := BitVec.ofNat 4 i, statusWord := r.status }) s))

/-- RAIL_POLL: firmware reads every rail of the board record. -/
def execRailPoll (readings : List RailReading) (s : State) : Res :=
  if s.power.recordOk ∧ pair1Up s = true then
    .next ((readings.take s.power.rails.length).zipIdx.foldl (fun s (x : RailReading × Nat) => pollRail x.2 x.1 s) s)
  else .next s

/-! ### Bring-up (R517) -/

/-- DIE_BRINGUP: powered, trained and keyed, aligned, its DRBG seeded and its resident lines pinned: die-ready; its tests
begin (R17, R31, R297, R517). -/
def execDieBringup (die : Nat) (s : State) : Res :=
  if ¬ s.boot.handover ∨ ¬ s.units.rng.drbgReady ∨ nDies s.part.variant ≤ die ∨ dieState s die ≠ .off ∨ s.power.dieReady.getLsbD die ∨ ¬ pair1Up s ∨
      now s < s.boot.handoverAt.toNat + die * 100000 then .next s
  else
    let s0 := s
    let (k, s) := drawRoot 64 s
    let (_, s) := drawRoot 48 s
    let s := updRng (fun r => { r with dies := Tab.set dDieDrbg r.dies die { seeded := true, at_ := s.time.time64 } }) s
    let s := updDie die (fun x => { x with
      state := .active, aligned := true, timeErr := 0, keyOut := k.take 32, keyIn := k.drop 32, kc := loadGens s x.kc }) s
    let s := startKats die ((troupesOfDie die).foldl (fun s t => reloadLines t s) s)
    .next (noteReady s0 (updPwr (fun p => { p with dieReady := setBit p.dieReady die }) s))

/-! ### Orderly power-down (R514) -/

/-- PWR_SHUTDOWN: admission stops as a halt does, and the drain begins. -/
def execPwrShutdown (id : Nat) (s : State) : Res :=
  .next (onService id 0x0FC0 (fun i s => withForm i false s fun s =>
    let d := i.le 24 4
    if 100000 < d then refuse id stOPERAND_FORMAT 0x01 s
    else if s.power.shutdown.isSome then s
    else
      let s := updItem id (fun i => { i with phase := 7 }) s
      calEvent 0x1AC none 0 d (endUnstarted stHALTED (updPwr (fun p => { p with shutdown := some (s.time.time64, d, id) }) s))) s)

/-- SHUTDOWN_DRAIN_END, at the end of the drain or once every other command has its completion written: the service's
completion written, the line released, the supplies off. -/
def execShutdownDrainEnd (s : State) : Res :=
  match s.power.shutdown with
  | none => .next s
  | some (t, d, id) =>
    if now s < t.toNat + d * 1000 ∧ ¬ (s.items.all fun i => decide (i.id = id)) then .next s
    else
      let s := writeRelease id (finish id stOK [] false s)
      .next (losePower (updSeq (fun q => { q with blocked := true }) (releaseEnables s)))

/-! ### Services (R515, R522) -/

/-- PWR_TRIM. -/
def execPwrTrim (id : Nat) (s : State) : Res :=
  .next (onService id 0x0FC1 (fun i s => withForm i false s fun s =>
    let k := i.le 24 1
    let off := (BitVec.ofNat 16 (i.le 26 2)).toInt
    match s.power.rails[k]? with
    | none => refuse id stOPERAND_FORMAT 0x01 s
    | some r =>
      if ¬ s.power.recordOk then refuse id stOPERAND_FORMAT 0x01 s
      else
        let mv := clampMv r.supply ((r.record : Int) + off)
        done id (toLE 2 mv) (updPwr (fun p => { p with rails := p.rails.modify k fun x => { x with setMv := BitVec.ofNat 16 mv } }) s)) s)

/-- RTC_SET. -/
def execRtcSet (id : Nat) (s : State) : Res :=
  .next (onService id 0x0FC2 (fun i s => withForm i false s fun s =>
    let n := i.le 24 4
    done id [] (calEvent 0x1AB none 0 n { s with rtc := { seconds := BitVec.ofNat 32 n, valid := true } })) s)

/-! ### The host link (R44) -/

/-- PCIE_LINK_L0: the link has trained to ×16, ×8 or ×4 at 32, 16 or 8 GT/s (R42, R44); training is enabled once the boot
ROM runs. -/
def execPcieLinkL0 (link : LinkRate) (s : State) : Res :=
  if (link.width = 16 ∨ link.width = 8 ∨ link.width = 4) ∧ (link.speed = 32 ∨ link.speed = 16 ∨ link.speed = 8) ∧ s.lcs.fsm ≠ 0xCCCC then
    .next (updPwr (fun p => { p with linkWidth := link.width, linkSpeed := link.speed }) s)
  else .next s

end Sys2Proof.Machine
end

