-- ==== Sys2Proof/Machine/RegView.lean ====
section
/-!
DEFINITION. The registers as they read: PF BAR0 (R39), VF BAR0 (R40) and the control fabric (R210, R301, R314, R382,
R398, R399, R415, R445), with the control-die mirror of engine-die registers (R28).  A register reads as a 64-bit value at
its own offset; offsets a rule does not list read as zero.
-/
namespace Sys2Proof.Machine

/-- Values placed at bit positions. -/
def pack (l : List (Nat × Nat)) : Nat := (l.map fun e => e.1 * 2 ^ e.2).sum

/-- A signed byte or half-word, and a bit mask over a list. -/
def maskOf (l : List Nat) : Nat := (l.map fun n => 2 ^ n).sum

/-! ### Engine-die registers (R28) -/

/-- JUG_DIE_STATUS (R165). -/
def jugDieStatus (s : State) (d : Nat) : Nat :=
  let ready := readyItems s d
  let seats := (troupesOfDie d).flatMap seatsOfTroupe
  pack [(ready.length, 0), (min 0xFFF ((dieLoad s d).getD 0xFFF), 16),
    ((seats.filter (wingFree s)).length, 32), (availSeats s d, 40), ((ready.filter fun i => decide (i.prio = 0)).length, 48)]

/-- JUG_DIE_COUNT (R165). -/
def jugDieCount (s : State) (d : Nat) : Nat :=
  let x := getDie s d
  pack [(x.selected.toNat, 0), (x.movedIn.toNat, 32), (x.movedOut.toNat, 48)]

/-- Seats of a list that run a routine. -/
def runningOf (s : State) (l : List Nat) : Nat := (l.filter fun k => (getSeat s k).run.isSome).length

/-- JUG_TROUPE_STATUS (R166). -/
def jugTroupeStatus (s : State) (t : Nat) : Nat :=
  pack [(b2n (troupeIdle s t), 0), (b2n (getTroupe s t).jaser, 1), (runningOf s (seatsOfTroupe t), 2),
    (((seatsOfTroupe t).filter fun k => (getSeat s k).suspended).length, 8)]

/-- Nanoseconds of a seat's present routine that count in its performer's load. -/
def ranNs (s : State) (k : Nat) : Nat := if seatFree s k then 0 else now s - (getSeat s k).busyAt.toNat

/-- JUG_PRF_LOAD (R166). -/
def jugPrfLoad (s : State) (n : Nat) : Nat :=
  let p := getPerf s n
  let ns := p.busyNs + ((List.range 4).map fun j => ranNs s (4 * n + j)).sum
  pack [(ns / 1000 % 2 ^ 32, 0), (p.started.toNat, 32)]

/-- KDC_DIE_STATUS, HITS, MISSES and GEN (R346). -/
def kdcDie (s : State) (d r : Nat) : Nat :=
  let c := (getDie s d).kc
  if r = 0 then pack [(usedUnits c, 0), (pinnedUnits c, 16), (transientUnits c, 32)]
  else if r = 8 then c.hits.toNat
  else if r = 0x10 then pack [(c.misses.toNat, 0), (c.stale.toNat, 32), (c.notFound.toNat, 48)]
  else if r = 0x18 then c.applied.toNat else 0

/-- PRF_SEAT_STATE (R211). -/
def prfSeatState (s : State) (k : Nat) : Nat :=
  let t := getSeat s k
  let st := if t.run.isNone then 0 else if t.suspended then 7 else if t.x.ending.isSome then 8
    else if t.x.wait ≠ 0 then t.x.wait.toNat else 1
  pack [(st, 0), (b2n (wingItem s k).isSome, 4), (b2n (getTroupe s (troupeOfSeat k)).jaser, 5), (t.part, 8),
    (t.routine, 16), (t.x.pc % 4096, 32), (popCount 4 t.x.tickets.toNat, 44), (t.x.loops.length, 48)]

/-- PRF_SEAT_FAULT (R212). -/
def prfSeatFault (s : State) (k : Nat) : Nat :=
  let f := (getSeat s k).fault
  pack [(b2n f.valid, 0), (f.cause.toNat, 8), (f.opcode.toNat, 16), (b2n f.async, 22), (f.pc.toNat, 24), (f.part.toNat, 40),
    (f.routine.toNat, 48)]

/-- PRF_SEAT_COUNT and PRF_SEAT_BUDGET (R213). -/
def prfSeatCount (s : State) (k : Nat) : Nat := pack [((getSeat s k).started.toNat, 0), ((getSeat s k).faults.toNat, 32)]
def prfSeatBudget (s : State) (k : Nat) : Nat :=
  let x := (getSeat s k).x
  pack [(x.iterLeft.toNat, 0), (x.instrs.toNat, 32), (x.cmpLeft.toNat, 53)]

/-- PRF_PERF_STATUS and PRF_PERF_ISSUE (R214). -/
def prfPerfStatus (s : State) (n : Nat) : Nat :=
  pack [(maskOf ((List.range 4).filter fun j => (getSeat s (4 * n + j)).run.isSome), 0), (b2n (getTroupe s (n / 8)).jaser, 4),
    (b2n (getSeat s (4 * n)).suspended, 5)]
def prfPerfIssue (s : State) (n : Nat) : Nat := pack [((getPerf s n).issue.toNat, 0), ((getPerf s n).dual.toNat, 32)]

/-- PWR_DIE_DOMAINS (R499, R501, R502): an active die has every domain on but those of gated troupes; a retained die
EMID, EFAB, KC and the PRF domain of its lowest troupe with a mask. -/
def dieDomains (s : State) (d : Nat) : Nat := match dieState s d with
  | .active =>
    0xF00 + maskOf ((List.range 4).filter fun j => !(getTP s (4 * d + j)).gated) * 0x11
  | .retention =>
    let on := 0xE00 + (match (List.range 4).find? fun j => decide (Tab.get dMap s.booth.active.map (4 * d + j) ≠ 0) with
      | none => 1
      | some j => 2 ^ j)
    on + on * 2 ^ 16
  | .absent => 0
  | .off => 0
  | .lost => 0

/-- PWR_DVFS (R507): TARGET and MANUAL are configuration, the rest status. -/
def dvfsStatus (s : State) (t : Nat) : Nat :=
  let x := getTP s t
  let want := if x.manual then x.target.toNat else 3
  pack [(x.opp.toNat, 8), (b2n (decide (oppNext s t ≠ x.opp.toNat)), 11), (b2n (decide (x.opp.toNat < want)), 12)]
def dvfsCfg (s : State) (t : Nat) : Nat := pack [((getTP s t).target.toNat, 0), (b2n (getTP s t).manual, 3)]

/-- Status and counters of an engine-die register, as the die holds them now, by PF BAR0 offset or fabric address. -/
def dieLive (s : State) (a : Nat) : Nat :=
  if 0x204000 ≤ a ∧ a < 0x205000 then (if a % 0x20 = 0 then jugDieStatus s ((a - 0x204000) / 0x20) else jugDieCount s ((a - 0x204000) / 0x20))
  else if 0x205000 ≤ a ∧ a < 0x206000 then jugTroupeStatus s ((a - 0x205000) / 0x10)
  else if 0x208000 ≤ a ∧ a < 0x209000 then jugPrfLoad s ((a - 0x208000) / 8)
  else if 0x700040 ≤ a ∧ a < 0x700080 then dieDomains s ((a - 0x700040) / 8)
  else if 0x701000 ≤ a ∧ a < 0x701100 then dvfsStatus s ((a - 0x701000) / 8)
  else if 0x910000 ≤ a ∧ a < 0x911000 then kdcDie s ((a - 0x910000) / 0x40) (a % 0x40)
  else if 0x60000000 ≤ a ∧ a < 0x60100000 then
    let k := (a - 0x60000000) / 0x40
    let r := a % 0x40
    if r = 0 then prfSeatState s k else if r = 8 then prfSeatFault s k else if r = 0x10 then prfSeatCount s k else prfSeatBudget s k
  else if 0x60100000 ≤ a ∧ a < 0x60200000 then
    (if a % 0x40 = 0 then prfPerfStatus s ((a - 0x60100000) / 0x40) else prfPerfIssue s ((a - 0x60100000) / 0x40))
  else if 0x64000000 ≤ a ∧ a < 0x65000000 then leAt (a % 0x40) 8 (unitBlock s .block ((a - 0x64000000) / 0x40))
  else if 0x65000000 ≤ a ∧ a < 0x66000000 then leAt (a % 0x40) 8 (unitBlock s .mau ((a - 0x65000000) / 0x40))
  else if 0x66000000 ≤ a ∧ a < 0x67000000 then leAt (a % 0x40) 8 (unitBlock s .hash ((a - 0x66000000) / 0x40))
  else if 0x67000000 ≤ a ∧ a < 0x68000000 then leAt (a % 0x100) 8 (scuBlock s ((a - 0x67000000) / 0x100))
  else 0

/-- The addresses of a die's status and counter registers, ascending. -/
def dieRegs (d : Nat) : List Nat :=
  let step (base n size : Nat) (offs : List Nat) : List Nat := (List.range n).flatMap fun k => offs.map fun o => base + k * size + o
  [0x204000 + d * 0x20, 0x204008 + d * 0x20] ++ step (0x205008 + d * 0x40) 4 0x10 [0] ++ step (0x208000 + d * 0x100) 32 8 [0] ++
  [0x700040 + d * 8] ++ step (0x701000 + d * 0x20) 4 8 [0] ++ step (0x910000 + d * 0x40) 1 0x40 [0, 8, 0x10, 0x18] ++
  step (0x60000000 + d * 0x2000) 128 0x40 [0, 8, 0x10, 0x18] ++ step (0x60100000 + d * 0x800) 32 0x40 [0, 8] ++
  step (0x64000000 + d * 0x200) 8 0x40 [0, 8, 0x10] ++ step (0x65000000 + d * 0x100) 4 0x40 [0, 8, 0x10] ++
  step (0x66000000 + d * 0x100) 4 0x40 [0, 8, 0x10] ++ step (0x67000000 + d * 0x100) 1 0x100 [8, 0x10, 0x18, 0x20]

/-- The mirror of a die refreshed. -/
def refreshed (s : State) (d : Nat) : Tab Word64 :=
  List.filter (fun (e : Nat × Word64) => decide (e.2 ≠ dMirror e.1)) ((dieRegs d).map fun a => (a, BitVec.ofNat 64 (dieLive s a)))

/-- MIRROR_REFRESH: every 1 µs, for every active die (R28). -/
def execMirrorRefresh (s : State) : Res :=
  .next ((List.range (nDies s.part.variant)).foldl (fun t d =>
    if dieState s d = .active then updDie d (fun x => { x with mirror := refreshed s d }) t else t) s)

/-! ### GLB, BTH, JUG, CAR (R35 to R37, R127 to R132, R163 to R168, R361, R375) -/

def dieCode : DieState → Nat
  | .absent => 0
  | .off => 1
  | .retention => 2
  | .active => 3
  | .lost => 4

def glbDieState (s : State) : Nat := pack ((List.range 7).map fun d => (dieCode (dieState s d), 4 * d))

def glbBootStatus (s : State) : Nat :=
  let b := s.boot
  pack [(b.stage, 0), (b.slot, 4), (b.failA.toNat, 8), (b.failB.toNat, 16), (b.failRec.toNat, 24), (fuseSvn s, 32),
    (b.keyIndex.toNat, 40), (s.fuses.revoked.toNat, 44)]

def readGlb (s : State) (o : Nat) : Nat :=
  if o = 0 then (deviceId s.part).toNat else if o = 8 then (glbConfig s.part).toNat else if o = 0x10 then glbDieState s
  else if o = 0x100 then glbBootStatus s else if o = 0x108 then s.fuses.serial.toNat
  else if o = 0x110 then pack [(s.boot.version.toNat, 0), (s.boot.svn.toNat, 32)]
  else if o = 0x118 then s.boot.recAddr.toNat * 4096 else if o = 0x120 then s.boot.recLen.toNat
  else if o = 0x200 then s.uch.chal0.toNat else if o = 0x208 then s.uch.chal1.toNat
  else if o = 0x218 then pack [(s.uch.code.toNat, 0), (s.uch.seq.toNat, 8)]
  else if o = 0x220 then s.uch.resp0.toNat else if o = 0x228 then s.uch.resp1.toNat else 0

/-- A staged change waits for a partition's own registers (R129). -/
def partStaged (s : State) (p : Nat) : Bool := s.booth.writes.any fun w =>
  (decide (0x100000 ≤ w.off) && decide (w.off < 0x104000) && decide ((w.off - 0x100000) / 0x40 = p)) ||
  (decide (0x201000 ≤ w.off) && decide (w.off < 0x202000) && decide ((w.off - 0x201000) / 0x10 = p)) ||
  (decide (0x301000 ≤ w.off) && decide (w.off < 0x302000) && decide ((w.off - 0x301000) / 0x10 = p))

/-- The partition's troupes in the active map on active or retained dies. -/
def partTroupes (s : State) (p : Nat) : List Nat :=
  (List.range (nTroupes s.part.variant)).filter fun t => mapped s t p && dieKept s (dieOfTroupe t)

def bthPartStatus (s : State) (p : Nat) : Nat :=
  let c := share s p
  let x := getPart s p
  pack [(b2n x.paused, 0), (b2n (x.paused && c.pause), 1), (b2n (decide (p ≠ 0) && !hasTroupe s p), 2), (b2n (partStaged s p), 3),
    (b2n (decide (c.cmdRate = 0)), 4), (b2n (decide (c.byteRate = 0)), 5),
    (if c.cmdRate = 0 then 0xFFFF else min 0xFFFF x.cmdTokens, 16),
    (if c.byteRate = 0 then 0xFFFFFFFF else min 0xFFFFFFFF (x.byteTokens / 64), 32)]

def bthPart (s : State) (p r : Nat) : Nat :=
  if r < 0x18 then (readShare s.booth.staged (0x100000 + 0x40 * p + r)).toNat
  else if r = 0x18 then bthPartStatus s p
  else if r = 0x20 then pack [((getPart s p).admitted.toNat, 0), ((getPart s p).refused.toNat, 32)]
  else if r = 0x28 then
    pack [((partTroupes s p).length, 0), (maskOf ((List.range (nDies s.part.variant)).filter fun d => hasTroupeOn s p d && dieKept s d), 8)]
  else 0

/-- Chunks held in the Back Lot over all queues. -/
def spilledLines (s : State) : Nat := (s.queues.map fun e => e.2.middle.length + (e.2.heldSqs.map fun h => h.lines.length).sum).sum

def readBth (s : State) (o : Nat) : Nat :=
  let t := (o - 0x104000) / 0x20
  if o < 0x104000 then bthPart s ((o - 0x100000) / 0x40) (o % 0x40)
  else if o < 0x104380 then (if t < nTroupes s.part.variant then (readShare s.booth.staged o).toNat else 0)
  else if 0x106000 ≤ o ∧ o < 0x106380 then
    (if (o - 0x106000) / 0x20 < nTroupes s.part.variant then (readShare s.booth.active (o - 0x2000)).toNat else 0)
  else if o = 0x108000 then b2n s.booth.hold
  else if o = 0x108008 then pack [(s.booth.appliedEpoch.toNat, 0), (b2n (!s.booth.writes.isEmpty), 32)]
  else if o = 0x1F0000 then pack [(s.booth.backlotSize.toNat, 0), (b2n s.booth.backlotLock, 63)]
  else if o = 0x1F0008 then pack [(freeGranules s, 0), (spilledLines s / 1024, 32)]
  else if o = 0x1F0010 then pack [(s.booth.parityCnt.toNat, 0), (s.booth.parityQp.toNat, 32), (b2n s.booth.paritySeen, 48)]
  else 0

def flowsHeld (s : State) (p : Nat) : Nat :=
  (List.filter (fun (e : Nat × FlowCtx) => e.2.valid && decide (e.1 / 16384 = p)) s.flows).length

def jugAllocCtl (j : Juggler) : Nat :=
  pack [(j.affinitySlack.toNat, 0), (b2n j.rebalEn, 16), (j.rebalThresh.toNat, 20), (j.rebalBatch.toNat, 32)]

def jugPartStatus (s : State) (p : Nat) : Nat :=
  let mine := s.items.filter fun i => decide (i.part = p)
  let isReadyItem (i : Item) : Bool := match i.place with
    | .ready _ => true
    | _ => false
  pack [((mine.filter fun i => decide (i.place = .pool)).length, 0), (flowsHeld s p, 17), ((mine.filter isReadyItem).length, 32),
    ((List.filter (fun (e : Nat × Seat) => e.2.run.isSome && decide (e.2.part = p)) s.seats).length, 49)]

def readJug (s : State) (o : Nat) : Nat :=
  let j := s.jug
  let t := (o - 0x205000) / 0x10
  if o = 0x200000 then (readShare s.booth.staged o).toNat
  else if o = 0x200008 then jugAllocCtl j
  else if o = 0x200010 then pack [(b2n s.booth.active.discipline, 0), ((poolItems s).length, 16),
    ((List.filter (fun (e : Nat × FlowCtx) => e.2.valid) s.flows).length, 48)]
  else if o = 0x200018 then pack [(j.rebalMoved.toNat, 0), (j.ctxEvict.toNat, 32), (j.ctxWait.toNat, 48)]
  else if o = 0x200020 then pack [(j.displaceCnt.toNat, 0), (j.preemptCnt.toNat, 32)]
  else if o = 0x200028 then j.err.toNat
  else if 0x201000 ≤ o ∧ o < 0x202000 then
    (if o % 0x10 = 0 then (readShare s.booth.staged o).toNat else if o % 0x10 = 8 then jugPartStatus s ((o - 0x201000) / 0x10) else 0)
  else if 0x204000 ≤ o ∧ o < 0x2040E0 then mirrored s ((o - 0x204000) / 0x20) o
  else if 0x205000 ≤ o ∧ o < 0x2051C0 then
    (if o % 0x10 = 0 then (if t < nTroupes s.part.variant then b2n (getTroupe s t).jaser + b2n (getTroupe s t).preemptEn * 2 else 0)
     else mirrored s (t / 4) o)
  else if 0x208000 ≤ o ∧ o < 0x208700 then mirrored s ((o - 0x208000) / 0x100) o
  else 0

def carFlowInfo (s : State) : Nat :=
  let p := s.jug.selPart.toNat
  let f := s.jug.selFlow.toNat
  let c := getFlow s p f
  let l := flowItems s p f
  if ¬ c.valid then 0
  else pack [(1, 0), (b2n c.ordered, 1), (b2n c.serial, 2), (b2n c.holdStart.isSome, 3), (c.home.getD 0, 4), (b2n c.home.isSome, 7),
    (l.length, 8), ((l.filter fun i => i.deferred && !i.released).length, 32)]

def readCar (s : State) (o : Nat) : Nat :=
  let p := s.jug.selPart.toNat
  let f := s.jug.selFlow.toNat
  if o = 0x300000 then s.jug.deferMax.toNat
  else if o = 0x300008 then pack [(s.items.length, 0), (deferredOut s, 32),
    (min 0xFFFF (s.items.filter fun i => isReady i && !i.released && !i.deferred).length, 48)]
  else if o = 0x300010 then pack [(s.jug.deferredCnt.toNat, 0), (s.jug.blockedCnt.toNat, 32)]
  else if 0x301000 ≤ o ∧ o < 0x302000 then
    (if o % 0x10 = 0 then (readShare s.booth.staged o).toNat else if o % 0x10 = 8 then (carPartStatus s ((o - 0x301000) / 0x10)).toNat else 0)
  else if o = 0x308000 then pack [(f, 0), (p, 16)]
  else if o = 0x308008 then carFlowInfo s
  else if o = 0x308010 then (if (getFlow s p f).valid then (getFlow s p f).nextSeq else 0)
  else if o = 0x308018 then ((flowHead s p f).map Item.seq).getD 0
  else 0

/-! ### CAL, TRC, CNV, TRP (R169, R445, R446, R473, R496) -/

def histCfg (h : BitVec 4 × Bool × Byte) : Nat := pack [(h.1.toNat, 0), (b2n h.2.1, 8), (h.2.2.toNat, 16)]

/-- The bytes of CAL_DEPTH k. -/
def calDepth (c : CalCfg) (k : Nat) : Nat := pack ((List.range 8).map fun j => ((Tab.get dDepth c.depth (8 * k + j)).toNat, 8 * j))

def calSelfFault (c : Cal) : Nat :=
  pack [(b2n (!c.file.isEmpty), 0), ((c.file.headD 0).toNat / 2 ^ 48 % 8, 1), (c.file.length, 4), (c.fileOver.toNat, 8), (c.ceCnt.toNat, 32)]

def readCal (s : State) (o : Nat) : Nat :=
  let c := s.cal
  if o = 0x400000 then b2n c.enable
  else if o = 0x400008 then pack [(c.staged.windowMs.toNat, 0), (c.staged.detailMax.toNat, 32)]
  else if o = 0x400010 then pack [(calState c, 0), (b2n c.pendingCfg, 3), (c.seq.toNat, 32)]
  else if o = 0x400018 then (c.window.map fun w => w.start.toNat).getD 0
  else if o = 0x400020 then pack [(c.head, 0), (c.tail, 32)]
  else if o = 0x400028 then pack [(calUsed c, 0), (c.lens.length, 32)]
  else if o = 0x400030 then pack [(c.lost.toNat, 0), (c.late.toNat, 32)]
  else if o = 0x400038 then c.event.toNat
  else if o = 0x400048 then c.rdAddr.toNat * 8
  else if o = 0x400058 then calSelfFault c
  else if o = 0x400060 then c.err.toNat
  else if 0x400100 ≤ o ∧ o < 0x400180 then histCfg (c.staged.hist.getD ((o - 0x400100) / 8) (0, true, 0))
  else if 0x400200 ≤ o ∧ o < 0x400280 then
    let e := (c.file.getD ((o - 0x400200) / 16) 0).toNat
    if o % 16 = 0 then e % 2 ^ 64 else e / 2 ^ 64
  else if 0x401000 ≤ o ∧ o < 0x401400 then calDepth c.staged ((o - 0x401000) / 8)
  else 0

def readTrc (s : State) (o : Nat) : Nat :=
  let t := s.trace
  if o = 0x480000 then b2n t.enable + b2n t.wrap * 2
  else if o = 0x480008 then pack [(b2n t.partEn, 0), (b2n t.flowEn, 1), (t.fPart.toNat, 8), (t.fFlow.toNat, 16), (t.groups.toNat, 32)]
  else if o = 0x480010 then pack [(t.count.toNat, 0), (b2n t.full, 17), (b2n t.wrapped, 18), (t.wrIndex.toNat, 32)]
  else if o = 0x480018 then t.lostCnt.toNat
  else if o = 0x480020 then t.rdIndex.toNat
  else if o = 0x480028 then traceShown s % 2 ^ 64
  else if o = 0x480030 then traceShown s / 2 ^ 64
  else 0

def cnvState (s : State) : Nat :=
  let c := s.canvas
  pack [(c.fsm.toNat, 0), (c.response.toNat, 16), (b2n c.halted, 19), (b2n c.purged, 20), (b2n c.zeroised, 21), (b2n c.stimBusy, 22),
    (capCode s, 23), (c.sentinel.fsm.toNat, 32), (c.noticeSeq.toNat, 48)]

def cnvFirst (c : Canvas) : Nat :=
  pack [(c.first.toNat, 0), (b2n c.multi, 6), (b2n c.firstValid, 7), (c.firstSev.toNat, 8), (c.firstTime.toNat, 24)]

/-- CNV_SEVk and CNV_FLOORk. -/
def cnvSev (c : CanvasCfg) (k : Nat) : Nat := pack ((List.range 16).map fun j => (srcSev c (16 * k + j), 4 * j))
def cnvFloor (k : Nat) : Nat := pack ((List.range 16).map fun j => (srcFloor (16 * k + j), 4 * j))

def blatchStatus (t : Sentinel) : Nat := pack [(t.latch.length, 0), (t.overflow.toNat, 8)]

/-- WORD0 and WORD1 of latch entry i. -/
def blatchWord (t : Sentinel) (i w : Nat) : Nat := match t.latch[i]? with
  | none => 0
  | some e => if w = 0 then e.1.toNat else e.2.toNat

/-- A CNV_ register, by offset in its block (R445). -/
def readCnv (s : State) (r : Nat) : Nat :=
  let c := s.canvas
  if r = 0 then b2n c.lock else if r = 8 then cnvState s else if r = 0x10 then c.cause.toNat else if r = 0x18 then c.raw.toNat
  else if r = 0x20 then cnvFirst c
  else if r = 0x28 then pack [(c.causeCnt.toNat, 0), (c.stimCnt.toNat, 32), (c.stimFail.toNat, 48)]
  else if 0x40 ≤ r ∧ r < 0x60 then cnvSev c.cfg ((r - 0x40) / 8)
  else if 0x60 ≤ r ∧ r < 0x80 then cnvFloor ((r - 0x60) / 8)
  else if r = 0x80 then c.cfg.caseCfg.toNat else if r = 0x88 then c.cfg.loopCfg.toNat
  else if 0x90 ≤ r ∧ r < 0xB0 then (c.cfg.vmon.getD ((r - 0x90) / 8) 0).toNat
  else if r = 0xB0 then c.cfg.temp.toNat
  else if r = 0xC0 then pack [(c.source.toNat, 0), (b2n c.stimBusy, 9), (c.stimResult.toNat, 10)]
  else if r = 0xC8 then s.fuses.disable.toNat else if r = 0xD0 then c.err.toNat
  else if r = 0x100 then blatchStatus c.sentinel
  else if 0x200 ≤ r ∧ r < 0x300 then blatchWord c.sentinel ((r - 0x200) / 16) (r % 16 / 8)
  else 0

/-- The host view of Canvas (R446). -/
def readCnvHost (s : State) (o : Nat) : Nat :=
  if o = 0x500000 then readCnv s 8 else if o = 0x500008 then readCnv s 0x10 else if o = 0x500010 then readCnv s 0x18
  else if o = 0x500018 then readCnv s 0x20
  else if 0x500020 ≤ o ∧ o < 0x500040 then readCnv s (o - 0x500020 + 0x40)
  else if o = 0x500040 then readCnv s 0x100 else if o = 0x500048 then readCnv s 0xC8
  else if 0x500100 ≤ o ∧ o < 0x500200 then readCnv s (o - 0x500100 + 0x200) else 0

def trpCtl (t : Trp) : Nat :=
  pack [(t.tDetect.toNat, 0), (t.tWd.toNat, 24), (t.revertS.toNat, 32), (t.prefer.toNat, 48), (b2n t.claimDeg, 50), (b2n t.patrolEn, 51),
    (b2n t.hot, 52), (b2n t.lock, 63)]

/-- MIRROR_HELD (R461, R463). -/
def mirrorHeld (s : State) : Bool := !s.trp.held.isEmpty || s.booth.writes.any fun w => w.held.isSome

def trpStatus (s : State) : Nat :=
  let t := s.trp
  pack [(roleCode t.fsm, 0), (b2n (preferred s), 3), (b2n t.pathA, 4), (b2n t.pathB, 5), (b2n t.line, 6), (b2n t.driving, 7),
    (b2n (decide (t.fsm = fsmACTIVE) && t.standby && t.linkUp), 8), (b2n (mirrorHeld s), 9), (b2n t.peerHealthy, 10), (b2n t.wdReleased, 11),
    (t.fsm.toNat, 16), (t.epoch.toNat, 32)]

/-- HEALTHY_S (R467, R473). -/
def healthySeconds (s : State) : Nat := match s.trp.healthyAt with
  | none => 0
  | some t => min 0xFFFF ((now s - t.toNat) / 1000000000)

def readTrp (s : State) (r : Nat) : Nat :=
  let t := s.trp
  if r = 0 then trpCtl t else if r = 8 then trpStatus s else if r = 0x10 then t.peer.toNat else if r = 0x18 then t.err.toNat
  else if r = 0x20 then pack [(t.takeovers.toNat, 0), (t.handovers.toNat, 16), (t.mirrorFails.toNat, 32), (t.stales.toNat, 48)]
  else if r = 0x28 then pack [(t.mirrored.toNat, 0), (t.rtt.toNat, 32)]
  else if r = 0x30 then pack [(t.cycles.toNat, 0), (t.lastFails.toNat, 32), (b2n t.patrol, 40), (healthySeconds s, 48)]
  else if r = 0x38 then pack [(t.lanes.toNat, 0), (b2n t.linkUp, 4), (t.crc.toNat, 16), (t.retrains.toNat, 32), (t.authFail.toNat, 48)]
  else if r = 0x40 then t.event.toNat
  else 0

/-! ### PWR, CLK (R38, R498, R520, R521) -/

/-- PWR_DOMAINS (R498): DSW in PS4 (PEX_PHY with it only in L1.2, which the link commands do not enter), PEER of an unpaired unit without a link, the MID port of a die that is
off or absent. -/
def pwrDomains (s : State) : Nat :=
  let ps4 := decide (s.power.state = 4)
  maskOf ((List.range 18).filter fun n =>
    if n = 6 then !ps4
    else if n = 10 then decide (s.trp.fsm ≠ fsmUNPAIRED) || s.trp.linkUp
    else if 11 ≤ n then decide (dieState s (n - 11) = .active) || decide (dieState s (n - 11) = .retention) || decide (dieState s (n - 11) = .lost)
    else true)

/-- THROTTLE_MS. -/
def throttleMs (s : State) : Nat :=
  min 0xFFFFFFFF (s.power.throttleMs.toNat + (match s.power.throttleAt with
    | none => 0
    | some t => (now s - t.toNat) / 1000000))

def railWord (r : Rail) : Nat := pack [(r.vout.toNat, 0), (r.iout.toNat, 16), (r.setMv.toNat, 32), (r.temp.toNat, 48)]

def readPwr (s : State) (o : Nat) : Nat :=
  let p := s.power
  if o = 0x700000 then pack [(b2n p.auto, 0), (p.deepest.toNat, 1), (b2n p.gateEn, 4), (b2n p.dvfsAuto, 5), (p.idleUs.toNat, 8)]
  else if o = 0x700008 then pack [(p.state.toNat, 0), (b2n p.changing, 3), (p.waking.toNat, 8), (min 0xFFFFFFFF ((minBudget s).getD 0xFFFFFFFF), 32)]
  else if o = 0x700010 then maskOf ((List.range (nTroupes s.part.variant)).filter fun t => (getTP s t).gated)
  else if o = 0x700018 then pwrDomains s
  else if o = 0x700020 then pwrReady s
  else if o = 0x700028 then pack [(p.tNow.toNat, 0), (p.tAlert.toNat, 8), (if s.part.grade = 2 then 0x73 else 0x69, 16), (b2n p.alert, 24),
    (b2n p.trip, 25), (b2n (throttling s), 26), (b2n p.lock, 31), (throttleMs s, 32)]
  else if o = 0x700030 then p.event.toNat
  else if 0x700040 ≤ o ∧ o < 0x700078 then mirrored s ((o - 0x700040) / 8) o
  else if o = 0x700080 then pack [(p.rails.length, 0), (b2n p.recordOk, 5), (b2n p.busFault, 6), (p.faultRail.toNat, 8),
    (p.statusWord.toNat, 16), (p.seq.fault.toNat, 32)]
  else if 0x700100 ≤ o ∧ o < 0x700180 then ((p.rails[(o - 0x700100) / 8]?).map railWord).getD 0
  else if 0x701000 ≤ o ∧ o < 0x7010E0 then
    let t := (o - 0x701000) / 8
    if t < nTroupes s.part.variant then dvfsCfg s t + mirrored s (t / 4) o else 0
  else 0

def readClk (s : State) (o : Nat) : Nat :=
  let t := s.time
  if o = 0x780000 then t.time64.toNat
  else if o = 0x780008 then t.hiLatch.toNat
  else if o = 0x780010 then pack [(maskOf ((List.range (nDies s.part.variant)).filter fun d => (getDie s d).aligned), 0), (b2n t.peerSync, 8),
    (b2n t.syncLost, 9), (b2n t.stepped, 10), (t.peerOffset.toNat, 16)]
  else if o = 0x780018 then pack [(b2n t.syncEn, 0), (b2n t.stepAllow, 1), (b2n t.lock, 31)]
  else if o = 0x780100 then pack [(s.rtc.seconds.toNat, 0), (s.rtc.ticks.toNat, 32), (b2n s.rtc.valid, 47)]
  else 0

/-! ### Gates, debug, life cycle (R398, R399, R415, R416) -/

/-- GAT_VIOL_INFO; its GATE field reads the gate's number at all times. -/
def gatViolInfo (s : State) (g : Nat) : Nat := (getGate s g).violInfo.toNat % 2 ^ 56 + g * 2 ^ 56

/-- A gate register, by offset in the gate's block. -/
def readGate (s : State) (g r : Nat) : Nat :=
  let x := getGate s g
  if ¬ gatePresent s g then 0
  else if r = 0 then pack [(maskOf ((List.range 32).filter fun e => ((entriesOf s g).getD e {}).lock), 0), (b2n x.sync, 32)]
  else if r = 8 then b2n x.sync
  else if r = 0x10 then gatViolInfo s g
  else if r = 0x18 then x.violAddr.toNat
  else if r = 0x20 then x.count.toNat
  else if r = 0x28 then x.err.toNat
  else if 0x100 ≤ r ∧ r < 0x500 then
    let e := (entriesOf s g).getD ((r - 0x100) / 0x20) {}
    if r % 0x20 = 0 then e.sBase.toNat * 4096 else if r % 0x20 = 8 then e.sLimit.toNat * 4096
    else if r % 0x20 = 0x10 then e.cfg.toNat else 0
  else 0

def lcsStateReg (s : State) : Nat :=
  pack [(s.lcs.state.toNat, 0), (b2n s.lcs.resumed, 2), (b2n s.lcs.repaired, 3), (s.lcs.fsm.toNat, 16), ((lcsWord s).toNat, 32)]

def readLcs (s : State) (r : Nat) : Nat :=
  let l := s.lcs
  if r = 0 then lcsStateReg s
  else if r = 8 then pack [(l.copy0.toNat, 0), (l.copy1.toNat, 32)]
  else if r = 0x10 then l.copy2.toNat
  else if r = 0x18 then pack [(l.target.toNat, 0), (b2n l.armed, 33), (l.result.toNat, 36)]
  else if r = 0x20 then pack [(s.fuses.wipe.toNat, 0), (b2n (wiped s), 5), (l.wipeStep.toNat, 6)]
  else 0

def readDbg (s : State) (r : Nat) : Nat :=
  if r = 0 then dbgStatus s else if r = 8 then s.dbg.expiry.toNat else if r = 0x10 then s.dbg.violInfo.toNat
  else if r = 0x18 then s.dbg.violAddr.toNat else 0

/-- The host view of gates, debug and life cycle (R416). -/
def readGat (s : State) (o : Nat) : Nat :=
  let gates := (List.range 13).filter (gatePresent s)
  if o = 0x800000 then pack [(maskOf (gates.filter fun g => bitOf (getGate s g).violInfo 0), 0), (b2n (bitOf s.dbg.violInfo 0), 13),
    (min 0xFFFFFFFF ((gates.map fun g => (getGate s g).count.toNat).sum), 32)]
  else if 0x800100 ≤ o ∧ o < 0x8001D0 then readGate s ((o - 0x800100) / 0x10) (0x10 + o % 0x10)
  else if o = 0x800200 then readDbg s 0x10 else if o = 0x800208 then readDbg s 0x18
  else if o = 0x880000 then pack [(lcsStateReg s % 16, 0), (s.fuses.wipe.toNat, 4), (b2n (wiped s), 9), (s.lcs.fsm.toNat, 16), ((lcsWord s).toNat, 32)]
  else if o = 0x880010 then dbgStatus s % 2 ^ 16
  else if o = 0x880018 then s.dbg.expiry.toNat else 0

/-! ### VLT, KDC (R314, R345, R346) -/

def vltPartStatus (s : State) (p : Nat) : Nat :=
  let v := getVPart s p
  pack [(maskOf ((List.range 8).filter fun sl => (slotRec s p sl).valid), 0), (b2n (regEmpty s p), 8), (b2n v.registry.isSome, 9),
    (b2n v.ceremony.isSome, 10), (b2n v.transfer.isSome, 11), ((v.registry.map fun r => r.custodians.length).getD 0, 16), ((vaultCounter s p).toNat, 32)]

def vltPartRoles (s : State) (p : Nat) : Nat :=
  let m (c : Nat) : Nat := ((getVPart s p).registry.map fun r => r.policy.getD c 0).getD 0
  pack ((List.range 8).map (fun sl => ((slotRec s p sl).role.toNat, 2 * sl)) ++ (List.range 7).map fun c => (m c % 32, 16 + 5 * c))

/-- KCV bytes of a valid slot's key and their number; 0 for an empty slot. -/
def vltSlotKcv (s : State) (p sl : Nat) : Nat :=
  let r := slotRec s p sl
  if r.valid then pack [(leAt 0 5 (slotKcv r), 0), ((slotKcv r).length, 40)] else 0

def readVlt (s : State) (o : Nat) : Nat :=
  let v := s.vault
  let p := (o - 0x901000) / 0x10
  let k := (o - 0x908000) / 0x10
  if o = 0x900000 then pack [(b2n v.ready, 0), (b2n v.dkekValid, 1), (b2n v.zeroised, 2), (b2n v.corrupt, 3), (openCount s, 8),
    (v.corruptCnt.toNat, 16), (zeroiseCnt s, 32)]
  else if 0x901000 ≤ o ∧ o < 0x902000 then (if o % 0x10 = 0 then vltPartStatus s p else vltPartRoles s p)
  else if 0x908000 ≤ o ∧ o < 0x910000 then
    let r := slotRec s (k / 8) (k % 8)
    if o % 0x10 = 0 then pack [(r.word.toNat, 0), (b2n r.valid, 32), (r.role.toNat, 33), (r.alg.toNat, 36)] else vltSlotKcv s (k / 8) (k % 8)
  else 0

def readKdc (s : State) (o : Nat) : Nat :=
  let d := s.dir
  let p := (o - 0x912000) / 0x10
  if 0x910000 ≤ o ∧ o < 0x9101C0 then mirrored s ((o - 0x910000) / 0x40) o
  else if o = 0x911000 then pack [(d.recs.length, 0), (b2n (!d.sweep.isEmpty), 23), (dirUnits d, 32)]
  else if o = 0x911008 then pack [(d.evictCnt.toNat, 0), (d.fullCnt.toNat, 32), (min 0xFFFF (d.staleFreed / 1024), 48)]
  else if 0x912000 ≤ o ∧ o < 0x913000 then
    let x := Tab.get dDirPart d.parts p
    if o % 0x10 = 0 then x.quota.toNat
    else pack [(dirPartUnits d p, 0), ((List.filter (fun (e : Nat × DirRec) => decide (e.2.part = p)) d.recs).length, 24), (x.evict.toNat, 47)]
  else 0

/-- The vault slot registers that read (R314). -/
def readSlotRegs (s : State) (r : Nat) : Nat :=
  let v := s.vault
  if r = 0 then pack [(v.selPart.toNat, 0), (v.selSlot.toNat, 8)]
  else if r = 0x28 then pack [(v.role.toNat, 0), (v.alg.toNat, 4)]
  else if r = 0x38 then pack [(b2n v.busy, 0), (v.code.toNat, 1), (v.gen.toNat, 32)] else 0

/-! ### Roustabout (R382) -/

def readMov (s : State) (r : Nat) : Nat :=
  let c := getMov s ((r - 0x100) / 0x40)
  if r = 0 then s.mov.rate.toNat
  else if r = 8 then pack [(movPending s, 0), (s.mov.active.getD 0, 8), (b2n s.mov.active.isSome, 11)]
  else if r = 0x10 then s.mov.irq.toNat
  else if 0x100 ≤ r ∧ r < 0x300 then
    let k := r % 0x40
    if k = 0 then c.src.toNat else if k = 8 then c.dst.toNat else if k = 0x10 then c.count.toNat else if k = 0x18 then c.cfg.toNat
    else if k = 0x28 then pack [(c.state.toNat, 0), (c.err.toNat, 8), (b2n c.cfgBusy, 12), (c.done.toNat, 32)] else 0
  else 0

/-! ### The BARs and the fabric (R39, R40, R51, R359) -/

/-- A PF BAR0 register while the firmware runs. -/
def livePf (s : State) (o : Nat) : Nat :=
  if o < 0x100000 then readGlb s o
  else if o < 0x200000 then readBth s o
  else if o < 0x300000 then readJug s o
  else if o < 0x400000 then readCar s o
  else if o < 0x480000 then readCal s o
  else if o < 0x500000 then readTrc s o
  else if o < 0x600000 then readCnvHost s o
  else if o < 0x700000 then readTrp s (o - 0x600000)
  else if o < 0x780000 then readPwr s o
  else if o < 0x800000 then readClk s o
  else if o < 0x900000 then readGat s o
  else if o < 0x910000 then readVlt s o
  else if o < 0xA00000 then readKdc s o
  else if 0x1000000 ≤ o ∧ o < 0x1800000 then
    let q := (o - 0x1000000) / 0x1000
    let x := getQp s q
    if x.own.part = 0 ∨ pfShown (o % 0x1000) = true then readQueue s x true (o % 0x1000) else 0
  else 0

/-- What registers outside GLB read before STAGE 2: their reset values, fused, voted, Cage and battery values among them
(R4, R359). -/
def resetView (s : State) : State :=
  { part := s.part, fuses := s.fuses, cage := s.cage
    lcs := { state := s.lcs.state, resumed := s.lcs.resumed, repaired := s.lcs.repaired }
    booth := { staged := resetShares s.part, active := resetShares s.part }
    canvas := { sentinel := s.canvas.sentinel }
    vault := { zeroised := s.vault.zeroised }
    trp := { line := true }
    power := { tAlert := tAlertOf s.part }
    rtc := s.rtc }

/-- PWR_DOMAINS at reset (R520). -/
def resetDomains (v : Variant) : Nat := match v with
  | .tvp4820 => 0xFFF
  | .tvp4840 => 0x3FFF
  | .tvp4880 => 0x3FFFF

/-- A PF BAR0 register as it reads. -/
def readPf (s : State) (o : Nat) : Word64 :=
  BitVec.ofNat 64 (
    if o < 0x100000 ∨ stageOpen s = true then livePf s o
    else if o = 0x700018 then resetDomains s.part.variant
    else livePf (resetView s) o)

/-- GLB_VF_STATUS (R62). -/
def vfStatus (s : State) (v : Nat) : Nat :=
  let pages := ((List.filter (fun (e : Nat × QueuePair) => decide (e.2.own.part.toNat = v)) s.queues).map fun e => e.2.own.vfPage.toNat).eraseDups
  pack [(v, 0), (maskOf pages, 8), (b2n (getPart s v).paused, 16), (readyBits s v, 17), (b2n (isActive s), 20), (s.trp.epoch.toNat, 32)]

/-- A VF BAR0 register as it reads. -/
def readVf (s : State) (v o : Nat) : Word64 :=
  BitVec.ofNat 64 (
    if o = 0 then vfStatus s v
    else if 0x1000 ≤ o ∧ o < 0x9000 then
      (match queueOf s v ((o - 0x1000) / 0x1000) with
       | none => 0
       | some q => readQueue s (getQp s q) false (o % 0x1000))
    else 0)

/-- A control-fabric register as it reads; none where the address is no register of this model. -/
def readFabric (s : State) (a : Nat) : Option Word64 :=
  let die (d : Nat) : Option Word64 := some (BitVec.ofNat 64 (mirrored s d a))
  let val (v : Nat) : Option Word64 := some (BitVec.ofNat 64 v)
  if a < 0x1000000 then some (readPf s a)
  else if 0x60000000 ≤ a ∧ a < 0x6000E000 then die ((a - 0x60000000) / 0x2000)
  else if 0x60100000 ≤ a ∧ a < 0x60103800 then die ((a - 0x60100000) / 0x800)
  else if 0x64000000 ≤ a ∧ a < 0x64000E00 then
    (if a % 0x40 = 0x18 then val (dieLive s a) else die ((a - 0x64000000) / 0x200))
  else if 0x65000000 ≤ a ∧ a < 0x65000700 then (if a % 0x40 = 0x18 then val (dieLive s a) else die ((a - 0x65000000) / 0x100))
  else if 0x66000000 ≤ a ∧ a < 0x66000700 then (if a % 0x40 = 0x18 then val (dieLive s a) else die ((a - 0x66000000) / 0x100))
  else if 0x67000000 ≤ a ∧ a < 0x67000700 then
    (if a % 0x100 = 0 ∨ a % 0x100 = 0x28 then val (dieLive s a) else die ((a - 0x67000000) / 0x100))
  else if 0x68000000 ≤ a ∧ a < 0x68000020 then val (leAt (a - 0x68000000) 8 (rngBlock s))
  else if 0x69000000 ≤ a ∧ a < 0x69000040 then val (readSlotRegs s (a - 0x69000000))
  else if 0x6A000000 ≤ a ∧ a < 0x6A000300 then val (readMov s (a - 0x6A000000))
  else if 0x6B000000 ≤ a ∧ a < 0x6B00D000 then val (readGate s ((a - 0x6B000000) / 0x1000) (a % 0x1000))
  else if 0x6C000000 ≤ a ∧ a < 0x6C000028 then val (readLcs s (a - 0x6C000000))
  else if 0x6D000000 ≤ a ∧ a < 0x6D000020 then val (readDbg s (a - 0x6D000000))
  else if 0x6E000000 ≤ a ∧ a < 0x6E000300 then val (readCnv s (a - 0x6E000000))
  else if 0x6F100000 ≤ a ∧ a < 0x6F300000 then val (leAt 0 8 (Tab.getList (fun _ => (0 : Byte)) s.cal.mem (a - 0x6F100000) 8))
  else none

end Sys2Proof.Machine
end

