-- ==== Sys2Proof/Machine/Endpoint.lean ====
section
/-!
DEFINITION. The PCI Express endpoint as the host sees it beside BAR0: configuration space (R42, R45), the MSI-X tables and
PBAs of BAR2 (R46), reads of either BAR by size (R47), and the DOE mailbox (R370).  The layout of the registers that PCI
Express defines is PRESUMED (log 47).
-/
namespace Sys2Proof.Machine

/-! ### Identity (R45) -/

/-- A function's Device ID: the PF's is the part's code, a VF's one more. -/
def functionDeviceId (s : State) (fn : Nat) : Nat := partCode s.part.variant + (if fn = 0 then 0 else 1)

/-! ### Base addresses (R46) -/

/-- log2 of a BAR's size: of the PF, and of one VF. -/
def pfBarBits (n : Nat) : Nat := if n = 0 then 26 else 16
def vfBarBits (n : Nat) : Nat := if n = 0 then 16 else 12

/-- A base address as written: the bits below the BAR's size are fixed. -/
def barBase (bits : Nat) (v : Word64) : Word64 := BitVec.ofNat 64 (v.toNat / 2 ^ bits * 2 ^ bits)

/-- A base-address register as it reads: 64-bit and non-prefetchable; no other BAR is implemented. -/
def barWord (n : Nat) (b0 b2 : Word64) : Nat := if n = 0 then b0.toNat + 4 else if n = 2 then b2.toNat + 4 else 0

/-- Where a function's BAR lies: those of VF n follow VF 1's. -/
def barAt (s : State) (fn n : Nat) : Nat :=
  if fn = 0 then (if n = 0 then (getFunc s 0).bar0.toNat else (getFunc s 0).bar2.toNat)
  else (if n = 0 then s.pcie.vfBar0.toNat else s.pcie.vfBar2.toNat) + (fn - 1) * 2 ^ vfBarBits n

/-! ### Reads of configuration space (R42, R45) -/

/-- Device Control of the PF, which holds for its VFs too. -/
def devCtlWord (d : DevCtl) : Nat :=
  pack [(b2n d.relaxed, 4), (d.maxPayload.toNat, 5), (b2n d.noSnoop, 11), (d.maxRead.toNat, 12)]

/-- Code of a link rate. -/
def speedCode (gts : Nat) : Nat := if gts = 32 then 5 else if gts = 16 then 4 else if gts = 8 then 3 else 0

/-- The bit of an AER status register, and the first-error pointer's value, for a kind of error. -/
def aerBit (kind : Nat) : Nat := if kind = 3 then 22 else 20

/-- A register of an IDE stream: control, then base (with its valid bit) and limit of each association block. -/
def ideWord (x : IdeStream) (reg : Nat) : Nat :=
  let b := Tab.get (fun _ => ({} : IdeBlock)) x.blocks ((reg - 1) / 2)
  if reg = 0 then pack [(b2n x.enable, 0), (x.id.toNat, 24)]
  else if 5 ≤ reg then 0
  else if reg % 2 = 1 then b.base.toNat / 2 * 2 + b2n b.valid else b.limit.toNat

/-- DOE Status. -/
def doeStatus (d : Doe) : Nat := pack [(b2n d.busy.isSome, 0), (b2n d.err, 2), (b2n (!d.read.isEmpty), 31)]

/-- What the PF alone has. -/
def pfOnly (fn v : Nat) : Nat := if fn = 0 then v else 0

/-- A configuration register of a function. -/
def cfgWord (s : State) (fn : Nat) (r : CfgReg) : Nat :=
  let f := getFunc s fn
  let p := s.pcie
  match r with
  | .vendorId => 0x1E5A
  | .deviceId => functionDeviceId s fn
  | .revisionId => fld (deviceId s.part) 47 40
  | .classCode => 0x108000
  | .command => b2n f.busMaster * 4
  | .bar n => pfOnly fn (barWord n f.bar0 f.bar2)
  | .vfBar n => pfOnly fn (barWord n p.vfBar0 p.vfBar2)
  | .msixControl => pack [(nVectors fn - 1, 0), (b2n f.msix.fmask, 14), (b2n f.msix.enable, 15)]
  | .deviceControl => devCtlWord (getFunc s 0).dev
  | .deviceControl2 => (getFunc s 0).dev.timeout.toNat
  | .linkCapabilities => pack [(speedCode 32, 0), (16, 4), (2, 10)]
  | .linkControl => pfOnly fn (b2n p.aspmL1 * 2)
  | .l1Substates => pfOnly fn (pack [(b2n p.l12, 2), (b2n p.l11, 3)])
  | .linkStatus => pack [(speedCode s.power.linkSpeed, 0), (s.power.linkWidth, 4)]
  | .ltrEnable => pfOnly fn (b2n p.ltrEn)
  | .totalVfs => pfOnly fn 255
  | .vfEnable => pfOnly fn (b2n s.vfEnable)
  | .numVfs => pfOnly fn p.numVfs.toNat
  | .firstVfOffset => pfOnly fn 1
  | .vfStride => pfOnly fn 1
  | .vfDeviceId => pfOnly fn (functionDeviceId s 1)
  | .aerUncorrectable => pack [(b2n f.aer.unsupported, aerBit 2), (b2n f.aer.internal, aerBit 3)]
  | .aerCorrectable => b2n f.aer.advisory * 2 ^ 13
  | .aerFirst => if f.aer.first = 0 then 0 else aerBit f.aer.first
  | .aerHeader n => f.aer.header.getD n 0
  | .doeStatus => pfOnly fn (doeStatus p.doe)
  | .doeRead => pfOnly fn (p.doe.read.headD 0).toNat
  | .ideStream k reg => pfOnly fn (if k < 4 then ideWord (Tab.get (fun _ => ({} : IdeStream)) p.ide k) reg else 0)

/-- A read of configuration space; none where the device presents no such function. -/
def readCfg (s : State) (fn : Nat) (r : CfgReg) : Option Word64 :=
  if fnExists s fn then some (BitVec.ofNat 64 (cfgWord s fn r)) else none

/-! ### Reads of the BARs (R46, R47) -/

/-- Where a function's PBA lies in BAR2. -/
def pbaAt (fn : Nat) : Nat := if fn = 0 then 0x8000 else 0x800

/-- An eight-byte lane of BAR2: a table entry's address, or its data and Vector Control; pending bits from the PBA's
offset on. -/
def msixLane (s : State) (fn o : Nat) : Nat :=
  let m := (getFunc s fn).msix
  if o < 16 * nVectors fn then
    let n := o / 16
    if o % 16 < 8 then (Tab.get (fun _ => (0 : Word64)) m.addr n).toNat
    else (Tab.get (fun _ => (0 : Word32)) m.data n).toNat + b2n (m.mask.getLsbD n) * 2 ^ 32
  else if pbaAt fn ≤ o ∧ o < pbaAt fn + nVectors fn / 8 then m.pba.toNat / 2 ^ (8 * (o - pbaAt fn)) % 2 ^ 64
  else 0

/-- An eight-byte lane of BAR0. -/
def bar0Lane (s : State) (fn o : Nat) : Nat := (if fn = 0 then readPf s o else readVf s fn o).toNat

/-- The bytes of consecutive lanes. -/
def laneBytes (lane : Nat → Nat) (o : Nat) : Nat → Bytes
  | 0 => []
  | n + 1 => toLE 8 (lane o) ++ laneBytes lane (o + 8) n

/-- A read of `size` bytes of a BAR: all zero where R47 does not allow it; none where the device presents no such
function or BAR (R46). -/
def readBar (s : State) (fn n off size : Nat) : Option Bytes :=
  if fnExists s fn = false ∨ (n ≠ 0 ∧ n ≠ 2) then none
  else if (if n = 0 then readLegal fn off size else readLegal fn 0 size && decide (off % size = 0) && decide (size ≤ 8)) then
    some (slice (off % 8) size (laneBytes (if n = 0 then bar0Lane s fn else msixLane s fn) (off / 8 * 8) ((size + 7) / 8)))
  else some (zeros size)

/-! ### Writes of configuration space (R42) -/

def updPcie (f : Pcie → Pcie) (s : State) : State := { s with pcie := f s.pcie }

/-- AER Uncorrectable Error Status: W1C; with the first error's bit its pointer and header go (R42). -/
def clearUncorrectable (v : Word64) (a : AerLog) : AerLog :=
  let u := bitOf v (aerBit 2)
  let i := bitOf v (aerBit 3)
  let a := { a with unsupported := a.unsupported && !u, internal := a.internal && !i }
  if (a.first = 2 ∧ u) ∨ (a.first = 3 ∧ i) then { a with first := 0, header := [] } else a

/-- AER Correctable Error Status. -/
def clearCorrectable (v : Word64) (a : AerLog) : AerLog :=
  if bitOf v 13 then
    let a := { a with advisory := false }
    if a.first = 1 then { a with first := 0, header := [] } else a
  else a

/-- A register of an IDE stream written. -/
def writeIde (reg : Nat) (v : Word64) (x : IdeStream) : IdeStream :=
  let upd (f : IdeBlock → IdeBlock) : IdeStream :=
    { x with blocks := Tab.upd (fun _ => ({} : IdeBlock)) x.blocks ((reg - 1) / 2) f }
  if reg = 0 then { x with enable := bitOf v 0, id := BitVec.ofNat 8 (fld v 31 24) }
  else if 5 ≤ reg then x
  else if reg % 2 = 1 then upd fun b => { b with valid := bitOf v 0, base := BitVec.ofNat 64 (v.toNat / 2 * 2) }
  else upd fun b => { b with limit := v }

/-- The DOE object written since the last: its length, vendor and type agree with PCI Express. -/
def doeWhole (d : Doe) : Bool := decide (2 ≤ d.write.length) && decide (fld (d.write.getD 1 0) 17 0 = d.write.length)
def doeVendor (d : Doe) : Nat := fld (d.write.getD 0 0) 15 0
def doeType (d : Doe) : Nat := fld (d.write.getD 0 0) 23 16

/-- The Discovery response for an index: protocol 0 Discovery, 1 CMA/SPDM, 2 Secured CMA/SPDM. -/
def doeDiscovery (d : Doe) : List Word32 :=
  let i := fld (d.write.getD 2 0) 7 0 % 3
  [1, 3, BitVec.ofNat 32 (pack [(1, 0), (i, 16), ((i + 1) % 3, 24)])]

/-- DOE Go: Discovery is answered at once, an SPDM object goes to the responder, an object of another kind is discarded;
one that is not whole sets the error. -/
def doeGo (d : Doe) : Doe :=
  if d.busy.isSome then { d with err := true }
  else if ¬ doeWhole d then { d with write := [], err := true }
  else
    let d' := { d with write := [] }
    if doeVendor d ≠ 1 then d'
    else if doeType d = 0 then { d' with read := d.read ++ doeDiscovery d }
    else if doeType d = 1 ∨ doeType d = 2 then { d' with busy := some (BitVec.ofNat 8 (doeType d)) }
    else d'

/-- DOE Control: Abort, or Go. -/
def doeControl (v : Word64) (d : Doe) : Doe := if bitOf v 0 then {} else if bitOf v 31 then doeGo d else d

/-- Writes of a function's configuration space that only the PF has. -/
def writePfCfg (tgt : Target) (v : Word64) (s : State) : State := match tgt with
  | .cfgNumVfs => if s.vfEnable then s else updPcie (fun p => { p with numVfs := BitVec.ofNat 8 (fld v 7 0) }) s
  | .cfgBar n =>
    if n = 0 then updFunc 0 (fun f => { f with bar0 := barBase (pfBarBits 0) v }) s
    else if n = 2 then updFunc 0 (fun f => { f with bar2 := barBase (pfBarBits 2) v }) s else s
  | .cfgVfBar n =>
    if n = 0 then updPcie (fun p => { p with vfBar0 := barBase (vfBarBits 0) v }) s
    else if n = 2 then updPcie (fun p => { p with vfBar2 := barBase (vfBarBits 2) v }) s else s
  | .cfgLink => updPcie (fun p => { p with aspmL1 := bitOf v 1 }) s
  | .cfgL1Substates => updPcie (fun p => { p with l12 := bitOf v 2, l11 := bitOf v 3 }) s
  | .cfgLtr => updPcie (fun p => { p with ltrEn := bitOf v 0 }) s
  | .cfgDoeControl => updPcie (fun p => { p with doe := doeControl v p.doe }) s
  | .cfgDoeWrite => updPcie (fun p => { p with doe := { p.doe with write := p.doe.write ++ [v.truncate 32] } }) s
  | .cfgDoeRead => updPcie (fun p => { p with doe := { p.doe with read := p.doe.read.drop 1 } }) s
  | .cfgIde k reg => if k < 4 then updPcie (fun p => { p with ide := Tab.upd (fun _ => ({} : IdeStream)) p.ide k (writeIde reg v) }) s else s
  | _ => s

end Sys2Proof.Machine
end

