-- ==== Sys2Proof/Machine/Registers.lean ====
section
/-!
DEFINITION. REGISTER_WRITE: a posted write to a register that has no command of its own (R7, R8, R27, R48).  A register
lies in an eight-byte lane; a write of four bytes leaves the other half as it is.  Fields with a command of their own do
nothing here.
-/
namespace Sys2Proof.Machine

/-! ### Lanes -/

/-- A register write as a lane sees it: `v` the lane after the write, `w` the written bits with zeros elsewhere, `low`
whether the lane's first half is written. -/
structure LaneWrite where
  v   : Nat
  w   : Nat
  low : Bool
  deriving DecidableEq, Repr

/-- A write of 4 or 8 bytes, naturally aligned (log 48). -/
def writeLegal (off size : Nat) : Bool := (size == 4 || size == 8) && decide (off % size = 0)

/-- The lane's offset, and the write upon what it holds. -/
def laneOf (off size : Nat) (value : Word64) (old : Nat) : LaneWrite :=
  let n := value.toNat % 2 ^ 32
  if size = 8 then { v := value.toNat, w := value.toNat, low := true }
  else if off % 8 = 0 then { v := old / 2 ^ 32 * 2 ^ 32 + n, w := n, low := true }
  else { v := old % 2 ^ 32 + n * 2 ^ 32, w := n * 2 ^ 32, low := false }

/-- Bits `[hi:lo]` of a lane, and one bit of it. -/
def lfld (v hi lo : Nat) : Nat := v / 2 ^ lo % 2 ^ (hi - lo + 1)
def lbit (v i : Nat) : Bool := decide (v / 2 ^ i % 2 = 1)

/-- A value of a range. -/
def inRange (lo hi v : Nat) : Bool := decide (lo ≤ v) && decide (v ≤ hi)

/-! ### Queue pages (R51, R56, R59, R105 to R108) -/

/-- QUE_SQ_CFG, QUE_SQ_BASE, QUE_CQ_BASE and QUE_CQ_CFG take a write only while ENABLE and DRAINING are 0 (R59). -/
def writeQueueCfg (q : Nat) (f : QueueCfg → QueueCfg) (s : State) : State :=
  let x := getQp s q
  if x.cfg.enable ∨ x.draining then setCfgErr q 1 s else setQp q { x with cfg := f x.cfg } s

/-- A register of a queue page that its owner writes. -/
def writeQueue (q o : Nat) (l : LaneWrite) (s : State) : State :=
  let v := l.v
  if o = 0x050 then updQp q (fun x => { x with err := w1c x.err l.w }) s
  else if o = 0x080 then updQp q (fun x => { x with wm := { x.wm with notice := w1c x.wm.notice l.w } }) s
  else if o = 0x088 then updQp q (fun x => { x with wm := { x.wm with
    sqHigh := rwField x.wm.sqHigh (lfld v 16 0) (inRange 0 65536)
    sqLow := BitVec.ofNat 17 (lfld v 48 32), lowEn := lbit v 63 } }) s
  else if o = 0x090 then updQp q (fun x => { x with wm := { x.wm with
    cqHigh := BitVec.ofNat 17 (lfld v 16 0), irqMask := BitVec.ofNat 6 (lfld v 29 24) } }) s
  else if o = 0x108 ∧ l.low = true then writeQueueCfg q (fun c => { c with
    mode := lbit v 0, sqNoSnoop := lbit v 1, sqSize := BitVec.ofNat 5 (lfld v 8 4) }) s
  else if o = 0x110 then writeQueueCfg q (fun c => { c with sqBase := BitVec.ofNat 52 (lfld v 63 12) }) s
  else if o = 0x118 then writeQueueCfg q (fun c => { c with cqBase := BitVec.ofNat 52 (lfld v 63 12) }) s
  else if o = 0x120 ∧ l.low = true then writeQueueCfg q (fun c => { c with
    cqSize := BitVec.ofNat 5 (lfld v 4 0), cqNoSnoop := lbit v 5, vector := BitVec.ofNat 11 (lfld v 18 8), irqEn := lbit v 31 }) s
  else s

/-- A queue page of PF BAR0: of a VF's queue pair only QUE_ERR takes a write here (R51). -/
def writePfQueue (q o : Nat) (l : LaneWrite) (s : State) : State :=
  if (getQp s q).own.part = 0 ∨ o = 0x050 then writeQueue q o l s else s

/-! ### BTH, JUG, CAR, TRC (R131, R132, R163, R167 to R169) -/

/-- A queue pair has ENABLED or DRAINING set. -/
def anyQueueBusy (s : State) : Bool := s.queues.any fun e => e.2.enabled || e.2.draining

def writeBth (o : Nat) (l : LaneWrite) (s : State) : State :=
  let b := s.booth
  if o = 0x108000 then
    let h := lbit l.v 0
    { s with booth := { b with hold := h, holdCleared := if b.hold ∧ h = false then s.time.time64 else b.holdCleared } }
  else if o = 0x1F0000 then
    let z := if b.backlotLock ∨ anyQueueBusy s then b.backlotSize else rwField b.backlotSize (lfld l.v 4 0) (inRange 1 16)
    { s with booth := { b with backlotSize := z, backlotLock := b.backlotLock || lbit l.w 63 } }
  else if o = 0x1F0010 then { s with booth := { b with paritySeen := b.paritySeen && !lbit l.w 48 } }
  else s

def writeJug (o : Nat) (l : LaneWrite) (s : State) : State :=
  let j := s.jug
  if o = 0x200008 then { s with jug := { j with
    affinitySlack := BitVec.ofNat 12 (lfld l.v 11 0), rebalEn := lbit l.v 16
    rebalThresh := rwField j.rebalThresh (lfld l.v 31 20) (inRange 1 4095)
    rebalBatch := rwField j.rebalBatch (lfld l.v 39 32) (inRange 1 255) } }
  else if o = 0x200028 then { s with jug := { j with err := w1c j.err l.w } }
  else s

def writeCar (o : Nat) (l : LaneWrite) (s : State) : State :=
  let j := s.jug
  if o = 0x300000 then { s with jug := { j with deferMax := rwField j.deferMax (lfld l.v 12 0) (inRange 1 4096) } }
  else if o = 0x308000 then
    { s with jug := { j with selFlow := BitVec.ofNat 14 (lfld l.v 13 0), selPart := BitVec.ofNat 8 (lfld l.v 23 16) } }
  else s

def writeTrc (o : Nat) (l : LaneWrite) (s : State) : State :=
  let t := s.trace
  if o = 0x480008 then { s with trace := { t with
    partEn := lbit l.v 0, flowEn := lbit l.v 1, fPart := BitVec.ofNat 8 (lfld l.v 15 8), fFlow := BitVec.ofNat 14 (lfld l.v 29 16)
    groups := BitVec.ofNat 16 (lfld l.v 47 32) } }
  else if o = 0x480020 then { s with trace := { t with rdIndex := BitVec.ofNat 16 (lfld l.v 15 0) } }
  else s

/-! ### CAL (R478, R496) -/

/-- A change of CAL_CFG, CAL_HIST_CFG or CAL_DEPTH is staged for the next window (R478). -/
def stageCal (f : CalCfg → CalCfg) (s : State) : State :=
  updCal (fun c => { c with staged := f c.staged, pendingCfg := c.pendingCfg || decide (f c.staged ≠ c.staged) }) s

/-- The bytes of CAL_DEPTH k; byte value 0 is a reserved value. -/
def writeDepth (k v : Nat) (c : CalCfg) : CalCfg :=
  { c with depth := (List.range 8).foldl (fun d j =>
      if v / 256 ^ j % 256 = 0 then d else Tab.set dDepth d (8 * k + j) (BitVec.ofNat 8 (v / 256 ^ j % 256))) c.depth }

def writeCal (o : Nat) (l : LaneWrite) (s : State) : State :=
  if o = 0x400008 then stageCal (fun c => { c with
    windowMs := rwField c.windowMs (lfld l.v 21 0) (inRange 1 3600000)
    detailMax := rwField c.detailMax (lfld l.v 43 32) (inRange 0 3072) }) s
  else if o = 0x400038 then updCal (fun c => { c with event := w1c c.event l.w }) s
  else if o = 0x400048 then updCal (fun c => { c with rdAddr := BitVec.ofNat 18 (lfld l.v 20 3) }) s
  else if o = 0x400060 then updCal (fun c => { c with err := w1c c.err l.w }) s
  else if 0x400100 ≤ o ∧ o < 0x400180 then stageCal (fun c => { c with
    hist := c.hist.modify ((o - 0x400100) / 8) fun h =>
      (rwField h.1 (lfld l.v 3 0) (inRange 0 6), lbit l.v 8, BitVec.ofNat 8 (lfld l.v 23 16)) }) s
  else if 0x401000 ≤ o ∧ o < 0x401400 then stageCal (writeDepth ((o - 0x401000) / 8) l.v) s
  else s

/-! ### TRP, PWR, CLK, VLT, KDC, GLB (R38, R346, R361, R375, R473, R520) -/

def writeTrp (o : Nat) (l : LaneWrite) (s : State) : State :=
  let v := l.v
  if o = 0x600000 then updTrp (fun t =>
    if t.lock then t
    else { t with
      tDetect := rwField t.tDetect (lfld v 16 0) (inRange 20 100000), tWd := rwField t.tWd (lfld v 31 24) (inRange 10 255)
      revertS := BitVec.ofNat 16 (lfld v 47 32), prefer := rwField t.prefer (lfld v 49 48) (inRange 0 2)
      claimDeg := lbit v 50, patrolEn := lbit v 51, hot := lbit v 52, lock := lbit l.w 63 }) s
  else if o = 0x600018 then updTrp (fun t => { t with err := w1c t.err l.w }) s
  else if o = 0x600040 then updTrp (fun t => { t with event := w1c t.event l.w }) s
  else s

/-- T_ALERT may be set from 70 °C to the grade's Tj maximum: 95 °C for -XC, 105 °C for -XE (R2, R509). -/
def alertOk (p : PartId) (b : Nat) : Bool := inRange 70 (if p.grade = 2 then 105 else 95) b

def writePwr (o : Nat) (l : LaneWrite) (s : State) : State :=
  let v := l.v
  if o = 0x700000 then reselect (updPwr (fun p => { p with
    auto := lbit v 0, deepest := rwField p.deepest (lfld v 3 1) (inRange 0 3), gateEn := lbit v 4, dvfsAuto := lbit v 5
    idleUs := rwField p.idleUs (lfld v 15 8) (inRange 1 255) }) s)
  else if o = 0x700028 then updPwr (fun p =>
    if p.lock then p
    else { p with tAlert := rwField p.tAlert (lfld v 15 8) (alertOk s.part), lock := lbit l.w 31 }) s
  else if o = 0x700030 then updPwr (fun p => { p with event := w1c p.event l.w }) s
  else if 0x701000 ≤ o ∧ o < 0x7010E0 then
    let t := (o - 0x701000) / 8
    if nTroupes s.part.variant ≤ t then s
    else updTP t (fun x => { x with target := rwField x.target (lfld v 2 0) (inRange 0 4), manual := lbit v 3 }) s
  else s

def writeClk (o : Nat) (l : LaneWrite) (s : State) : State :=
  let t := s.time
  if o = 0x780010 then { s with time := { t with syncLost := t.syncLost && !lbit l.w 9, stepped := t.stepped && !lbit l.w 10 } }
  else if o = 0x780018 then
    (if t.lock then s
     else { s with time := { t with syncEn := lbit l.v 0, stepAllow := lbit l.v 1, lock := lbit l.w 31 } })
  else s

def writeVltKdc (o : Nat) (l : LaneWrite) (s : State) : State :=
  if o = 0x900000 then
    { s with vault := { s.vault with zeroised := s.vault.zeroised && !lbit l.w 2, corrupt := s.vault.corrupt && !lbit l.w 3 } }
  else if 0x912000 ≤ o ∧ o < 0x913000 ∧ o % 16 = 0 ∧ l.low = true ∧ lfld l.v 22 0 ≤ 6291456 then
    submitChange { writes := [.dirQuota ((o - 0x912000) / 16) (lfld l.v 22 0)] } s
  else s

def writeGlb (o : Nat) (l : LaneWrite) (s : State) : State :=
  if o = 0x118 then
    (if s.boot.stage = 4 then { s with boot := { s.boot with recAddr := BitVec.ofNat 52 (lfld l.v 63 12) } } else s)
  else if o = 0x120 then
    (if s.boot.stage = 4 then { s with boot := { s.boot with recLen := rwField s.boot.recLen (lfld l.v 16 0) (inRange 1 65536) } }
     else s)
  else if s.uch.code = 0x20 then s
  else if o = 0x200 then { s with uch := { s.uch with chal0 := BitVec.ofNat 64 l.v } }
  else if o = 0x208 then { s with uch := { s.uch with chal1 := BitVec.ofNat 64 l.v } }
  else s

/-- A lane of PF BAR0 (R39). -/
def writePfLane (o : Nat) (l : LaneWrite) (s : State) : State :=
  if o < 0x100000 then writeGlb o l s
  else if stageOpen s = false then s
  else if o < 0x200000 then writeBth o l s
  else if o < 0x300000 then writeJug o l s
  else if o < 0x400000 then writeCar o l s
  else if o < 0x480000 then writeCal o l s
  else if o < 0x500000 then writeTrc o l s
  else if o < 0x600000 then s
  else if o < 0x700000 then writeTrp o l s
  else if o < 0x780000 then writePwr o l s
  else if o < 0x800000 then writeClk o l s
  else if o < 0x900000 then s
  else if o < 0xA00000 then writeVltKdc o l s
  else if 0x1000000 ≤ o ∧ o < 0x1800000 then writePfQueue ((o - 0x1000000) / 0x1000) (o % 0x1000) l s
  else s

/-- A write to PF BAR0. -/
def writePf (off size : Nat) (value : Word64) (s : State) : State :=
  let o := off / 8 * 8
  writePfLane o (laneOf off size value (readPf s o).toNat) s

/-- A write to VF BAR0 (R40, R51). -/
def writeVf (fn off size : Nat) (value : Word64) (s : State) : State :=
  let o := off / 8 * 8
  if o < 0x1000 ∨ 0x9000 ≤ o then s
  else onQueue s fn ((o - 0x1000) / 0x1000) fun q => writeQueue q (o % 0x1000) (laneOf off size value (readVf s fn o).toNat) s

/-! ### MSI-X table and configuration space (R42, R46, R80) -/

/-- A lane of the MSI-X table: the address, or data and Vector Control; Mask written 0 unmasks. -/
def writeMsix (fn off size : Nat) (value : Word64) (s : State) : State :=
  let n := off / 16
  let m := (getFunc s fn).msix
  if nVectors fn ≤ n ∨ fnExists s fn = false then s
  else if off % 16 < 8 then
    let l := laneOf off size value (Tab.get (fun _ => (0 : Word64)) m.addr n).toNat
    updFunc fn (fun f => { f with msix := { f.msix with
      addr := Tab.set (fun _ => 0) f.msix.addr n (BitVec.ofNat 64 (l.v / 4 * 4)) } }) s
  else
    let old := (Tab.get (fun _ => (0 : Word32)) m.data n).toNat + b2n (m.mask.getLsbD n) * 2 ^ 32
    let l := laneOf off size value old
    let s := updFunc fn (fun f => { f with msix := { f.msix with
      data := Tab.set (fun _ => 0) f.msix.data n (BitVec.ofNat 32 (l.v % 2 ^ 32)) } }) s
    if lbit l.v 32 then updFunc fn (fun f => { f with msix := { f.msix with mask := setBit f.msix.mask n } }) s
    else unmaskVector fn n s

/-- MSI-X Message Control: Function Mask and MSI-X Enable; pending vectors that become unmasked send (R80). -/
def writeMsixControl (fn : Nat) (v : Nat) (s : State) : State :=
  let s := updFunc fn (fun f => { f with msix := { f.msix with fmask := lbit v 14, enable := lbit v 15 } }) s
  ((List.range (nVectors fn)).filter fun n => (getFunc s fn).msix.pba.getLsbD n).foldl (fun s n => sendPending fn n s) s

/-- VF Enable: written 0, every VF is reset and gone (R49; log 47). -/
def writeVfEnable (on : Bool) (s : State) : State :=
  if on then { s with vfEnable := true }
  else if s.vfEnable then { (List.range 255).foldl (fun s f => flr (f + 1) s) s with vfEnable := false }
  else s

/-- Device Control's fields. -/
def writeDevCtl (v : Nat) (d : DevCtl) : DevCtl :=
  { d with
    relaxed := lbit v 4, maxPayload := rwField d.maxPayload (lfld v 7 5) (inRange 0 2), noSnoop := lbit v 11
    maxRead := rwField d.maxRead (lfld v 14 12) (inRange 0 5) }

/-! ### Control fabric (R212, R301 to R303, R314, R382, R398, R399, R445) -/

/-- PRF_SEAT_FAULT.VALID (R212). -/
def writeSeatFault (k : Nat) (l : LaneWrite) (s : State) : State :=
  if nSeats s.part.variant ≤ k ∨ lbit l.w 0 = false then s
  else clearSeatFault k s

/-- X_ERR of a block unit, MAU or hash unit (R301). -/
def writeUnitErr (u : OpUnit) (n count die a : Nat) (l : LaneWrite) (s : State) : State :=
  if count ≤ n then s
  else clearMirror die a (l.w % 4)
    (updUnit u n (fun x => { x with check := x.check && !lbit l.w 0, katFail := x.katFail && !lbit l.w 1 }) s)

/-- SCU_LOCK and SCU_ERR (R302). -/
def writeScu (d r a : Nat) (l : LaneWrite) (s : State) : State :=
  if nDies s.part.variant ≤ d then s
  else if r = 0 then lockDone d (updScu d (fun u => lockSettled { u with
    owner := BitVec.ofNat 8 (lfld l.v 7 0), exclusive := lbit l.v 8, lockPending := true }) s)
  else if r = 0x20 then clearMirror d a (l.w % 8) (updScu d (fun u => { u with
    check := u.check && !lbit l.w 0, katFail := u.katFail && !lbit l.w 1, hostFault := u.hostFault && !lbit l.w 2 }) s)
  else s

/-- RNG_CTL (R303). -/
def writeRng (r : Nat) (l : LaneWrite) (s : State) : State :=
  if r ≠ 0 then s
  else updRng (fun x => { x with rawEn := if x.lock then x.rawEn else lbit l.v 1, lock := x.lock || lbit l.w 31 }) s

/-- The vault slot registers, but for VLT_SLOT_CMD; none takes a write while BUSY is 1 (R314, R315). -/
def writeSlotRegs (r : Nat) (l : LaneWrite) (s : State) : State :=
  let v := s.vault
  if v.busy then s
  else if r = 0 then { s with vault := { v with selPart := BitVec.ofNat 8 (lfld l.v 7 0), selSlot := BitVec.ofNat 3 (lfld l.v 10 8) } }
  else if 8 ≤ r ∧ r < 0x28 then
    { s with vault := { v with keyStage := Tab.set (fun _ => 0) v.keyStage ((r - 8) / 8) (BitVec.ofNat 64 l.v) } }
  else if r = 0x28 then { s with vault := { v with role := BitVec.ofNat 2 (lfld l.v 1 0), alg := BitVec.ofNat 4 (lfld l.v 7 4) } }
  else s

def updMv (f : Mov → Mov) (s : State) : State := { s with mov := f s.mov }

/-- MOV_CFG as a colour writes it: COLOUR by colour 1 only (R378, R382). -/
def movCfg (colour : Nat) (old : BitVec 12) (v : Nat) : BitVec 12 :=
  let c := lfld v 11 8
  let k := if colour = 1 ∧ (c = 3 ∨ 11 ≤ c) then c else old.toNat / 256
  BitVec.ofNat 12 (lfld v 5 0 + k * 256)

/-- A Roustabout register (R377, R379, R382). -/
def writeMov (colour r : Nat) (l : LaneWrite) (s : State) : State :=
  let n := (r - 0x100) / 0x40
  let k := r % 0x40
  if r = 0 then updMv (fun m => { m with rate := rwField m.rate (lfld l.v 6 0) (inRange 1 64) }) s
  else if r = 0x10 then updMv (fun m => { m with irq := w1c m.irq l.w }) s
  else if r < 0x100 ∨ 0x300 ≤ r then s
  else if k = 0x28 then updMov n (fun c => { c with cfgBusy := c.cfgBusy && !lbit l.w 12 }) s
  else if 0x20 ≤ k then s
  else if (getMov s n).state = 1 ∨ (getMov s n).state = 2 then updMov n (fun c => { c with cfgBusy := true }) s
  else if k = 0 then updMov n (fun c => { c with src := BitVec.ofNat 64 l.v }) s
  else if k = 8 then updMov n (fun c => { c with dst := BitVec.ofNat 64 l.v }) s
  else if k = 0x10 then updMov n (fun c => { c with count := BitVec.ofNat 31 (lfld l.v 30 0) }) s
  else updMov n (fun c => { c with cfg := movCfg colour c.cfg l.v }) s

/-- A gate register: VIOL_INFO.VALID, GAT_ERR, and the staged base and limit of an entry that is not locked (R392,
R398). -/
def writeGate (g r : Nat) (l : LaneWrite) (s : State) : State :=
  if ¬ gatePresent s g then s
  else if r = 0x10 then updGate g (fun x => { x with violInfo := w1c x.violInfo (l.w % 2) }) s
  else if r = 0x28 then updGate g (fun x => { x with err := w1c x.err l.w }) s
  else if r < 0x100 ∨ 0x500 ≤ r then s
  else
    let e := (r - 0x100) / 0x20
    if 0x10 ≤ r % 0x20 then s
    else if ((entriesOf s g).getD e {}).lock then updGate g (fun y => { y with err := setBit y.err 0 }) s
    else if r % 0x20 = 0 then updEntry g e (fun x => { x with sBase := BitVec.ofNat 52 (lfld l.v 63 12) }) s
    else updEntry g e (fun x => { x with sLimit := BitVec.ofNat 52 (lfld l.v 63 12) }) s

/-- DBG_VIOL_INFO.VALID (R399). -/
def writeDbg (r : Nat) (l : LaneWrite) (s : State) : State :=
  if r = 0x10 then { s with dbg := { s.dbg with violInfo := w1c s.dbg.violInfo (l.w % 2) } } else s

/-! ### Canvas (R419, R427, R428, R445) -/

def cnvErr (b : Nat) (s : State) : State := updCnv (fun c => { c with err := setBit c.err b }) s

/-- A write to an RWL register of Canvas: LOCKED after LOCK; else the configuration changes and the sentinel's copy is
stale (R443, R445). -/
def writeCnvCfg (f : CanvasCfg → CanvasCfg) (errs : List Nat) (s : State) : State :=
  if s.canvas.lock then cnvErr 2 s
  else errs.foldl (fun s b => cnvErr b s)
    (updCnv (fun c => { c with cfg := f c.cfg, sentinel := { c.sentinel with stale := c.sentinel.stale || decide (f c.cfg ≠ c.cfg) } }) s)

/-- The severities of a configuration, written out. -/
def sevList (c : CanvasCfg) : List (BitVec 4) := (List.range 64).map fun k => BitVec.ofNat 4 (srcSev c k)

/-- CNV_SEVk: a value below the floor, or above S5, leaves its field; unused codes have none (R419, R445). -/
def writeSev (k v : Nat) (c : CanvasCfg) : CanvasCfg :=
  { c with sev := (List.range 16).foldl (fun l j =>
      let x := lfld v (4 * j + 2) (4 * j)
      let n := 16 * k + j
      if srcDefault n = 0 ∨ x < srcFloor n ∨ 5 < x then l else l.set n (BitVec.ofNat 4 x)) (sevList c) }

/-- A field of CNV_SEVk is below its floor. -/
def belowFloor (k v : Nat) : Bool :=
  (List.range 16).any fun j => decide (srcDefault (16 * k + j) ≠ 0) && decide (lfld v (4 * j + 2) (4 * j) < srcFloor (16 * k + j))

/-- CNV_CASE_CFG without its reserved bits. -/
def caseBits (v : Nat) : Word64 := BitVec.ofNat 64 v &&& 0x7F7F7F7F7F7F7F7F#64

/-- CNV_LOOP_CFG: mode 3 is a reserved value. -/
def loopBits (v : Nat) (old : Word32) : Word32 :=
  BitVec.ofNat 32 ((List.range 8).map fun n =>
    (if lfld v (2 * n + 1) (2 * n) = 3 then loopMode old n else lfld v (2 * n + 1) (2 * n)) * 4 ^ n).sum

/-- CNV_VMONk: a threshold outside its bounds leaves its field (R427). -/
def writeVmon (k v : Nat) (c : CanvasCfg) : CanvasCfg :=
  let o := vmonOf c k
  let lo := if lowOk k (lfld v 15 0) then lfld v 15 0 else o.1
  let hi := if highOk k (lfld v 31 16) then lfld v 31 16 else o.2
  { c with vmon := c.vmon.set k (BitVec.ofNat 32 (lo + hi * 65536)) }

/-- CNV_TEMP (R428). -/
def tByte (v lo : Nat) : Int := (BitVec.ofNat 8 (lfld v (lo + 7) lo)).toInt
def writeTemp (v : Nat) (c : CanvasCfg) : CanvasCfg :=
  let lo := if tLowOk (tByte v 0) then lfld v 7 0 else fld c.temp 7 0
  let hi := if tHighOk (tByte v 8) then lfld v 15 8 else fld c.temp 15 8
  { c with temp := BitVec.ofNat 32 (lo + hi * 256) }

/-- The CNV_ERR bit of an outcome: none, or the bit. -/
def errIf (b : Bool) (n : Nat) : List Nat := if b then [n] else []

/-- A register of Canvas, but for CNV_CAUSE and CNV_STIM. -/
def writeCnv (r : Nat) (l : LaneWrite) (s : State) : State :=
  let v := l.v
  if r = 0 then updCnv (fun c => { c with lock := c.lock || lbit l.w 0 }) s
  else if r = 0x20 then updCnv (fun c => { c with firstValid := c.firstValid && !lbit l.w 7 }) s
  else if 0x40 ≤ r ∧ r < 0x60 then
    writeCnvCfg (writeSev ((r - 0x40) / 8) v) (errIf (belowFloor ((r - 0x40) / 8) v) 0) s
  else if r = 0x80 then writeCnvCfg (fun c => { c with caseCfg := caseBits v }) [] s
  else if r = 0x88 then writeCnvCfg (fun c => { c with loopCfg := loopBits v c.loopCfg }) [] s
  else if 0x90 ≤ r ∧ r < 0xB0 then
    let k := (r - 0x90) / 8
    writeCnvCfg (writeVmon k v) (errIf (!(lowOk k (lfld v 15 0) && highOk k (lfld v 31 16))) 1) s
  else if r = 0xB0 then writeCnvCfg (writeTemp v) (errIf (!(tLowOk (tByte v 0) && tHighOk (tByte v 8))) 1) s
  else if r = 0xD0 then updCnv (fun c => { c with err := w1c c.err l.w }) s
  else s

/-- A lane of the control fabric, its gate passed. -/
def writeFabricLane (colour a : Nat) (l : LaneWrite) (s : State) : State :=
  let t := nTroupes s.part.variant
  if a < 0x1000000 then writePfLane a l s
  else if 0x60000000 ≤ a ∧ a < 0x60100000 then
    (if a % 0x40 = 8 then writeSeatFault ((a - 0x60000000) / 0x40) l s else s)
  else if 0x64000000 ≤ a ∧ a < 0x67000000 ∧ a % 0x40 = 0x10 then
    (if a < 0x65000000 then writeUnitErr .block ((a - 0x64000000) / 0x40) (2 * t) ((a - 0x64000000) / 0x200) a l s
     else if a < 0x66000000 then writeUnitErr .mau ((a - 0x65000000) / 0x40) t ((a - 0x65000000) / 0x100) a l s
     else writeUnitErr .hash ((a - 0x66000000) / 0x40) t ((a - 0x66000000) / 0x100) a l s)
  else if 0x67000000 ≤ a ∧ a < 0x68000000 then writeScu ((a - 0x67000000) / 0x100) (a % 0x100) a l s
  else if 0x68000000 ≤ a ∧ a < 0x69000000 then writeRng (a - 0x68000000) l s
  else if 0x69000000 ≤ a ∧ a < 0x6A000000 then writeSlotRegs (a - 0x69000000) l s
  else if 0x6A000000 ≤ a ∧ a < 0x6B000000 then writeMov colour (a - 0x6A000000) l s
  else if 0x6B000000 ≤ a ∧ a < 0x6C000000 then writeGate ((a - 0x6B000000) / 0x1000) (a % 0x1000) l s
  else if 0x6D000000 ≤ a ∧ a < 0x6E000000 then writeDbg (a - 0x6D000000) l s
  else if 0x6E000000 ≤ a ∧ a < 0x6F000000 then writeCnv (a - 0x6E000000) l s
  else s

/-- What a lane of the fabric holds, for the half a write leaves alone; the staged key words are write-only. -/
def fabricOld (s : State) (a : Nat) : Nat :=
  if 0x69000008 ≤ a ∧ a < 0x69000028 then (Tab.get (fun _ => (0 : Word64)) s.vault.keyStage ((a - 0x69000008) / 8)).toNat
  else ((readFabric s a).getD 0).toNat

/-- A fabric write whose gate has admitted it. -/
def writeFabric (colour a size : Nat) (value : Word64) (s : State) : State :=
  writeFabricLane colour (a / 8 * 8) (laneOf a size value (fabricOld s (a / 8 * 8))) s

/-- REGISTER_WRITE by a function (`pf`, MSI-X and configuration targets) or, for a fabric target, by a colour, whose gate
checks the access on arrival (R388 to R390). -/
def execRegisterWrite (fn : Nat) (tgt : Target) (size : Nat) (value : Word64) (s : State) : Res :=
  .next <| match tgt with
  | .pf off =>
    if ¬ writeLegal off size ∨ fnExists s fn = false then s else if fn = 0 then writePf off size value s else writeVf fn off size value s
  | .msix off => if writeLegal off size then writeMsix fn off size value s else s
  | .cfgVfEnable => if fnExists s fn ∧ fn = 0 then writeVfEnable (bitOf value 0) s else s
  | .cfgMsix => if fnExists s fn then writeMsixControl fn value.toNat s else s
  | .cfgDevice =>
    if fnExists s fn ∧ fn = 0 then updFunc 0 (fun f => { f with dev := writeDevCtl value.toNat f.dev })
      (updPcie (fun p => { p with flrReq := p.flrReq || value.getLsbD 15 }) s)
    else s
  | .cfgDevice2 =>
    if fnExists s fn ∧ fn = 0 then updFunc 0 (fun f => { f with dev := { f.dev with timeout := BitVec.ofNat 4 (fld value 3 0) } }) s else s
  | .cfgCommand => if fnExists s fn then updFunc fn (fun f => { f with busMaster := bitOf value 2 }) s else s
  | .cfgAerUncorrectable => if fnExists s fn then updFunc fn (fun f => { f with aer := clearUncorrectable value f.aer }) s else s
  | .cfgAerCorrectable => if fnExists s fn then updFunc fn (fun f => { f with aer := clearCorrectable value f.aer }) s else s
  | .cfgNumVfs => if fnExists s fn ∧ fn = 0 then writePfCfg .cfgNumVfs value s else s
  | .cfgBar n => if fnExists s fn ∧ fn = 0 then writePfCfg (.cfgBar n) value s else s
  | .cfgVfBar n => if fnExists s fn ∧ fn = 0 then writePfCfg (.cfgVfBar n) value s else s
  | .cfgLink => if fnExists s fn ∧ fn = 0 then writePfCfg .cfgLink value s else s
  | .cfgL1Substates => if fnExists s fn ∧ fn = 0 then writePfCfg .cfgL1Substates value s else s
  | .cfgLtr => if fnExists s fn ∧ fn = 0 then writePfCfg .cfgLtr value s else s
  | .cfgDoeControl => if fnExists s fn ∧ fn = 0 then writePfCfg .cfgDoeControl value s else s
  | .cfgDoeWrite => if fnExists s fn ∧ fn = 0 then writePfCfg .cfgDoeWrite value s else s
  | .cfgDoeRead => if fnExists s fn ∧ fn = 0 then writePfCfg .cfgDoeRead value s else s
  | .cfgIde k reg => if fnExists s fn ∧ fn = 0 then writePfCfg (.cfgIde k reg) value s else s
  | .fabric colour a =>
    if ¬ writeLegal a size then s
    else
      let (ok, s) := gateAccess colour false a size 1 s
      if ok then writeFabric colour a size value s else s

end Sys2Proof.Machine
end

