-- ==== Sys2Proof/Machine/DebugPort.lean ====
section
/-!
DEFINITION. DBG_ACCESS: an access of the debug port with colour 10 (R400 to R407).
-/
namespace Sys2Proof.Machine

/-- An engine die's register window (R388). -/
def dieRegWindow (a : Nat) : Bool := decide (0x70000000 ≤ a) && decide (a < 0x77000000) && decide (a % 0x1000000 < 0x400000)

/-- Gate 2 and the die register windows: what REG_READ and REG_WRITE cover (R402). -/
def regScope (a : Nat) : Bool := decide (gateOf false a = some 2) || dieRegWindow a

/-- The port emits the access (R401, R402, R407): any in BLANK and TEST; within the grant's scopes in PRODUCTION; reads
in END_OF_LIFE. -/
def portEmits (s : State) (write : Bool) (a : Nat) : Bool :=
  let g := grantScope s
  if s.lcs.state.toNat < 2 then true
  else if s.lcs.state = 3 then !write
  else if write then regScope a && g.getLsbD 1
  else (regScope a && g.getLsbD 0) || (decide (gateOf false a = some 4) && g.getLsbD 2)

/-- What a read leaves behind at a register that a read changes (R167, R169, R303, R492): HOLD_PEAK_NS,
TRC_RD_HI, CAL_RD_DATA, RNG_HEALTH and RNG_RAW. -/
def readEffect (a : Nat) (s : State) : State :=
  if a = 0x68000010 then healthRead s
  else if a = 0x68000018 then rawRead s
  else if stageOpen s = false then s
  else if a = 0x480030 then { s with trace := { s.trace with rdIndex := s.trace.rdIndex + 1 } }
  else if a = 0x400050 then updCal (fun c => { c with rdAddr := c.rdAddr + 1 }) s
  else if 0x301000 ≤ a ∧ a < 0x302000 ∧ a % 16 = 8 then updPart ((a - 0x301000) / 16) (fun x => { x with holdPeak := 0 }) s
  else s

/-- What a read returns: a register of this model, the raw stream, record memory behind CAL_RD_DATA, or what the target
holds (`data`). -/
def portRead (s : State) (a : Nat) (data : Word64) : Word64 :=
  if a = 0x400050 ∧ stageOpen s then BitVec.ofNat 64 (leNat (ringRead s.cal.mem (s.cal.rdAddr.toNat * 8) 8))
  else (readFabric s a).getD data

/-- A write lands in a register, or in memory or a die's window. -/
def portWrite (a : Nat) (value : Word64) (s : State) : State :=
  if a < 0x1000000 ∨ gateOf false a = some 0 ∨ gateOf false a = some 1 ∨ gateOf false a = some 2 then writeFabric 10 a 8 value s
  else emit (.devMem a (toLE 8 value.toNat)) s

/-- DBG_ACCESS of 8 bytes.  A refusal by the port is captured with GATE 0xF and recorded as code 0x15F (R481); a refused or denied access returns ERR with
zero data (R395, R401).  Before the wipe of END_OF_LIFE the instruction acts as BYPASS (R400). -/
def execDbgAccess (write : Bool) (addr : Nat) (value data : Word64) (s : State) : Res :=
  let t := b2n write
  if s.lcs.state = 3 ∧ ¬ wiped s then .next s
  else if ¬ portEmits s write addr then
    .next (shiftOut 0 true (debugViolation (violInfo s false t 10 0x3F false 0xF) addr (calEvent 0x15F none 0xF addr s)))
  else
    let (ok, s) := gateAccess 10 false addr 8 t s
    if ¬ ok then .next (shiftOut 0 true s)
    else if write then .next (shiftOut 0 false (portWrite addr value s))
    else .next (shiftOut (portRead s addr data) false (readEffect addr s))

end Sys2Proof.Machine
end

