-- ==== Sys2Proof/Machine/EtnakInt.lean ====
section
/-!
DEFINITION. The Etnak integer instructions (R186): they act on g registers only and carry no taint.
-/
namespace Sys2Proof.Machine

/-- rd written with a result whose flags are Z and N, C and V cleared. -/
def intLogic (rd : BitVec 5) (v : Word64) (x : SeatRun) : IRes := .ok (logicFlags v (setG rd v x))

/-- rd written; no flag changes. -/
def intPlain (rd : BitVec 5) (v : Word64) (x : SeatRun) : IRes := .ok (setG rd v x)

/-- A signed 16-bit immediate. -/
def simm (i : BitVec 16) : Word64 := i.signExtend 64

/-- An unsigned 16-bit immediate. -/
def zimm (i : BitVec 16) : Word64 := i.setWidth 64

/-- Shift amount rb[5:0]. -/
def shAmt (v : Word64) : Nat := v.toNat % 64

def execAdd (k : Nat) (rd ra rb : BitVec 5) (s : State) : Res :=
  .next (onSeat k 0x01 ⟨gR [ra, rb], gR [rd]⟩ (fun x => .ok (addFlags (getG x ra) (getG x rb) (setG rd (getG x ra + getG x rb) x))) s)

def execSub (k : Nat) (rd ra rb : BitVec 5) (s : State) : Res :=
  .next (onSeat k 0x01 ⟨gR [ra, rb], gR [rd]⟩ (fun x => .ok (subFlags (getG x ra) (getG x rb) (setG rd (getG x ra - getG x rb) x))) s)

def execAnd (k : Nat) (rd ra rb : BitVec 5) (s : State) : Res :=
  .next (onSeat k 0x01 ⟨gR [ra, rb], gR [rd]⟩ (fun x => intLogic rd (getG x ra &&& getG x rb) x) s)

def execOr (k : Nat) (rd ra rb : BitVec 5) (s : State) : Res :=
  .next (onSeat k 0x01 ⟨gR [ra, rb], gR [rd]⟩ (fun x => intLogic rd (getG x ra ||| getG x rb) x) s)

def execXor (k : Nat) (rd ra rb : BitVec 5) (s : State) : Res :=
  .next (onSeat k 0x01 ⟨gR [ra, rb], gR [rd]⟩ (fun x => intLogic rd (getG x ra ^^^ getG x rb) x) s)

def execShl (k : Nat) (rd ra rb : BitVec 5) (s : State) : Res :=
  .next (onSeat k 0x01 ⟨gR [ra, rb], gR [rd]⟩ (fun x => intLogic rd (getG x ra <<< shAmt (getG x rb)) x) s)

def execShr (k : Nat) (rd ra rb : BitVec 5) (s : State) : Res :=
  .next (onSeat k 0x01 ⟨gR [ra, rb], gR [rd]⟩ (fun x => intLogic rd (getG x ra >>> shAmt (getG x rb)) x) s)

def execSar (k : Nat) (rd ra rb : BitVec 5) (s : State) : Res :=
  .next (onSeat k 0x01 ⟨gR [ra, rb], gR [rd]⟩ (fun x => intLogic rd ((getG x ra).sshiftRight (shAmt (getG x rb))) x) s)

def execMul (k : Nat) (rd ra rb : BitVec 5) (s : State) : Res :=
  .next (onSeat k 0x01 ⟨gR [ra, rb], gR [rd]⟩ (fun x => intPlain rd (getG x ra * getG x rb) x) s)

def execMinu (k : Nat) (rd ra rb : BitVec 5) (s : State) : Res :=
  .next (onSeat k 0x01 ⟨gR [ra, rb], gR [rd]⟩ (fun x =>
    intPlain rd (if (getG x ra).toNat ≤ (getG x rb).toNat then getG x ra else getG x rb) x) s)

def execMaxu (k : Nat) (rd ra rb : BitVec 5) (s : State) : Res :=
  .next (onSeat k 0x01 ⟨gR [ra, rb], gR [rd]⟩ (fun x =>
    intPlain rd (if (getG x ra).toNat ≤ (getG x rb).toNat then getG x rb else getG x ra) x) s)

def execCmp (k : Nat) (ra rb : BitVec 5) (s : State) : Res :=
  .next (onSeat k 0x01 ⟨gR [ra, rb], []⟩ (fun x => .ok (subFlags (getG x ra) (getG x rb) x)) s)

def execAddi (k : Nat) (rd ra : BitVec 5) (imm : BitVec 16) (s : State) : Res :=
  .next (onSeat k 0x02 ⟨gR [ra], gR [rd]⟩ (fun x => .ok (addFlags (getG x ra) (simm imm) (setG rd (getG x ra + simm imm) x))) s)

def execAndi (k : Nat) (rd ra : BitVec 5) (imm : BitVec 16) (s : State) : Res :=
  .next (onSeat k 0x03 ⟨gR [ra], gR [rd]⟩ (fun x => intLogic rd (getG x ra &&& zimm imm) x) s)

def execOri (k : Nat) (rd ra : BitVec 5) (imm : BitVec 16) (s : State) : Res :=
  .next (onSeat k 0x04 ⟨gR [ra], gR [rd]⟩ (fun x => intLogic rd (getG x ra ||| zimm imm) x) s)

def execXori (k : Nat) (rd ra : BitVec 5) (imm : BitVec 16) (s : State) : Res :=
  .next (onSeat k 0x05 ⟨gR [ra], gR [rd]⟩ (fun x => intLogic rd (getG x ra ^^^ zimm imm) x) s)

/-- SHI: type 0 SHL, 1 SHR, 2 SAR; 3 is reserved and faults ILLEGAL. -/
def execShi (k : Nat) (rd ra : BitVec 5) (type : BitVec 2) (n : BitVec 6) (s : State) : Res :=
  .next (onSeat k 0x06 ⟨gR [ra], gR [rd]⟩ (fun x =>
    let a := getG x ra
    match type.toNat with
    | 0 => intLogic rd (a <<< n.toNat) x
    | 1 => intLogic rd (a >>> n.toNat) x
    | 2 => intLogic rd (a.sshiftRight n.toNat) x
    | _ => .fault 0x01 255) s)

/-- The half-word `hw` of a register replaced, the other bits kept or zero (R186). -/
def movwValue (old : Word64) (imm : BitVec 16) (hw : BitVec 2) (keep : Bool) : Word64 :=
  let v := zimm imm <<< (16 * hw.toNat)
  if keep then (old &&& ~~~ ((0xFFFF : Word64) <<< (16 * hw.toNat))) ||| v else v

def execMovw (k : Nat) (rd : BitVec 5) (imm : BitVec 16) (hw : BitVec 2) (keep : Bool) (s : State) : Res :=
  .next (onSeat k 0x07 ⟨gR [rd], gR [rd]⟩ (fun x => intPlain rd (movwValue (getG x rd) imm hw keep) x) s)

def execCmpi (k : Nat) (ra : BitVec 5) (imm : BitVec 16) (s : State) : Res :=
  .next (onSeat k 0x08 ⟨gR [ra], []⟩ (fun x => .ok (subFlags (getG x ra) (simm imm) x)) s)

/-- SEL: the reserved condition faults ILLEGAL. -/
def execSel (k : Nat) (rd ra rb : BitVec 5) (cond : BitVec 4) (s : State) : Res :=
  .next (onSeat k 0x09 ⟨gR [ra, rb], gR [rd]⟩ (fun x =>
    match condHolds x cond with
    | some b => intPlain rd (if b then getG x ra else getG x rb) x
    | none => .fault 0x01 255) s)

end Sys2Proof.Machine
end

