-- ==== Sys2Proof/Machine/LibBase.lean ====
section
/-!
DEFINITION. What the Umantizon library services share (R239 to R246): their checks, refusals, key and host accesses, and
their end.  A service row runs the library routine of a seat from its first instruction to its END in one step; what the
spec does not state of the routine's code (instruction counts, the PC and opcode of a fault record) is a free value
(assumption log 43).
-/
namespace Sys2Proof.Machine

/-! ### Start and end -/

/-- The routine ends with END; operations of its own that still run end first, and a failure of one faults it (R196, R200). -/
def libEnd (k : Nat) (status : Byte) (data : Bytes) (hostBuf : Bool) (s : State) : State :=
  endWith k true { status := status, data := fit 16 data, hostBuf := hostBuf } (libCounts k s)

/-- The refusal record of R242. -/
def libRefuse (k reason off need : Nat) (s : State) : State :=
  libEnd k stOPERAND_FORMAT ([0, BitVec.ofNat 8 reason] ++ toLE 2 off ++ toLE 4 need ++ zeros 8) false s

/-- A match or a mismatch (R251 to R255, R265). -/
def libVerdict (k : Nat) (ok : Bool) (s : State) : State := libEnd k (if ok then stOK else stVERIFY_MISMATCH) [] false s

/-- A row whose routine has met a full queue or an empty DRBG buffer leaves its seat waiting, and nothing else (R187, R195). -/
def unlessStalled (k : Nat) (s t : State) : State :=
  let x := (getSeat t k).x
  if x.wait = 5 then setRun k { (getSeat s k).x with wait := 5, waitQ := x.waitQ, waitRnd := x.waitRnd } s else t

/-- A library routine in a seat at its first instruction: a fetch where its line is absent, STATE_PARITY where its line or its
seat fails its check, else its body (R205, R225, R226, R244). -/
def onLib (k routine : Nat) (body : Item → State → State) (s : State) : State :=
  let st := getSeat s k
  if seatRuns s k ∧ st.routine = routine ∧ st.x.instrs = 0 ∧ st.x.pc = 0 then
    if ¬ lineHere s k then missLine k s
    else if lineBad s k then libFault k 0x15 (dropLine k s)
    else if st.x.parityAt.isSome then libFault k 0x15 (touchLine k s)
    else match seatItem s k with
      | some i => unlessStalled k s (body i (setRun k { st.x with wait := 0, waitQ := none, waitRnd := none } (touchLine k s)))
      | none => s
  else s

/-! ### Operands (R240, R241) -/

/-- Operand bytes by command byte offset: those of the second chunk follow byte 63. -/
def opBytes (i : Item) (off n : Nat) : Bytes :=
  slice (if off < 64 then off - 24 else off - 25) n ((i.raw.drop 24).take 40 ++ (i.raw.drop 65).take 63)

def opLe (i : Item) (off n : Nat) : Nat := leNat (opBytes i off n)
def opRef (i : Item) (off : Nat) : Word64 := BitVec.ofNat 64 (opLe i off 8)

def itemChunks (i : Item) : Nat := if i.raw.length = 128 then 2 else 1
def itemOplen (i : Item) : Nat := leAt 6 2 i.raw % 32768
def itemPointer (i : Item) : Bool := (byteAt 7 i.raw).getLsbD 7

/-- A check of R241: whether it holds, the REASON and the command byte offset of its field. -/
structure OpCheck where
  ok     : Bool
  reason : Nat
  off    : Nat
  deriving DecidableEq, Repr

/-- Submission form, chunk count and OPLEN. -/
def formCheck (i : Item) (pointer : Bool) (chunks oplen : Nat) : OpCheck :=
  { ok := (itemPointer i == pointer) && decide (itemChunks i = chunks) && decide (itemOplen i = oplen), reason := 0x02, off := 6 }

def zeroCheck (i : Item) (off n : Nat) : OpCheck := { ok := decide (opLe i off n = 0), reason := 0x01, off := off }
def keyCheck (i : Item) (off : Nat) : OpCheck := { ok := decide (opLe i off 8 ≠ 0), reason := 0x04, off := off }
def rangeCheck (ok : Bool) (off : Nat) : OpCheck := { ok := ok, reason := 0x04, off := off }
def kindCheck (ok : Bool) (off : Nat) : OpCheck := { ok := ok, reason := 0x03, off := off }

/-- The checks in order: the first that fails refuses the command. -/
def libChecks (k : Nat) : List OpCheck → State → (State → State) → State
  | [], s, body => body s
  | c :: l, s, body => if c.ok then libChecks k l s body else libRefuse k c.reason c.off 0 s

/-- A check made once a key is open (R241, R243). -/
def libNeed (k : Nat) (ok : Bool) (reason off : Nat) (s : State) (body : State → State) : State :=
  if ok then body s else libRefuse k reason off 0 s

/-- An output of a length the key decides (R246). -/
def libRoom (k len need off : Nat) (s : State) (body : State → State) : State :=
  if need ≤ len then body s else libRefuse k 0x08 off need s

/-- Ranges that overlap. -/
def rangesMeet (a n b m : Nat) : Bool := decide (0 < n) && decide (0 < m) && decide (a < b + m) && decide (b < a + n)

/-- The output buffer does not overlap the operand buffer (R246). -/
def overlapCheck (i : Item) (addr len off : Nat) : OpCheck :=
  { ok := !(rangesMeet addr len (i.le 24 8) (i.le 32 4)), reason := 0x09, off := off }

/-! ### Keys (R181, R243) -/

/-- A reference resolved in the die's key cache, filled where it is absent; no pin outlives the routine. -/
def libKey (k : Nat) (ref : Word64) (s : State) (body : Handle → CacheEntry → State → State) : State :=
  let d := dieOfSeat k
  let stale (en : CacheEntry) (s : State) : Bool := decide (en.gen.toNat < (dieGen s d en.part en.slot).toNat)
  if ¬ refOk ref ∨ refPart ref ≠ (getSeat s k).part then libFault k 0x0E (countMiss d 0x0E s)
  else match findRef (getDie s d).kc ref with
    | some e =>
      let en := getEntry s d e
      if stale en s then libFault k 0x0D (countMiss d 0x0D s)
      else
        let s := updKc d (fun c => { c with hits := c.hits + 1, useCtr := c.useCtr + 1
                                            entries := Tab.upd dEntry c.entries e fun y => { y with age := c.useCtr } }) s
        body (handleOf e en) en (dirOpened ref s)
    | none =>
      let (cause, en, s) := fillEntry ref (Config.lineFails s.freeCtr) (updKc d (fun c => { c with misses := c.misses + 1 }) s)
      if cause ≠ 0 then libFault k cause (countMiss d cause s)
      else
        let (e, c) := addEntry en (getDie s d).kc
        let s := unpin d e (updKc d (fun _ => c) s)
        if stale en s then libFault k 0x0D (countMiss d 0x0D s) else body (handleOf e en) en (dirOpened ref s)

/-- R180's check at the instruction that uses a handle. -/
def libUse (k : Nat) (ok : Bool) (s : State) (body : State → State) : State := if ok then body s else libFault k 0x0C s

/-- DRBG output of the troupe's buffer: UNIT_NOT_READY while the generators are stopped; while the buffer is short the
seat waits and the row has no other effect. -/
def libDrbg (k n : Nat) (s : State) (body : Bytes → State → State) : State :=
  let t := troupeOfSeat k
  if drbgDown s then libFault k 0x14 s
  else if (getTroupe s t).drbgBuf < n then waitIn k 5 none { (getSeat s k).x with waitRnd := some 0x18 } s
  else body (drbgBytes s.freeCtr n)
    (updTroupe t (fun y => { y with drbgBuf := y.drbgBuf - n }) { s with freeCtr := s.freeCtr + (n + 15) / 16 })

/-! ### Host memory (R197) -/

/-- A host read: `buf` says what it returns. -/
def libRead (k a n : Nat) (buf : HostData) (s : State) (body : Bytes → State → State) : State :=
  let (ok, s) := gateAccess 6 true a n 0 s
  if ¬ ok ∨ seatMuted s k = true then libFault k 0x11 s
  else match buf with
    | .ok b => body (fit n b) s
    | .error => libFault k 0x11 s
    | .poison => libFault k 0x12 s

/-- The operand buffer of a pointer-mode command. -/
def libBuffer (k : Nat) (i : Item) (buf : HostData) (s : State) (body : Bytes → State → State) : State :=
  libRead k (i.le 24 8) (i.le 32 4) buf s body

def libWrite (k a : Nat) (b : Bytes) (s : State) (body : State → State) : State :=
  let (ok, s) := gateAccess 6 true a b.length 1 s
  if ok then body (if seatMuted s k then s else dataWrite (getSeat s k).part (getSeat s k).part (seatQp s k) a b s) else libFault k 0x11 s

/-! ### Digits (R245, R248, R251) -/

def isDigits (l : List Nat) : Bool := l.all fun n => decide (n < 10)

/-- A field of digits, left-justified, its other nibbles 0xF. -/
def digitField (n : Nat) (l : List Nat) : Bool := isDigits (l.take n) && (l.drop n).all fun x => x == 15

/-- A list on its right, padded with zeros on the left or cut to `n`. -/
def rightmost (n : Nat) (l : List Nat) : List Nat := List.replicate (n - l.length) 0 ++ l.drop (l.length - n)

/-- Nibbles padded on the right with zeros to `n`. -/
def padNibs (n : Nat) (l : List Nat) : List Nat := l.take n ++ List.replicate (n - l.length) 0

/-- The decimal digits of a block as the PVV method takes them. -/
def decimalise (l : List Nat) : List Nat := l.filter (fun n => decide (n < 10)) ++ (l.filter fun n => decide (10 ≤ n)).map (· - 10)

end Sys2Proof.Machine
end

