-- ==== Sys2Proof/Machine/LibKeys.lean ====
section
/-!
DEFINITION. The library's key, tokenisation, signature and bulk services (R256 to R267).
-/
namespace Sys2Proof.Machine

/-! ### Key blocks (R256) -/

/-- KCV in 5 bytes, and its length. -/
def kcvField (a : KeyAttr) (m : Bytes) : Bytes :=
  let v := if a.alg.toNat ≤ 6 then kcvOf a.alg.toNat m else []
  fit 5 v ++ [BitVec.ofNat 8 v.length]

/-- A key wrapped under a KBPK: USAGE, EXPORT, padding from the DRBG (R180, R324, R325). -/
def libWrap (k : Nat) (h : Handle) (e : CacheEntry) (format : Nat) (nk : NewKey) (s : State) (body : Bytes → State → State) :
    State :=
  libUse k (mayUse h [uKBPK] pWRAP && exportOk nk.attr h.attr) s fun s =>
    if drbgDown s then libFault k 0x14 s
    else match sealBlock format h.attr.alg.toNat e.material nk.attr nk.x9 nk.material (Config.drbg s.freeCtr) with
      | none => libFault k 0x0C s
      | some b => body b { s with freeCtr := s.freeCtr + 1 }

/-- A KBPK that may unwrap, and is not stale at the unwrap (R190, R328). -/
def libUnwrapOk (k : Nat) (h : Handle) (e : CacheEntry) (s : State) (body : State → State) : State :=
  libUse k (mayUse h [uKBPK] pUNWRAP) s fun s => libUnit k .block s fun s =>
    if h.gen.toNat < (dieGen s (dieOfSeat k) e.part h.slot).toNat then libFault k 0x0D (countMiss (dieOfSeat k) 0x0D s)
    else body s

/-- A new persistent entry of a key: its reference (R320, R322). -/
def libPersist (k : Nat) (nk : NewKey) (s : State) (body : Word64 → State → State) : State :=
  match persistEntry k nk s with
  | (0, e, x, s) => body x.ref (unpin (dieOfSeat k) e s)
  | (c, _, _, s) => libFault k c s

/-- The key that unwrapping its own block under a KBPK makes (R256): its attributes, the KBPK's root slot and generation,
and the X9_USAGE of the block's usage code. -/
def rewrapped (h : Handle) (format p : Nat) (nk : NewKey) : NewKey :=
  let x9 := if format = 0 then ((x9Codes nk.attr nk.x9).bind fun c => (x9Row c.1 c.2.1 c.2.2).map fun r => r.2.2).getD 0 else 0
  mkKey nk.attr p h.slot h.gen (BitVec.ofNat 2 x9) nk.material

/-- The KCV of a symmetric key is the block unit's (R256, R277). -/
def kcvUnit (k : Nat) (nk : NewKey) (s : State) (body : State → State) : State :=
  if nk.attr.alg.toNat ≤ 6 then libUnit k .block s body else body s

/-- Persist or export a key under a KBPK and answer the RESULT of R260: wrap, output length, unwrap, write. -/
def libKeyOut (k : Nat) (h : Handle) (e : CacheEntry) (format : Nat) (persist export_ : Bool) (addr len offLen : Nat) (nk : NewKey)
    (s : State) : State :=
  let p := (getSeat s k).part
  libWrap k h e format nk s fun b s =>
    let result (ref : Word64) (s : State) : State :=
      let data := toLE 8 ref.toNat ++ kcvField nk.attr nk.material ++ toLE 2 (if export_ then b.length else 0)
      if export_ then libWrite k addr b s fun s => libEnd k stOK data true s else libEnd k stOK data false s
    let room (s : State) (body : State → State) : State := if export_ then libRoom k len b.length offLen s body else body s
    kcvUnit k nk s fun s => room s fun s =>
      if persist then libUnwrapOk k h e s fun s => libPersist k (rewrapped h format p nk) s result
      else result 0 s

/-- KEY_IMPORT (R257). -/
def execKeyImport (seat : Nat) (buf : HostData) (s : State) : Res :=
  .next (onLib seat 0x0600 (fun i s =>
    let n := i.le 32 4
    libChecks seat [formCheck i true 1 12, rangeCheck (decide (16 ≤ n) && decide (n ≤ 3584)) 32, keyCheck i 36,
      kindCheck (decide (opLe i 44 1 ≤ 1)) 44, zeroCheck i 45 3] s fun s =>
    libKey seat (opRef i 36) s fun h e s => libBuffer seat i buf s fun b s => libUnwrapOk seat h e s fun s =>
      match openBlock (opLe i 44 1) (getSeat s seat).part h.slot h.gen h.attr.alg.toNat e.material b with
      | (c, none) => libFault seat c s
      | (_, some nk) => libPersist seat nk s fun ref s =>
        libEnd seat stOK (toLE 8 ref.toNat ++ kcvField nk.attr nk.material) false s) s)

/-- An opened key as a child of a wrap. -/
def asChild (e : CacheEntry) : NewKey :=
  { slot := e.slot, gen := e.gen, attr := e.attr, units := e.units, x9 := e.x9, material := e.material }

/-- KEY_EXPORT (R258). -/
def execKeyExport (seat : Nat) (s : State) : Res :=
  .next (onLib seat 0x0601 (fun i s =>
    libChecks seat [formCheck i false 1 40, keyCheck i 24, keyCheck i 32, kindCheck (decide (opLe i 40 1 ≤ 1)) 40,
      zeroCheck i 41 7, zeroCheck i 60 4] s fun s =>
    libKey seat (opRef i 24) s fun _ e s => libKey seat (opRef i 32) s fun h2 e2 s =>
    libWrap seat h2 e2 (opLe i 40 1) (asChild e) s fun b s => libRoom seat (opLe i 56 4) b.length 56 s fun s =>
    libWrite seat (opLe i 48 8) b s fun s => libEnd seat stOK (toLE 2 b.length) true s) s)

/-- KEY_TRANSLATE (R259). -/
def execKeyTranslate (seat : Nat) (buf : HostData) (s : State) : Res :=
  .next (onLib seat 0x0602 (fun i s =>
    let n := i.le 32 4
    libChecks seat [formCheck i true 2 32, rangeCheck (decide (16 ≤ n) && decide (n ≤ 3584)) 32, keyCheck i 36, keyCheck i 44,
      kindCheck (decide (opLe i 52 1 ≤ 1)) 52, kindCheck (decide (opLe i 53 1 ≤ 1)) 53, zeroCheck i 54 2,
      overlapCheck i (opLe i 56 8) (opLe i 65 4) 56] s fun s =>
    libKey seat (opRef i 36) s fun h e s => libKey seat (opRef i 44) s fun h2 e2 s =>
    libBuffer seat i buf s fun b s => libUnwrapOk seat h e s fun s =>
      match openBlock (opLe i 52 1) (getSeat s seat).part h.slot h.gen h.attr.alg.toNat e.material b with
      | (c, none) => libFault seat c s
      | (_, some nk) => libWrap seat h2 e2 (opLe i 53 1) nk s fun b s => libRoom seat (opLe i 65 4) b.length 65 s fun s =>
        libWrite seat (opLe i 56 8) b s fun s => libEnd seat stOK (toLE 2 b.length) true s) s)

/-- The checks of a TEMPLATE: zero bits; USAGE, ALG and EXPORT 1 or 2. -/
def templateChecks (t off : Nat) : List OpCheck :=
  [{ ok := decide (t < 2 ^ 22) && decide (t / 2 ^ 6 % 4 = 0), reason := 0x01, off := off },
   kindCheck (templateOk t && decide ((attrOf t).export_ ≠ 0)) off]

/-- The checks of FLAGS. -/
def flagChecks (f off : Nat) : List OpCheck :=
  [{ ok := decide (f < 4), reason := 0x01, off := off }, kindCheck (decide (f ≠ 0)) off]

/-- KEY_GENERATE (R260). -/
def execKeyGenerate (seat : Nat) (s : State) : Res :=
  .next (onLib seat 0x0603 (fun i s =>
    let t := opLe i 24 4
    let f := opLe i 28 1
    let ex := decide (f / 2 % 2 = 1)
    libChecks seat ([formCheck i false 1 40] ++ templateChecks t 24 ++ flagChecks f 28 ++
      [kindCheck (decide (opLe i 29 1 ≤ 1)) 29, zeroCheck i 30 2, keyCheck i 32] ++ (if ex then [] else [zeroCheck i 40 8]) ++
      [zeroCheck i 52 12]) s fun s =>
    libKey seat (opRef i 32) s fun h e s =>
      let a := attrOf t
      libUnit seat .block s fun s => libDrbg seat (keyLen a.alg.toNat) s fun m s =>
        libKeyOut seat h e (opLe i 29 1) (decide (f % 2 = 1)) ex (opLe i 40 8) (opLe i 48 4) 48
          (mkKey a (getSeat s seat).part h.slot h.gen 0 m) s) s)

/-- The hash a sender's signature covers, and its DIGEST code (R261). -/
def senderHash (alg : Nat) (b : Bytes) : Bytes := if alg = 0xD then sm3 b else fit 32 (Config.hash 0 b)

/-- KEY_IMPORT_ASYM (R261); only VERIFY takes an RSA-1024 key (R265). -/
def execKeyImportAsym (seat : Nat) (buf : HostData) (s : State) : Res :=
  .next (onLib seat 0x0610 (fun i s =>
    let n := i.le 32 4
    let sch := opLe i 60 1
    let sl := opLe i 62 2
    let cl := opLe i 65 4
    libChecks seat [formCheck i true 2 44, rangeCheck (decide (n ≤ 4096)) 32, keyCheck i 36, keyCheck i 44, keyCheck i 52,
      { ok := decide (sch / 4 % 4 = 0) && decide (sch / 32 = 0), reason := 0x01, off := 60 }, kindCheck (decide (sch % 4 ≤ 1)) 60,
      kindCheck (decide (opLe i 61 1 ≤ 1)) 61, rangeCheck (decide (cl + sl = n)) 65, overlapCheck i (opLe i 69 8) (opLe i 77 4) 69] s fun s =>
    libKey seat (opRef i 36) s fun hk ek s =>
    libNeed seat (decide (hk.attr.alg.toNat = if sch % 4 = 0 then 0xE else 0xD)) 0x05 36 s fun s =>
    libKey seat (opRef i 44) s fun hs es s =>
      let sa := hs.attr.alg.toNat
      libNeed seat (sigAlg sa && decide (sa ≠ 0xC)) 0x05 44 s fun s => libNeed seat (decide (sl = sigLen hs.attr)) 0x04 62 s fun s =>
      libKey seat (opRef i 52) s fun h e s => libBuffer seat i buf s fun b s =>
      libUnit seat .hash s fun s => libUse seat (mayUse hs [uSIG_PUB] pVER) s fun s => libUnit seat .mau s fun s =>
        if ¬ (rsaPrivOk hs.attr es.material && handleKeyOk hs.attr es.material (b.drop cl)) then libFault seat 0x10 s
        else if ¬ Config.verify sa (sigScheme (sch / 16 % 2) (if sa = 0xD then 5 else 0)) es.material (senderHash sa (b.take cl)) (b.drop cl) then libVerdict seat false s
        else libUse seat (mayUse hk [uKT_PRIV] pUNWRAP) s fun s =>
          if transportBad (sch % 4) hk.attr ek.material (b.take cl) then libFault seat 0x10 s
          else match (Config.keyTransport (sch % 4) ek.material (b.take cl)).bind (innerBlock (getSeat s seat).part hk) with
            | none => libFault seat 0x0F s
            | some nk => libNeed seat (decide (nk.attr.export_ ≠ 0)) 0x03 0xFFFF s fun s =>
              libKeyOut seat h e (opLe i 61 1) true true (opLe i 69 8) (opLe i 77 4) 77 nk s) s)

/-- KEY_AGREE (R262). -/
def execKeyAgree (seat : Nat) (buf : HostData) (s : State) : Res :=
  .next (onLib seat 0x0611 (fun i s =>
    let t := opLe i 44 4
    let f := opLe i 56 1
    let ex := decide (f / 2 % 2 = 1)
    let pl := opLe i 58 2
    let n := i.le 32 4
    libChecks seat ([formCheck i true 2 40, rangeCheck (decide (pl ≤ n) && decide (n ≤ 4088)) 32, keyCheck i 36] ++
      templateChecks t 44 ++ [keyCheck i 48] ++ flagChecks f 56 ++ [kindCheck (decide (opLe i 57 1 ≤ 1)) 57,
      rangeCheck ([64, 96, 132].contains pl) 58, zeroCheck i 60 4] ++
      (if ex then [overlapCheck i (opLe i 65 8) (opLe i 73 4) 65] else [])) s fun s =>
    libKey seat (opRef i 36) s fun ha ea s =>
      let alg := ha.attr.alg.toNat
      libNeed seat (decide (9 ≤ alg) && decide (alg ≤ 0xB)) 0x05 36 s fun s => libNeed seat (decide (pl = 2 * curveLen alg)) 0x04 58 s fun s =>
      libKey seat (opRef i 48) s fun h e s => libBuffer seat i buf s fun b s =>
      libUse seat (mayUse ha [uKA_PRIV] pDRV) s fun s => libUnit seat .mau s fun s => libUnit seat .hash s fun s =>
        if ¬ Config.validPublic alg (b.take pl) then libFault seat 0x10 s
        else
          let a := attrOf t
          let l := keyLen a.alg.toNat
          libKeyOut seat h e (opLe i 57 1) (decide (f % 2 = 1)) ex (opLe i 65 8) (opLe i 73 4) 73
            (mkKey a (getSeat s seat).part ha.slot ha.gen 0 (fit l (Config.keyAgree 0 alg ea.material b l))) s) s)

/-! ### Tokenisation (R263) -/

/-- The part TOKENISE and DETOKENISE share. -/
def tokenService (seat : Nat) (dec : Bool) (i : Item) (s : State) : State :=
  let n := opLe i 32 1
  let lead := opLe i 33 1
  let trail := opLe i 34 1
  let m := n - lead - trail
  let radix := if opLe i 35 1 = 1 then 36 else 10
  let tw := opLe i 36 1
  let out := opLe i 56 8
  let nums := (opBytes i 65 n).map BitVec.toNat
  libChecks seat [formCheck i false 2 (40 + n), keyCheck i 24,
    rangeCheck (decide (2 ≤ n) && decide (n ≤ 63) && (decide (out ≠ 0) || decide (n ≤ 16))) 32,
    rangeCheck (decide (lead + trail ≤ n) && decide (2 ≤ m) && decide (m ≤ 56) && decide (1000000 ≤ radix ^ m)) 33,
    kindCheck (decide (opLe i 35 1 ≤ 1)) 35, rangeCheck (decide (tw ≤ 16)) 36, zeroCheck i 37 3,
    { ok := decide (leNat ((opBytes i 40 16).drop tw) = 0), reason := 0x01, off := 40 },
    { ok := nums.all fun v => decide (v < radix), reason := 0x0A, off := 65 }] s fun s =>
  libKey seat (opRef i 24) s fun h e s =>
  libNeed seat (ffxAlg h.attr.alg.toNat) 0x05 24 s fun s => libUse seat (mayUse h [uFPE] (if dec then pDEC else pENC)) s fun s => libUnit seat .block s fun s =>
    let mid := (nums.drop lead).take m
    let r := Config.ff1 dec radix h.attr.alg.toNat e.material ((opBytes i 40 16).take tw) mid
    let bytes := (nums.take lead ++ ((List.range m).map fun j => r.getD j 0 % radix) ++ nums.drop (lead + m)).map (BitVec.ofNat 8)
    if out = 0 then libEnd seat stOK bytes false s
    else libWrite seat out bytes s fun s => libEnd seat stOK [] true s

def execTokenise (seat : Nat) (s : State) : Res := .next (onLib seat 0x0700 (tokenService seat false) s)
def execDetokenise (seat : Nat) (s : State) : Res := .next (onLib seat 0x0701 (tokenService seat true) s)

/-! ### Signatures (R264, R265) -/


/-- Digest lengths of R264's codes, and 6 SHA-1. -/
def sigDigestLen (d : Nat) : Nat :=
  if d = 0 ∨ d = 3 ∨ d = 5 then 32 else if d = 1 then 48 else if d = 2 ∨ d = 4 then 64 else if d = 6 then 20 else 0

/-- Digests a key type accepts. -/
def sigDigestOk (alg d : Nat) : Bool :=
  if alg = 0xC then decide (d = 2) else if alg = 0xD then decide (d = 5)
  else if (9 ≤ alg ∧ alg ≤ 0xB) ∨ alg = 0xE then decide (d ≤ 4) else false

/-- SIGN (R264). -/
def execSign (seat : Nat) (s : State) : Res :=
  .next (onLib seat 0x0800 (fun i s =>
    let d := opLe i 33 1
    let l := opLe i 34 1
    libChecks seat [formCheck i false 2 (24 + l), keyCheck i 24, { ok := decide (opLe i 32 1 < 2), reason := 0x01, off := 32 },
      kindCheck (decide (d ≤ 5)) 33, rangeCheck (decide (l = sigDigestLen d)) 34, zeroCheck i 35 1] s fun s =>
    libKey seat (opRef i 24) s fun h e s =>
      let alg := h.attr.alg.toNat
      libNeed seat (sigDigestOk alg d) 0x05 24 s fun s => libRoom seat (opLe i 44 4) (sigLen h.attr) 44 s fun s =>
      libUse seat (mayUse h [uSIG_PRIV] pSIGN) s fun s => libUnit seat .mau s fun s =>
        if ¬ rsaPrivOk h.attr e.material then libFault seat 0x10 s
        else
          let go (r : Bytes) (s : State) : State :=
            let sig := fit (sigLen h.attr) (Config.sign alg (sigScheme (opLe i 32 1) d) e.material (opBytes i 48 l) [] (BitVec.ofNat 128 (beNat (r.take 16))))
            libWrite seat (opLe i 36 8) sig s fun s => libEnd seat stOK (toLE 2 sig.length) true s
          if alg = 0xC ∨ alg = 0xE then go [] s else libDrbg seat (curveLen alg) s go) s)

/-- VERIFY (R265): the key, or a public key after the signature in the buffer. -/
def execVerify (seat : Nat) (buf : HostData) (s : State) : Res :=
  .next (onLib seat 0x0801 (fun i s =>
    let ref := opRef i 36
    let d := opLe i 44 1
    let opts := opLe i 45 1
    let sl := opLe i 46 2
    let l := opLe i 48 1
    let n := i.le 32 4
    let inBuf := decide (ref = 0)
    let digestOk (alg : Nat) : Bool := sigDigestOk alg (if d = 6 ∧ alg ≠ 0xC ∧ alg ≠ 0xD then 0 else d)
    let bufAlg := (keyTypeAlg (opts / 16)).getD 0
    let go (alg : Nat) (ok : Bool) (key sig : Bytes) (s : State) : State := libUnit seat .mau s fun s =>
      if ¬ ok then libFault seat 0x10 s
      else libVerdict seat (Config.verify alg (sigScheme (opts % 2) d) key (opBytes i 52 l) sig) s
    libChecks seat [formCheck i true 2 (16 + l), rangeCheck (decide (n ≤ 4096)) 32, kindCheck (decide (d ≤ 6)) 44,
      { ok := decide (opts / 2 % 8 = 0), reason := 0x01, off := 45 },
      kindCheck (!inBuf || (decide (1 ≤ opts / 16) && decide (opts / 16 ≤ 6))) 45, rangeCheck (decide (sl ≤ n)) 46,
      rangeCheck (decide (l = sigDigestLen d)) 48, zeroCheck i 49 3,
      { ok := !inBuf || digestOk bufAlg, reason := 0x05, off := 45 }] s fun s =>
    if inBuf then libBuffer seat i buf s fun b s =>
      let key := b.drop sl
      let m := leAt 0 2 key
      let formOk := if bufAlg = 0xE then decide (128 ≤ m) && decide (m ≤ 512) && decide (key.length = 6 + m) && decide (sl = m)
        else decide (key.length = if bufAlg = 0xC then 32 else 2 * curveLen bufAlg) && decide (sl = 2 * curveLen bufAlg)
      if formOk then go bufAlg (scratchKeyOk bufAlg key (b.take sl)) key (b.take sl) s else libFault seat 0x10 s
    else libKey seat ref s fun h e s =>
      let alg := h.attr.alg.toNat
      libNeed seat (digestOk alg) 0x05 36 s fun s => libNeed seat (decide (sl = sigLen h.attr)) 0x04 46 s fun s =>
      libBuffer seat i buf s fun b s => libUse seat (mayUse h [uSIG_PUB] pVER) s fun s =>
        go alg (handleKeyOk h.attr e.material (b.take sl)) e.material (b.take sl) s) s)

/-! ### Bulk encryption (R266, R267) -/

/-- A bulk service's SBULK descriptor (R280). -/
def bulkDesc (mode : Nat) (dec : Bool) (reenc : Option (Nat × Bytes)) (src dst len : Nat) (iv : Bytes) : Bytes :=
  [BitVec.ofNat 8 (mode + b2n dec * 8), BitVec.ofNat 8 (b2n reenc.isSome), BitVec.ofNat 8 ((reenc.map Prod.fst).getD 0), 0] ++ zeros 4 ++
  toLE 8 src ++ toLE 8 dst ++ toLE 4 len ++ zeros 4 ++ fit 16 iv ++ fit 16 ((reenc.map Prod.snd).getD [])

/-- The SCU takes a job of the partition, whose keys may be used so (R180, R272, R287): UNIT_NOT_READY or USAGE otherwise. -/
def withScu (k : Nat) (usable : Bool) (s : State) (body : State → State) : State :=
  let d := dieOfSeat k
  let u := getScu s d
  if u.exclusive ∧ u.owner.toNat ≠ (getSeat s k).part then libFault k 0x14 (scuRefused d (getSeat s k).part s)
  else if ¬ u.ready then libFault k 0x14 s
  else libUse k usable s body

/-- A key of an algorithm the SCU takes, AES or SM4; REASON 0x05 otherwise (R243, R266). -/
def withBulkKey (k : Nat) (i : Item) (off : Nat) (s : State) (body : Handle → CacheEntry → State → State) : State :=
  libKey k (opRef i off) s fun h e s => libNeed k (isBlockAlg h.attr.alg.toNat && !isTdes h.attr.alg.toNat) 0x05 off s (body h e)

/-- The job of a bulk service submitted as SBULK does; the routine waits for it, a wait for room in the queue undoing the row.
Its end brings the next IV, of the destination for a re-encryption, to RESULT (R195, R266, R267, R282).  Where the
job's end falls in with the row, it is what SCU_JOB_COMPLETE would make of it. -/
def bulkRun (k : Nat) (j : ScuJob) (src : Bytes) (end_ : Option JobEnd) (s : State) : State :=
  let die := dieOfSeat k
  let x := (getSeat s k).x
  if 64 ≤ (getScu s die).queue.length then waitIn k 5 (some .scu) x s
  else
    let (j, s) := enqueueJob die j s
    let dsts := (if descReenc j.desc then [OpWrite.scratch 32 (zeros 16) false] else []) ++ [.outcome []]
    let o : PendOp := { unit := .scu, opcode := 0x36, pc := fld (Config.freeWord s.freeCtr) 11 0, job := j.no, held := j.held
                        dsts := dsts, lib := true, at_ := s.units.opCtr }
    let t := libEnd k stOK [] true { setRun k { x with ops := x.ops ++ [o] } s with
      freeCtr := s.freeCtr + 1, units := { s.units with opCtr := s.units.opCtr + 1 } }
    match end_ with
    | none => t
    | some e => scuJobEnds die j.no src e t

/-- MODE 1 CBC or 2 CTR. -/
def bulkMode (m : Nat) : Bool := decide (m = 1) || decide (m = 2)

/-- The range checks bulk services share: LENGTH, and a partial overlap. -/
def bulkRanges (i : Item) (cbc : Bool) : List OpCheck :=
  let src := opLe i 56 8
  let dst := opLe i 65 8
  let n := opLe i 73 4
  [{ ok := decide (src = dst) || !(rangesMeet src n dst n), reason := 0x09, off := 65 },
   rangeCheck (decide (1 ≤ n) && decide (n ≤ 0x40000000) && (!cbc || decide (n % 16 = 0))) 73]

/-- The job of a bulk service: its descriptor, key and second key. -/
def bulkJob (k : Nat) (d : Bytes) (h : Handle) (e : CacheEntry) (s : State) : ScuJob :=
  { no := 0, seat := k, part := (getSeat s k).part, desc := d, off := 0, alg1 := h.attr.alg.toNat, key1 := e.material }

/-- BULK_CRYPT (R266). -/
def execBulkCrypt (seat : Nat) (src : Bytes) (end_ : Option JobEnd) (s : State) : Res :=
  .next (onLib seat 0x0900 (fun i s =>
    let m := opLe i 32 1
    let dec := decide (128 ≤ m)
    libChecks seat ([formCheck i false 2 52, keyCheck i 24, { ok := decide (m / 4 % 32 = 0), reason := 0x01, off := 32 },
      kindCheck (bulkMode (m % 4)) 32, zeroCheck i 33 7] ++ bulkRanges i (decide (m % 4 = 1))) s fun s =>
    withBulkKey seat i 24 s fun h e s => withScu seat (mayUse h [uDATA] (if dec then pDEC else pENC)) s fun s =>
      bulkRun seat (bulkJob seat (bulkDesc (m % 4) dec none (opLe i 56 8) (opLe i 65 8) (opLe i 73 4) (opBytes i 40 16)) h e s) src end_ s) s)

/-- BULK_REENCRYPT (R267). -/
def execBulkReencrypt (seat : Nat) (src : Bytes) (end_ : Option JobEnd) (s : State) : Res :=
  .next (onLib seat 0x0901 (fun i s =>
    let m := opLe i 32 1
    let m2 := opLe i 33 1
    libChecks seat ([formCheck i false 2 79, keyCheck i 24, kindCheck (bulkMode m) 32, kindCheck (bulkMode m2) 33, zeroCheck i 34 6] ++
      bulkRanges i (decide (m = 1) || decide (m2 = 1)) ++ [zeroCheck i 77 3, keyCheck i 80]) s fun s =>
    withBulkKey seat i 24 s fun h e s => withBulkKey seat i 80 s fun h2 e2 s =>
    withScu seat (mayUse h [uDATA] pDEC && mayUse h2 [uDATA] pENC) s fun s =>
      let d := bulkDesc m true (some (m2, opBytes i 88 16)) (opLe i 56 8) (opLe i 65 8) (opLe i 73 4) (opBytes i 40 16)
      bulkRun seat { bulkJob seat d h e s with alg2 := h2.attr.alg.toNat, key2 := e2.material } src end_ s) s)

end Sys2Proof.Machine
end

