-- ==== Sys2Proof/Machine/EtnakData.lean ====
section
/-!
DEFINITION. The Etnak data instructions (R187): d registers, propagating taint as R176 states.
-/
namespace Sys2Proof.Machine

/-- dd written with a value and taint once the registers named are not pending. -/
def dataOp (dd : BitVec 4) (srcs : List (BitVec 4)) (f : SeatRun → BitVec 128) (x : SeatRun) : IRes :=
  guarded { d := dd :: srcs } x (.ok (setD dd (f x) (srcs.any (taintD x)) x))

def execDmov (k : Nat) (dd da : BitVec 4) (s : State) : Res :=
  .next (onSeat k 0x10 ⟨dR [da], dR [dd]⟩ (dataOp dd [da] fun x => getD x da) s)

def execDxor (k : Nat) (dd da db : BitVec 4) (s : State) : Res :=
  .next (onSeat k 0x10 ⟨dR [da, db], dR [dd]⟩ (dataOp dd [da, db] fun x => getD x da ^^^ getD x db) s)

def execDand (k : Nat) (dd da db : BitVec 4) (s : State) : Res :=
  .next (onSeat k 0x10 ⟨dR [da, db], dR [dd]⟩ (dataOp dd [da, db] fun x => getD x da &&& getD x db) s)

def execDor (k : Nat) (dd da db : BitVec 4) (s : State) : Res :=
  .next (onSeat k 0x10 ⟨dR [da, db], dR [dd]⟩ (dataOp dd [da, db] fun x => getD x da ||| getD x db) s)

/-- A shift by `n` units of `w` bits, at most `m`: ILLEGAL above it. -/
def dataShift (dd da : BitVec 4) (n m : Nat) (f : BitVec 128 → BitVec 128) (x : SeatRun) : IRes :=
  if m < n then .fault 0x01 255 else dataOp dd [da] (fun x => f (getD x da)) x

/-- Toward byte 0: byte 0 is the most significant byte of the register. -/
def execDshlb (k : Nat) (dd da : BitVec 4) (n : BitVec 6) (s : State) : Res :=
  .next (onSeat k 0x10 ⟨dR [da], dR [dd]⟩ (dataShift dd da n.toNat 15 fun v => v <<< (8 * n.toNat)) s)

def execDshrb (k : Nat) (dd da : BitVec 4) (n : BitVec 6) (s : State) : Res :=
  .next (onSeat k 0x10 ⟨dR [da], dR [dd]⟩ (dataShift dd da n.toNat 15 fun v => v >>> (8 * n.toNat)) s)

def execDshln (k : Nat) (dd da : BitVec 4) (n : BitVec 6) (s : State) : Res :=
  .next (onSeat k 0x10 ⟨dR [da], dR [dd]⟩ (dataShift dd da n.toNat 31 fun v => v <<< (4 * n.toNat)) s)

def execDshrn (k : Nat) (dd da : BitVec 4) (n : BitVec 6) (s : State) : Res :=
  .next (onSeat k 0x10 ⟨dR [da], dR [dd]⟩ (dataShift dd da n.toNat 31 fun v => v >>> (4 * n.toNat)) s)

/-- DZERO: zero and untainted. -/
def execDzero (k : Nat) (dd : BitVec 4) (s : State) : Res :=
  .next (onSeat k 0x10 ⟨[], dR [dd]⟩ (fun x => guarded { d := [dd] } x (.ok (setD dd 0 false x))) s)

def execDrev (k : Nat) (dd da : BitVec 4) (s : State) : Res :=
  .next (onSeat k 0x10 ⟨dR [da], dR [dd]⟩ (dataOp dd [da] fun x => dOfBytes (dBytes (getD x da)).reverse) s)

/-- DINS: the other lane and the taint of dd are kept. -/
def execDins (k : Nat) (dd : BitVec 4) (g : BitVec 5) (ln : Bool) (s : State) : Res :=
  .next (onSeat k 0x11 ⟨dR [dd] ++ gR [g], dR [dd]⟩ (fun x => guarded { d := [dd] } x
    (.ok (setD dd (setLane (getD x dd) (b2n ln) (getG x g)) (taintD x dd) x))) s)

/-- DEXT of a tainted register faults TAINT (R177). -/
def execDext (k : Nat) (g : BitVec 5) (da : BitVec 4) (ln : Bool) (s : State) : Res :=
  .next (onSeat k 0x12 ⟨dR [da], gR [g]⟩ (fun x => guarded { d := [da] } x
    (if taintD x da then .fault 0x0A da.toNat else .ok (setG g (lane (getD x da) (b2n ln)) x))) s)

/-- DCMP of a tainted register faults TAINT (R177). -/
def execDcmp (k : Nat) (da db : BitVec 4) (s : State) : Res :=
  .next (onSeat k 0x13 ⟨dR [da, db], []⟩ (fun x => guarded { d := [da, db] } x
    (if taintD x da then .fault 0x0A da.toNat
     else if taintD x db then .fault 0x0A db.toNat
     else
      let a := getD x da
      let b := getD x db
      .ok { x with z := decide (a = b), n := false, c := decide (a.toNat < b.toNat), v := false })) s)

/-- DECIM: each nibble v becomes nibble v of g, nibble 0 being g[63:60]. -/
def execDecim (k : Nat) (dd da : BitVec 4) (g : BitVec 5) (s : State) : Res :=
  .next (onSeat k 0x14 ⟨dR [da] ++ gR [g], dR [dd]⟩ (dataOp dd [da] fun x =>
    mapNibs (fun v => ((getG x g).toNat >>> (4 * (15 - v))) % 16) (getD x da)) s)

/-- One digit of DADDM. -/
def addDigit (a b : Nat) : Nat := if a < 10 ∧ b < 10 then (a + b) % 10 else a

def execDaddm (k : Nat) (dd da db : BitVec 4) (s : State) : Res :=
  .next (onSeat k 0x15 ⟨dR [da, db], dR [dd]⟩ (dataOp dd [da, db] fun x =>
    ofNibs ((List.range 32).map fun i => addDigit (nib (getD x da) i) (nib (getD x db) i))) s)

/-- Nibbles 0 to n − 1 equal; n = 0 means 32. -/
def nibsEqual (a b : BitVec 128) (n : Nat) : Bool :=
  let m := if n = 0 then 32 else n
  decide (a.toNat >>> (4 * (32 - m)) = b.toNat >>> (4 * (32 - m)))

/-- DCMPT: a comparing instruction; its output is the flags only (R177, R178). -/
def execDcmpt (k : Nat) (da db : BitVec 4) (n : BitVec 5) (s : State) : Res :=
  .next (onSeat k 0x16 ⟨dR [da, db], []⟩ (fun x => guarded { d := [da, db] } x
    (spendCompare da.toNat x fun x => .ok (cmpFlags (nibsEqual (getD x da) (getD x db) n.toNat) x))) s)

/-! ### PIN fields (R187, R248) -/

/-- Control nibble of a PINFMT code: formats 0, 1, 3, 4. -/
def pinControl (code : Nat) : Nat := if code = 0 then 0 else if code = 1 then 1 else if code = 2 then 3 else 4

/-- The digits of a valid PIN field of a format, by its nibbles: control nibble, length 4 to 12, digits, fill. -/
def pinDigits (code : Nat) (v : BitVec 128) : Option (List Nat) :=
  let len := nib v 1
  let digits := (List.range len).map fun i => nib v (2 + i)
  let fill := (List.range (14 - len)).map fun i => nib v (2 + len + i)
  let fillOk : Bool := match code with
    | 0 => fill.all fun n => n == 15
    | 1 => true
    | 2 => fill.all fun n => decide (10 ≤ n)
    | _ => fill.all fun n => n == 10
  if nib v 0 = pinControl code ∧ 4 ≤ len ∧ len ≤ 12 ∧ (digits.all fun n => decide (n < 10)) = true ∧ fillOk = true then
    some digits
  else none

/-- A PIN field of a format, filled from DRBG output `r` where the format's fill is random. -/
def pinField (code : Nat) (digits : List Nat) (r : BitVec 128) : BitVec 128 :=
  let rn (i : Nat) : Nat := nib r i
  let fill := (List.range (14 - digits.length)).map fun i => match code with
    | 0 => 15
    | 1 => rn i
    | 2 => 10 + rn i % 6
    | _ => 10
  let tail := if code = 3 then (List.range 16).map fun i => rn (16 + i) else List.replicate 16 0
  ofNibs (pinControl code :: digits.length :: digits ++ fill ++ tail)

/-- PINFMT: Z set and the field re-formed when valid; dd zero when invalid.  A format with random fill takes 16 bytes
from the DRBG (R187, R297). -/
def execPinfmt (k : Nat) (dd da : BitVec 4) (from_ to_ : BitVec 2) (s : State) : Res :=
  .next (seatInstr k 0x17 ⟨dR [da], dR [dd]⟩ (fun x s =>
    let body (r : BitVec 128) (s : State) : State := applyIRes k 0x17 (guarded { d := [dd, da] } x
      (spendCompare da.toNat x fun x =>
        match pinDigits from_.toNat (getD x da) with
        | some ds => .ok (cmpFlags true (setD dd (pinField to_.toNat ds r) (taintD x da) x))
        | none => .ok (cmpFlags false (setD dd 0 (taintD x da) x)))) s
    if to_ = 0 then body 0 s
    else guardedS k { d := [dd, da] } x s fun s =>
      if x.cmpLeft = 0 then body 0 s
      else withDrbg k 0x17 16 x s fun bs s => body (BitVec.ofNat 128 (beNat bs)) s) s)

/-- RND: 16 bytes from the DRBG, untainted; a stall while it has none (R187). -/
def execRnd (k : Nat) (dd : BitVec 4) (s : State) : Res :=
  .next (seatInstr k 0x18 ⟨[], dR [dd]⟩ (fun x s => guardedS k { d := [dd] } x s fun s =>
    withDrbg k 0x18 16 x s fun bs s => commit k (x.pc + 1) (setD dd (dOfBytes bs) false x) s) s)

/-- DNIB: nibbles p to p + n − 1 replaced by the low n nibbles of g, most significant first; ILLEGAL past nibble 31. -/
def execDnib (k : Nat) (dd da : BitVec 4) (g p : BitVec 5) (n1 : BitVec 4) (s : State) : Res :=
  .next (onSeat k 0x19 ⟨dR [da] ++ gR [g], dR [dd]⟩ (fun x =>
    let n := n1.toNat + 1
    if 32 < p.toNat + n then .fault 0x01 255
    else dataOp dd [da] (fun x => ofNibs ((List.range 32).map fun i =>
      if p.toNat ≤ i ∧ i < p.toNat + n then ((getG x g).toNat >>> (4 * (p.toNat + n - 1 - i))) % 16
      else nib (getD x da) i)) x) s)

end Sys2Proof.Machine
end

