-- ==== Sys2Proof/Machine/LibPayment.lean ====
section
/-!
DEFINITION. The library's PIN, EMV, card-code and MAC services (R248 to R255).
-/
namespace Sys2Proof.Machine

/-! ### PIN blocks (R248) -/

def pinFmt (f : Nat) : Bool := [0, 1, 3, 4].contains f

/-- PINFMT's code of a format. -/
def pinCode (f : Nat) : Nat := if f = 0 then 0 else if f = 1 then 1 else if f = 3 then 2 else 3

/-- Formats whose PAN field is that of format 0. -/
def panShort (f : Nat) : Bool := decide (f = 0) || decide (f = 3)

/-- PAN lengths the formats of a command allow. -/
def panLenOk (fmts : List Nat) (n : Nat) : Bool :=
  if fmts.any panShort then decide (13 ≤ n) && decide (n ≤ 19)
  else if fmts.contains 4 then decide (1 ≤ n) && decide (n ≤ 19) else decide (n = 0)

/-- The PAN field of digits, in the nibbles of a d register. -/
def panField (f : Nat) (pan : List Nat) : BitVec 128 :=
  if panShort f then ofNibs (padNibs 32 (List.replicate 4 0 ++ rightmost 12 pan.dropLast))
  else if f = 4 then ofNibs (padNibs 32 ((pan.length - 12) :: rightmost (max 12 pan.length) pan))
  else 0

/-- Bytes of a PIN block. -/
def pinLen (f : Nat) : Nat := if f = 4 then 16 else 8

/-- A format's cipher suits a key's algorithm. -/
def pinAlgOk (f alg : Nat) : Bool := if f = 4 then isAes alg else isTdes alg

/-- The PIN field of a block. -/
def pinOpen (f alg : Nat) (key block : Bytes) (pan : List Nat) : BitVec 128 :=
  let d (b : Bytes) : BitVec 128 := dOfBytes (fit (pinLen f) (Config.blockDec alg key b))
  if f = 4 then d (dBytes (d block ^^^ panField f pan)) else d block ^^^ panField f pan

/-- The block of a PIN field. -/
def pinSeal (f alg : Nat) (key : Bytes) (field : BitVec 128) (pan : List Nat) : Bytes :=
  let e (b : Bytes) : Bytes := fit (pinLen f) (Config.blockEnc alg key b)
  if f = 4 then e (dBytes (dOfBytes (e (dBytes field)) ^^^ panField f pan))
  else e ((dBytes (field ^^^ panField f pan)).take 8)

/-- The PAN digits of a command. -/
def panOf (i : Item) (off len : Nat) : List Nat := (nibbles (opBytes i off 10)).take len

/-- The checks of PAN_LEN and PAN. -/
def panChecks (i : Item) (used lenOk : Bool) (len offLen off : Nat) : List OpCheck :=
  [rangeCheck lenOk offLen,
   if used then { ok := digitField len (nibbles (opBytes i off 10)), reason := 0x0A, off := off } else zeroCheck i off 10]

/-- Decryption and check of a customer's PIN block: usage, PINFMT, REASON 0x06. -/
def withPin (k f : Nat) (h : Handle) (e : CacheEntry) (block : Bytes) (pan : List Nat) (off : Nat) (s : State)
    (body : List Nat → State → State) : State :=
  libUse k (mayUse h [uPIN_ENC] pDEC) s fun s => libUnit k .block s fun s =>
    match pinDigits (pinCode f) (pinOpen f h.attr.alg.toNat e.material block pan) with
    | none => libRefuse k 0x06 off 0 s
    | some l => body l s

/-- A PIN re-formed and enciphered for the destination: DRBG fill except for format 0; the result. -/
def sendPin (k f : Nat) (h : Handle) (e : CacheEntry) (pin pan : List Nat) (s : State) : State :=
  let go (r : BitVec 128) (s : State) : State := libUse k (mayUse h [uPIN_ENC] pENC) s fun s =>
    libEnd k stOK (pinSeal f h.attr.alg.toNat e.material (pinField (pinCode f) pin r) pan) false s
  if f = 0 then go 0 s else libDrbg k 16 s fun b s => go (BitVec.ofNat 128 (beNat b)) s

/-- PIN_TRANSLATE (R249). -/
def execPinTranslate (seat : Nat) (s : State) : Res :=
  .next (onLib seat 0x0100 (fun i s =>
    let sf := opLe i 40 1
    let df := opLe i 41 1
    let n := opLe i 42 1
    let f4 := decide (sf = 4)
    let pan := panOf i 44 n
    libChecks seat ([formCheck i false (if f4 then 2 else 1) (if f4 then 56 else 40), keyCheck i 24, keyCheck i 32,
      kindCheck (pinFmt sf) 40, kindCheck (pinFmt df && (decide (df ≠ 1) || decide (sf = 1))) 41] ++
      (panChecks i (decide (sf ≠ 1) || decide (df ≠ 1)) (panLenOk [sf, df] n) n 42 44).take 1 ++ [zeroCheck i 43 1] ++
      (panChecks i (decide (sf ≠ 1) || decide (df ≠ 1)) (panLenOk [sf, df] n) n 42 44).drop 1 ++ [zeroCheck i 54 2] ++
      (if f4 then [zeroCheck i 56 8] else [])) s fun s =>
    libKey seat (opRef i 24) s fun h e s => libNeed seat (pinAlgOk sf h.attr.alg.toNat) 0x05 24 s fun s =>
    libKey seat (opRef i 32) s fun h2 e2 s => libNeed seat (pinAlgOk df h2.attr.alg.toNat) 0x05 32 s fun s =>
    let off := if f4 then 65 else 56
    withPin seat sf h e (opBytes i off (pinLen sf)) pan off s fun pin s => sendPin seat df h2 e2 pin pan s) s)

/-! ### DUKPT (R250, R255) -/

/-- A key derived from a parent by a method and variant (R191): its algorithm and material. -/
def libDerive (m v alg : Nat) (key data : Bytes) : Nat × Bytes :=
  let a := deriveAlg m alg
  (a, fit (keyLen a) (Config.deriveKey m v alg key (data.take (((deriveRow m v).map fun r => r.2.2.1).getD 0))))

/-- A DUKPT working key of a terminal: KIND 0 from a KSN, KIND 1 from a key ID and counter; a forbidden counter is
UNIT_OPERAND. -/
def withDukpt (k kind v : Nat) (h : Handle) (e : CacheEntry) (data : Bytes) (s : State)
    (body : Nat → Bytes → State → State) : State :=
  let alg := h.attr.alg.toNat
  libUse k (mayUse h [uBDK] pDRV) s fun s => libUnit k .block s fun s =>
    let (a1, k1) := libDerive (2 * kind) 0 alg e.material data
    if counterBad (2 * kind + 1) data then libFault k 0x10 s
    else
      let (a2, k2) := libDerive (2 * kind + 1) v a1 k1 data
      body a2 k2 s

/-- A BDK's algorithm suits a KIND. -/
def kindAlgOk (kind alg : Nat) : Bool := if kind = 0 then isTdes alg else isAes alg

/-- PIN_TRANSLATE_DUKPT (R250). -/
def execPinTranslateDukpt (seat : Nat) (s : State) : Res :=
  .next (onLib seat 0x0101 (fun i s =>
    let sf := opLe i 40 1
    let df := opLe i 41 1
    let n := opLe i 42 1
    let kind := opLe i 43 1
    let f4 := decide (sf = 4)
    let pan := panOf i 44 n
    let pc := panChecks i (decide (sf ≠ 1) || decide (df ≠ 1)) (panLenOk [sf, df] n) n 42 44
    libChecks seat ([formCheck i false 2 (if f4 then 71 else 63), keyCheck i 24, keyCheck i 32, kindCheck (pinFmt sf) 40,
      kindCheck (pinFmt df && (decide (df ≠ 1) || decide (sf = 1))) 41] ++ pc.take 1 ++
      [kindCheck (decide (kind = if f4 then 1 else 0)) 43] ++ pc.drop 1 ++ [zeroCheck i 54 10] ++
      (if kind = 0 then [zeroCheck i 75 2] else []) ++ [zeroCheck i 77 3]) s fun s =>
    libKey seat (opRef i 24) s fun h e s => libNeed seat (kindAlgOk kind h.attr.alg.toNat) 0x05 24 s fun s =>
    libKey seat (opRef i 32) s fun h2 e2 s => libNeed seat (pinAlgOk df h2.attr.alg.toNat) 0x05 32 s fun s =>
    withDukpt seat kind 0 h e (opBytes i 65 12) s fun alg key s =>
      match pinDigits (pinCode sf) (pinOpen sf alg key (opBytes i 80 (pinLen sf)) pan) with
      | none => libRefuse seat 0x06 80 0 s
      | some pin => sendPin seat df h2 e2 pin pan s) s)

/-! ### PIN_VERIFY (R251) -/

/-- A decimalisation table: digits, none other than once or twice. -/
def tableOk (l : List Nat) : Bool :=
  isDigits l && (List.range 10).all fun d => decide (1 ≤ l.count d) && decide (l.count d ≤ 2)

/-- The PIN the offset method expects. -/
def expectedPin (cipher table offset : List Nat) (n : Nat) : List Nat :=
  List.zipWith (fun v o => (table.getD v 0 + o) % 10) (cipher.take n) (offset.take n)

/-- The PVV of a transformed security parameter enciphered. -/
def pvvOf (cipher : List Nat) : List Nat := (decimalise cipher).take 4

def execPinVerify (seat : Nat) (s : State) : Res :=
  .next (onLib seat 0x0110 (fun i s =>
    let f := opLe i 40 1
    let pvv := decide (opLe i 41 1 = 1)
    let n := opLe i 42 1
    let c := opLe i 43 1
    let f4 := decide (f = 4)
    let pan := panOf i 44 n
    let lenOk := if pvv then decide (12 ≤ n) && decide (n ≤ 19) && (decide (f = 1) || panLenOk [f] n) else panLenOk [f] n
    let pc := panChecks i (pvv || decide (f ≠ 1)) lenOk n 42 44
    let table := nibbles (opBytes i 73 8)
    let ref := nibbles (opBytes i 81 6)
    libChecks seat ([formCheck i false 2 (if f4 then 79 else 63), keyCheck i 24, keyCheck i 32, kindCheck (pinFmt f) 40,
      kindCheck (decide (opLe i 41 1 ≤ 1)) 41] ++ pc.take 1 ++
      [rangeCheck (if pvv then decide (c ≤ 9) else decide (4 ≤ c) && decide (c ≤ 12)) 43] ++ pc.drop 1 ++ [zeroCheck i 54 2] ++
      (if f4 then [zeroCheck i 56 8] else []) ++
      (if pvv then [zeroCheck i 65 8, zeroCheck i 73 8, { ok := isDigits (ref.take 4), reason := 0x0A, off := 81 }, zeroCheck i 83 4]
       else [{ ok := tableOk table, reason := 0x07, off := 73 }, { ok := digitField c ref, reason := 0x0A, off := 81 }]) ++
      [zeroCheck i 87 1]) s fun s =>
    libKey seat (opRef i 24) s fun h e s => libNeed seat (pinAlgOk f h.attr.alg.toNat) 0x05 24 s fun s =>
    libKey seat (opRef i 32) s fun h2 e2 s => libNeed seat (isTdes h2.attr.alg.toNat) 0x05 32 s fun s =>
    let off := if f4 then 88 else 56
    withPin seat f h e (opBytes i off (pinLen f)) pan off s fun pin s =>
    libUse seat (mayUse h2 [uPIN_VER] pGEN || mayUse h2 [uPIN_VER] pVER) s fun s =>
      let enc (b : Bytes) : List Nat := nibbles (fit 8 (Config.blockEnc h2.attr.alg.toNat e2.material b))
      if pvv then
        let tsp := rightmost 11 pan.dropLast ++ [c] ++ pin.take 4
        libVerdict seat (decide (pvvOf (enc (packNibbles tsp)) = ref.take 4)) s
      else libVerdict seat (decide (pin.length = c) && decide (pin = expectedPin (enc (opBytes i 65 8)) table ref c)) s) s)

/-! ### EMV (R252) -/

/-- The cryptogram of a session key: algorithm 3 under TDES, CMAC cut to 8 bytes under AES. -/
def emvMac (alg : Nat) (key data : Bytes) : Bytes := fit 8 (macOf (if isTdes alg then 2 else 0) alg key data)

/-- The ARPC of method 1 and of method 2. -/
def arpc1 (alg : Nat) (key arc arqc : Bytes) : Bytes :=
  let b := blockLen alg
  fit 8 (Config.blockEnc alg key (xorBytes (fit b arc) (fit b arqc)))
def arpc2 (alg : Nat) (key arqc csu : Bytes) : Bytes := (emvMac alg key (arqc ++ csu)).take 4

def execEmvArqcVerify (seat : Nat) (s : State) : Res :=
  .next (onLib seat 0x0200 (fun i s =>
    let m := opLe i 32 1
    let n := opLe i 33 1
    let psn := nibbles (opBytes i 34 1)
    let dl := opLe i 35 1
    let pan := (nibbles (opBytes i 36 8)).take n
    libChecks seat [formCheck i false (if dl = 0 then 1 else 2) (40 + dl), keyCheck i 24, kindCheck (decide (m ≤ 2)) 32,
      rangeCheck (decide (1 ≤ n) && decide (n ≤ 16)) 33, { ok := isDigits psn, reason := 0x0A, off := 34 },
      rangeCheck (decide (dl ≤ 63)) 35, { ok := digitField n (nibbles (opBytes i 36 8)), reason := 0x0A, off := 36 },
      zeroCheck i 46 2, if m = 1 then zeroCheck i 58 6 else if m = 2 then zeroCheck i 60 4 else zeroCheck i 56 8] s fun s =>
    libKey seat (opRef i 24) s fun h e s =>
      let alg := h.attr.alg.toNat
      libNeed seat (isAes alg || decide (alg = 1)) 0x05 24 s fun s => libUse seat (mayUse h [uEMV_MK] pDRV) s fun s => libUnit seat .block s fun s =>
        let (_, mk) := libDerive 4 0 alg e.material (packNibbles (rightmost 16 (pan ++ psn)))
        let (a, sk) := libDerive 5 0 alg mk (opBytes i 44 2)
        let arqc := opBytes i 48 8
        if emvMac a sk (opBytes i 65 dl) ≠ arqc then libVerdict seat false s
        else libEnd seat stOK (if m = 1 then arpc1 a sk (opBytes i 56 2) arqc else if m = 2 then arpc2 a sk arqc (opBytes i 56 4)
          else []) false s) s)

/-! ### Card verification codes (R253) -/

/-- The code digits of B under a CVK. -/
def cvcDigits (alg : Nat) (key : Bytes) (b : List Nat) (n : Nat) : List Nat :=
  let bs := packNibbles (padNibs 32 b)
  let z := if isTdes alg then fit 8 (Config.blockEnc alg key (xorBytes (fit 8 (Config.blockEnc alg key (bs.take 8))) (bs.drop 8)))
    else fit 16 (Config.blockEnc alg key bs)
  (decimalise (nibbles z)).take n

/-- The part CVC_GENERATE and CVC_VERIFY share: `ver` verification. -/
def cvcService (seat : Nat) (ver : Bool) (i : Item) (s : State) : State :=
  let n := opLe i 32 1
  let c := opLe i 33 1
  let code := nibbles (opBytes i 48 3)
  libChecks seat [formCheck i false 1 40, keyCheck i 24, rangeCheck (decide (13 ≤ n) && decide (n ≤ 19)) 32,
    rangeCheck (decide (3 ≤ c) && decide (c ≤ 5)) 33, { ok := digitField n (nibbles (opBytes i 34 10)), reason := 0x0A, off := 34 },
    { ok := isDigits (nibbles (opBytes i 44 2)), reason := 0x0A, off := 44 },
    { ok := digitField 3 (nibbles (opBytes i 46 2)), reason := 0x0A, off := 46 },
    if ver then { ok := digitField c code, reason := 0x0A, off := 48 } else zeroCheck i 48 3, zeroCheck i 51 13] s fun s =>
  libKey seat (opRef i 24) s fun h e s =>
    let alg := h.attr.alg.toNat
    libNeed seat (isTdes alg || isAes alg) 0x05 24 s fun s => libNeed seat (ver || h.attr.perm.getLsbD pGEN) 0x0B 24 s fun s =>
    libUse seat (mayUse h [uCVK] pGEN || mayUse h [uCVK] pVER) s fun s => libUnit seat .block s fun s =>
      let b := panOf i 34 n ++ nibbles (opBytes i 44 2) ++ (nibbles (opBytes i 46 2)).take 3
      let d := cvcDigits alg e.material b c
      if ver then libVerdict seat (decide (d = code.take c)) s
      else libEnd seat stOK (packNibbles (d ++ List.replicate (6 - d.length) 15)) false s

def execCvcGenerate (seat : Nat) (s : State) : Res := .next (onLib seat 0x0300 (cvcService seat false) s)
def execCvcVerify (seat : Nat) (s : State) : Res := .next (onLib seat 0x0301 (cvcService seat true) s)

/-! ### MACs (R254) -/

/-- The part MAC_GENERATE and MAC_VERIFY share. -/
def macService (seat : Nat) (ver : Bool) (buf : HostData) (i : Item) (s : State) : State :=
  let ptr := itemPointer i
  let o := if ptr then 12 else 0
  let oMac := if ptr then 48 else 40
  let oA := if ptr then 44 else 32
  let a := opLe i oA 1
  let l := opLe i (oA + 1) 1
  let dl := if ptr then i.le 32 4 else itemOplen i - 32
  let mac := opBytes i oMac 16
  libChecks seat [{ ok := if ptr then decide (itemOplen i = 28) else decide (32 ≤ itemOplen i) && decide (dl ≤ 71), reason := 0x02, off := 6 },
    rangeCheck (!ptr || (decide (1 ≤ dl) && decide (dl ≤ 3840))) 32, keyCheck i (24 + o), kindCheck (decide (a ≤ 2)) oA,
    rangeCheck (decide (4 ≤ l) && decide (l ≤ 16)) (oA + 1), zeroCheck i (oA + 2) (if ptr then 2 else 6),
    { ok := if ver then decide (leNat (mac.drop l) = 0) else decide (leNat mac = 0), reason := 0x01, off := oMac }] s fun s =>
  libKey seat (opRef i (24 + o)) s fun h e s =>
    let alg := h.attr.alg.toNat
    libNeed seat (decide (a ≠ 2) || decide (alg = 1)) 0x05 (24 + o) s fun s =>
    libNeed seat (!isTdes alg || decide (l ≤ 8)) 0x04 (oA + 1) s fun s =>
      let go (data : Bytes) (s : State) : State :=
        libUse seat (macKeyOk h (if ver then pVER else pGEN) a) s fun s => libUnit seat .block s fun s =>
          let m := (fit 16 (macOf a alg e.material data)).take l
          if ver then libVerdict seat (decide (m = mac.take l)) s else libEnd seat stOK m false s
      if ptr then libBuffer seat i buf s go else go (opBytes i 56 dl) s

def execMacGenerate (seat : Nat) (buf : HostData) (s : State) : Res := .next (onLib seat 0x0400 (macService seat false buf) s)
def execMacVerify (seat : Nat) (buf : HostData) (s : State) : Res := .next (onLib seat 0x0401 (macService seat true buf) s)

/-- DUKPT_MAC_VERIFY (R255). -/
def execDukptMacVerify (seat : Nat) (s : State) : Res :=
  .next (onLib seat 0x0500 (fun i s =>
    let kind := opLe i 32 1
    let l := opLe i 33 1
    let dl := itemOplen i - 40
    let mac := opBytes i 48 16
    libChecks seat [{ ok := !itemPointer i && decide (itemChunks i = 2) && decide (1 ≤ dl) && decide (dl ≤ 63), reason := 0x02, off := 6 },
      keyCheck i 24, kindCheck (decide (kind ≤ 1)) 32, rangeCheck (decide (4 ≤ l) && decide (l ≤ 16)) 33, zeroCheck i 34 2,
      if kind = 0 then zeroCheck i 46 2 else { ok := true, reason := 0, off := 0 },
      { ok := decide (leNat (mac.drop l) = 0), reason := 0x01, off := 48 }] s fun s =>
    libKey seat (opRef i 24) s fun h e s =>
      let alg := h.attr.alg.toNat
      libNeed seat (kindAlgOk kind alg) 0x05 24 s fun s => libNeed seat (!isTdes alg || decide (l ≤ 8)) 0x04 33 s fun s =>
      withDukpt seat kind 1 h e (opBytes i 36 12) s fun a key s =>
        libVerdict seat (decide ((fit 16 (macOf (if isTdes a then 2 else 0) a key (opBytes i 65 dl))).take l = mac.take l)) s) s)

end Sys2Proof.Machine
end

