-- ==== Sys2Proof/Machine/Dispatch.lean ====
section
/-!
DEFINITION. One arm for every command, each a direct call of the command's meaning.
-/
namespace Sys2Proof.Machine

def exec (i : Instr) (s : State) : Host.Outcome State Fault Refusal :=
  match i with
  | .registerWrite fn tgt size value => Sys2Proof.Machine.execRegisterWrite fn tgt size value s
  | .misalignedAccess fn off size => Sys2Proof.Machine.execMisalignedAccess fn off size s
  | .unsupportedRequest fn kind => Sys2Proof.Machine.execUnsupportedRequest fn kind s
  | .mirrorRefresh => Sys2Proof.Machine.execMirrorRefresh s
  | .clkTime64LowRead => Sys2Proof.Machine.execClkTime64LowRead s
  | .refclkChange present => Sys2Proof.Machine.execRefclkChange present s
  | .timeAlign die => Sys2Proof.Machine.execTimeAlign die s
  | .midwayFlitError die fails gcmTagFail => Sys2Proof.Machine.execMidwayFlitError die fails gcmTagFail s
  | .pushWrite fn page pos data => Sys2Proof.Machine.execPushWrite fn page pos data s
  | .slotConsume q parity => Sys2Proof.Machine.execSlotConsume q parity s
  | .pushTorn q => Sys2Proof.Machine.execPushTorn q s
  | .pushReset fn page => Sys2Proof.Machine.execPushReset fn page s
  | .queSqDb fn page value => Sys2Proof.Machine.execQueSqDb fn page value s
  | .sqFetchIssue q => Sys2Proof.Machine.execSqFetchIssue q s
  | .sqFetchComplete q ok data parity => Sys2Proof.Machine.execSqFetchComplete q ok data parity s
  | .headRefill q read => Sys2Proof.Machine.execHeadRefill q read s
  | .queCqDb fn page value => Sys2Proof.Machine.execQueCqDb fn page value s
  | .queueEnable fn page => Sys2Proof.Machine.execQueueEnable fn page s
  | .queueDisable fn page => Sys2Proof.Machine.execQueueDisable fn page s
  | .flush fn page => Sys2Proof.Machine.execFlush fn page s
  | .flushDone q => Sys2Proof.Machine.execFlushDone q s
  | .queCoalesceWrite fn page value => Sys2Proof.Machine.execQueCoalesceWrite fn page value s
  | .queOwnerWrite q value => Sys2Proof.Machine.execQueOwnerWrite q value s
  | .quePeakRead fn page => Sys2Proof.Machine.execQuePeakRead fn page s
  | .vfFlr vf => Sys2Proof.Machine.execVfFlr vf s
  | .pfReset => Sys2Proof.Machine.execPfReset s
  | .flrComplete fn => Sys2Proof.Machine.execFlrComplete fn s
  | .vectorUnmask fn vector => Sys2Proof.Machine.execVectorUnmask fn vector s
  | .coalesceTimer q => Sys2Proof.Machine.execCoalesceTimer q s
  | .migLogStart id => Sys2Proof.Machine.execMigLogStart id s
  | .migLogReadClear id => Sys2Proof.Machine.execMigLogReadClear id s
  | .migLogStop id => Sys2Proof.Machine.execMigLogStop id s
  | .vfQuiesce id => Sys2Proof.Machine.execVfQuiesce id s
  | .vfQuiesceDrained id => Sys2Proof.Machine.execVfQuiesceDrained id s
  | .vfQuiesceTimeout id => Sys2Proof.Machine.execVfQuiesceTimeout id s
  | .vfSave id => Sys2Proof.Machine.execVfSave id s
  | .vfRestore id buf => Sys2Proof.Machine.execVfRestore id buf s
  | .vfResume id => Sys2Proof.Machine.execVfResume id s
  | .ticketTurn parity => Sys2Proof.Machine.execTicketTurn parity s
  | .bucketCredit => Sys2Proof.Machine.execBucketCredit s
  | .shareChangeWrite off value => Sys2Proof.Machine.execShareChangeWrite off value s
  | .epochApply => Sys2Proof.Machine.execEpochApply s
  | .jugglerAllocate => Sys2Proof.Machine.execJugglerAllocate s
  | .dispatchArrive die => Sys2Proof.Machine.execDispatchArrive die s
  | .jaserSuspend seat => Sys2Proof.Machine.execJaserSuspend seat s
  | .localSelect troupe => Sys2Proof.Machine.execLocalSelect troupe s
  | .rebalanceExamine => Sys2Proof.Machine.execRebalanceExamine s
  | .itemMoveArrive die => Sys2Proof.Machine.execItemMoveArrive die s
  | .expirySweep => Sys2Proof.Machine.execExpirySweep s
  | .jugTroupeCfgWrite troupe value => Sys2Proof.Machine.execJugTroupeCfgWrite troupe value s
  | .resultAccept die => Sys2Proof.Machine.execResultAccept die s
  | .carouselRelease => Sys2Proof.Machine.execCarouselRelease s
  | .holdExpire part flow => Sys2Proof.Machine.execHoldExpire part flow s
  | .deferralUnblocked part flow => Sys2Proof.Machine.execDeferralUnblocked part flow s
  | .serialRelease part flow => Sys2Proof.Machine.execSerialRelease part flow s
  | .traceLostWrite die => Sys2Proof.Machine.execTraceLostWrite die s
  | .trcEnable value => Sys2Proof.Machine.execTrcEnable value s
  | .trcClear => Sys2Proof.Machine.execTrcClear s
  | .trcRdHiRead => Sys2Proof.Machine.execTrcRdHiRead s
  | .holdPeakRead part => Sys2Proof.Machine.execHoldPeakRead part s
  | .add seat rd ra rb => Sys2Proof.Machine.execAdd seat rd ra rb s
  | .sub seat rd ra rb => Sys2Proof.Machine.execSub seat rd ra rb s
  | .and seat rd ra rb => Sys2Proof.Machine.execAnd seat rd ra rb s
  | .or seat rd ra rb => Sys2Proof.Machine.execOr seat rd ra rb s
  | .xor seat rd ra rb => Sys2Proof.Machine.execXor seat rd ra rb s
  | .shl seat rd ra rb => Sys2Proof.Machine.execShl seat rd ra rb s
  | .shr seat rd ra rb => Sys2Proof.Machine.execShr seat rd ra rb s
  | .sar seat rd ra rb => Sys2Proof.Machine.execSar seat rd ra rb s
  | .mul seat rd ra rb => Sys2Proof.Machine.execMul seat rd ra rb s
  | .minu seat rd ra rb => Sys2Proof.Machine.execMinu seat rd ra rb s
  | .maxu seat rd ra rb => Sys2Proof.Machine.execMaxu seat rd ra rb s
  | .cmp seat ra rb => Sys2Proof.Machine.execCmp seat ra rb s
  | .addi seat rd ra imm => Sys2Proof.Machine.execAddi seat rd ra imm s
  | .andi seat rd ra imm => Sys2Proof.Machine.execAndi seat rd ra imm s
  | .ori seat rd ra imm => Sys2Proof.Machine.execOri seat rd ra imm s
  | .xori seat rd ra imm => Sys2Proof.Machine.execXori seat rd ra imm s
  | .shi seat rd ra type n => Sys2Proof.Machine.execShi seat rd ra type n s
  | .movw seat rd imm hw keep => Sys2Proof.Machine.execMovw seat rd imm hw keep s
  | .cmpi seat ra imm => Sys2Proof.Machine.execCmpi seat ra imm s
  | .sel seat rd ra rb cond => Sys2Proof.Machine.execSel seat rd ra rb cond s
  | .dmov seat dd da => Sys2Proof.Machine.execDmov seat dd da s
  | .dxor seat dd da db => Sys2Proof.Machine.execDxor seat dd da db s
  | .dand seat dd da db => Sys2Proof.Machine.execDand seat dd da db s
  | .dor seat dd da db => Sys2Proof.Machine.execDor seat dd da db s
  | .dshlb seat dd da n => Sys2Proof.Machine.execDshlb seat dd da n s
  | .dshrb seat dd da n => Sys2Proof.Machine.execDshrb seat dd da n s
  | .dshln seat dd da n => Sys2Proof.Machine.execDshln seat dd da n s
  | .dshrn seat dd da n => Sys2Proof.Machine.execDshrn seat dd da n s
  | .dzero seat dd => Sys2Proof.Machine.execDzero seat dd s
  | .drev seat dd da => Sys2Proof.Machine.execDrev seat dd da s
  | .dins seat dd g ln => Sys2Proof.Machine.execDins seat dd g ln s
  | .dext seat g da ln => Sys2Proof.Machine.execDext seat g da ln s
  | .dcmp seat da db => Sys2Proof.Machine.execDcmp seat da db s
  | .decim seat dd da g => Sys2Proof.Machine.execDecim seat dd da g s
  | .daddm seat dd da db => Sys2Proof.Machine.execDaddm seat dd da db s
  | .dcmpt seat da db n => Sys2Proof.Machine.execDcmpt seat da db n s
  | .pinfmt seat dd da from_ to_ => Sys2Proof.Machine.execPinfmt seat dd da from_ to_ s
  | .rnd seat dd => Sys2Proof.Machine.execRnd seat dd s
  | .dnib seat dd da g p n1 => Sys2Proof.Machine.execDnib seat dd da g p n1 s
  | .illegalInstruction seat word => Sys2Proof.Machine.execIllegalInstruction seat word s
  | .ldo seat r base sz off => Sys2Proof.Machine.execLdo seat r base sz off s
  | .ldod seat r base sz off => Sys2Proof.Machine.execLdod seat r base sz off s
  | .lds seat r base sz off => Sys2Proof.Machine.execLds seat r base sz off s
  | .ldsd seat r base sz off => Sys2Proof.Machine.execLdsd seat r base sz off s
  | .sts seat r base sz off => Sys2Proof.Machine.execSts seat r base sz off s
  | .stsd seat r base sz off => Sys2Proof.Machine.execStsd seat r base sz off s
  | .str seat r base sz off => Sys2Proof.Machine.execStr seat r base sz off s
  | .strd seat r base sz off => Sys2Proof.Machine.execStrd seat r base sz off s
  | .br seat cond dist => Sys2Proof.Machine.execBr seat cond dist s
  | .loop seat gc len => Sys2Proof.Machine.execLoop seat gc len s
  | .brk seat cond => Sys2Proof.Machine.execBrk seat cond s
  | .end_ seat status hostbuf => Sys2Proof.Machine.execEnd seat status hostbuf s
  | .wait seat mask => Sys2Proof.Machine.execWait seat mask s
  | .nop seat => Sys2Proof.Machine.execNop seat s
  | .kopen seat kx ga fn => Sys2Proof.Machine.execKopen seat kx ga fn s
  | .keyFillComplete fill => Sys2Proof.Machine.execKeyFillComplete fill s
  | .kclose seat kx fn => Sys2Proof.Machine.execKclose seat kx fn s
  | .kinfo seat ga kx fn => Sys2Proof.Machine.execKinfo seat ga kx fn s
  | .kcv seat ga kx fn => Sys2Proof.Machine.execKcv seat ga kx fn s
  | .kderive seat kx ky ds fn => Sys2Proof.Machine.execKderive seat kx ky ds fn s
  | .kunwrap seat kx ky ga fn => Sys2Proof.Machine.execKunwrap seat kx ky ga fn s
  | .kwrap seat ga kx ky fn => Sys2Proof.Machine.execKwrap seat ga kx ky fn s
  | .kgen seat kx ga fn => Sys2Proof.Machine.execKgen seat kx ga fn s
  | .kaimp seat kx ky ga fn => Sys2Proof.Machine.execKaimp seat kx ky ga fn s
  | .kagree seat kx ky ga fn => Sys2Proof.Machine.execKagree seat kx ky ga fn s
  | .benc seat dd kx ds => Sys2Proof.Machine.execBenc seat dd kx ds s
  | .bdec seat dd kx ds => Sys2Proof.Machine.execBdec seat dd kx ds s
  | .bstr seat kx dd ga fn => Sys2Proof.Machine.execBstr seat kx dd ga fn s
  | .bmac seat dd kx ga fn => Sys2Proof.Machine.execBmac seat dd kx ga fn s
  | .bmacv seat kx ds ga fn => Sys2Proof.Machine.execBmacv seat kx ds ga fn s
  | .ffx seat kx ds ga fn => Sys2Proof.Machine.execFfx seat kx ds ga fn s
  | .hstart seat kx fn => Sys2Proof.Machine.execHstart seat kx fn s
  | .hdata seat ga fn => Sys2Proof.Machine.execHdata seat ga fn s
  | .hend seat dd ga fn => Sys2Proof.Machine.execHend seat dd ga fn s
  | .mexp seat t ga gb gc => Sys2Proof.Machine.execMexp seat t ga gb gc s
  | .msign seat t ga gb gc kx fn => Sys2Proof.Machine.execMsign seat t ga gb gc kx fn s
  | .mver seat t ga gb gc kx fn => Sys2Proof.Machine.execMver seat t ga gb gc kx fn s
  | .sbulk seat t ga kx => Sys2Proof.Machine.execSbulk seat t ga kx s
  | .xld seat t ga gb gc => Sys2Proof.Machine.execXld seat t ga gb gc s
  | .xst seat t ga gb gc fn => Sys2Proof.Machine.execXst seat t ga gb gc fn s
  | .hostReadComplete seat t data => Sys2Proof.Machine.execHostReadComplete seat t data s
  | .unitOpComplete seat kind checkFail => Sys2Proof.Machine.execUnitOpComplete seat kind checkFail s
  | .prfFaultLog id => Sys2Proof.Machine.execPrfFaultLog id s
  | .routineCacheFill troupe part routine gen line => Sys2Proof.Machine.execRoutineCacheFill troupe part routine gen line s
  | .routineChallenge id => Sys2Proof.Machine.execRoutineChallenge id s
  | .routineInstall id buf auth => Sys2Proof.Machine.execRoutineInstall id buf auth s
  | .routineRevoke id auth => Sys2Proof.Machine.execRoutineRevoke id auth s
  | .routineGenDrained id => Sys2Proof.Machine.execRoutineGenDrained id s
  | .routineManifestRead id => Sys2Proof.Machine.execRoutineManifestRead id s
  | .routineManifestRestore id buf => Sys2Proof.Machine.execRoutineManifestRestore id buf s
  | .routineLoad id buf => Sys2Proof.Machine.execRoutineLoad id buf s
  | .routineQuery id => Sys2Proof.Machine.execRoutineQuery id s
  | .routineVerify id buf => Sys2Proof.Machine.execRoutineVerify id buf s
  | .routineQuotaSet id => Sys2Proof.Machine.execRoutineQuotaSet id s
  | .routineCachePin id => Sys2Proof.Machine.execRoutineCachePin id s
  | .nonceExpire part => Sys2Proof.Machine.execNonceExpire part s
  | .pinTranslate seat => Sys2Proof.Machine.execPinTranslate seat s
  | .pinTranslateDukpt seat => Sys2Proof.Machine.execPinTranslateDukpt seat s
  | .pinVerify seat => Sys2Proof.Machine.execPinVerify seat s
  | .emvArqcVerify seat => Sys2Proof.Machine.execEmvArqcVerify seat s
  | .cvcGenerate seat => Sys2Proof.Machine.execCvcGenerate seat s
  | .cvcVerify seat => Sys2Proof.Machine.execCvcVerify seat s
  | .macGenerate seat buf => Sys2Proof.Machine.execMacGenerate seat buf s
  | .macVerify seat buf => Sys2Proof.Machine.execMacVerify seat buf s
  | .dukptMacVerify seat => Sys2Proof.Machine.execDukptMacVerify seat s
  | .keyImport seat buf => Sys2Proof.Machine.execKeyImport seat buf s
  | .keyExport seat => Sys2Proof.Machine.execKeyExport seat s
  | .keyTranslate seat buf => Sys2Proof.Machine.execKeyTranslate seat buf s
  | .keyGenerate seat => Sys2Proof.Machine.execKeyGenerate seat s
  | .keyImportAsym seat buf => Sys2Proof.Machine.execKeyImportAsym seat buf s
  | .keyAgree seat buf => Sys2Proof.Machine.execKeyAgree seat buf s
  | .tokenise seat => Sys2Proof.Machine.execTokenise seat s
  | .detokenise seat => Sys2Proof.Machine.execDetokenise seat s
  | .sign seat => Sys2Proof.Machine.execSign seat s
  | .verify seat buf => Sys2Proof.Machine.execVerify seat buf s
  | .bulkCrypt seat src end_ => Sys2Proof.Machine.execBulkCrypt seat src end_ s
  | .bulkReencrypt seat src end_ => Sys2Proof.Machine.execBulkReencrypt seat src end_ s
  | .scuJobComplete die job src end_ => Sys2Proof.Machine.execScuJobComplete die job src end_ s
  | .unitStatusRead id => Sys2Proof.Machine.execUnitStatusRead id s
  | .scuLockSet id => Sys2Proof.Machine.execScuLockSet id s
  | .unitKat id => Sys2Proof.Machine.execUnitKat id s
  | .katReq kind n => Sys2Proof.Machine.execKatReq kind n s
  | .katComplete kind n pass => Sys2Proof.Machine.execKatComplete kind n pass s
  | .rngHealthFail rct => Sys2Proof.Machine.execRngHealthFail rct s
  | .rngRecovery bad => Sys2Proof.Machine.execRngRecovery bad s
  | .rootDrbgReseed => Sys2Proof.Machine.execRootDrbgReseed s
  | .dieDrbgReseed die => Sys2Proof.Machine.execDieDrbgReseed die s
  | .drbgBufferRefill troupe => Sys2Proof.Machine.execDrbgBufferRefill troupe s
  | .rngRawRead => Sys2Proof.Machine.execRngRawRead s
  | .rngHealthRead => Sys2Proof.Machine.execRngHealthRead s
  | .vltSlotWrite => Sys2Proof.Machine.execVltSlotWrite s
  | .vltSlotAdvance => Sys2Proof.Machine.execVltSlotAdvance s
  | .vltSlotErase => Sys2Proof.Machine.execVltSlotErase s
  | .genApply die => Sys2Proof.Machine.execGenApply die s
  | .vaultChallenge id => Sys2Proof.Machine.execVaultChallenge id s
  | .vaultRegistrySet id buf => Sys2Proof.Machine.execVaultRegistrySet id buf s
  | .vaultRegistryRestore id buf => Sys2Proof.Machine.execVaultRegistryRestore id buf s
  | .vaultCeremonyOpen id => Sys2Proof.Machine.execVaultCeremonyOpen id s
  | .vaultComponent id buf => Sys2Proof.Machine.execVaultComponent id buf s
  | .vaultCeremonyClose id buf => Sys2Proof.Machine.execVaultCeremonyClose id buf s
  | .vaultSlotGenerate id buf => Sys2Proof.Machine.execVaultSlotGenerate id buf s
  | .vaultSlotInvalidate id buf => Sys2Proof.Machine.execVaultSlotInvalidate id buf s
  | .pmkFence id => Sys2Proof.Machine.execPmkFence id s
  | .pmkFenceDone id => Sys2Proof.Machine.execPmkFenceDone id s
  | .pmkFenceTimeout id => Sys2Proof.Machine.execPmkFenceTimeout id s
  | .dirSweepDone => Sys2Proof.Machine.execDirSweepDone s
  | .vaultBackupExport id buf => Sys2Proof.Machine.execVaultBackupExport id buf s
  | .vaultTransferOpen id => Sys2Proof.Machine.execVaultTransferOpen id s
  | .vaultTransferExport id buf => Sys2Proof.Machine.execVaultTransferExport id buf s
  | .vaultRestore id buf => Sys2Proof.Machine.execVaultRestore id buf s
  | .vaultPartitionErase id buf => Sys2Proof.Machine.execVaultPartitionErase id buf s
  | .keyDirRelease id => Sys2Proof.Machine.execKeyDirRelease id s
  | .ceremonyExpire part => Sys2Proof.Machine.execCeremonyExpire part s
  | .powerOnReset => Sys2Proof.Machine.execPowerOnReset s
  | .batteryReset => Sys2Proof.Machine.execBatteryReset s
  | .fundamentalReset => Sys2Proof.Machine.execFundamentalReset s
  | .bootRomStart a b bad entropyFail => Sys2Proof.Machine.execBootRomStart a b bad entropyFail s
  | .bootHandover certs record => Sys2Proof.Machine.execBootHandover certs record s
  | .bootOk => Sys2Proof.Machine.execBootOk s
  | .bootWatchdog => Sys2Proof.Machine.execBootWatchdog s
  | .glbRecoveryGo img => Sys2Proof.Machine.execGlbRecoveryGo img s
  | .fwStage id buf => Sys2Proof.Machine.execFwStage id buf s
  | .fwSvnAdvance id => Sys2Proof.Machine.execFwSvnAdvance id s
  | .fwKeyRevoke id => Sys2Proof.Machine.execFwKeyRevoke id s
  | .attestQuote id => Sys2Proof.Machine.execAttestQuote id s
  | .lockstepMismatch pair => Sys2Proof.Machine.execLockstepMismatch pair s
  | .getVersion msg => Sys2Proof.Machine.execGetVersion msg s
  | .getCapabilities msg => Sys2Proof.Machine.execGetCapabilities msg s
  | .negotiateAlgorithms sm2 p384 msg => Sys2Proof.Machine.execNegotiateAlgorithms sm2 p384 msg s
  | .getDigests msg => Sys2Proof.Machine.execGetDigests msg s
  | .getCertificate slot off len msg => Sys2Proof.Machine.execGetCertificate slot off len msg s
  | .challenge slot msg => Sys2Proof.Machine.execChallenge slot msg s
  | .getMeasurements index signed slot msg => Sys2Proof.Machine.execGetMeasurements index signed slot msg s
  | .keyExchange slot msg => Sys2Proof.Machine.execKeyExchange slot msg s
  | .finish session valid msg => Sys2Proof.Machine.execFinish session valid msg s
  | .heartbeat session msg => Sys2Proof.Machine.execHeartbeat session msg s
  | .keyUpdate session msg => Sys2Proof.Machine.execKeyUpdate session msg s
  | .endSession session msg => Sys2Proof.Machine.execEndSession session msg s
  | .setCertificate session slot chain msg => Sys2Proof.Machine.execSetCertificate session slot chain msg s
  | .vendorDefined session ideKm msg => Sys2Proof.Machine.execVendorDefined session ideKm msg s
  | .uchStart => Sys2Proof.Machine.execUchStart s
  | .uchDone => Sys2Proof.Machine.execUchDone s
  | .movStart ch pair => Sys2Proof.Machine.execMovStart ch pair s
  | .movStop ch => Sys2Proof.Machine.execMovStop ch s
  | .movHalf ch => Sys2Proof.Machine.execMovHalf ch s
  | .movTransferEnd data reach end_ => Sys2Proof.Machine.execMovTransferEnd data reach end_ s
  | .gatEntCfgWrite colour gate entry value => Sys2Proof.Machine.execGatEntCfgWrite colour gate entry value s
  | .gateSync colour gate => Sys2Proof.Machine.execGateSync colour gate s
  | .gateSyncDone gate => Sys2Proof.Machine.execGateSyncDone gate s
  | .bypass => Sys2Proof.Machine.execBypass s
  | .idcode => Sys2Proof.Machine.execIdcode s
  | .samplePreload => Sys2Proof.Machine.execSamplePreload s
  | .extest => Sys2Proof.Machine.execExtest s
  | .dbgStatus => Sys2Proof.Machine.execDbgStatus s
  | .dbgAccess write addr value data => Sys2Proof.Machine.execDbgAccess write addr value data s
  | .dbgCore1Halt => Sys2Proof.Machine.execDbgCore1Halt s
  | .dbgCore1Step => Sys2Proof.Machine.execDbgCore1Step s
  | .dbgCore1Resume => Sys2Proof.Machine.execDbgCore1Resume s
  | .fuseProg row data => Sys2Proof.Machine.execFuseProg row data s
  | .lcsReqArm colour target => Sys2Proof.Machine.execLcsReqArm colour target s
  | .lcsReqGo colour target => Sys2Proof.Machine.execLcsReqGo colour target s
  | .lcsArmExpire => Sys2Proof.Machine.execLcsArmExpire s
  | .lcsProgramDone => Sys2Proof.Machine.execLcsProgramDone s
  | .wipeStepDone => Sys2Proof.Machine.execWipeStepDone s
  | .debugGrantExpire => Sys2Proof.Machine.execDebugGrantExpire s
  | .lcsScrap id buf => Sys2Proof.Machine.execLcsScrap id buf s
  | .debugUnlock id buf => Sys2Proof.Machine.execDebugUnlock id buf s
  | .debugLock id => Sys2Proof.Machine.execDebugLock id s
  | .canvasDetect codes raw => Sys2Proof.Machine.execCanvasDetect codes raw s
  | .sentinelDetect code => Sys2Proof.Machine.execSentinelDetect code s
  | .sentinelConfigCopy => Sys2Proof.Machine.execSentinelConfigCopy s
  | .cnvStimStart source raw => Sys2Proof.Machine.execCnvStimStart source raw s
  | .stimEnd detected released => Sys2Proof.Machine.execStimEnd detected released s
  | .cnvCauseClear value raw => Sys2Proof.Machine.execCnvCauseClear value raw s
  | .canvasResume id raw => Sys2Proof.Machine.execCanvasResume id raw s
  | .canvasLatchClear id => Sys2Proof.Machine.execCanvasLatchClear id s
  | .canvasStimulate id raw undetected stuck => Sys2Proof.Machine.execCanvasStimulate id raw undetected stuck s
  | .canvasConfig id buf => Sys2Proof.Machine.execCanvasConfig id buf s
  | .canvasDisableFuse id buf => Sys2Proof.Machine.execCanvasDisableFuse id buf s
  | .linkUp lanes => Sys2Proof.Machine.execLinkUp lanes s
  | .hello frame => Sys2Proof.Machine.execHello frame s
  | .keepalive ok epoch role cfgMatch patrolFault revert => Sys2Proof.Machine.execKeepalive ok epoch role cfgMatch patrolFault revert s
  | .keepaliveSend => Sys2Proof.Machine.execKeepaliveSend s
  | .peerLinkRetrain fails => Sys2Proof.Machine.execPeerLinkRetrain fails s
  | .time ok value => Sys2Proof.Machine.execTime ok value s
  | .peerTimeExchange => Sys2Proof.Machine.execPeerTimeExchange s
  | .peerSyncLoss => Sys2Proof.Machine.execPeerSyncLoss s
  | .mirror ok epoch seq writes => Sys2Proof.Machine.execMirror ok epoch seq writes s
  | .mirrorAck ok epoch seq result => Sys2Proof.Machine.execMirrorAck ok epoch seq result s
  | .mirrorTimeout => Sys2Proof.Machine.execMirrorTimeout s
  | .resync ok epoch writes => Sys2Proof.Machine.execResync ok epoch writes s
  | .joinComplete time units undetected stuck others => Sys2Proof.Machine.execJoinComplete time units undetected stuck others s
  | .claim ok => Sys2Proof.Machine.execClaim ok s
  | .relinquish ok epoch => Sys2Proof.Machine.execRelinquish ok epoch s
  | .handover ok epoch newEpoch => Sys2Proof.Machine.execHandover ok epoch newEpoch s
  | .handoverAck ok epoch => Sys2Proof.Machine.execHandoverAck ok epoch s
  | .handoverAckTimeout => Sys2Proof.Machine.execHandoverAckTimeout s
  | .handoverDrainExpire => Sys2Proof.Machine.execHandoverDrainExpire s
  | .beacon word highNs => Sys2Proof.Machine.execBeacon word highNs s
  | .beaconSend => Sys2Proof.Machine.execBeaconSend s
  | .pathSilent => Sys2Proof.Machine.execPathSilent s
  | .watchdogRelease => Sys2Proof.Machine.execWatchdogRelease s
  | .claimStart highNs => Sys2Proof.Machine.execClaimStart highNs s
  | .startupClaim highNs => Sys2Proof.Machine.execStartupClaim highNs s
  | .claimWindowClose => Sys2Proof.Machine.execClaimWindowClose s
  | .takeoverComplete => Sys2Proof.Machine.execTakeoverComplete s
  | .revertRequest => Sys2Proof.Machine.execRevertRequest s
  | .patrolCycle => Sys2Proof.Machine.execPatrolCycle s
  | .patrolDone units undetected stuck others => Sys2Proof.Machine.execPatrolDone units undetected stuck others s
  | .trpPair id buf helloOk shared => Sys2Proof.Machine.execTrpPair id buf helloOk shared s
  | .trpDetach id buf => Sys2Proof.Machine.execTrpDetach id buf s
  | .trpHandover id => Sys2Proof.Machine.execTrpHandover id s
  | .trpSolo id => Sys2Proof.Machine.execTrpSolo id s
  | .calEnable value => Sys2Proof.Machine.execCalEnable value s
  | .calFreeze => Sys2Proof.Machine.execCalFreeze s
  | .calFreezeEnter => Sys2Proof.Machine.execCalFreezeEnter s
  | .calThaw => Sys2Proof.Machine.execCalThaw s
  | .freezeTimeout => Sys2Proof.Machine.execFreezeTimeout s
  | .calClear => Sys2Proof.Machine.execCalClear s
  | .windowClose fault => Sys2Proof.Machine.execWindowClose fault s
  | .calEventArrive => Sys2Proof.Machine.execCalEventArrive s
  | .calRelease bytes => Sys2Proof.Machine.execCalRelease bytes s
  | .calRdDataRead bad => Sys2Proof.Machine.execCalRdDataRead bad s
  | .calFwEvent colour value => Sys2Proof.Machine.execCalFwEvent colour value s
  | .calCopy read => Sys2Proof.Machine.execCalCopy read s
  | .scrubPass fixed bad => Sys2Proof.Machine.execScrubPass fixed bad s
  | .psEnter => Sys2Proof.Machine.execPsEnter s
  | .dieWakeDone die => Sys2Proof.Machine.execDieWakeDone die s
  | .troupeGate troupe => Sys2Proof.Machine.execTroupeGate troupe s
  | .troupeUngateDone troupe => Sys2Proof.Machine.execTroupeUngateDone troupe s
  | .d3hotEntry => Sys2Proof.Machine.execD3hotEntry s
  | .d0Return => Sys2Proof.Machine.execD0Return s
  | .dvfsStep troupe => Sys2Proof.Machine.execDvfsStep troupe s
  | .thermalSample t => Sys2Proof.Machine.execThermalSample t s
  | .throttleStep => Sys2Proof.Machine.execThrottleStep s
  | .sequenceStart vbat => Sys2Proof.Machine.execSequenceStart vbat s
  | .powerGoodRise => Sys2Proof.Machine.execPowerGoodRise s
  | .pgFault group => Sys2Proof.Machine.execPgFault group s
  | .railPoll readings => Sys2Proof.Machine.execRailPoll readings s
  | .dieBringup die => Sys2Proof.Machine.execDieBringup die s
  | .pwrShutdown id => Sys2Proof.Machine.execPwrShutdown id s
  | .pwrTrim id => Sys2Proof.Machine.execPwrTrim id s
  | .rtcSet id => Sys2Proof.Machine.execRtcSet id s
  | .systemPowerLoss => Sys2Proof.Machine.execSystemPowerLoss s
  | .caseBSwitchover vbatLow => Sys2Proof.Machine.execCaseBSwitchover vbatLow s
  | .handoverLineHigh => Sys2Proof.Machine.execHandoverLineHigh s
  | .shutdownDrainEnd => Sys2Proof.Machine.execShutdownDrainEnd s
  | .pcieLinkL0 link => Sys2Proof.Machine.execPcieLinkL0 link s

end Sys2Proof.Machine
end

