-- ==== Sys2Proof/Machine/Tick.lean ====
section
/-!
DEFINITION. One nanosecond with no command waiting: TIME64 (R30, R33), the end of a Calliope window (R475), the MARKER
of the decision trace (R159), the engine dies' trace entries on their way (R159), and the real-time clock (R515).  Every
other effect of time is a command of its own.
-/
namespace Sys2Proof.Machine

/-- A slewing TIME64 gains or loses one nanosecond in 20,000, 50 ppm (R33). -/
def slewStep (t : TimeState) : Int :=
  if t.slew = 0 ∨ t.slewAge < 19999 then 0 else if 0 < t.slew then 1 else -1

/-- TIME64 a nanosecond on; a relocking PLL is locked (R30). -/
def timeTick (t : TimeState) : TimeState :=
  let d := slewStep t
  { t with
    time64 := t.time64 + 1 + BitVec.ofInt 64 d
    slew := t.slew - d
    slewAge := if t.slew = 0 ∨ d ≠ 0 then 0 else t.slewAge + 1
    pll := if t.pll = .slewing then .locked else t.pll }

/-- The real-time clock a nanosecond on: 32,768 ticks in a second (R515). -/
def rtcTick (r : Rtc) : Rtc :=
  if r.acc + 32768 < 1000000000 then { r with acc := r.acc + 32768 }
  else
    let t := r.ticks + 1
    { r with acc := r.acc + 32768 - 1000000000, ticks := t, seconds := if t = 0 then r.seconds + 1 else r.seconds }

/-- The oldest trace entry of a die reaches the trace memory (R159). -/
def drainTrace (s : State) (d : Nat) : State :=
  match (getDie s d).trcFifo with
  | [] => s
  | e :: r =>
    traceWrite e (updDie d (fun x => { x with trcFifo := r }) s)

/-- The MARKER that TIME64[63:40] calls for while capture is on (R159). -/
def markTrace (s : State) : State :=
  if s.trace.enable then traceMark s else s

/-- One step of a loop's LFSR, x^31 + x^28 + 1 (R425). -/
def lfsrStep (v : BitVec 31) : BitVec 31 := (v <<< 1) ||| (if v.getLsbD 30 ^^ v.getLsbD 27 then 1 else 0)

/-- The loop LFSRs: a step each microsecond in cases S and A, a step each BCLK tick in case B (R425). -/
def loopTick (old : Rtc) (s : State) : State :=
  let c := s.canvas.sentinel
  let s' (n : Nat) (go : Bool) : State :=
    { s with canvas := { s.canvas with sentinel :=
      { c with loopAcc := n, loops := if go then c.loops.map lfsrStep else c.loops } } }
  if s.power.seq.sysPower ∨ s.power.seq.vaux then (if c.loopAcc < 999 then s' (c.loopAcc + 1) false else s' 0 true)
  else if old.ticks = s.rtc.ticks then s else s' 0 true

/-- One nanosecond: without system power only the battery domain runs (R30, R515). -/
def tick (s : State) : State :=
  let q := s.power.seq
  let s := if q.sysPower ∨ q.vaux ∨ q.vbat then loopTick s.rtc { s with rtc := rtcTick s.rtc } else s
  if q.sysPower then
    (List.range (nDies s.part.variant)).foldl drainTrace (markTrace (calTick { s with time := timeTick s.time }))
  else s

end Sys2Proof.Machine
end

