-- ==== Sys2Proof/Machine/Words.lean ====
section
/-!
DEFINITION. Etnak words: the command a routine's word stands for, and the word of an instruction command (R183 to R193).
Fields that an instruction does not use are zero in its word, and are not read.
-/
namespace Sys2Proof.Machine

/-! ### The formats of R183 -/

def fmtA (op : Nat) (rd ra rb : BitVec 5) (fn : Nat) : Nat := op * 2 ^ 26 + rd.toNat * 2 ^ 21 + ra.toNat * 2 ^ 16 + rb.toNat * 2 ^ 11 + fn
def fmtI (op : Nat) (rd ra : BitVec 5) (imm : Nat) : Nat := op * 2 ^ 26 + rd.toNat * 2 ^ 21 + ra.toNat * 2 ^ 16 + imm
def fmtD (op : Nat) (dd da db : BitVec 4) (fn : Nat) : Nat := op * 2 ^ 26 + dd.toNat * 2 ^ 22 + da.toNat * 2 ^ 18 + db.toNat * 2 ^ 14 + fn
def fmtG (op : Nat) (d : BitVec 4) (g : BitVec 5) (fn : Nat) : Nat := op * 2 ^ 26 + d.toNat * 2 ^ 22 + g.toNat * 2 ^ 17 + fn
def fmtM (op : Nat) (r base : BitVec 5) (sz : BitVec 2) (off : BitVec 14) : Nat :=
  op * 2 ^ 26 + r.toNat * 2 ^ 21 + base.toNat * 2 ^ 16 + sz.toNat * 2 ^ 14 + off.toNat
def fmtB (op : Nat) (cond : BitVec 4) (dist : Nat) : Nat := op * 2 ^ 26 + cond.toNat * 2 ^ 22 + dist
def fmtL (op : Nat) (gc : BitVec 5) (len : BitVec 12) : Nat := op * 2 ^ 26 + gc.toNat * 2 ^ 21 + len.toNat
def fmtK (op : Nat) (kx ky : BitVec 3) (dd ds : BitVec 4) (ga : BitVec 5) (fn : Nat) : Nat :=
  op * 2 ^ 26 + kx.toNat * 2 ^ 23 + ky.toNat * 2 ^ 20 + dd.toNat * 2 ^ 16 + ds.toNat * 2 ^ 12 + ga.toNat * 2 ^ 7 + fn
def fmtX (op : Nat) (t : BitVec 2) (ga gb gc : BitVec 5) (kx : BitVec 3) (fn : Nat) : Nat :=
  op * 2 ^ 26 + t.toNat * 2 ^ 24 + ga.toNat * 2 ^ 19 + gb.toNat * 2 ^ 14 + gc.toNat * 2 ^ 9 + kx.toNat * 2 ^ 6 + fn
def fmtE (op fn : Nat) : Nat := op * 2 ^ 26 + fn

/-- The word of an instruction command, as a number; none for any other command. -/
def wordOf : Instr → Option Nat
  | .add _ rd ra rb => some (fmtA 0x01 rd ra rb 0)
  | .sub _ rd ra rb => some (fmtA 0x01 rd ra rb 1)
  | .and _ rd ra rb => some (fmtA 0x01 rd ra rb 2)
  | .or _ rd ra rb => some (fmtA 0x01 rd ra rb 3)
  | .xor _ rd ra rb => some (fmtA 0x01 rd ra rb 4)
  | .shl _ rd ra rb => some (fmtA 0x01 rd ra rb 5)
  | .shr _ rd ra rb => some (fmtA 0x01 rd ra rb 6)
  | .sar _ rd ra rb => some (fmtA 0x01 rd ra rb 7)
  | .mul _ rd ra rb => some (fmtA 0x01 rd ra rb 8)
  | .minu _ rd ra rb => some (fmtA 0x01 rd ra rb 9)
  | .maxu _ rd ra rb => some (fmtA 0x01 rd ra rb 10)
  | .cmp _ ra rb => some (fmtA 0x01 0 ra rb 11)
  | .addi _ rd ra imm => some (fmtI 0x02 rd ra imm.toNat)
  | .andi _ rd ra imm => some (fmtI 0x03 rd ra imm.toNat)
  | .ori _ rd ra imm => some (fmtI 0x04 rd ra imm.toNat)
  | .xori _ rd ra imm => some (fmtI 0x05 rd ra imm.toNat)
  | .shi _ rd ra type n => some (fmtI 0x06 rd ra (type.toNat * 2 ^ 14 + n.toNat))
  | .movw _ rd imm hw keep => some (fmtI 0x07 rd (BitVec.ofNat 5 (hw.toNat + b2n keep * 16)) imm.toNat)
  | .cmpi _ ra imm => some (fmtI 0x08 0 ra imm.toNat)
  | .sel _ rd ra rb cond => some (fmtA 0x09 rd ra rb cond.toNat)
  | .dmov _ dd da => some (fmtD 0x10 dd da 0 0)
  | .dxor _ dd da db => some (fmtD 0x10 dd da db 1)
  | .dand _ dd da db => some (fmtD 0x10 dd da db 2)
  | .dor _ dd da db => some (fmtD 0x10 dd da db 3)
  | .dshlb _ dd da n => some (fmtD 0x10 dd da 0 (n.toNat * 2 ^ 8 + 4))
  | .dshrb _ dd da n => some (fmtD 0x10 dd da 0 (n.toNat * 2 ^ 8 + 5))
  | .dshln _ dd da n => some (fmtD 0x10 dd da 0 (n.toNat * 2 ^ 8 + 6))
  | .dshrn _ dd da n => some (fmtD 0x10 dd da 0 (n.toNat * 2 ^ 8 + 7))
  | .dzero _ dd => some (fmtD 0x10 dd 0 0 8)
  | .drev _ dd da => some (fmtD 0x10 dd da 0 9)
  | .dins _ dd g ln => some (fmtG 0x11 dd g (b2n ln))
  | .dext _ g da ln => some (fmtG 0x12 da g (b2n ln))
  | .dcmp _ da db => some (fmtD 0x13 0 da db 0)
  | .decim _ dd da g => some (fmtD 0x14 dd da 0 (g.toNat * 2 ^ 13))
  | .daddm _ dd da db => some (fmtD 0x15 dd da db 0)
  | .dcmpt _ da db n => some (fmtD 0x16 0 da db n.toNat)
  | .pinfmt _ dd da from_ to_ => some (fmtD 0x17 dd da 0 (to_.toNat * 4 + from_.toNat))
  | .rnd _ dd => some (fmtD 0x18 dd 0 0 0)
  | .dnib _ dd da g p n1 => some (fmtD 0x19 dd da 0 (g.toNat * 2 ^ 13 + p.toNat * 2 ^ 8 + n1.toNat))
  | .ldo _ r base sz off => some (fmtM 0x20 r base sz off)
  | .ldod _ r base sz off => some (fmtM 0x21 r base sz off)
  | .lds _ r base sz off => some (fmtM 0x22 r base sz off)
  | .ldsd _ r base sz off => some (fmtM 0x23 r base sz off)
  | .sts _ r base sz off => some (fmtM 0x24 r base sz off)
  | .stsd _ r base sz off => some (fmtM 0x25 r base sz off)
  | .str _ r base sz off => some (fmtM 0x26 r base sz off)
  | .strd _ r base sz off => some (fmtM 0x27 r base sz off)
  | .br _ cond dist => some (fmtB 0x30 cond dist.toNat)
  | .loop _ gc len => some (fmtL 0x31 gc len)
  | .brk _ cond => some (fmtB 0x32 cond 0)
  | .end_ _ status hostbuf => some (fmtE 0x33 (b2n hostbuf * 2 ^ 8 + status.toNat))
  | .wait _ mask => some (fmtE 0x34 mask.toNat)
  | .nop _ => some (fmtE 0x35 0)
  | .kopen _ kx ga fn => some (fmtK 0x38 kx 0 0 0 ga fn.toNat)
  | .kclose _ kx fn => some (fmtK 0x39 kx 0 0 0 0 fn.toNat)
  | .kinfo _ ga kx fn => some (fmtK 0x3A kx 0 0 0 ga fn.toNat)
  | .kcv _ ga kx fn => some (fmtK 0x3B kx 0 0 0 ga fn.toNat)
  | .kderive _ kx ky ds fn => some (fmtK 0x3C kx ky 0 ds 0 fn.toNat)
  | .kunwrap _ kx ky ga fn => some (fmtK 0x3D kx ky 0 0 ga fn.toNat)
  | .kwrap _ ga kx ky fn => some (fmtK 0x3E kx ky 0 0 ga fn.toNat)
  | .kgen _ kx ga fn => some (fmtK 0x3F kx 0 0 0 ga fn.toNat)
  | .kaimp _ kx ky ga fn => some (fmtK 0x0D kx ky 0 0 ga fn.toNat)
  | .kagree _ kx ky ga fn => some (fmtK 0x0E kx ky 0 0 ga fn.toNat)
  | .benc _ dd kx ds => some (fmtK 0x28 kx 0 dd ds 0 0)
  | .bdec _ dd kx ds => some (fmtK 0x29 kx 0 dd ds 0 0)
  | .bstr _ kx dd ga fn => some (fmtK 0x2A kx 0 dd 0 ga fn.toNat)
  | .bmac _ dd kx ga fn => some (fmtK 0x2B kx 0 dd 0 ga fn.toNat)
  | .bmacv _ kx ds ga fn => some (fmtK 0x2C kx 0 0 ds ga fn.toNat)
  | .ffx _ kx ds ga fn => some (fmtK 0x2D kx 0 0 ds ga fn.toNat)
  | .hstart _ kx fn => some (fmtK 0x1C kx 0 0 0 0 fn.toNat)
  | .hdata _ ga fn => some (fmtX 0x1D 0 ga 0 0 0 fn.toNat)
  | .hend _ dd ga fn => some (fmtK 0x1E 0 0 dd 0 ga fn.toNat)
  | .mexp _ t ga gb gc => some (fmtX 0x0A t ga gb gc 0 0)
  | .msign _ t ga gb gc kx fn => some (fmtX 0x0B t ga gb gc kx fn.toNat)
  | .mver _ t ga gb gc kx fn => some (fmtX 0x0C t ga gb gc kx fn.toNat)
  | .sbulk _ t ga kx => some (fmtX 0x36 t ga 0 0 kx 0)
  | .xld _ t ga gb gc => some (fmtX 0x2E t ga gb gc 0 0)
  | .xst _ t ga gb gc fn => some (fmtX 0x2F t ga gb gc 0 fn.toNat)
  | _ => none

/-- A field of a word at a width. -/
def bf (n : Nat) (w : Word32) (lo : Nat) : BitVec n := BitVec.ofNat n (w.toNat / 2 ^ lo)

/-- Opcode 0x01, by fn. -/
def decodeInt (k : Nat) (w : Word32) : Instr :=
  let rd := bf 5 w 21
  let ra := bf 5 w 16
  let rb := bf 5 w 11
  match fld w 10 0 with
  | 0 => .add k rd ra rb
  | 1 => .sub k rd ra rb
  | 2 => .and k rd ra rb
  | 3 => .or k rd ra rb
  | 4 => .xor k rd ra rb
  | 5 => .shl k rd ra rb
  | 6 => .shr k rd ra rb
  | 7 => .sar k rd ra rb
  | 8 => .mul k rd ra rb
  | 9 => .minu k rd ra rb
  | 10 => .maxu k rd ra rb
  | _ => .cmp k ra rb

/-- Opcode 0x10, by fn[3:0]. -/
def decodeData (k : Nat) (w : Word32) : Instr :=
  let dd := bf 4 w 22
  let da := bf 4 w 18
  let db := bf 4 w 14
  let n := bf 6 w 8
  match fld w 3 0 with
  | 0 => .dmov k dd da
  | 1 => .dxor k dd da db
  | 2 => .dand k dd da db
  | 3 => .dor k dd da db
  | 4 => .dshlb k dd da n
  | 5 => .dshrb k dd da n
  | 6 => .dshln k dd da n
  | 7 => .dshrn k dd da n
  | 8 => .dzero k dd
  | _ => .drev k dd da

/-- A word that R183 to R193 give a meaning, by its major opcode. -/
def decodeLegal (k : Nat) (w : Word32) : Instr :=
  let rd := bf 5 w 21
  let ra := bf 5 w 16
  let imm := bf 16 w 0
  let dd := bf 4 w 22
  let da := bf 4 w 18
  let db := bf 4 w 14
  let sz := bf 2 w 14
  let off := bf 14 w 0
  let kx := bf 3 w 23
  let ky := bf 3 w 20
  let kd := bf 4 w 16
  let ks := bf 4 w 12
  let ga := bf 5 w 7
  let f7 := bf 7 w 0
  let t := bf 2 w 24
  let xa := bf 5 w 19
  let xb := bf 5 w 14
  let xc := bf 5 w 9
  let xk := bf 3 w 6
  let f6 := bf 6 w 0
  match wOp w with
  | 0x01 => decodeInt k w
  | 0x02 => .addi k rd ra imm
  | 0x03 => .andi k rd ra imm
  | 0x04 => .ori k rd ra imm
  | 0x05 => .xori k rd ra imm
  | 0x06 => .shi k rd ra (bf 2 w 14) (bf 6 w 0)
  | 0x07 => .movw k rd imm (bf 2 w 16) (bitOf w 20)
  | 0x08 => .cmpi k ra imm
  | 0x09 => .sel k rd ra (bf 5 w 11) (bf 4 w 0)
  | 0x0A => .mexp k t xa xb xc
  | 0x0B => .msign k t xa xb xc xk f6
  | 0x0C => .mver k t xa xb xc xk f6
  | 0x0D => .kaimp k kx ky ga f7
  | 0x0E => .kagree k kx ky ga f7
  | 0x10 => decodeData k w
  | 0x11 => .dins k dd (bf 5 w 17) (bitOf w 0)
  | 0x12 => .dext k (bf 5 w 17) dd (bitOf w 0)
  | 0x13 => .dcmp k da db
  | 0x14 => .decim k dd da (bf 5 w 13)
  | 0x15 => .daddm k dd da db
  | 0x16 => .dcmpt k da db (bf 5 w 0)
  | 0x17 => .pinfmt k dd da (bf 2 w 0) (bf 2 w 2)
  | 0x18 => .rnd k dd
  | 0x19 => .dnib k dd da (bf 5 w 13) (bf 5 w 8) (bf 4 w 0)
  | 0x1C => .hstart k kx f7
  | 0x1D => .hdata k xa f6
  | 0x1E => .hend k kd ga f7
  | 0x20 => .ldo k rd ra sz off
  | 0x21 => .ldod k rd ra sz off
  | 0x22 => .lds k rd ra sz off
  | 0x23 => .ldsd k rd ra sz off
  | 0x24 => .sts k rd ra sz off
  | 0x25 => .stsd k rd ra sz off
  | 0x26 => .str k rd ra sz off
  | 0x27 => .strd k rd ra sz off
  | 0x28 => .benc k kd kx ks
  | 0x29 => .bdec k kd kx ks
  | 0x2A => .bstr k kx kd ga f7
  | 0x2B => .bmac k kd kx ga f7
  | 0x2C => .bmacv k kx ks ga f7
  | 0x2D => .ffx k kx ks ga f7
  | 0x2E => .xld k t xa xb xc
  | 0x2F => .xst k t xa xb xc f6
  | 0x30 => .br k (bf 4 w 22) (bf 12 w 0)
  | 0x31 => .loop k rd (bf 12 w 0)
  | 0x32 => .brk k (bf 4 w 22)
  | 0x33 => .end_ k (bf 8 w 0) (bitOf w 8)
  | 0x34 => .wait k (bf 4 w 0)
  | 0x35 => .nop k
  | 0x36 => .sbulk k t xa xk
  | 0x38 => .kopen k kx ga f7
  | 0x39 => .kclose k kx f7
  | 0x3A => .kinfo k ga kx f7
  | 0x3B => .kcv k ga kx f7
  | 0x3C => .kderive k kx ky ks f7
  | 0x3D => .kunwrap k kx ky ga f7
  | 0x3E => .kwrap k ga kx ky f7
  | 0x3F => .kgen k kx ga f7
  | _ => .illegalInstruction k w

/-- The command a word of a seat's routine stands for; a word the encoding does not assign is ILLEGAL_INSTRUCTION
(R184). -/
def decodeWord (k : Nat) (w : Word32) : Instr := if wordLegal w then decodeLegal k w else .illegalInstruction k w

end Sys2Proof.Machine
end

