-- ==== Sys2Proof/Safety.lean ====
section
/-!
DEFINITION. The terms the statements are written in: when a seat issues an instruction, when a control core carries a
service out, what a completion holds, and the invariants of the state.
-/
namespace Sys2Proof.Safety
open Sys2Proof.Machine

/-! ### Instructions (spec file 05) -/

/-- What a routine sees of seat `k`. -/
abbrev run (s : State) (k : Nat) : SeatRun := (getSeat s k).x

/-- Seat `k` issues an instruction: it runs a custom routine on an active die (R244), the instruction before it is done
(R190, R194), its line is in the routine cache without an uncorrectable error (R175, R225), no parity failure of the seat is
due (R205), and its instruction budget is not spent (R204). -/
def Issues (k : Nat) (s : State) : Prop :=
  seatRuns s k = true ∧ custom s k = true ∧ (run s k).ops.any (fun o => o.try_ || o.sync) = false ∧ lineHere s k = true ∧
  lineBad s k = false ∧ parityDue (run s k) = false ∧ (run s k).instrs.toNat ≠ 1048576

/-- No outstanding operation and no asynchronous fault stands in the way of what an instruction uses (R194, R196). -/
def Clear (u : Uses) (x : SeatRun) : Prop := asyncHit x u = none ∧ stallCode x u = none

/-- The run state with its four flags given. -/
def flagged (z n c v : Bool) (x : SeatRun) : SeatRun := { x with z := z, n := n, c := c, v := v }

/-- The state an instruction of major opcode `opc` that reads and writes the registers `io` executes in: its line is its
troupe's most recently used (R225), and its performer has it at issue (R175). -/
def issuing (k opc : Nat) (io : Regs) (s : State) : State := noteInstr k opc io (touchLine k s)

/-- That instruction retired with run state `y`, execution going on at index `pc`. -/
def retired (k opc : Nat) (io : Regs) (pc : Nat) (y : SeatRun) (s : State) : State := commit k pc y (issuing k opc io s)

/-- That instruction ended in a synchronous fault (R206). -/
def faulted (k cause opc : Nat) (io : Regs) (reg : Nat) (s : State) : State :=
  seatFault k cause opc (run s k).pc reg false (issuing k opc io s)

/-- The unit of kind `u` that seat `k` submits to is ready and has room in its queue (R195, R272). -/
def UnitTakes (k : Nat) (u : OpUnit) (s : State) : Prop :=
  (getUnit s u (unitOfSeat u k)).ready = true ∧ (unitOps s u (unitOfSeat u k)).length < unitDepth u

/-- The outcome of a routine that a synchronous fault ends (R205 to R207). -/
def faultOutcome (s : State) (k cause opcode reg : Nat) : Outcome :=
  let x := run s k
  { status := faultStatus cause, data := faultRecord cause opcode x.pc reg false x.instrs.toNat x.iterLeft.toNat }

/-! ### Library services (spec file 07) -/

/-- The command of a seat's routine, with nothing outstanding, nothing in its wing, and seat 0 of its performer not
suspended. -/
def AtEnd (k : Nat) (i : Item) (s : State) : Prop :=
  (getSeat s k).run = some i.id ∧ getItem s i.id = some i ∧ (run s k).ops = [] ∧ wingItem s k = none ∧
  (getSeat s (k - 1)).suspended = false

/-- Seat `k` is at the first instruction of library routine `r` for command `i`; its line is present and good, and no
parity failure of the seat will show (R205, R225). -/
def LibRuns (k r : Nat) (i : Item) (s : State) : Prop :=
  AtEnd k i s ∧ seatRuns s k = true ∧ (getSeat s k).routine = r ∧ (run s k).instrs = 0 ∧ (run s k).pc = 0 ∧
  seatItem s k = some i ∧ lineHere s k = true ∧ lineBad s k = false ∧ (run s k).parityAt = none

/-- The state a library service's row works on: its line touched, its seat not waiting. -/
def libBegins (k : Nat) (s : State) : State :=
  setRun k { run s k with wait := 0, waitQ := none, waitRnd := none } (touchLine k s)

/-- The MEM gate lets colour `c` access `n` bytes of host memory at `a` for command `i`, and no FLR has come since the
command was taken (R49, R387). -/
abbrev HostMay (i : Item) (c a n t : Nat) (s : State) : Prop := i.mute = false ∧ (gateAccess c true a n t s).1 = true

/-- The reference at command byte `off` is open at once: it is of the seat's partition and in the die's key cache at a
current generation, with handle `h` and material `m`. -/
def HasKey (k off : Nat) (i : Item) (h : Handle) (m : Bytes) (s : State) : Prop :=
  opLe i off 8 ≠ 0 ∧ refOk (opRef i off) = true ∧ refPart (opRef i off) = (getSeat s k).part ∧
  ∃ e, findRef (getDie s (dieOfSeat k)).kc (opRef i off) = some e ∧ h = handleOf e (getEntry s (dieOfSeat k) e) ∧
    m = (getEntry s (dieOfSeat k) e).material ∧
    (dieGen s (dieOfSeat k) (getEntry s (dieOfSeat k) e).part (getEntry s (dieOfSeat k) e).slot).toNat ≤
      (getEntry s (dieOfSeat k) e).gen.toNat

/-- The state once a reference in the die's cache has been opened: the entry is its most recently used, its directory
record the most recently opened (R320, R322). -/
def afterOpen (k off : Nat) (i : Item) (s : State) : State :=
  match findRef (getDie s (dieOfSeat k)).kc (opRef i off) with
  | none => s
  | some e => dirOpened (opRef i off) (updKc (dieOfSeat k) (fun c => { c with
      hits := c.hits + 1, useCtr := c.useCtr + 1
      entries := Tab.upd dEntry c.entries e fun y => { y with age := c.useCtr } }) s)

/-- A second reference open once the first is. -/
def HasKey2 (k off off2 : Nat) (i : Item) (h : Handle) (m : Bytes) (s : State) : Prop := HasKey k off2 i h m (afterOpen k off i s)

/-- The submission form, chunk count and OPLEN of a command (R240). -/
def Form (i : Item) (pointer : Bool) (chunks oplen : Nat) : Prop :=
  itemPointer i = pointer ∧ itemChunks i = chunks ∧ itemOplen i = oplen

/-- Operand fields, by command byte offset and length, that are zero. -/
def ZeroFields (i : Item) (l : List (Nat × Nat)) : Prop := ∀ z ∈ l, opLe i z.1 z.2 = 0

/-- The routine of seat `k` has ended: command `i` returns with this outcome, and the seat is free (R200). -/
def LibEnded (k : Nat) (i : Item) (status : Byte) (data : Bytes) (hostBuf : Bool) (t : State) : Prop :=
  getItem t i.id = some { i with place := .returning (dieOfSeat k)
                                 outcome := some { status := status, data := fit 16 data, hostBuf := hostBuf } } ∧
  (getSeat t k).run = none

/-- The routine of seat `k` has reached END for command `i` with this outcome, and ends once its operations on these units
have (R200). -/
def LibEnding (k : Nat) (i : Item) (units : List OpUnit) (status : Byte) (data : Bytes) (hostBuf : Bool) (t : State) : Prop :=
  (run t k).ending = some { status := status, data := fit 16 data, hostBuf := hostBuf } ∧ (run t k).endOk = true ∧
  (run t k).ops.map PendOp.unit = units ∧ (getSeat t k).run = some i.id ∧ getItem t i.id = some i

/-- Host memory holds these bytes at `a`, and every other byte is as before; what a write that fails its internal check
leaves there, poisoned, is the host's (R197). -/
def Wrote (a : Nat) (b : Bytes) (s t : State) : Prop :=
  (∀ j, j < b.length → hostByte t (a + j) = if Config.writeFails s.writeCtr then none else b[j]?) ∧
  ∀ j, j < a ∨ a + b.length ≤ j → hostByte t j = hostByte s j

/-- Host memory holds these bytes at `a`, and every other byte is as before. -/
def Stored (a : Nat) (b : Bytes) (s t : State) : Prop :=
  (∀ j, j < b.length → hostByte t (a + j) = b[j]?) ∧ ∀ j, j < a ∨ a + b.length ≤ j → hostByte t j = hostByte s j

/-! ### Services of the control cores (spec files 06, 08 to 13) -/

/-- The control cores begin service `r` for command `id`, which is `i`: after handover its pair runs (R357, R366, R403), the
unit's role and epoch allow it (R459, R465), and no earlier command of its flow, no service and no join holds it (R134, R231,
R336, R362, R462). -/
def Serves (id r : Nat) (i : Item) (s : State) : Prop :=
  getItem s id = some i ∧ i.place = .core ∧ i.routine = r ∧ i.phase = 0 ∧ s.boot.handover = true ∧
  (if pairOf r = 0 then s.boot.stop0 = false else s.boot.stop1 = false ∧ s.dbg.core1Halted = false) ∧
  (roleDependent r = true → isActive s = true ∧ i.le 60 4 = s.trp.epoch.toNat) ∧ serialWaits s i = false ∧
  i.serialWait = false ∧ (cageService r = true → s.trp.joining = false)

/-- The submission form of a service: inline or pointer (R230, R336). -/
def Inline (i : Item) : Prop := (byteAt 7 i.raw).getLsbD 7 = false
def Pointer (i : Item) : Prop := (byteAt 7 i.raw).getLsbD 7 = true

/-- A service may access `n` bytes of host memory at `a`: Bus Master Enable, the MEM gate for colour 3 and every request, and
no FLR since its command was taken (R49, R378, R384). -/
def SvcMay (i : Item) (a n t : Nat) (s : State) : Prop :=
  i.mute = false ∧ (getFunc s 0).busMaster = true ∧ (passedBytes 64 3 true t a n s).1 = n

/-- The operand buffer of a pointer-mode service can be read and is not empty. -/
def SvcBuffer (i : Item) (s : State) : Prop := i.le 32 4 ≠ 0 ∧ SvcMay i (i.le 24 8) (i.le 32 4) 0 s

/-- The root generator has output (R296, R298). -/
def RootReady (s : State) : Prop := drbgDown s = false ∧ s.units.rng.drbgReady = true

/-- A vault authorisation of the partition's own custodians that meets R333. -/
def VaultAuthorised (w : AuthWant) (b : Bytes) (s : State) : Prop :=
  ∃ r, (byteAt 7 b).toNat = 0 ∧ (getVPart s w.part).registry = some r ∧ authBodyOk w 0 b s = true ∧
    nonceOk (getVPart s w.part).nonce b s = true ∧ quorumOk r (r.policy.getD (vaultClass w.action) 17) b = true

/-- A routine authorisation that meets R233. -/
def RoutineAuthorised (action p r version : Nat) (digest b : Bytes) (s : State) : Prop :=
  ∃ g, (getVPart s p).registry = some g ∧ routineBodyOk action p r version digest b s = true ∧
    nonceOk (getRPart s p).nonce b s = true ∧ quorumOk g (g.policy.getD 0 17) b = true

/-- The state once a routine authorisation's nonce is spent. -/
def routineSpent (p : Nat) (s : State) : State := updRPart p (fun x => { x with nonce := none }) s

/-! ### Which commands may change what -/

/-- Commands that may reset the control die (R516). -/
def resetting : Instr → Bool
  | .batteryReset => true
  | .bootWatchdog => true
  | .fundamentalReset => true
  | .lcsProgramDone => true
  | .pgFault _ => true
  | .powerGoodRise => true
  | .powerOnReset => true
  | .shutdownDrainEnd => true
  | .systemPowerLoss => true
  | _ => false

/-- Commands that may blow fuses: the resets by their vote, and what programs a row (R349, R350, R408, R409). -/
def changesFuses : Instr → Bool
  | .batteryReset => true
  | .bootWatchdog => true
  | .fundamentalReset => true
  | .lcsProgramDone => true
  | .pgFault _ => true
  | .powerGoodRise => true
  | .powerOnReset => true
  | .shutdownDrainEnd => true
  | .systemPowerLoss => true
  | .bootRomStart _ _ _ _ => true
  | .canvasDisableFuse _ _ => true
  | .fuseProg _ _ => true
  | .fwKeyRevoke _ => true
  | .fwSvnAdvance _ => true
  | .wipeStepDone => true
  | _ => false

/-- Commands that may change the life-cycle registers (R408 to R415). -/
def changesLifeCycle : Instr → Bool
  | .batteryReset => true
  | .bootWatchdog => true
  | .fundamentalReset => true
  | .lcsProgramDone => true
  | .pgFault _ => true
  | .powerGoodRise => true
  | .powerOnReset => true
  | .shutdownDrainEnd => true
  | .systemPowerLoss => true
  | .bootRomStart _ _ _ _ => true
  | .lcsArmExpire => true
  | .lcsReqArm _ _ => true
  | .lcsReqGo _ _ => true
  | .lcsScrap _ _ => true
  | .wipeStepDone => true
  | _ => false

/-- Commands that may change the Cage: what commits a change here or from the peer, and what clears it (R308, R423, R429). -/
def changesCage : Instr → Bool
  | .registerWrite _ _ _ _ => true
  | .shareChangeWrite _ _ => true
  | .routineInstall _ _ _ => true
  | .routineRevoke _ _ => true
  | .routineQuotaSet _ => true
  | .vltSlotWrite => true
  | .vltSlotAdvance => true
  | .vltSlotErase => true
  | .vaultRegistrySet _ _ => true
  | .vaultCeremonyClose _ _ => true
  | .vaultSlotGenerate _ _ => true
  | .vaultSlotInvalidate _ _ => true
  | .vaultRestore _ _ => true
  | .vaultPartitionErase _ _ => true
  | .batteryReset => true
  | .bootRomStart _ _ _ _ => true
  | .extest => true
  | .dbgAccess _ _ _ _ => true
  | .lcsProgramDone => true
  | .wipeStepDone => true
  | .canvasDetect _ _ => true
  | .sentinelDetect _ => true
  | .hello _ => true
  | .mirror _ _ _ _ => true
  | .mirrorAck _ _ _ _ => true
  | .mirrorTimeout => true
  | .resync _ _ _ => true
  | .pathSilent => true
  | .trpPair _ _ _ _ => true
  | .trpDetach _ _ => true
  | .trpSolo _ => true
  | .caseBSwitchover _ => true
  | .handoverAckTimeout => true
  | _ => false

/-- Commands that may change TIME64 or its registers (R30 to R34); an end of the slewing by a unit that becomes active is one
(R33). -/
def changesTime : Instr → Bool
  | .batteryReset => true
  | .clkTime64LowRead => true
  | .dbgAccess _ _ _ _ => true
  | .handoverAckTimeout => true
  | .joinComplete _ _ _ _ _ => true
  | .keepalive _ _ _ _ _ _ => true
  | .pathSilent => true
  | .peerSyncLoss => true
  | .pgFault _ => true
  | .powerGoodRise => true
  | .powerOnReset => true
  | .refclkChange _ => true
  | .registerWrite _ _ _ _ => true
  | .shutdownDrainEnd => true
  | .systemPowerLoss => true
  | .takeoverComplete => true
  | .time _ _ => true
  | .trpDetach _ _ => true
  | .trpPair _ _ _ _ => true
  | .trpSolo _ => true
  | _ => false

/-- Commands that may change Roustabout's registers (R377 to R382). -/
def changesMover : Instr → Bool
  | .batteryReset => true
  | .bootWatchdog => true
  | .fundamentalReset => true
  | .lcsProgramDone => true
  | .pgFault _ => true
  | .powerGoodRise => true
  | .powerOnReset => true
  | .shutdownDrainEnd => true
  | .systemPowerLoss => true
  | .dbgAccess _ _ _ _ => true
  | .movHalf _ => true
  | .movStart _ _ => true
  | .movStop _ => true
  | .movTransferEnd _ _ _ => true
  | .registerWrite _ _ _ _ => true
  | _ => false

/-- Commands that may change the unit challenge registers (R374 to R376). -/
def changesChallenge : Instr → Bool
  | .batteryReset => true
  | .bootWatchdog => true
  | .fundamentalReset => true
  | .lcsProgramDone => true
  | .pgFault _ => true
  | .powerGoodRise => true
  | .powerOnReset => true
  | .shutdownDrainEnd => true
  | .systemPowerLoss => true
  | .dbgAccess _ _ _ _ => true
  | .registerWrite _ _ _ _ => true
  | .uchDone => true
  | .uchStart => true
  | _ => false

/-- Services of the library (R239 to R271). -/
def libraryService : Instr → Bool
  | .pinTranslate _ => true
  | .pinTranslateDukpt _ => true
  | .pinVerify _ => true
  | .emvArqcVerify _ => true
  | .cvcGenerate _ => true
  | .cvcVerify _ => true
  | .macGenerate _ _ => true
  | .macVerify _ _ => true
  | .dukptMacVerify _ => true
  | .keyImport _ _ => true
  | .keyExport _ => true
  | .keyTranslate _ _ => true
  | .keyGenerate _ => true
  | .keyImportAsym _ _ => true
  | .keyAgree _ _ => true
  | .tokenise _ => true
  | .detokenise _ => true
  | .sign _ => true
  | .verify _ _ => true
  | .bulkCrypt _ _ _ => true
  | .bulkReencrypt _ _ _ => true
  | _ => false

/-- Every bit of `a` is set in `b`. -/
def within {w : Nat} (a b : BitVec w) : Prop := a &&& b = a

/-- What a routine never changes: clocks, fuses, life cycle, boot, the Cage and vault, identity sessions, the duplex pair,
power, the mover, the shares, and the endpoint's own registers. -/
def SameDevice (s t : State) : Prop :=
  t.part = s.part ∧ t.time = s.time ∧ t.vfEnable = s.vfEnable ∧ t.booth = s.booth ∧ t.cage = s.cage ∧ t.vault = s.vault ∧
  t.fuses = s.fuses ∧ t.boot = s.boot ∧ t.spdm = s.spdm ∧ t.uch = s.uch ∧ t.mov = s.mov ∧ t.lcs = s.lcs ∧ t.trp = s.trp ∧
  t.power = s.power ∧ t.rtc = s.rtc ∧ t.readData = s.readData ∧ t.pcie = s.pcie

end Sys2Proof.Safety
end

