-- ==== Sys2Proof/Certificates/Slice0/Obligations.lean ====
section
/-!
DEFINITION. The statements about this model.  An obligation that speaks of several groups of commands is a
conjunction with one part for each group; the comment before a part names the rules of the spec it follows.
-/
open Sys2Proof Sys2Proof.Machine Sys2Proof.Safety

/-- A step takes the command at the front of the queue and carries it out on the state with the queue's rest; with an empty
queue a nanosecond passes (assumption log 1), which moves no command, queue, routine, unit, key, fuse or byte of host memory. -/
def Obligations.StepRunsFrontCommand : Prop :=
  ∀ (s : State), (∀ c r, s.pending = c :: r → step s = exec c { s with pending := r }) ∧
    (s.pending = [] → ∃ t, step s = .next t ∧ t.pending = [] ∧ t.items = s.items ∧ t.seats = s.seats ∧ t.queues = s.queues ∧
      t.cage = s.cage ∧ t.fuses = s.fuses ∧ t.hostMem = s.hostMem ∧ t.units = s.units ∧ t.vault = s.vault)

/-- The state after reset: no queue pair, command, routine or die in operation, the register values that R520, R473, R496, R38
and R442 give, and every register the spec states no value for as the assumption log names it (log 6, 7). -/
def Obligations.ResetState : Prop :=
  State.reset.pending = [] ∧ State.reset.items = [] ∧ State.reset.queues = [] ∧ State.reset.seats = [] ∧ State.reset.hostMem = [] ∧
  Memory.wf State.reset.hostMem = true ∧
  (∀ q, (getQp State.reset q).own.part = 0 ∧ (getQp State.reset q).enabled = false ∧ (getQp State.reset q).cfg.enable = false) ∧
  State.reset.boot.stage = 0 ∧ State.reset.vfEnable = false ∧ State.reset.time.time64 = 0 ∧ State.reset.rtc.valid = false ∧
  State.reset.power.auto = true ∧ State.reset.power.deepest = 3 ∧ State.reset.power.gateEn = true ∧ State.reset.power.dvfsAuto = true ∧
  State.reset.power.idleUs = 10 ∧ State.reset.power.state = 0 ∧ State.reset.booth.backlotSize = 4 ∧ State.reset.cal.enable = false ∧
  State.reset.cal.staged.windowMs = 1000 ∧ State.reset.cal.staged.detailMax = 2048 ∧ State.reset.jug.deferMax = 4096 ∧
  (∀ t, Tab.get dMap State.reset.booth.active.map t = BitVec.allOnes 256) ∧ (∀ p, (share State.reset p).weight = 16)

/-- Every command answers a next state, none a fault or a refusal (assumption log 9), of the same part; no command touches the
queue of waiting commands. -/
def Obligations.EveryCommandAnswers : Prop :=
  ∀ (c : Instr) (s : State), ∃ t, exec c s = .next t ∧ t.part = s.part ∧ t.pending = s.pending

/-- R185: the condition codes. -/
def Obligations.ConditionCodes : Prop :=
  ∀ (x : SeatRun),
    condHolds x 0x0 = some true ∧ condHolds x 0x1 = some x.z ∧ condHolds x 0x2 = some (!x.z) ∧ condHolds x 0x3 = some x.c ∧
    condHolds x 0x4 = some (!x.c) ∧ condHolds x 0x5 = some x.n ∧ condHolds x 0x6 = some (!x.n) ∧ condHolds x 0x7 = some x.v ∧
    condHolds x 0x8 = some (!x.v) ∧ condHolds x 0x9 = some (x.c && !x.z) ∧ condHolds x 0xA = some (!x.c || x.z) ∧
    condHolds x 0xB = some (decide (x.n = x.v)) ∧ condHolds x 0xC = some (decide (x.n ≠ x.v)) ∧
    condHolds x 0xD = some (!x.z && decide (x.n = x.v)) ∧ condHolds x 0xE = some (x.z || decide (x.n ≠ x.v)) ∧ condHolds x 0xF = none

/-- R183 to R193: words written out from the formats, and what they stand for: ADD g1, g2, g3; ADDI g4, g5, 0xFFFF; DINS d3.hi from g7;
LDO g1, 8(g2); BR NE forward by 12; END OK with HOST_BUFFER; KOPEN k2 from g6 with TRY; and words R184 calls illegal. -/
def Obligations.WordsOfTheEncoding : Prop :=
  decodeWord 0 0x04221800 = .add 0 1 2 3 ∧ decodeWord 0 0x0885FFFF = .addi 0 4 5 0xFFFF ∧ decodeWord 0 0x44CE0000 = .dins 0 3 7 false ∧
  decodeWord 0 0xC080000C = .br 0 2 12 ∧ decodeWord 0 0xCC000100 = .end_ 0 0 true ∧ decodeWord 0 0xE1000301 = .kopen 0 2 6 1 ∧
  (∀ w ∈ [(0 : Word32), 0x3C000000, 0x6C000000, 0x7C000000, 0xDC000000], ∀ k, decodeWord k w = .illegalInstruction k w)

/-- The word of an instruction command, where R183 to R193 make it legal, is read back as that command with every operand at its
value: no bit of an encoding is dropped. -/
def Obligations.WordRoundTrip : Prop :=
  ∀ (i : Instr) (n : Nat), wordOf i = some n → n < 2 ^ 32 ∧
    (wordLegal (BitVec.ofNat 32 n) = true → ∃ k, decodeWord k (BitVec.ofNat 32 n) = i)

/-- Host memory as the device has written it keeps its canonical form through every step, and a command that writes at an address
changes exactly the bytes it writes; of those a write that fails its internal check holds none (R197). -/
def Obligations.HostMemoryCanonical : Prop :=
  (∀ (s t : State), Memory.wf s.hostMem = true → step s = .next t → Memory.wf t.hostMem = true) ∧
  (∀ (s : State) (fn own a : Nat) (b : Bytes) (relaxed noSnoop : Bool), Stored a b s (hostWrite fn own a b relaxed noSnoop false s)) ∧
  (∀ (s : State) (fn own q a : Nat) (b : Bytes), Wrote a b s (dataWrite fn own q a b s))

/-- R349, R350, R408: a blown fuse stays blown: no step clears a bit of a life-cycle copy, of the revocation, anti-rollback,
zeroisation, wipe-progress and disable rows or of the serial number, and a root row blown whole stays so. -/
def Obligations.FusesStayBlown : Prop :=
  ∀ (s t : State), step s = .next t →
    within s.fuses.c0 t.fuses.c0 ∧ within s.fuses.c1 t.fuses.c1 ∧ within s.fuses.c2 t.fuses.c2 ∧ within s.fuses.revoked t.fuses.revoked ∧
    within s.fuses.svn t.fuses.svn ∧ within s.fuses.zero t.fuses.zero ∧ within s.fuses.wipe t.fuses.wipe ∧
    within s.fuses.disable t.fuses.disable ∧ within s.fuses.serial t.fuses.serial ∧ (s.fuses.rootGone = true → t.fuses.rootGone = true)

/-- Only the commands named change fuses, the life-cycle registers, the Cage, TIME64, the real-time clock, Roustabout and the
challenge registers; every other command leaves them as they are. -/
def Obligations.OnlyTheseChange : Prop :=
  ∀ (c : Instr) (s t : State), exec c s = .next t →
    (changesFuses c = false → t.fuses = s.fuses) ∧ (changesLifeCycle c = false → t.lcs = s.lcs) ∧
    (changesCage c = false → t.cage = s.cage) ∧ (changesTime c = false → t.time = s.time) ∧
    ((∀ i, c ≠ .rtcSet i) → c ≠ .batteryReset → t.rtc = s.rtc) ∧ (changesMover c = false → t.mov = s.mov) ∧
    (changesChallenge c = false → t.uch = s.uch)

/-- What the instructions of a routine and the services of the library leave alone: whatever they do, and however they end. -/
def Obligations.RoutineFrame : Prop :=
  ∀ (c : Instr) (s t : State), wordOf c ≠ none ∨ (∃ k w, c = .illegalInstruction k w) ∨ libraryService c = true → exec c s = .next t →
    SameDevice s t

/-- R202, R206, R207, R212: an instruction retired within its routine changes its own seat's run state, its performer's count and
the age of its cache line, and nothing else of the machine; one that faults ends its routine with the fault record, latches it,
and leaves every other seat and host memory as they were; a line or a seat that fails its check faults STATE_PARITY (R205,
R225), a spent instruction budget INSTR_BUDGET, and a seat that does not run does nothing. -/
def Obligations.RetireAndFault : Prop :=
  ∀ (s : State) (k : Nat),
    (∀ opc io pc y, (goTo pc y).pc < (getSeat s k).len → let t := retired k opc io pc y s
      getSeat t k = { getSeat s k with x := goTo pc y } ∧ (∀ j, j ≠ k → getSeat t j = getSeat s j) ∧
      (∀ n, n ≠ performerOfSeat k → getPerf t n = getPerf s n) ∧ (∀ j, j ≠ troupeOfSeat k → getTroupe t j = getTroupe s j) ∧
      (getTroupe t (troupeOfSeat k)).drbgBuf = (getTroupe s (troupeOfSeat k)).drbgBuf ∧
      { t with seats := s.seats, performers := s.performers, troupes := s.troupes, routines := s.routines } = s) ∧
    (∀ cause opc io reg id i, (run s k).ops = [] → (getSeat s k).run = some id → getItem s id = some i → wingItem s k = none →
      (k % 4 = 1 → (getSeat s (k - 1)).suspended = false) → let t := faulted k cause opc io reg s
      getItem t id = some { i with place := .returning (dieOfSeat k), outcome := some (faultOutcome s k cause opc reg) } ∧
      (getSeat t k).run = none ∧ (getSeat t k).faults = (getSeat s k).faults + 1 ∧ (getSeat t k).fault.valid = true ∧
      (getSeat t k).fault.cause = BitVec.ofNat 8 cause ∧ (getSeat t k).fault.opcode = BitVec.ofNat 6 opc ∧
      (∀ j, j ≠ k → getSeat t j = getSeat s j) ∧ t.hostMem = s.hostMem) ∧
    (seatRuns s k = true → custom s k = true → (run s k).ops.any (fun o => o.try_ || o.sync) = false → lineHere s k = true →
      (lineBad s k = true → exec (.nop k) s = .next (seatFault k 0x15 0x35 (run s k).pc 255 false (dropLine k s))) ∧
      (lineBad s k = false → parityDue (run s k) = true → exec (.nop k) s = .next (faulted k 0x15 0x35 ⟨[], []⟩ 255 s)) ∧
      (lineBad s k = false → parityDue (run s k) = false → (run s k).instrs.toNat = 1048576 →
        exec (.nop k) s = .next (faulted k 0x06 0x35 ⟨[], []⟩ 255 s))) ∧
    (seatRuns s k = false → exec (.nop k) s = .next s)

/-- R489: the record memory, its pointers and CAL_LOST keep their values through a fundamental reset and are zero after a power-on
reset and after CLEAR.  A window open at a fundamental reset is lost, LOST_WINDOWS advances for it and the next record has RESET set;
every other register of Calliope is at its reset value. -/
def Obligations.RecordMemoryThroughResets : Prop :=
  ∀ (s : State),
    (∃ t, exec .fundamentalReset s = .next t ∧
      t.cal = { State.reset.cal with
        mem := s.cal.mem, head := s.cal.head, tail := s.cal.tail, lens := s.cal.lens, late := s.cal.late
        lost := t.cal.lost, lostBefore := t.cal.lostBefore, resetMark := t.cal.resetMark } ∧
      (s.cal.closing = [] → s.cal.staging = none →
        t.cal.lost = satAdd s.cal.lost (if s.cal.window.isSome then 1 else 0) ∧
        t.cal.lostBefore = satAdd s.cal.lostBefore (if s.cal.window.isSome then 1 else 0)) ∧
      (s.cal.window.isSome = true → t.cal.resetMark = true)) ∧
    (∃ t, exec .powerOnReset s = .next t ∧ t.cal = State.reset.cal) ∧
    (pfOpen s = true → s.cal.enable = false → ∃ t, exec .calClear s = .next t ∧ t.cal.mem = [] ∧ t.cal.head = 0 ∧ t.cal.tail = 0 ∧
      t.cal.lens = [] ∧ t.cal.lost = 0 ∧ t.cal.late = 0) ∧
    (∀ n r w, ((recordBytes n r w)[12]?).map (fun b => b.getLsbD 6) = some r)

/-- R408: the vote of the life-cycle copies at a fundamental reset.  Two copies of one valid code decide, and a third below it is
completed; an interrupted write is resumed from C0; anything else is END_OF_LIFE.  'Below' is read as 'its bits are among the
code's' (assumption log 45). -/
def Obligations.LifeCycleVote : Prop :=
  ∀ (s : State), ∃ t, exec .fundamentalReset s = .next t ∧
    let a := s.fuses.c0
    let b := s.fuses.c1
    let c := s.fuses.c2
    let third (x y : Word32) (n : Nat) : Word32 := if x = lcsCode n ∨ bitsIn x (lcsCode n) = true then lcsCode n else y
    (∀ n, n < 4 → (a = lcsCode n → b = lcsCode n → t.lcs.state.toNat = n ∧ t.fuses.c2 = third c c n ∧
        (t.lcs.repaired = true ↔ c ≠ lcsCode n ∧ bitsIn c (lcsCode n) = true)) ∧
      (a = lcsCode n → c = lcsCode n → t.lcs.state.toNat = n ∧ t.fuses.c1 = third b b n ∧
        (t.lcs.repaired = true ↔ b ≠ lcsCode n ∧ bitsIn b (lcsCode n) = true)) ∧
      (b = lcsCode n → c = lcsCode n → t.lcs.state.toNat = n ∧ t.fuses.c0 = third a a n ∧
        (t.lcs.repaired = true ↔ a ≠ lcsCode n ∧ bitsIn a (lcsCode n) = true))) ∧
    (∀ n m, n < 4 → m < n → a = lcsCode n → c = lcsCode m → b ≠ a → b ≠ c → bitsIn b a = true → bitsIn c b = true →
      t.lcs.state.toNat = n ∧ t.fuses.c0 = a ∧ t.fuses.c1 = a ∧ t.fuses.c2 = a ∧ t.lcs.resumed = true) ∧
    ((∀ n, n < 4 → (a = lcsCode n → b ≠ lcsCode n ∧ c ≠ lcsCode n) ∧ (b = lcsCode n → c ≠ lcsCode n)) →
      (∀ n m, n < 4 → m < n → a = lcsCode n → c = lcsCode m → ¬ (bitsIn b a = true ∧ bitsIn c b = true)) →
      t.lcs.state.toNat = 3 ∧ t.fuses.c0 = a ∧ t.fuses.c1 = b ∧ t.fuses.c2 = c)

/-- The integer instructions: results, flags and completion.  The comment before each part names the rules of the spec it follows.
-/
def Obligations.IntegerInstructions : Prop :=
  -- R186: the three-register integer instructions. Each writes rd and the flags its row names and nothing else; the next
  -- instruction is at the next index. C of SUB and CMP is the model's reading (assumption log 20).
  (∀ (s : State) (k : Nat) (rd ra rb : BitVec 5), Issues k s →
    let x := run s k
    let a := getG x ra
    let b := getG x rb
    let next (y : SeatRun) : Res := .next (retired k 0x01 ⟨gR [ra, rb], gR [rd]⟩ (x.pc + 1) y s)
    exec (.add k rd ra rb) s = next (flagged (decide (a + b = 0)) ((a + b).msb) (decide (2 ^ 64 ≤ a.toNat + b.toNat)) (decide (a.toInt + b.toInt ≠ (a + b).toInt)) (setG rd (a + b) x)) ∧
    exec (.sub k rd ra rb) s = next (flagged (decide (a = b)) ((a - b).msb) (decide (b.toNat ≤ a.toNat)) (decide (a.toInt - b.toInt ≠ (a - b).toInt)) (setG rd (a - b) x)) ∧
    exec (.and k rd ra rb) s = next (flagged (decide (a &&& b = 0)) ((a &&& b).msb) false false (setG rd (a &&& b) x)) ∧
    exec (.or k rd ra rb) s = next (flagged (decide (a ||| b = 0)) ((a ||| b).msb) false false (setG rd (a ||| b) x)) ∧
    exec (.xor k rd ra rb) s = next (flagged (decide (a = b)) ((a ^^^ b).msb) false false (setG rd (a ^^^ b) x)) ∧
    exec (.mul k rd ra rb) s = next (setG rd (BitVec.ofNat 64 (a.toNat * b.toNat)) x) ∧
    exec (.minu k rd ra rb) s = next (setG rd (BitVec.ofNat 64 (min a.toNat b.toNat)) x) ∧
    exec (.maxu k rd ra rb) s = next (setG rd (BitVec.ofNat 64 (max a.toNat b.toNat)) x) ∧
    exec (.cmp k ra rb) s = .next (retired k 0x01 ⟨gR [ra, rb], []⟩ (x.pc + 1)
      (flagged (decide (a = b)) ((a - b).msb) (decide (b.toNat ≤ a.toNat)) (decide (a.toInt - b.toInt ≠ (a - b).toInt)) x) s)) ∧
  -- R186: shifts by the low six bits of rb or by an immediate, each with Z and N of the result and C and V cleared; SHI's
  -- reserved type faults ILLEGAL (R205).
  (∀ (s : State) (k : Nat) (rd ra rb : BitVec 5) (n : BitVec 6), Issues k s →
    let x := run s k
    let a := getG x ra
    let m := (getG x rb).toNat % 64
    let flags (r : Word64) : SeatRun := flagged (decide (r = 0)) r.msb false false (setG rd r x)
    let next (r : Word64) : Res := .next (retired k 0x01 ⟨gR [ra, rb], gR [rd]⟩ (x.pc + 1) (flags r) s)
    let nexti (r : Word64) : Res := .next (retired k 0x06 ⟨gR [ra], gR [rd]⟩ (x.pc + 1) (flags r) s)
    exec (.shl k rd ra rb) s = next (BitVec.ofNat 64 (a.toNat * 2 ^ m)) ∧
    exec (.shr k rd ra rb) s = next (BitVec.ofNat 64 (a.toNat / 2 ^ m)) ∧
    exec (.sar k rd ra rb) s = next (BitVec.ofInt 64 (a.toInt / 2 ^ m)) ∧
    exec (.shi k rd ra 0 n) s = nexti (BitVec.ofNat 64 (a.toNat * 2 ^ n.toNat)) ∧
    exec (.shi k rd ra 1 n) s = nexti (BitVec.ofNat 64 (a.toNat / 2 ^ n.toNat)) ∧
    exec (.shi k rd ra 2 n) s = nexti (BitVec.ofInt 64 (a.toInt / 2 ^ n.toNat)) ∧
    exec (.shi k rd ra 3 n) s = .next (faulted k 0x01 0x06 ⟨gR [ra], gR [rd]⟩ 255 s)) ∧
  -- R186: the immediate forms, MOVW and SEL. MOVW replaces one half-word and keeps or clears the others; SEL chooses by a
  -- condition of R185, its reserved code 0xF faulting ILLEGAL.
  (∀ (s : State) (k : Nat) (rd ra rb : BitVec 5) (imm : BitVec 16), Issues k s →
    let x := run s k
    let a := getG x ra
    let e : Word64 := imm.signExtend 64
    let u : Word64 := imm.setWidth 64
    let next (opc : Nat) (y : SeatRun) : Res := .next (retired k opc ⟨gR [ra], gR [rd]⟩ (x.pc + 1) y s)
    let logic (opc : Nat) (r : Word64) : Res := next opc (flagged (decide (r = 0)) r.msb false false (setG rd r x))
    let sel (c : Bool) : Res := .next (retired k 0x09 ⟨gR [ra, rb], gR [rd]⟩ (x.pc + 1) (setG rd (if c then a else getG x rb) x) s)
    exec (.addi k rd ra imm) s = next 0x02 (flagged (decide (a + e = 0)) ((a + e).msb) (decide (2 ^ 64 ≤ a.toNat + e.toNat)) (decide (a.toInt + e.toInt ≠ (a + e).toInt)) (setG rd (a + e) x)) ∧
    exec (.andi k rd ra imm) s = logic 0x03 (a &&& u) ∧
    exec (.ori k rd ra imm) s = logic 0x04 (a ||| u) ∧
    exec (.xori k rd ra imm) s = logic 0x05 (a ^^^ u) ∧
    exec (.cmpi k ra imm) s = .next (retired k 0x08 ⟨gR [ra], []⟩ (x.pc + 1)
      (flagged (decide (a = e)) ((a - e).msb) (decide (e.toNat ≤ a.toNat)) (decide (a.toInt - e.toInt ≠ (a - e).toInt)) x) s) ∧
    (∀ (hw : BitVec 2) (keep : Bool), ∃ r : Word64,
      exec (.movw k rd imm hw keep) s = .next (retired k 0x07 ⟨gR [rd], gR [rd]⟩ (x.pc + 1) (setG rd r x) s) ∧
      ∀ i : Nat, i < 64 → r.getLsbD i = if i / 16 = hw.toNat then imm.getLsbD (i % 16)
        else keep && (getG x rd).getLsbD i) ∧
    (∀ (cond : BitVec 4) (b : Bool), condHolds x cond = some b →
      exec (.sel k rd ra rb cond) s = sel b) ∧
    exec (.sel k rd ra rb 15) s = .next (faulted k 0x01 0x09 ⟨gR [ra, rb], gR [rd]⟩ 255 s))

/-- BR, BRK, WAIT and NOP, and words the encoding does not assign.  The comment before each part names the rules of the spec it
follows. -/
def Obligations.ControlAndIllegalWords : Prop :=
  -- R189, R202: BR, BRK, WAIT and NOP where they do not fault: a taken branch goes forward by its distance, BRK leaves the
  -- innermost loop, WAIT goes on with its tickets clear.
  (∀ (s : State) (k : Nat), Issues k s →
    let x := run s k
    let len := (getSeat s k).len
    let next (opc pc : Nat) (y : SeatRun) : Res := .next (retired k opc ⟨[], []⟩ pc y s)
    exec (.nop k) s = next 0x35 (x.pc + 1) x ∧
    (∀ (cond : BitVec 4) (dist : BitVec 12), dist ≠ 0 → condHolds x cond = some false →
      exec (.br k cond dist) s = next 0x30 (x.pc + 1) x) ∧
    (∀ (cond : BitVec 4) (dist : BitVec 12), dist ≠ 0 → condHolds x cond = some true → x.pc + dist.toNat < len →
      (∀ f ∈ x.loops.head?, x.pc + dist.toNat ≤ f.last + 1) →
      exec (.br k cond dist) s = next 0x30 (x.pc + dist.toNat) x) ∧
    (∀ (cond : BitVec 4) (f : LoopFrame) (r : List LoopFrame), x.loops = f :: r → condHolds x cond = some true →
      exec (.brk k cond) s = next 0x32 (f.last + 1) { x with loops := r }) ∧
    (∀ mask : BitVec 4, x.tickets = 0 → x.asyncs = [] → exec (.wait k mask) s = next 0x34 (x.pc + 1) x)) ∧
  -- R184, R205, R206: a word the encoding does not assign faults ILLEGAL when it is reached.
  (∀ (s : State) (k : Nat) (w : Word32), Issues k s →
    exec (.illegalInstruction k w) s = .next (faulted k 0x01 (w.toNat / 2 ^ 26) ⟨[], []⟩ 255 s))

/-- R203: LOOP runs its body, the instructions at the next index to the `n`th after it, as often as gc says: a body beyond the routine or
the enclosing body faults PC_RANGE, a zero count skips it, a fifth loop faults LOOP_DEPTH, and at the body's end the loop starts
again while a further iteration is left, and is over after its last.  The count is charged to ITER_LEFT (R204). -/
def Obligations.LoopInstruction : Prop :=
  ∀ (s : State) (k : Nat) (gc : BitVec 5) (n : BitVec 12), Issues k s →
    let x := run s k
    let c := (getG x gc).toNat
    let last := x.pc + n.toNat
    let fits := last < (getSeat s k).len ∧ ∀ f ∈ x.loops.head?, last ≤ f.last
    let paid := { x with iterLeft := x.iterLeft - BitVec.ofNat 17 c }
    let io : Regs := ⟨gR [gc], []⟩
    (¬ fits → exec (.loop k gc n) s = .next (faulted k 0x02 0x31 io 255 s)) ∧
    (fits → c = 0 → exec (.loop k gc n) s = .next (retired k 0x31 io (last + 1) x s)) ∧
    (fits → c ≠ 0 → 4 ≤ x.loops.length → exec (.loop k gc n) s = .next (faulted k 0x04 0x31 io 255 s)) ∧
    (fits → c ≠ 0 → x.loops.length < 4 → x.iterLeft.toNat < c ∨ 65536 < c →
      exec (.loop k gc n) s = .next (faulted k 0x05 0x31 io 255 s)) ∧
    (fits → c ≠ 0 → x.loops.length < 4 → c ≤ x.iterLeft.toNat → c ≤ 65536 →
      (n ≠ 0 → exec (.loop k gc n) s = .next (retired k 0x31 io (x.pc + 1)
        { paid with loops := { start := x.pc + 1, last := last, left := c } :: x.loops } s)) ∧
      (n = 0 → exec (.loop k gc n) s = .next (retired k 0x31 io (x.pc + 1) paid s))) ∧
    (∀ (y : SeatRun) (f : LoopFrame) (r : List LoopFrame), y.loops = f :: r →
      (1 < f.left → (goTo (f.last + 1) y).pc = f.start ∧ (goTo (f.last + 1) y).loops = { f with left := f.left - 1 } :: r) ∧
      (f.left ≤ 1 → goTo (f.last + 1) y = goTo (f.last + 1) { y with loops := r }) ∧
      (∀ pc, pc ≠ f.last + 1 → (goTo pc y).pc = pc ∧ (goTo pc y).loops = f :: r))

/-- R201, R200: END accepts only OK, VERIFY_MISMATCH and OPERAND_FORMAT.  END with an allowed status and nothing outstanding hands the completion to the Carousel: the command
returns with that status, result-buffer bytes 0 to 15 and the HOST_BUFFER flag, its seat is at its start state apart from
the fault latch and the counts, unless a command waited in its wing; any other status faults END_STATUS. -/
def Obligations.EndOfRoutine : Prop :=
  ∀ (s : State) (k id : Nat) (i : Item) (status : Byte) (hb : Bool), Issues k s → (run s k).ops = [] → (run s k).asyncs = [] →
    (getSeat s k).run = some id → getItem s id = some i → wingItem s k = none → (k % 4 = 1 → (getSeat s (k - 1)).suspended = false) →
    (status ∈ [stOK, stVERIFY_MISMATCH, stOPERAND_FORMAT] →
      ∃ t, exec (.end_ k status hb) s = .next t ∧
        getItem t id = some { i with place := .returning (dieOfSeat k)
                                     outcome := some { status := status, data := resultBytes (run s k) 0 16, hostBuf := hb } } ∧
        getSeat t k = { fault := (getSeat s k).fault, started := (getSeat s k).started, faults := (getSeat s k).faults } ∧
        (∀ j, j ≠ k → getSeat t j = getSeat s j) ∧ t.hostMem = s.hostMem) ∧
    (status ∉ [stOK, stVERIFY_MISMATCH, stOPERAND_FORMAT] →
      exec (.end_ k status hb) s = .next (faulted k 0x09 0x33 ⟨[], []⟩ 255 s))

/-- The data instructions that combine, move and shift d registers.  The comment before each part names the rules of the spec it
follows. -/
def Obligations.DataInstructions : Prop :=
  -- R187, R176: the data instructions that combine or move whole registers write dd with the stated bytes, tainted when a
  -- source is; DZERO leaves zero, untainted. Byte 0 is the most significant byte of a register.
  (∀ (s : State) (k : Nat) (dd da db : BitVec 4), Issues k s → Clear { d := [dd, da, db] } (run s k) →
    let x := run s k
    let a := getD x da
    let b := getD x db
    let next (srcs : List (BitVec 4)) (v : BitVec 128) (t : Bool) : Res :=
      .next (retired k 0x10 ⟨dR srcs, dR [dd]⟩ (x.pc + 1) (setD dd v t x) s)
    exec (.dmov k dd da) s = next [da] a (taintD x da) ∧
    exec (.dxor k dd da db) s = next [da, db] (a ^^^ b) (taintD x da || taintD x db) ∧
    exec (.dand k dd da db) s = next [da, db] (a &&& b) (taintD x da || taintD x db) ∧
    exec (.dor k dd da db) s = next [da, db] (a ||| b) (taintD x da || taintD x db) ∧
    exec (.dzero k dd) s = next [] 0 false ∧
    exec (.drev k dd da) s = next [da] (dOfBytes (dBytes a).reverse) (taintD x da)) ∧
  -- R187: the shifts by bytes (at most 15) and by nibbles (at most 31), toward byte 0 or away from it; a larger amount faults
  -- ILLEGAL.
  (∀ (s : State) (k : Nat) (dd da : BitVec 4) (n : BitVec 6), Issues k s → Clear { d := [dd, da] } (run s k) →
    let x := run s k
    let a := (getD x da).toNat
    let io : Regs := ⟨dR [da], dR [dd]⟩
    let next (v : Nat) : Res := .next (retired k 0x10 io (x.pc + 1) (setD dd (BitVec.ofNat 128 v) (taintD x da) x) s)
    (n.toNat ≤ 15 → exec (.dshlb k dd da n) s = next (a * 2 ^ (8 * n.toNat)) ∧
      exec (.dshrb k dd da n) s = next (a / 2 ^ (8 * n.toNat))) ∧
    (15 < n.toNat → exec (.dshlb k dd da n) s = .next (faulted k 0x01 0x10 io 255 s) ∧
      exec (.dshrb k dd da n) s = .next (faulted k 0x01 0x10 io 255 s)) ∧
    (n.toNat ≤ 31 → exec (.dshln k dd da n) s = next (a * 2 ^ (4 * n.toNat)) ∧
      exec (.dshrn k dd da n) s = next (a / 2 ^ (4 * n.toNat))) ∧
    (31 < n.toNat → exec (.dshln k dd da n) s = .next (faulted k 0x01 0x10 io 255 s) ∧
      exec (.dshrn k dd da n) s = .next (faulted k 0x01 0x10 io 255 s))) ∧
  -- R187, R176: the nibble instructions. DECIM replaces each nibble v by nibble v of g, nibble 0 being g[63:60]; DADDM adds
  -- digits modulo 10 and leaves a nibble of da that is no digit, or meets none, as it is; DNIB puts the low n nibbles of g at
  -- nibbles p to p + n − 1 and faults ILLEGAL past nibble 31.
  (∀ (s : State) (k : Nat) (dd da db : BitVec 4) (g p : BitVec 5) (n1 : BitVec 4), Issues k s →
    Clear { d := [dd, da, db] } (run s k) →
    let x := run s k
    let a := getD x da
    let b := getD x db
    let next (opc : Nat) (reads : List Nat) (v : BitVec 128) (t : Bool) : Res :=
      .next (retired k opc ⟨reads, dR [dd]⟩ (x.pc + 1) (setD dd v t x) s)
    (∃ v, exec (.decim k dd da g) s = next 0x14 (dR [da] ++ gR [g]) v (taintD x da) ∧
      ∀ i, i < 32 → nib v i = (getG x g).toNat / 16 ^ (15 - nib a i) % 16) ∧
    (∃ v, exec (.daddm k dd da db) s = next 0x15 (dR [da, db]) v (taintD x da || taintD x db) ∧
      ∀ i, i < 32 → nib v i = if nib a i < 10 ∧ nib b i < 10 then (nib a i + nib b i) % 10 else nib a i) ∧
    (p.toNat + n1.toNat + 1 ≤ 32 →
      ∃ v, exec (.dnib k dd da g p n1) s = next 0x19 (dR [da] ++ gR [g]) v (taintD x da) ∧
        ∀ i, i < 32 → nib v i = if p.toNat ≤ i ∧ i ≤ p.toNat + n1.toNat
          then (getG x g).toNat / 16 ^ (p.toNat + n1.toNat - i) % 16 else nib a i) ∧
    (32 < p.toNat + n1.toNat + 1 →
      exec (.dnib k dd da g p n1) s = .next (faulted k 0x01 0x19 ⟨dR [da] ++ gR [g], dR [dd]⟩ 255 s)))

/-- Data comparisons, lane moves and random draws.  The comment before each part names the rules of the spec it follows. -/
def Obligations.DataComparesAndDraws : Prop :=
  -- R187, R177, R178: the instructions that join g and d registers and those that compare. DINS keeps the other lane and the
  -- taint; DEXT and DCMP of a tainted register fault TAINT; DCMPT and PINFMT spend one of four comparisons and reach g
  -- registers by flags only, and fault COMPARE_BUDGET with none left.
  (∀ (s : State) (k : Nat) (dd da db : BitVec 4) (g n : BitVec 5) (ln : Bool) (from_ : BitVec 2), Issues k s →
    Clear { d := [dd, da, db] } (run s k) →
    let x := run s k
    let a := getD x da
    let b := getD x db
    let next (opc : Nat) (io : Regs) (y : SeatRun) : Res := .next (retired k opc io (x.pc + 1) y s)
    let spent : SeatRun := { x with cmpLeft := x.cmpLeft - 1 }
    exec (.dins k dd g ln) s = next 0x11 ⟨dR [dd] ++ gR [g], dR [dd]⟩ (setD dd (setLane (getD x dd) (b2n ln) (getG x g)) (taintD x dd) x) ∧
    (taintD x da = false → exec (.dext k g da ln) s = next 0x12 ⟨dR [da], gR [g]⟩ (setG g (lane a (b2n ln)) x)) ∧
    (taintD x da = true → exec (.dext k g da ln) s = .next (faulted k 0x0A 0x12 ⟨dR [da], gR [g]⟩ da.toNat s)) ∧
    (taintD x da = false → taintD x db = false →
      exec (.dcmp k da db) s = next 0x13 ⟨dR [da, db], []⟩ (flagged (decide (a = b)) false (decide (a.toNat < b.toNat)) false x)) ∧
    (taintD x da = true → exec (.dcmp k da db) s = .next (faulted k 0x0A 0x13 ⟨dR [da, db], []⟩ da.toNat s)) ∧
    (x.cmpLeft ≠ 0 → exec (.dcmpt k da db n) s = next 0x16 ⟨dR [da, db], []⟩ (flagged
      (decide (∀ i < (if n = 0 then 32 else n.toNat), nib a i = nib b i)) false false false spent)) ∧
    (x.cmpLeft = 0 → exec (.dcmpt k da db n) s = .next (faulted k 0x0B 0x16 ⟨dR [da, db], []⟩ da.toNat s)) ∧
    (x.cmpLeft ≠ 0 → ∀ ds, pinDigits from_.toNat a = some ds → exec (.pinfmt k dd da from_ 0) s = next 0x17 ⟨dR [da], dR [dd]⟩
      (flagged true false false false (setD dd (pinField 0 ds 0) (taintD x da) spent))) ∧
    (x.cmpLeft ≠ 0 → pinDigits from_.toNat a = none → exec (.pinfmt k dd da from_ 0) s = next 0x17 ⟨dR [da], dR [dd]⟩
      (flagged false false false false (setD dd 0 (taintD x da) spent)))) ∧
  -- R187, R297: RND takes 16 bytes of its troupe's buffer into dd, untainted; PINFMT to a format with random fill takes 16
  -- bytes and re-forms a valid field. Whatever the generator gives, no other seat and no memory changes.
  (∀ (s : State) (k : Nat) (dd da : BitVec 4) (from_ to_ : BitVec 2), Issues k s → Clear { d := [dd, da] } (run s k) →
    drbgDown s = false → 16 ≤ (getTroupe s (troupeOfSeat k)).drbgBuf →
    (goTo ((run s k).pc + 1) (run s k)).pc < (getSeat s k).len →
    let x := run s k
    let drew (y : SeatRun) (t : State) : Prop := run t k = goTo (x.pc + 1) y ∧
      (getTroupe t (troupeOfSeat k)).drbgBuf = (getTroupe s (troupeOfSeat k)).drbgBuf - 16 ∧
      (∀ j, j ≠ k → getSeat t j = getSeat s j) ∧ t.hostMem = s.hostMem
    (∃ t r, exec (.rnd k dd) s = .next t ∧ drew (setD dd r false x) t) ∧
    (to_ ≠ 0 → x.cmpLeft ≠ 0 → ∀ ds, pinDigits from_.toNat (getD x da) = some ds →
      ∃ t r, exec (.pinfmt k dd da from_ to_) s = .next t ∧ drew (flagged true false false false
        (setD dd (pinField to_.toNat ds r) (taintD x da) { x with cmpLeft := x.cmpLeft - 1 })) t))

/-- Loads and stores of the seat's buffers.  The comment before each part names the rules of the spec it follows. -/
def Obligations.BufferInstructions : Prop :=
  -- R188, R176, R177: the buffer instructions of g registers, within their buffers or past the end (BOUNDS), least significant
  -- byte first. A load of scratch needs untainted granules; a store leaves the taint of its granules as it was.
  (∀ (s : State) (k : Nat) (r base : BitVec 5) (sz : BitVec 2) (off : BitVec 14), Issues k s →
    let x := run s k
    let a := (getG x base).toNat + off.toNat
    let n := 2 ^ sz.toNat
    let load : Regs := ⟨gR [base], gR [r]⟩
    let store : Regs := ⟨gR [base, r], []⟩
    let next (opc : Nat) (io : Regs) (y : SeatRun) : Res := .next (retired k opc io (x.pc + 1) y s)
    (a + n ≤ 256 →
      exec (.ldo k r base sz off) s = next 0x20 load (setG r (BitVec.ofNat 64 (leNat (operandBytes x a n))) x) ∧
      exec (.str k r base sz off) s = next 0x26 store (putResult a (toLE n (getG x r).toNat) x)) ∧
    (a + n ≤ 4096 → Clear { o := a, n := n } x →
      (scratchTaint x a n = false →
        exec (.lds k r base sz off) s = next 0x22 load (setG r (BitVec.ofNat 64 (leNat (scratchBytes x a n))) x)) ∧
      (scratchTaint x a n = true → exec (.lds k r base sz off) s = .next (faulted k 0x0A 0x22 load 255 s)) ∧
      exec (.sts k r base sz off) s = next 0x24 store { x with
        scratch := Tab.setList dB x.scratch a (toLE n (getG x r).toNat), sValid := x.sValid ||| granules a n }) ∧
    (256 < a + n →
      exec (.ldo k r base sz off) s = .next (faulted k 0x07 0x20 load 255 s) ∧
      exec (.str k r base sz off) s = .next (faulted k 0x07 0x26 store 255 s)) ∧
    (4096 < a + n →
      exec (.lds k r base sz off) s = .next (faulted k 0x07 0x22 load 255 s) ∧
      exec (.sts k r base sz off) s = .next (faulted k 0x07 0x24 store 255 s))) ∧
  -- R183, R184, R188, R176, R177: the buffer instructions of d registers, of 8 bytes (size 2) or 16 (size 3); with [25] set,
  -- or another size, ILLEGAL. Loads and stores of scratch carry the taint; a tainted register stored into the result buffer
  -- faults TAINT.
  (∀ (s : State) (k : Nat) (r base : BitVec 5) (sz : BitVec 2) (off : BitVec 14), Issues k s →
    let x := run s k
    let a := (getG x base).toNat + off.toNat
    let d : BitVec 4 := r.setWidth 4
    let load : Regs := ⟨gR [base], dR [d]⟩
    let store : Regs := ⟨gR [base] ++ dR [d], []⟩
    let next (opc : Nat) (io : Regs) (y : SeatRun) : Res := .next (retired k opc io (x.pc + 1) y s)
    (∀ m, (sz = 2 ∧ m = 8 ∨ sz = 3 ∧ m = 16) → r.toNat < 16 →
      (a + m ≤ 256 → Clear { d := [d] } x →
        exec (.ldod k r base sz off) s = next 0x21 load (setD d (dOfBytes (operandBytes x a m)) false x) ∧
        (taintD x d = false → exec (.strd k r base sz off) s = next 0x27 store (putResult a ((dBytes (getD x d)).take m) x)) ∧
        (taintD x d = true → exec (.strd k r base sz off) s = .next (faulted k 0x0A 0x27 store d.toNat s))) ∧
      (a + m ≤ 4096 → Clear { d := [d], o := a, n := m } x →
        exec (.ldsd k r base sz off) s = next 0x23 load (setD d (dOfBytes (scratchBytes x a m)) (scratchTaint x a m) x) ∧
        exec (.stsd k r base sz off) s = next 0x25 store (putScratch a ((dBytes (getD x d)).take m) (taintD x d) x)) ∧
      (256 < a + m → exec (.ldod k r base sz off) s = .next (faulted k 0x07 0x21 load d.toNat s))) ∧
    (16 ≤ r.toNat ∨ sz.toNat < 2 →
      exec (.ldod k r base sz off) s = .next (faulted k 0x01 0x21 load 255 s) ∧
      exec (.ldsd k r base sz off) s = .next (faulted k 0x01 0x23 load 255 s) ∧
      exec (.stsd k r base sz off) s = .next (faulted k 0x01 0x25 store 255 s) ∧
      exec (.strd k r base sz off) s = .next (faulted k 0x01 0x27 store 255 s)))

/-- Submission to the block unit and what its instructions compute.  The comment before each part names the rules of the spec it
follows. -/
def Obligations.BlockUnitInstructions : Prop :=
  -- R194, R195, R270, R272, R273: an operation for a block unit, MAU or hash unit. A unit that is not ready faults
  -- UNIT_NOT_READY; a full queue leaves the seat waiting, its instruction not retired; otherwise the operation is outstanding,
  -- its keys are pinned, its destinations are pending and the next instruction is at the next index, or, where the seat waits
  -- for the operation's end, at the same one.
  (∀ (s : State) (k : Nat) (o : PendOp), o.unit = .block ∨ o.unit = .mau ∨ o.unit = .hash →
    let x := run s k
    let n := unitOfSeat o.unit k
    let t := submitUnit k o x s
    ((getUnit s o.unit n).ready = false → t = seatFault k 0x14 o.opcode x.pc 255 false s) ∧
    ((getUnit s o.unit n).ready = true → (if o.unit = .block then 16 else 8) ≤ (unitOps s o.unit n).length →
      t = setRun k { x with wait := 5, waitOn := none, waitQ := some o.unit } s) ∧
    (UnitTakes k o.unit s → kDst o = none → o.try_ = false →
      (o.sync = false → (goTo (x.pc + 1) x).pc < (getSeat s k).len) →
      (run t k).ops = x.ops ++ [{ o with
        held := (getUnit s o.unit n).katReq || (getUnit s o.unit n).katBusy, at_ := s.units.opCtr }] ∧
      (run t k).pc = (if o.sync then x.pc else (goTo (x.pc + 1) x).pc) ∧
      (run t k).g = x.g ∧ (run t k).d = x.d ∧ (run t k).scratch = x.scratch ∧
      (∀ i v b, OpWrite.dreg i v b ∈ o.dsts → i < 16 → (run t k).dPend.getLsbD i = true) ∧
      (∀ j, j ≠ k → getSeat t j = getSeat s j) ∧ t.hostMem = s.hostMem ∧ (o.pins = [] → t.dies = s.dies) ∧
      (∀ e, o.pins = [e] → (getEntry t (dieOfSeat k) e).pins = (getEntry s (dieOfSeat k) e).pins + 1))) ∧
  -- R180, R192: BENC and BDEC with a block key whose usage allows them submit one block to the seat's block unit; the output
  -- is tainted as R180's row says: never for PIN encryption, always for PIN decryption, as the input for data.
  (∀ (s : State) (k : Nat) (dd ds : BitVec 4) (kx : BitVec 3) (h : Handle), Issues k s →
    Clear { d := [dd, ds], k := [kx] } (run s k) → getK (run s k) kx = some h → isBlockAlg h.attr.alg.toNat = true →
    let x := run s k
    let alg := h.attr.alg.toNat
    let key := (getEntry s (dieOfSeat k) h.entry).material
    let input := (dBytes (getD x ds)).take (blockLen alg)
    let io : Regs := ⟨kR [kx] ++ dR [ds], dR [dd]⟩
    let op (opc : Nat) (out : Bytes) (taint : Bool) : Res := .next (submitUnit k {
      unit := .block, opcode := opc, pc := x.pc,
      reg := kx.toNat, pins := [h.entry], dsts := [.dreg dd.toNat (dOfBytes (fit (blockLen alg) out)) taint] } x (issuing k opc io s))
    (h.attr.usage.toNat = uPIN_ENC → h.attr.perm.getLsbD pENC = true →
      exec (.benc k dd kx ds) s = op 0x28 (Config.blockEnc alg key input) false) ∧
    (h.attr.usage.toNat = uDATA → h.attr.perm.getLsbD pENC = true →
      exec (.benc k dd kx ds) s = op 0x28 (Config.blockEnc alg key input) (taintD x ds)) ∧
    (h.attr.usage.toNat = uPIN_ENC → h.attr.perm.getLsbD pDEC = true →
      exec (.bdec k dd kx ds) s = op 0x29 (Config.blockDec alg key input) true) ∧
    (h.attr.usage.toNat = uDATA → h.attr.perm.getLsbD pDEC = true →
      exec (.bdec k dd kx ds) s = op 0x29 (Config.blockDec alg key input) (taintD x ds)) ∧
    (h.attr.perm.getLsbD pDEC = false → exec (.bdec k dd kx ds) s = .next (faulted k 0x0C 0x29 io kx.toNat s))) ∧
  -- R180, R183, R192, R269: BSTR and BMAC over a range of scratch, and FFX under a key with 128-bit blocks, submit to the
  -- block unit. BSTR replaces its range and leaves the final IV in dd; BMAC leaves the MAC in dd, tainted as its range; FFX
  -- replaces two or more numerals.
  (∀ (s : State) (k : Nat) (dd ds : BitVec 4) (kx : BitVec 3) (ga : BitVec 5) (h : Handle) (o n : Nat), Issues k s →
    pair (run s k) ga = some (o, n) → o + n ≤ 4096 → getK (run s k) kx = some h → isBlockAlg h.attr.alg.toNat = true →
    Clear { d := [dd], k := [kx], o := o, n := n } (run s k) → Clear { d := [ds], k := [kx], o := o, n := n } (run s k) →
    let x := run s k
    let alg := h.attr.alg.toNat
    let key := (getEntry s (dieOfSeat k) h.entry).material
    let submitted (io : Regs) (p : PendOp) : Res := .next (submitUnit k { p with
      unit := .block, pc := x.pc, reg := kx.toNat, pins := [h.entry] } x (issuing k p.opcode io s))
    (∀ (m : Mode) (c : BitVec 7) (dec : Bool), bstrMode (c.toNat % 8) = some m → c.toNat < 16 → dec = c.getLsbD 3 →
      h.attr.usage.toNat = uDATA → h.attr.perm.getLsbD (if dec then pDEC else pENC) = true → n % blockLen alg = 0 →
      let r := cipherRange m dec alg key ((dBytes (getD x dd)).take (blockLen alg)) (scratchBytes x o n)
      let taint := scratchTaint x o n || taintD x dd
      exec (.bstr k kx dd ga c) s = submitted ⟨kR [kx] ++ dR [dd] ++ gR [ga, ga + 1], dR [dd]⟩ {
        unit := .block, opcode := 0x2A, pc := 0, blocks := blocksOf m alg n,
        dsts := [.scratch o r.1 taint, .dreg dd.toNat (dOfBytes (fit (blockLen alg) r.2)) taint] }) ∧
    (∀ a : BitVec 7, a.toNat < 2 → h.attr.usage.toNat = uMAC → h.attr.perm.getLsbD pGEN = true →
      exec (.bmac k dd kx ga a) s = submitted ⟨kR [kx] ++ gR [ga, ga + 1], dR [dd]⟩ {
        unit := .block, opcode := 0x2B, pc := 0, blocks := n / blockLen alg + 1,
        dsts := [.dreg dd.toNat (dOfBytes (macOf a.toNat alg key (scratchBytes x o n))) (scratchTaint x o n)] }) ∧
    (∀ fn : BitVec 7, fn.toNat / 4 ≤ 16 → h.attr.usage.toNat = uFPE → blockLen alg = 16 →
      h.attr.perm.getLsbD (if fn.getLsbD 0 then pDEC else pENC) = true → scratchTaint x o n = false → taintD x ds = false →
      let radix := if fn.getLsbD 1 then 36 else 10
      2 ≤ n → n ≤ 56 → 1000000 ≤ radix ^ n → (∀ b ∈ scratchBytes x o n, b.toNat < radix) →
      exec (.ffx k kx ds ga fn) s = submitted ⟨kR [kx] ++ dR [ds] ++ gR [ga, ga + 1], []⟩ {
        unit := .block, opcode := 0x2D, pc := 0, blocks := 10,
        dsts := [.scratch o (fit n ((Config.ff1 (fn.getLsbD 0) radix alg key ((dBytes (getD x ds)).take (fn.toNat / 4))
          ((scratchBytes x o n).map BitVec.toNat)).map fun v => BitVec.ofNat 8 (v % radix))) false] })) ∧
  -- R178, R192, R277: BMACV with a MAC key that may verify spends one comparison and submits to the block unit; the seat waits
  -- for the operation, which reaches the routine by Z only, over the first m = fn[6:3] + 1 bytes, m at least 4 (log 71); with
  -- no comparison left it faults COMPARE_BUDGET.
  (∀ (s : State) (k : Nat) (ds : BitVec 4) (kx : BitVec 3) (ga : BitVec 5) (fn : BitVec 7) (h : Handle) (o n : Nat),
    Issues k s → pair (run s k) ga = some (o, n) → o + n ≤ 4096 → getK (run s k) kx = some h →
    Clear { d := [ds], k := [kx], o := o, n := n } (run s k) → fn.toNat % 8 < 2 → 4 ≤ fn.toNat / 8 + 1 →
    h.attr.usage.toNat = uMAC → h.attr.perm.getLsbD pVER = true → isBlockAlg h.attr.alg.toNat = true →
    let x := run s k
    let m := fn.toNat / 8 + 1
    let mac := fit 16 (macOf (fn.toNat % 4) h.attr.alg.toNat (getEntry s (dieOfSeat k) h.entry).material (scratchBytes x o n))
    let io : Regs := ⟨kR [kx] ++ dR [ds] ++ gR [ga, ga + 1], []⟩
    (x.cmpLeft ≠ 0 → UnitTakes k .block s →
      ∃ t, exec (.bmacv k kx ds ga fn) s = .next t ∧ (run t k).cmpLeft = x.cmpLeft - 1 ∧ (run t k).pc = x.pc ∧
        (∃ p, (run t k).ops = x.ops ++ [p] ∧ p.unit = .block ∧ p.sync = true ∧ p.pins = [h.entry] ∧ p.fail = 0 ∧
          p.blocks = n / blockLen h.attr.alg.toNat + 1 ∧
          p.dsts = [.flags (decide (mac.take m = (dBytes (getD x ds)).take m))]) ∧
        (∀ j, j ≠ k → getSeat t j = getSeat s j) ∧ t.hostMem = s.hostMem) ∧
    (x.cmpLeft = 0 → exec (.bmacv k kx ds ga fn) s = .next (faulted k 0x0B 0x2C io ds.toNat s)))

/-- The hash and MAU instructions.  The comment before each part names the rules of the spec it follows. -/
def Obligations.HashAndMauInstructions : Prop :=
  -- R192, R269, R270, R294: HSTART opens the seat's one hash context (keyed by an HMAC key where fn[3] is 1, whose entry stays
  -- pinned), HDATA appends a range to it, HEND frees it and leaves the digest, tainted as what was absorbed. Each is an
  -- operation of the troupe's hash unit.
  (∀ (s : State) (k : Nat) (kx : BitVec 3) (ga : BitVec 5) (dd : BitVec 4) (fn : BitVec 7) (src : BitVec 6), Issues k s →
    UnitTakes k .hash s →
    let x := run s k
    let d := dieOfSeat k
    (fn.toNat < 7 → exec (.hstart k kx fn) s = .next (submitUnit k { unit := .hash, opcode := 0x1C, pc := x.pc, reg := 255, blocks := 0 }
      { x with hash := some { alg := fn.toNat } } (dropHash k x (issuing k 0x1C ⟨kR [kx], []⟩ s)))) ∧
    (∀ h, 8 ≤ fn.toNat → fn.toNat < 14 → Clear { k := [kx] } x → getK x kx = some h → h.attr.usage.toNat = uHMAC →
      h.attr.perm.getLsbD pGEN = true ∨ h.attr.perm.getLsbD pVER = true → h.attr.alg = 7 →
      exec (.hstart k kx fn) s = .next (submitUnit k {
        unit := .hash, opcode := 0x1C, pc := x.pc, reg := kx.toNat, blocks := 0 }
        { x with hash := some { alg := fn.toNat - 8, key := some (getEntry s d h.entry).material, pin := some h.entry } }
        (dropHash k x (pin d h.entry (issuing k 0x1C ⟨kR [kx], []⟩ s))))) ∧
    (∀ c o n b, x.hash = some c → pair x ga = some (o, n) → src.toNat ≤ 2 → o + n ≤ (if src = 0 then 4096 else 256) →
      Clear { o := o, n := if src = 0 then n else 0 } x →
      b = (if src = 0 then scratchBytes x o n else if src = 1 then operandBytes x o n else resultBytes x o n) →
      (goTo (x.pc + 1) x).pc < (getSeat s k).len →
      ∃ t, exec (.hdata k ga src) s = .next t ∧
        (run t k).hash = some { c with data := c.data ++ b, taint := c.taint || (decide (src = 0) && scratchTaint x o n) } ∧
        (∃ p, (run t k).ops = x.ops ++ [p] ∧ p.unit = .hash ∧ p.dsts = [] ∧ p.fail = 0 ∧
          p.blocks = dataBlocks c.alg c.data.length b.length) ∧ ∀ j, j ≠ k → getSeat t j = getSeat s j) ∧
    (∀ c dig, x.hash = some c →
      dig = fit (digestLen c.alg) (match c.key with
        | some key => Config.hmac c.alg key c.data
        | none => Config.hash c.alg c.data) →
      let closed : SeatRun := { x with hash := none, sha1 := if c.alg = 6 then x.sha1 ++ [dig] else x.sha1 }
      let u := issuing k 0x1E ⟨gR [ga], dR [dd, dd + 1, dd + 2, dd + 3]⟩ s
      (fn = 1 → (getG x ga).toNat + digestLen c.alg ≤ 4096 → Clear { o := (getG x ga).toNat, n := digestLen c.alg } x →
        exec (.hend k dd ga fn) s = .next (freeHash k c {
          unit := .hash, opcode := 0x1E, pc := x.pc, blocks := endBlocks c,
          dsts := [.scratch (getG x ga).toNat dig c.taint] } closed u)) ∧
      (fn = 0 → dd.toNat + (digestLen c.alg + 15) / 16 ≤ 16 →
        Clear { d := (List.range ((digestLen c.alg + 15) / 16)).map (fun i => dd + BitVec.ofNat 4 i), o := (getG x ga).toNat } x →
        exec (.hend k dd ga fn) s = .next (freeHash k c {
          unit := .hash, opcode := 0x1E, pc := x.pc, reg := dd.toNat, blocks := endBlocks c,
          dsts := digestRegs dd.toNat c.taint dig } closed u)))) ∧
  -- R193, R264, R289 to R292: the MAU instructions submit on their ticket. MEXP writes m^e of its input, and ends in
  -- UNIT_OPERAND where an operand is outside R291; MSIGN writes a signature by a signing key's private part over the digest at
  -- gb, with random input from the troupe's buffer where the scheme takes it, or the Z_A of an SM2 key; MVER writes 1 for a
  -- valid signature and 0 otherwise, by a key of a handle or by one that follows the signature in scratch (log 36).
  (∀ (s : State) (k : Nat) (t : BitVec 2) (ga gb gc : BitVec 5) (kx : BitVec 3) (fn : BitVec 6), Issues k s →
    (∀ u : Uses, u.d = [] → u.ticket = none ∨ u.ticket = some t.toNat → Clear u (run s k)) →
    let x := run s k
    let o := (getG x ga).toNat
    let i := (getG x gb).toNat
    let g := (getG x gc).toNat
    let submitted (io : Regs) (p : PendOp) : Res := .next (submitUnit k { p with unit := .mau, pc := x.pc, ticket := some t.toNat } x
      (issuing k p.opcode io s))
    let keyed : Regs := ⟨kR [kx] ++ gR [ga, gb, gc], []⟩
    let material (h : Handle) : Bytes := (getEntry s (dieOfSeat k) h.entry).material
    (∀ ln le, ln = leNat (scratchBytes x g 2) → le = leNat (scratchBytes x (g + 2) 2) → g + 8 + ln + le ≤ 4096 →
      i + ln ≤ 4096 → o + ln ≤ 4096 → scratchTaint x g (8 + ln + le) = false → scratchTaint x i ln = false →
      128 ≤ ln → ln ≤ 512 → ln % 4 = 0 → 1 ≤ le → le ≤ 512 → leNat (scratchBytes x (g + 4) 4) = 0 →
      beNat (scratchBytes x (g + 8) ln) % 2 = 1 → 128 ≤ (byteAt 0 (scratchBytes x (g + 8) ln)).toNat →
      beNat (scratchBytes x i ln) < beNat (scratchBytes x (g + 8) ln) →
      exec (.mexp k t ga gb gc) s = submitted ⟨gR [ga, gb, gc], []⟩ {
        unit := .mau, opcode := 0x0A, pc := 0,
        dsts := [.scratch o (fit ln (Config.modExp (scratchBytes x (g + 8) ln) (scratchBytes x (g + 8 + ln) le) (scratchBytes x i ln)))
          false] }) ∧
    (∀ h, getK x kx = some h → h.attr.usage.toNat = uSIG_PRIV → h.attr.perm.getLsbD pSIGN = true → sigAlg h.attr.alg.toNat = true →
      let alg := h.attr.alg.toNat
      let n := digestRoom alg i
      let signed (r : BitVec 128) : List OpWrite := [.scratch o (fit (sigLen h.attr) (Config.sign alg (fn.toNat % 2) (material h)
        (scratchBytes x i n) [] r)) (scratchTaint x i n)]
      (sha1At x i = false → fn.toNat < 2 → i + 32 ≤ 4096 → o + sigLen h.attr ≤ 4096 → alg = 0xC ∨ alg = 0xE →
        exec (.msign k t ga gb gc kx fn) s = submitted keyed {
          unit := .mau, opcode := 0x0B, pc := 0, reg := kx.toNat, pins := [h.entry],
          fail := if rsaPrivOk h.attr (material h) then 0 else 0x10, dsts := signed 0 }) ∧
      (sha1At x i = false → fn.toNat < 2 → i + 32 ≤ 4096 → o + sigLen h.attr ≤ 4096 → ¬ (alg = 0xC ∨ alg = 0xE) →
        UnitTakes k .mau s → drbgDown s = false → curveLen alg ≤ (getTroupe s (troupeOfSeat k)).drbgBuf →
        (goTo (x.pc + 1) x).pc < (getSeat s k).len →
        ∃ u r p, exec (.msign k t ga gb gc kx fn) s = .next u ∧ (run u k).ops = x.ops ++ [p] ∧ p.unit = .mau ∧
          p.ticket = some t.toNat ∧ p.dsts = signed r ∧ (∀ j, j ≠ k → getSeat u j = getSeat s j)) ∧
      (∀ l, alg = 0xD → fn = 2 ∨ fn = 3 → l = leNat (scratchBytes x g 2) → g + 2 + l ≤ 4096 → o + 32 ≤ 4096 →
        exec (.msign k t ga gb gc kx fn) s = submitted keyed {
          unit := .mau, opcode := 0x0B, pc := 0, reg := kx.toNat, pins := [h.entry], fail := if l = 0 ∨ 128 < l then 0x10 else 0,
          dsts := [.scratch o (fit 32 (Config.sm2Za (scratchBytes x (g + 2) l) (Config.publicKey 0xD (material h))))
            (scratchTaint x g (2 + l))] })) ∧
    (∀ h, getK x kx = some h → h.attr.usage.toNat = uSIG_PUB → h.attr.perm.getLsbD pVER = true →
      sigAlg h.attr.alg.toNat = true → fn.toNat < 2 → o < 4096 → i + 20 ≤ 4096 → g + sigLen h.attr ≤ 4096 →
      let n := digestRoom h.attr.alg.toNat i
      let sig := scratchBytes x g (sigLen h.attr)
      exec (.mver k t ga gb gc kx fn) s = submitted keyed {
        unit := .mau, opcode := 0x0C, pc := 0, reg := kx.toNat, pins := [h.entry],
        fail := if handleKeyOk h.attr (material h) sig then 0 else 0x10,
        dsts := [.scratch o [BitVec.ofNat 8 (b2n (Config.verify h.attr.alg.toNat (fn.toNat % 2) (material h) (scratchBytes x i n) sig))]
          (scratchTaint x i n || scratchTaint x g (sigLen h.attr))] }) ∧
    (∀ alg, keyTypeAlg (fn.toNat / 4) = some alg → fn.getLsbD 1 = true → o < 4096 → i + 20 ≤ 4096 →
      g + sigAndKeyLen alg g ≤ 4096 →
      let n := digestRoom alg i
      let r := sigAndKey alg (scratchBytes x g (sigAndKeyLen alg g))
      exec (.mver k t ga gb gc kx fn) s = submitted keyed {
        unit := .mau, opcode := 0x0C, pc := 0, reg := 255, pins := [], fail := if scratchKeyOk alg r.1 r.2 then 0 else 0x10,
        dsts := [.scratch o [BitVec.ofNat 8 (b2n (Config.verify alg (fn.toNat % 2) r.1 (scratchBytes x i n) r.2))]
          (scratchTaint x i n || scratchTaint x g (sigAndKeyLen alg g))] }))

/-- Host reads and writes of a routine, SBULK, and the ends of operations.  The comment before each part names the rules of the spec
it follows. -/
def Obligations.HostAccessAndOperationEnds : Prop :=
  -- R177, R197, R89: XLD submits a host read of 1 to 4,096 bytes into scratch; XST writes untainted scratch, or the result
  -- buffer, into host memory at the address in ga and nowhere else, poisoned where its internal check fails. Both pass the MEM
  -- gate with colour 6; a denied access fails later with HOST_ERROR. R49 (log 54): of a command taken before an FLR, XLD
  -- submits nothing and fails later with HOST_ERROR, and XST writes nothing.
  (∀ (s : State) (k : Nat) (t : BitVec 2) (ga gb gc : BitVec 5) (fn : BitVec 6), Issues k s →
    (∀ u : Uses, u.d = [] → u.k = [] → Clear u (run s k)) →
    let x := run s k
    let n := (getG x gc).toNat
    let io : Regs := ⟨gR [ga, gb, gc], []⟩
    let failed (opc : Nat) (dsts : List OpWrite) : SeatRun := { x with asyncs := x.asyncs ++
      [{ cause := 0x11, opcode := opc, pc := x.pc, ticket := some t.toNat, dsts := dsts }] }
    let into : List OpWrite := [.scratch (getG x ga).toNat (zeros n) false]
    let room := if fn = 1 then 256 else 4096
    (1 ≤ n → n ≤ 4096 → (getG x ga).toNat + n ≤ 4096 →
      ((gateAccess 6 true (getG x gb).toNat n 0 s).1 = true → seatMuted s k = false →
        exec (.xld k t ga gb gc) s = .next (submit k {
          unit := .host, ticket := some t.toNat, opcode := 0x2E, pc := x.pc, dsts := into } x (issuing k 0x2E io s))) ∧
      ((gateAccess 6 true (getG x gb).toNat n 0 s).1 = true → seatMuted s k = true →
        exec (.xld k t ga gb gc) s = .next (retired k 0x2E io (x.pc + 1) (failed 0x2E into) s)) ∧
      ((gateAccess 6 true (getG x gb).toNat n 0 s).1 = false →
        exec (.xld k t ga gb gc) s = .next (commit k (x.pc + 1) (failed 0x2E into)
          (gateAccess 6 true (getG x gb).toNat n 0 (issuing k 0x2E io s)).2))) ∧
    (fn.toNat ≤ 1 → (getG x gb).toNat + n ≤ room → (fn = 0 → scratchTaint x (getG x gb).toNat n = false) →
      ((gateAccess 6 true (getG x ga).toNat n 1 s).1 = true → (goTo (x.pc + 1) x).pc < (getSeat s k).len → seatMuted s k = false →
        ∃ u, exec (.xst k t ga gb gc fn) s = .next u ∧
          Wrote (getG x ga).toNat (if fn = 1 then resultBytes x (getG x gb).toNat n else scratchBytes x (getG x gb).toNat n) s u ∧
          run u k = goTo (x.pc + 1) x ∧ ∀ j, j ≠ k → getSeat u j = getSeat s j) ∧
      ((gateAccess 6 true (getG x ga).toNat n 1 s).1 = true → seatMuted s k = true →
        exec (.xst k t ga gb gc fn) s = .next (retired k 0x2F io (x.pc + 1) x s)) ∧
      ((gateAccess 6 true (getG x ga).toNat n 1 s).1 = false →
        exec (.xst k t ga gb gc fn) s = .next (commit k (x.pc + 1) (failed 0x2F [])
          (gateAccess 6 true (getG x ga).toNat n 1 (issuing k 0x2F io s)).2))) ∧
    (fn = 0 → (getG x gb).toNat + n ≤ 4096 → scratchTaint x (getG x gb).toNat n = true →
      exec (.xst k t ga gb gc fn) s = .next (faulted k 0x0A 0x2F io 255 s))) ∧
  -- R181, R194 to R197, R200, R271, R322: the ends of operations. A fill that finds its key opens it; a host read that brings
  -- data, and a unit operation that does not fail, write their destinations and leave the seat; one that makes a key leaves
  -- its handle in its k register; KCV and BMACV go on with their result (log 71). A failure is an asynchronous fault that the
  -- seat takes when the destination or the ticket is next used; one of an instruction that is not done faults at once. A
  -- routine that has reached END ends with its last operation.
  (∀ (s : State) (k : Nat) (o : PendOp), (run s k).ops = [o] →
    let x := run s k
    let d := dieOfSeat k
    let fault (cause : Nat) : AsyncFault := { cause := cause, opcode := o.opcode, pc := o.pc, reg := o.reg, ticket := o.ticket, dsts := o.dsts }
    let others (t : State) : Prop := ∀ j, j ≠ k → (run s j).wait ≠ 5 → getSeat t j = getSeat s j
    (∀ b off n, x.ending = none → o.newKey = none → o.sync = false → o.unit = .host → o.ticket = some 0 →
      o.dsts = [.scratch off (zeros n) false] →
      (∃ t, exec (.hostReadComplete k 0 (.ok b)) s = .next t ∧ (run t k).ops = [] ∧ (run t k).tickets = 0 ∧
        (run t k).sPend = 0 ∧ (run t k).scratch = (putScratch off (fit n b) false x).scratch ∧
        (∀ j, j ≠ k → getSeat t j = getSeat s j) ∧ t.hostMem = s.hostMem) ∧
      (∃ t, exec (.hostReadComplete k 0 .error) s = .next t ∧ (run t k).ops = [] ∧ (run t k).scratch = x.scratch ∧
        (run t k).asyncs = x.asyncs ++ [fault 0x11]) ∧
      (∃ t, exec (.hostReadComplete k 0 .poison) s = .next t ∧ (run t k).ops = [] ∧ (run t k).scratch = x.scratch ∧
        (run t k).asyncs = x.asyncs ++ [fault 0x12])) ∧
    (∀ v tn, x.ending = none → o.newKey = none → o.sync = false → o.unit = .block → o.held = false → o.dsts = [.dreg 3 v tn] →
      (o.fail = 0 → ∃ t, exec (.unitOpComplete k .block false) s = .next t ∧ (run t k).ops = [] ∧ (run t k).dPend = 0 ∧
        getD (run t k) 3 = v ∧ taintD (run t k) 3 = tn ∧ others t) ∧
      (∃ t, exec (.unitOpComplete k .block true) s = .next t ∧ getD (run t k) 3 = getD x 3 ∧
        (run t k).asyncs = x.asyncs ++ [fault 0x13] ∧ (getUnit t .block (unitOfSeat .block k)).check = true)) ∧
    (x.ending = none → o.newKey = none → o.sync = true → o.unit = .block → o.held = false → o.fail = 0 →
      (goTo (x.pc + 1) x).pc < (getSeat s k).len →
      (∀ e, o.dsts = [.flags e] → ∃ t, exec (.unitOpComplete k .block false) s = .next t ∧ (run t k).ops = [] ∧ (run t k).z = e ∧
        (run t k).n = false ∧ (run t k).c = false ∧ (run t k).v = false ∧ (run t k).pc = (goTo (x.pc + 1) x).pc ∧ others t) ∧
      (∀ r v, o.dsts = [.greg r v] → r < 32 → ∃ t, exec (.unitOpComplete k .block false) s = .next t ∧ (run t k).ops = [] ∧
        getG (run t k) (BitVec.ofNat 5 r) = (if r = 0 then 0 else v) ∧ (run t k).pc = (goTo (x.pc + 1) x).pc ∧ others t)) ∧
    (∀ i nk, x.ending = none → o.newKey = some nk → o.persist = false → o.dsts = [.kreg i] → i < 8 → o.unit = .block → o.held = false →
      o.fail = 0 → getK x (BitVec.ofNat 3 i) = none →
      ∃ t h, exec (.unitOpComplete k .block false) s = .next t ∧ (run t k).ops = [] ∧ (run t k).kPend = 0 ∧
        getK (run t k) (BitVec.ofNat 3 i) = some h ∧ h.attr = nk.attr ∧ h.slot = nk.slot ∧ h.gen = nk.gen ∧ h.transient = true ∧
        (getEntry t d h.entry).material = nk.material ∧ others t) ∧
    (∀ out i, x.ending = some out → x.endOk = true → o.unit = .block ∨ o.unit = .hash → o.held = false → o.fail = 0 → o.dsts = [] →
      (getSeat s k).run = some i.id → getItem s i.id = some i → wingItem s k = none → (getSeat s (k - 1)).suspended = false →
      ∃ t, exec (.unitOpComplete k (if o.unit = .block then .block else .hash) false) s = .next t ∧
        getItem t i.id = some { i with place := .returning d, outcome := some out } ∧ (getSeat t k).run = none ∧
        t.hostMem = s.hostMem) ∧
    (∀ e, x.ending = none → o.unit = .key → o.try_ = false → o.dsts = [.kreg o.reg] → o.reg < 8 → dieKept s d = true →
      findRef (getDie s d).kc o.ref = some e → refIsDir o.ref = true → (dirAccess (refIndex o.ref) 0 s).1 = true → s.dir.key.isSome = true →
      (getDir s (refIndex o.ref)).issue.toNat = refIssue o.ref → (getDir s (refIndex o.ref)).issue ≠ 0 →
      (getDir s (refIndex o.ref)).part = refPart o.ref →
      (slotRec s (refPart o.ref) (getDir s (refIndex o.ref)).slot).word.toNat ≤ (getDir s (refIndex o.ref)).gen.toNat →
      (dieGen s d (refPart o.ref) (getDir s (refIndex o.ref)).slot).toNat ≤ (getDir s (refIndex o.ref)).gen.toNat →
      (∃ t h, exec (.keyFillComplete ⟨k, false⟩) s = .next t ∧ (run t k).ops = [] ∧ getK (run t k) (BitVec.ofNat 3 o.reg) = some h ∧
        h.entry = e ∧ h.attr = (getDir s (refIndex o.ref)).attr ∧ (run t k).kPend = 0) ∧
      (∃ t, exec (.keyFillComplete ⟨k, true⟩) s = .next t ∧ (run t k).ops = [] ∧
        (run t k).asyncs = x.asyncs ++ [{ cause := 0x13, opcode := o.opcode, pc := o.pc, reg := o.reg, dsts := o.dsts }]))) ∧
  -- R279, R280, R282, R287: SBULK with a data key that may do what the descriptor asks puts a job on its die's SCU, with the
  -- descriptor, the key and the seat, and its ticket is outstanding; the SCU of another partition's lock refuses it
  -- UNIT_NOT_READY and counts it, a malformed descriptor is UNIT_OPERAND and counted.
  (∀ (s : State) (k : Nat) (t : BitVec 2) (ga : BitVec 5) (kx : BitVec 3) (h : Handle), Issues k s →
    (∀ u : Uses, u.d = [] → Clear u (run s k)) → getK (run s k) kx = some h → (getG (run s k) ga).toNat + 64 ≤ 4096 →
    (getG (run s k) ga).toNat % 16 = 0 →
    let x := run s k
    let d := dieOfSeat k
    let o := (getG x ga).toNat
    let desc := scratchBytes x o 64
    let u := getScu s d
    let p := (getSeat s k).part
    let at_ := issuing k 0x36 ⟨kR [kx] ++ gR [ga], []⟩ s
    let job : ScuJob := {
      no := 0, seat := k, part := p, desc := desc, off := o, taint := scratchTaint x o 64,
      alg1 := h.attr.alg.toNat, key1 := (getEntry s d h.entry).material }
    ((u.exclusive = false ∨ u.owner.toNat = p) → u.ready = true → descBad desc = false → descReenc desc = false →
      h.attr.usage.toNat = uDATA → h.attr.perm.getLsbD (if descDec desc then pDEC else pENC) = true → isAes h.attr.alg.toNat = true →
      exec (.sbulk k t ga kx) s = .next (acceptJob k t o [h.entry] job x at_) ∧
      (u.katReq = false → u.katBusy = false → u.queue = [] → u.active.length < 32 →
        ∃ t', exec (.sbulk k t ga kx) s = .next t' ∧ (getScu t' d).active = u.active ++ [{ job with no := u.next }] ∧
          (getScu t' d).queue = [])) ∧
    (u.exclusive = true → u.owner.toNat ≠ p →
      exec (.sbulk k t ga kx) s = .next (seatFault k 0x14 0x36 x.pc 255 false (scuRefused d p at_))) ∧
    ((u.exclusive = false ∨ u.owner.toNat = p) → u.ready = true → descBad desc = true →
      exec (.sbulk k t ga kx) s = .next (seatFault k 0x10 0x36 x.pc 255 false (scuAborted d at_))))

/-- What a routine may read of a key, and KOPEN.  The comment before each part names the rules of the spec it follows. -/
def Obligations.KeyReadingAndOpening : Prop :=
  -- R174, R179, R181, R190, R277: what a routine may do with an open key without using it. KINFO reads its attribute word or
  -- its reference (zero for a transient key), KCV submits its check value to the block unit and waits for it (log 71), KCLOSE
  -- releases the key; an empty k register faults EMPTY_KEY.
  (∀ (s : State) (k : Nat) (ga : BitVec 5) (kx : BitVec 3) (fn : BitVec 7), Issues k s → Clear { k := [kx] } (run s k) →
    fn.toNat ≤ 1 →
    let x := run s k
    let io : Regs := ⟨kR [kx], gR [ga]⟩
    let close : Regs := ⟨kR [kx], kR [kx]⟩
    let next (v : Nat) : Res := .next (retired k 0x3A io (x.pc + 1) (setG ga (BitVec.ofNat 64 v) x) s)
    (∀ h, getK x kx = some h →
      (fn = 0 → exec (.kinfo k ga kx fn) s = next (attrWord h.attr h.transient)) ∧
      (fn = 1 → exec (.kinfo k ga kx fn) s = next (if h.transient then 0 else h.ref.toNat)) ∧
      (isBlockAlg h.attr.alg.toNat = true →
        let m := (getEntry s (dieOfSeat k) h.entry).material
        exec (.kcv k ga kx fn) s = .next (submitUnit k {
          unit := .block, opcode := 0x3B, pc := x.pc, reg := kx.toNat, pins := [h.entry], sync := true,
          dsts := [.greg ga.toNat (BitVec.ofNat 64 (leNat (if fn = 0 then kcvEnc h.attr.alg.toNat m else kcvCmac h.attr.alg.toNat m)))] }
          x (issuing k 0x3B io s))) ∧
      (isBlockAlg h.attr.alg.toNat = false → exec (.kcv k ga kx fn) s = .next (faulted k 0x0C 0x3B io kx.toNat s)) ∧
      exec (.kclose k kx 0) s = .next (commit k (x.pc + 1) (setK kx none x) (unpin (dieOfSeat k) h.entry (issuing k 0x39 close s)))) ∧
    (getK x kx = none →
      exec (.kinfo k ga kx fn) s = .next (faulted k 0x08 0x3A io kx.toNat s) ∧
      exec (.kcv k ga kx fn) s = .next (faulted k 0x08 0x3B io kx.toNat s) ∧
      exec (.kclose k kx 0) s = .next (faulted k 0x08 0x39 close kx.toNat s))) ∧
  -- R174, R181, R316, R322, R323: KOPEN. A reference of another partition is KEY_NOT_FOUND; with TRY it clears Z, leaves the
  -- register empty and goes on (log 72). One whose key is in the die's cache at a current generation opens at once and, with
  -- TRY, sets Z; one that is not starts a fill, and its register is pending; with TRY the seat waits for it in state 6.
  (∀ (s : State) (k : Nat) (ga : BitVec 5) (kx : BitVec 3) (fn : BitVec 7), Issues k s → Clear { k := [kx] } (run s k) →
    fn.toNat ≤ 1 → (goTo ((run s k).pc + 1) (run s k)).pc < (getSeat s k).len →
    let x := run s k
    let ref := getG x ga
    (refPart ref ≠ (getSeat s k).part →
      (fn = 1 → ∃ t, exec (.kopen k kx ga fn) s = .next t ∧ (run t k).z = false ∧ getK (run t k) kx = none ∧
        (run t k).pc = (goTo (x.pc + 1) x).pc ∧ (∀ j, j ≠ k → getSeat t j = getSeat s j)) ∧
      (fn = 0 → ∃ t, exec (.kopen k kx ga fn) s = .next t ∧ (getSeat t k).fault.valid = true ∧ (getSeat t k).fault.cause = 0x0E)) ∧
    (∀ e, refOk ref = true → refPart ref = (getSeat s k).part → seatPins (setK kx none x) < 8 →
      findRef (getDie s (dieOfSeat k)).kc ref = some e →
      (dieGen s (dieOfSeat k) (getEntry s (dieOfSeat k) e).part (getEntry s (dieOfSeat k) e).slot).toNat ≤
        (getEntry s (dieOfSeat k) e).gen.toNat →
      ∃ t, exec (.kopen k kx ga fn) s = .next t ∧ getK (run t k) kx = some (handleOf e (getEntry s (dieOfSeat k) e)) ∧
        (fn = 1 → (run t k).z = true) ∧ (run t k).pc = (goTo (x.pc + 1) x).pc ∧ (∀ j, j ≠ k → getSeat t j = getSeat s j)) ∧
    (refOk ref = true → refPart ref = (getSeat s k).part → seatPins (setK kx none x) < 8 →
      findRef (getDie s (dieOfSeat k)).kc ref = none → refIsDir ref = true ∨ s.vault.ready = true →
      ∃ t, exec (.kopen k kx ga fn) s = .next t ∧ (run t k).kPend.getLsbD kx.toNat = true ∧
        (∃ o ∈ (run t k).ops, o.unit = .key ∧ o.ref = ref ∧ o.try_ = decide (fn = 1)) ∧
        (fn = 1 → (run t k).wait = 6 ∧ (run t k).pc = x.pc) ∧ (∀ j, j ≠ k → getSeat t j = getSeat s j)))

/-- The instructions that make keys.  The comment before each part names the rules of the spec it follows. -/
def Obligations.KeyMakingInstructions : Prop :=
  -- R190, R191, R277, R308, R324: KDERIVE, KUNWRAP and KGEN submit to the block unit the key they make in kx, of the
  -- attributes their method, block or template gives; a derived key keeps its parent's root slot, and a generated one takes
  -- that of log 32. KWRAP writes a key block into its range and the block's length beside it.
  (∀ (s : State) (k : Nat) (ga : BitVec 5) (kx ky : BitVec 3) (ds : BitVec 4) (fn : BitVec 7), Issues k s →
    (∀ u : Uses, u.ticket = none → Clear u (run s k)) → seatPins (setK kx none (run s k)) < 8 →
    (goTo ((run s k).pc + 1) (run s k)).pc < (getSeat s k).len →
    let x := run s k
    let d := dieOfSeat k
    let p := (getSeat s k).part
    (∀ row h, deriveRow (fn.toNat % 16) (fn.toNat / 16) = some row → getK x ky = some h →
      mayUse h [row.1] pDRV = true → deriveAlgOk row.2.1 h.attr.alg.toNat = true → taintD x ds = false →
      counterBad (fn.toNat % 16) (dBytes (getD x ds)) = false →
      exec (.kderive k kx ky ds fn) s = .next (submitUnit k {
        unit := .block, opcode := 0x3C, pc := x.pc, reg := ky.toNat, pins := [h.entry], dsts := [.kreg kx.toNat],
        newKey := some (derived (fn.toNat % 16) (fn.toNat / 16) p h (getEntry s d h.entry) (dBytes (getD x ds)) row) }
        x (issuing k 0x3C ⟨kR [ky] ++ dR [ds], kR [kx]⟩ s))) ∧
    (∀ h o n nk, pair x ga = some (o, n) → o + n ≤ 4096 → getK x ky = some h → mayUse h [uKBPK] pUNWRAP = true →
      (dieGen s d (getEntry s d h.entry).part h.slot).toNat ≤ h.gen.toNat → fn.toNat ≤ 3 →
      openBlock (fn.toNat / 2) p h.slot h.gen h.attr.alg.toNat (getEntry s d h.entry).material (scratchBytes x o n) = (0, some nk) →
      exec (.kunwrap k kx ky ga fn) s = .next (submitUnit k {
        unit := .block, opcode := 0x3D, pc := x.pc, reg := ky.toNat, pins := [h.entry], dsts := [.kreg kx.toNat],
        newKey := some nk, persist := fn.getLsbD 0 } x (issuing k 0x3D ⟨kR [ky] ++ gR [ga, ga + 1], kR [kx]⟩ s))) ∧
    (templateOk (getG x ga).toNat = true → UnitTakes k .block s → drbgDown s = false →
      keyLen (attrOf (getG x ga).toNat).alg.toNat ≤ (getTroupe s (troupeOfSeat k)).drbgBuf →
      ∃ t m o, exec (.kgen k kx ga 0) s = .next t ∧ (run t k).ops = x.ops ++ [o] ∧ o.unit = .block ∧ o.dsts = [.kreg kx.toNat] ∧
        m.length = keyLen (attrOf (getG x ga).toNat).alg.toNat ∧
        o.newKey = some (mkKey (attrOf (getG x ga).toNat) p (genRoot k x s).1 (genRoot k x s).2 0 m) ∧
        (run t k).pc = (goTo (x.pc + 1) x).pc ∧ (∀ j, j ≠ k → getSeat t j = getSeat s j) ∧ t.hostMem = s.hostMem) ∧
    (∀ h ch o n b, pair x ga = some (o, n) → o + n ≤ 4096 → getK x ky = some h → getK x kx = some ch →
      mayUse h [uKBPK] pWRAP = true → exportOk ch.attr h.attr = true → drbgDown s = false → fn = 0 ∨ fn = 2 →
      sealBlock (fn.toNat / 2) h.attr.alg.toNat (getEntry s d h.entry).material ch.attr (getEntry s d ch.entry).x9
        (getEntry s d ch.entry).material (Config.drbg s.freeCtr) = some b → b.length ≤ n →
      ∃ t, exec (.kwrap k ga kx ky fn) s = .next t ∧
        run t k = goTo (x.pc + 1) (setG (ga + 1) (BitVec.ofNat 64 b.length) (putScratch o b false x)) ∧
        (∀ j, j ≠ k → getSeat t j = getSeat s j) ∧ t.hostMem = s.hostMem)) ∧
  -- R190, R205, R269, R290, R293: KAIMP and KAGREE submit to the MAU, with the key they will make; where an operand fails its
  -- check the operation ends in UNIT_OPERAND, or KEY_BLOCK_AUTH for a transported block that does not open, and makes none.
  -- SM2 key exchange also writes the device's ephemeral public key into its range.
  (∀ (s : State) (k : Nat) (ga : BitVec 5) (kx ky : BitVec 3) (h : Handle) (o n : Nat), Issues k s →
    Clear { k := [kx, ky], o := o, n := n } (run s k) → seatPins (setK kx none (run s k)) < 8 →
    pair (run s k) ga = some (o, n) → o + n ≤ 4096 → getK (run s k) ky = some h →
    let x := run s k
    let key := (getEntry s (dieOfSeat k) h.entry).material
    let b := scratchBytes x o n
    let alg := h.attr.alg.toNat
    let p := (getSeat s k).part
    let submitted (q : PendOp) : Res := .next (submitUnit k { q with
      unit := .mau, pc := x.pc, reg := ky.toNat, dsts := [.kreg kx.toNat], pins := [h.entry] } x
      (issuing k q.opcode ⟨kR [ky] ++ gR [ga, ga + 1], kR [kx]⟩ s))
    (∀ fn : BitVec 7, fn.toNat ≤ 1 → h.attr.usage.toNat = uKT_PRIV → h.attr.perm.getLsbD pUNWRAP = true →
      alg = (if fn = 0 then 0xE else 0xD) →
      let nk := (Config.keyTransport fn.toNat key b).bind (innerBlock p h)
      exec (.kaimp k kx ky ga fn) s = submitted { unit := .mau, opcode := 0x0D, pc := 0, newKey := nk,
                                                  fail := if transportBad fn.toNat h.attr key b then 0x10 else if nk.isNone then 0x0F else 0 }) ∧
    (h.attr.usage.toNat = uKA_PRIV → h.attr.perm.getLsbD pDRV = true → templateOk (leAt 0 4 b) = true → leAt 6 2 b = 0 →
      leAt 4 2 b = 2 * curveLen alg → 8 + leAt 4 2 b ≤ n →
      let a := attrOf (leAt 0 4 b)
      let makes (fn : Nat) (data : Bytes) : NewKey := mkKey a p h.slot h.gen 0
        (fit (keyLen a.alg.toNat) (Config.keyAgree fn alg key data (keyLen a.alg.toNat)))
      (9 ≤ alg → alg ≤ 0xB → (getUnit s .hash (unitOfSeat .hash k)).ready = true →
        (Config.validPublic alg (slice 8 (leAt 4 2 b) b) = true →
          exec (.kagree k kx ky ga 0) s = submitted { unit := .mau, opcode := 0x0E, pc := 0, newKey := some (makes 0 (b.drop 8)) }) ∧
        (Config.validPublic alg (slice 8 (leAt 4 2 b) b) = false →
          exec (.kagree k kx ky ga 0) s = submitted { unit := .mau, opcode := 0x0E, pc := 0, fail := 0x10 })) ∧
      (alg = 0xD → 264 ≤ n → UnitTakes k .mau s → drbgDown s = false → 32 ≤ (getTroupe s (troupeOfSeat k)).drbgBuf →
        (goTo (x.pc + 1) x).pc < (getSeat s k).len →
        let ok := Config.validPublic alg (slice 8 (leAt 4 2 b) b) && Config.validPublic alg (slice 72 64 b)
        ∃ t eph q, exec (.kagree k kx ky ga 1) s = .next t ∧ (run t k).ops = x.ops ++ [q] ∧ q.unit = .mau ∧ eph.length = 32 ∧
          (ok = true → q.fail = 0 ∧ q.newKey = some (makes 1 (b.drop 8 ++ eph)) ∧
            q.dsts = [.kreg kx.toNat, .scratch (o + 200) (fit 64 (Config.publicKey alg eph)) false]) ∧
          (ok = false → q.fail = 0x10 ∧ q.newKey = none ∧ q.dsts = [.kreg kx.toNat]) ∧
          (∀ j, j ≠ k → getSeat t j = getSeat s j))))

/-- PIN translation and the verify services.  The comment before each part names the rules of the spec it follows. -/
def Obligations.PinServices : Prop :=
  -- R195, R248, R249: PIN_TRANSLATE, whose routine ends with its operation in the block unit, opens the block under the source
  -- key, checks the PIN field, and answers the PIN re-formed for the destination format and enciphered under the destination
  -- key; with random fill where that format has it.
  (∀ (s : State) (k : Nat) (i : Item) (h h2 : Handle) (m m2 : Bytes) (pin : List Nat), LibRuns k 0x0100 i s →
    HasKey k 24 i h m s → HasKey2 k 24 32 i h2 m2 s →
    let sf := opLe i 40 1
    let df := opLe i 41 1
    let n := opLe i 42 1
    let pan := panOf i 44 n
    let used := sf ≠ 1 ∨ df ≠ 1
    pinFmt sf = true → pinFmt df = true → (df = 1 → sf = 1) → panLenOk [sf, df] n = true →
    Form i false (if sf = 4 then 2 else 1) (if sf = 4 then 56 else 40) →
    (used → digitField n (nibbles (opBytes i 44 10)) = true) → (¬ used → opLe i 44 10 = 0) →
    ZeroFields i ([(43, 1), (54, 2)] ++ if sf = 4 then [(56, 8)] else []) →
    pinAlgOk sf h.attr.alg.toNat = true → pinAlgOk df h2.attr.alg.toNat = true →
    mayUse h [uPIN_ENC] pDEC = true → mayUse h2 [uPIN_ENC] pENC = true →
    UnitTakes k .block s →
    pinDigits (pinCode sf) (pinOpen sf h.attr.alg.toNat m (opBytes i (if sf = 4 then 65 else 56) (pinLen sf)) pan) = some pin →
    (df = 0 ∨ (drbgDown s = false ∧ 16 ≤ (getTroupe s (troupeOfSeat k)).drbgBuf)) →
    ∃ t r, exec (.pinTranslate k) s = .next t ∧ (df = 0 → r = 0) ∧ t.hostMem = s.hostMem ∧
      LibEnding k i [.block] stOK (pinSeal df h2.attr.alg.toNat m2 (pinField (pinCode df) pin r) pan) false t) ∧
  -- R251, R252: PIN_VERIFY by the offset method answers a match only where the PIN has CHECK_LEN digits and they are those the
  -- validation data, the table and the offset give; EMV_ARQC_VERIFY answers the ARPC of method 1 for a cryptogram that the
  -- session key gives, and a mismatch otherwise.
  (∀ (s : State) (k : Nat) (i : Item) (h : Handle) (m : Bytes), HasKey k 24 i h m s →
    UnitTakes k .block s →
    (∀ h2 m2 pin, LibRuns k 0x0110 i s → HasKey2 k 24 32 i h2 m2 s → opLe i 40 1 = 0 → opLe i 41 1 = 0 →
      let n := opLe i 42 1
      let c := opLe i 43 1
      13 ≤ n → n ≤ 19 → 4 ≤ c → c ≤ 12 → Form i false 2 63 → digitField n (nibbles (opBytes i 44 10)) = true →
      ZeroFields i [(54, 2), (87, 1)] → tableOk (nibbles (opBytes i 73 8)) = true → digitField c (nibbles (opBytes i 81 6)) = true →
      isTdes h.attr.alg.toNat = true → isTdes h2.attr.alg.toNat = true → mayUse h [uPIN_ENC] pDEC = true →
      mayUse h2 [uPIN_VER] pVER = true →
      pinDigits 0 (pinOpen 0 h.attr.alg.toNat m (opBytes i 56 8) (panOf i 44 n)) = some pin →
      ∃ t, exec (.pinVerify k) s = .next t ∧ t.hostMem = s.hostMem ∧
        LibEnding k i [.block] (if pin.length = c ∧ pin = expectedPin (nibbles (fit 8 (Config.blockEnc h2.attr.alg.toNat m2 (opBytes i 65 8))))
          (nibbles (opBytes i 73 8)) (nibbles (opBytes i 81 6)) c then stOK else stVERIFY_MISMATCH) [] false t) ∧
    (LibRuns k 0x0200 i s → opLe i 32 1 = 1 →
      let n := opLe i 33 1
      let dl := opLe i 35 1
      1 ≤ n → n ≤ 16 → dl ≤ 63 → Form i false (if dl = 0 then 1 else 2) (40 + dl) → isDigits (nibbles (opBytes i 34 1)) = true →
      digitField n (nibbles (opBytes i 36 8)) = true → ZeroFields i [(46, 2), (58, 6)] → mayUse h [uEMV_MK] pDRV = true →
      (h.attr.alg = 1 ∨ isAes h.attr.alg.toNat = true) →
      let alg := h.attr.alg.toNat
      let mk := libDerive 4 0 alg m (packNibbles (rightmost 16 ((nibbles (opBytes i 36 8)).take n ++ nibbles (opBytes i 34 1))))
      let sk := (libDerive 5 0 alg mk.2 (opBytes i 44 2)).2
      ∃ t, exec (.emvArqcVerify k) s = .next t ∧ t.hostMem = s.hostMem ∧
        (emvMac alg sk (opBytes i 65 dl) = opBytes i 48 8 → LibEnding k i [.block] stOK (arpc1 alg sk (opBytes i 56 2) (opBytes i 48 8)) false t) ∧
        (emvMac alg sk (opBytes i 65 dl) ≠ opBytes i 48 8 → LibEnding k i [.block] stVERIFY_MISMATCH [] false t)))

/-- DUKPT, card-code and MAC services.  The comment before each part names the rules of the spec it follows. -/
def Obligations.DukptAndCodeServices : Prop :=
  -- R250, R255: the DUKPT services derive the terminal's working key from the BDK and the KSN, or key ID and counter, and use
  -- it once. PIN_TRANSLATE_DUKPT answers the re-enciphered PIN, DUKPT_MAC_VERIFY a match or mismatch.
  (∀ (s : State) (k : Nat) (i : Item) (h : Handle) (m : Bytes), HasKey k 24 i h m s →
    UnitTakes k .block s → mayUse h [uBDK] pDRV = true →
    let working (kind v : Nat) (data : Bytes) : Nat × Bytes :=
      let ik := libDerive (2 * kind) 0 h.attr.alg.toNat m data
      libDerive (2 * kind + 1) v ik.1 ik.2 data
    (∀ h2 m2 pin, LibRuns k 0x0101 i s → HasKey2 k 24 32 i h2 m2 s →
      opLe i 40 1 = 0 → opLe i 41 1 = 0 → opLe i 43 1 = 0 → 13 ≤ opLe i 42 1 → opLe i 42 1 ≤ 19 →
      digitField (opLe i 42 1) (nibbles (opBytes i 44 10)) = true → Form i false 2 63 →
      ZeroFields i [(54, 10), (75, 2), (77, 3)] → isTdes h.attr.alg.toNat = true → isTdes h2.attr.alg.toNat = true →
      mayUse h2 [uPIN_ENC] pENC = true → counterBad 1 (opBytes i 65 12) = false →
      let w := working 0 0 (opBytes i 65 12)
      let pan := panOf i 44 (opLe i 42 1)
      pinDigits 0 (pinOpen 0 w.1 w.2 (opBytes i 80 8) pan) = some pin →
      ∃ t, exec (.pinTranslateDukpt k) s = .next t ∧ t.hostMem = s.hostMem ∧
        LibEnding k i [.block] stOK (pinSeal 0 h2.attr.alg.toNat m2 (pinField 0 pin 0) pan) false t) ∧
    (LibRuns k 0x0500 i s →
      let kind := opLe i 32 1
      let l := opLe i 33 1
      let dl := itemOplen i - 40
      itemPointer i = false → itemChunks i = 2 → 1 ≤ dl → dl ≤ 63 → kind ≤ 1 → 4 ≤ l → l ≤ 16 →
      ZeroFields i ([(34, 2)] ++ if kind = 0 then [(46, 2)] else []) → leNat ((opBytes i 48 16).drop l) = 0 →
      kindAlgOk kind h.attr.alg.toNat = true → (isTdes h.attr.alg.toNat = true → l ≤ 8) →
      counterBad (2 * kind + 1) (opBytes i 36 12) = false →
      let w := working kind 1 (opBytes i 36 12)
      let mac := fit 16 (macOf (if isTdes w.1 then 2 else 0) w.1 w.2 (opBytes i 65 dl))
      ∃ t, exec (.dukptMacVerify k) s = .next t ∧ t.hostMem = s.hostMem ∧
        LibEnding k i [.block] (if mac.take l = (opBytes i 48 16).take l then stOK else stVERIFY_MISMATCH) [] false t)) ∧
  -- R253, R254: CVC_GENERATE answers the code's digits, CVC_VERIFY whether the given digits are they; MAC_GENERATE answers the
  -- first bytes of the MAC of the data, inline or in host memory, MAC_VERIFY whether the given bytes are they.
  (∀ (s : State) (k : Nat) (i : Item) (h : Handle) (m : Bytes), UnitTakes k .block s →
    (let n := opLe i 32 1
     let c := opLe i 33 1
     HasKey k 24 i h m s → Form i false 1 40 → 13 ≤ n → n ≤ 19 → 3 ≤ c → c ≤ 5 → digitField n (nibbles (opBytes i 34 10)) = true →
      isDigits (nibbles (opBytes i 44 2)) = true → digitField 3 (nibbles (opBytes i 46 2)) = true → ZeroFields i [(51, 13)] →
      isTdes h.attr.alg.toNat = true ∨ isAes h.attr.alg.toNat = true → mayUse h [uCVK] pGEN = true →
      let d := cvcDigits h.attr.alg.toNat m (panOf i 34 n ++ nibbles (opBytes i 44 2) ++ (nibbles (opBytes i 46 2)).take 3) c
      (LibRuns k 0x0300 i s → opLe i 48 3 = 0 → ∃ t, exec (.cvcGenerate k) s = .next t ∧ t.hostMem = s.hostMem ∧
        LibEnding k i [.block] stOK (packNibbles (d ++ List.replicate (6 - d.length) 15)) false t) ∧
      (LibRuns k 0x0301 i s → digitField c (nibbles (opBytes i 48 3)) = true →
        ∃ t, exec (.cvcVerify k) s = .next t ∧ t.hostMem = s.hostMem ∧
        LibEnding k i [.block] (if d = (nibbles (opBytes i 48 3)).take c then stOK else stVERIFY_MISMATCH) [] false t)) ∧
    (let a := opLe i 32 1
     let l := opLe i 33 1
     let dl := itemOplen i - 32
     let mac := (fit 16 (macOf a h.attr.alg.toNat m (opBytes i 56 dl))).take l
     ∀ buf, HasKey k 24 i h m s → itemPointer i = false → 32 ≤ itemOplen i → dl ≤ 71 → a ≤ 2 → (a = 2 → h.attr.alg = 1) →
      4 ≤ l → l ≤ 16 → (isTdes h.attr.alg.toNat = true → l ≤ 8) → isBlockAlg h.attr.alg.toNat = true → ZeroFields i [(34, 6)] →
      (LibRuns k 0x0400 i s → mayUse h [uMAC] pGEN = true → opLe i 40 16 = 0 →
        ∃ t, exec (.macGenerate k buf) s = .next t ∧ t.hostMem = s.hostMem ∧ LibEnding k i [.block] stOK mac false t) ∧
      (LibRuns k 0x0401 i s → mayUse h [uMAC] pVER = true → leNat ((opBytes i 40 16).drop l) = 0 →
        ∃ t, exec (.macVerify k buf) s = .next t ∧ t.hostMem = s.hostMem ∧
          LibEnding k i [.block] (if mac = (opBytes i 40 16).take l then stOK else stVERIFY_MISMATCH) [] false t)) ∧
    (∀ b dl, dl = i.le 32 4 → HasKey k 36 i h m s → itemPointer i = true → itemOplen i = 28 → 1 ≤ dl → dl ≤ 3840 → opLe i 44 1 = 0 →
      4 ≤ opLe i 45 1 → opLe i 45 1 ≤ 16 → isAes h.attr.alg.toNat = true → ZeroFields i [(46, 2)] → opLe i 48 16 = 0 →
      LibRuns k 0x0400 i s → mayUse h [uMAC] pGEN = true → HostMay i 6 (i.le 24 8) dl 0 s →
      ∃ t, exec (.macGenerate k (.ok b)) s = .next t ∧ t.hostMem = s.hostMem ∧
        LibEnding k i [.block] stOK ((fit 16 (macOf 0 h.attr.alg.toNat m (fit dl b))).take (opLe i 45 1)) false t))

/-- R256 to R260: the key-block services.  KEY_IMPORT opens a block under a KBPK and answers the reference of a directory
record of the key; KEY_EXPORT and KEY_TRANSLATE write a block of the key under another KBPK to host memory and nothing
else; KEY_GENERATE writes a block of a new key. -/
def Obligations.KeyBlockServices : Prop :=
  ∀ (s : State) (k : Nat) (i : Item), UnitTakes k .block s → drbgDown s = false →
    let p := (getSeat s k).part
    (dirAccess s.dir.nextIdx 1 s).1 = true →
    let room (nk : NewKey) : Prop := dirPartUnits s.dir p + nk.units ≤ (Tab.get dDirPart s.dir.parts p).quota.toNat ∧
      dirUnits s.dir + nk.units ≤ 6291456 ∧ s.dir.nextIdx < 4194304
    let seals (format : Nat) (h : Handle) (m : Bytes) (a : KeyAttr) (x9 : BitVec 2) (key : Bytes) (len : Nat) : Prop :=
      ∀ r, ∃ b, sealBlock format h.attr.alg.toNat m a x9 key r = some b ∧ b.length ≤ len
    let sealed_ (units : List OpUnit) (addr : Nat) (t : State) (format : Nat) (h : Handle) (m : Bytes) (a : KeyAttr) (x9 : BitVec 2) (key : Bytes)
        (data : Nat → Bytes) : Prop := ∃ r b, sealBlock format h.attr.alg.toNat m a x9 key r = some b ∧ Wrote addr b s t ∧
      if units = [] then LibEnded k i stOK (data b.length) true t else LibEnding k i units stOK (data b.length) true t
    (∀ h m b nk, LibRuns k 0x0600 i s → HasKey k 36 i h m s → Form i true 1 12 → 16 ≤ i.le 32 4 → i.le 32 4 ≤ 3584 →
      opLe i 44 1 ≤ 1 → ZeroFields i [(45, 3)] → HostMay i 6 (i.le 24 8) (i.le 32 4) 0 s →
      mayUse h [uKBPK] pUNWRAP = true → (dieGen s (dieOfSeat k) (getEntry s (dieOfSeat k) h.entry).part h.slot).toNat ≤ h.gen.toNat →
      (openBlock (opLe i 44 1) p h.slot h.gen h.attr.alg.toNat m (fit (i.le 32 4) b)).2 = some nk → room nk →
      ∃ t ref, exec (.keyImport k (.ok b)) s = .next t ∧ t.hostMem = s.hostMem ∧ refPart ref = p % 256 ∧ refIsDir ref = true ∧
        (getDir t (refIndex ref)).attr = nk.attr ∧ (getDir t (refIndex ref)).material = nk.material ∧
        LibEnding k i [.block] stOK (toLE 8 ref.toNat ++ kcvField nk.attr nk.material) false t) ∧
    (∀ h h2 e m m2, LibRuns k 0x0601 i s → HasKey k 24 i h m s → HasKey2 k 24 32 i h2 m2 s → e = getEntry s (dieOfSeat k) h.entry →
      Form i false 1 40 → opLe i 40 1 ≤ 1 → ZeroFields i [(41, 7), (60, 4)] → mayUse h2 [uKBPK] pWRAP = true →
      exportOk e.attr h2.attr = true → seals (opLe i 40 1) h2 m2 e.attr e.x9 m (opLe i 56 4) →
      (∀ n, n ≤ opLe i 56 4 → HostMay i 6 (opLe i 48 8) n 1 s) →
      ∃ t, exec (.keyExport k) s = .next t ∧ sealed_ [] (opLe i 48 8) t (opLe i 40 1) h2 m2 e.attr e.x9 m (toLE 2)) ∧
    (∀ h h2 m m2 b nk, LibRuns k 0x0602 i s → HasKey k 36 i h m s → HasKey2 k 36 44 i h2 m2 s → Form i true 2 32 →
      16 ≤ i.le 32 4 → i.le 32 4 ≤ 3584 → opLe i 52 1 ≤ 1 → opLe i 53 1 ≤ 1 → ZeroFields i [(54, 2)] →
      rangesMeet (opLe i 56 8) (opLe i 65 4) (i.le 24 8) (i.le 32 4) = false →
      HostMay i 6 (i.le 24 8) (i.le 32 4) 0 s → (∀ n, n ≤ opLe i 65 4 → HostMay i 6 (opLe i 56 8) n 1 s) →
      mayUse h [uKBPK] pUNWRAP = true → (dieGen s (dieOfSeat k) (getEntry s (dieOfSeat k) h.entry).part h.slot).toNat ≤ h.gen.toNat →
      (openBlock (opLe i 52 1) p h.slot h.gen h.attr.alg.toNat m (fit (i.le 32 4) b)).2 = some nk →
      mayUse h2 [uKBPK] pWRAP = true → exportOk nk.attr h2.attr = true →
      seals (opLe i 53 1) h2 m2 nk.attr nk.x9 nk.material (opLe i 65 4) →
      ∃ t, exec (.keyTranslate k (.ok b)) s = .next t ∧
        sealed_ [.block] (opLe i 56 8) t (opLe i 53 1) h2 m2 nk.attr nk.x9 nk.material (toLE 2)) ∧
    (∀ h m, LibRuns k 0x0603 i s → HasKey k 32 i h m s → Form i false 1 40 → templateOk (opLe i 24 4) = true →
      (attrOf (opLe i 24 4)).export_ ≠ 0 → opLe i 28 1 = 2 → opLe i 29 1 ≤ 1 → ZeroFields i [(30, 2), (52, 12)] →
      let a := attrOf (opLe i 24 4)
      keyLen a.alg.toNat ≤ (getTroupe s (troupeOfSeat k)).drbgBuf → mayUse h [uKBPK] pWRAP = true →
      (∀ key nk, key.length = keyLen a.alg.toNat → nk = mkKey a p h.slot h.gen 0 key → exportOk nk.attr h.attr = true ∧
        seals (opLe i 29 1) h m nk.attr nk.x9 nk.material (opLe i 48 4)) →
      (∀ n, n ≤ opLe i 48 4 → HostMay i 6 (opLe i 40 8) n 1 s) →
      ∃ t key nk, exec (.keyGenerate k) s = .next t ∧ key.length = keyLen a.alg.toNat ∧ nk = mkKey a p h.slot h.gen 0 key ∧
        sealed_ [.block] (opLe i 40 8) t (opLe i 29 1) h m nk.attr nk.x9 nk.material
          (fun n => toLE 8 0 ++ kcvField nk.attr nk.material ++ toLE 2 n))

/-- Asymmetric import, agreement and tokens.  The comment before each part names the rules of the spec it follows. -/
def Obligations.AsymmetricAndTokenServices : Prop :=
  -- R261, R262: KEY_IMPORT_ASYM opens a transported key whose sender's signature verifies, and answers a mismatch where it
  -- does not; KEY_AGREE makes a key of an ECDH agreement. Both write a key block of it to host memory.
  (∀ (s : State) (k : Nat) (i : Item) (hk hs h : Handle) (mk ms m b : Bytes), UnitTakes k .block s →
    UnitTakes k .mau s → UnitTakes k .hash s → drbgDown s = false →
    (dirAccess s.dir.nextIdx 1 s).1 = true →
    let p := (getSeat s k).part
    let n := i.le 32 4
    HostMay i 6 (i.le 24 8) n 0 s →
    (LibRuns k 0x0610 i s → HasKey k 36 i hk mk s → HasKey2 k 36 44 i hs ms s →
      HasKey k 52 i h m (afterOpen k 44 i (afterOpen k 36 i s)) → Form i true 2 44 → n ≤ 4096 →
      let sch := opLe i 60 1
      let cl := opLe i 65 4
      sch = 0 ∨ sch = 16 → opLe i 61 1 ≤ 1 → cl + opLe i 62 2 = n → rangesMeet (opLe i 69 8) (opLe i 77 4) (i.le 24 8) n = false →
      hk.attr.alg = 0xE → sigAlg hs.attr.alg.toNat = true → hs.attr.alg ≠ 0xC → opLe i 62 2 = sigLen hs.attr →
      mayUse hs [uSIG_PUB] pVER = true → rsaPrivOk hs.attr ms = true → handleKeyOk hs.attr ms ((fit n b).drop cl) = true →
      Config.verify hs.attr.alg.toNat (sigScheme (sch / 16 % 2) (if hs.attr.alg = 0xD then 5 else 0)) ms (senderHash hs.attr.alg.toNat ((fit n b).take cl)) ((fit n b).drop cl) = false →
      ∃ t, exec (.keyImportAsym k (.ok b)) s = .next t ∧ t.hostMem = s.hostMem ∧ t.dir.nextIdx = s.dir.nextIdx ∧
        LibEnding k i [.hash, .mau] stVERIFY_MISMATCH [] false t) ∧
    (∀ nk, LibRuns k 0x0610 i s → HasKey k 36 i hk mk s → HasKey2 k 36 44 i hs ms s →
      HasKey k 52 i h m (afterOpen k 44 i (afterOpen k 36 i s)) → Form i true 2 44 → n ≤ 4096 →
      let sch := opLe i 60 1
      let cl := opLe i 65 4
      sch = 0 ∨ sch = 16 → opLe i 61 1 ≤ 1 → cl + opLe i 62 2 = n → rangesMeet (opLe i 69 8) (opLe i 77 4) (i.le 24 8) n = false →
      hk.attr.alg = 0xE → sigAlg hs.attr.alg.toNat = true → hs.attr.alg ≠ 0xC → opLe i 62 2 = sigLen hs.attr →
      mayUse hs [uSIG_PUB] pVER = true → rsaPrivOk hs.attr ms = true → handleKeyOk hs.attr ms ((fit n b).drop cl) = true →
      Config.verify hs.attr.alg.toNat (sigScheme (sch / 16 % 2) (if hs.attr.alg = 0xD then 5 else 0)) ms (senderHash hs.attr.alg.toNat ((fit n b).take cl)) ((fit n b).drop cl) = true →
      mayUse hk [uKT_PRIV] pUNWRAP = true → transportBad 0 hk.attr mk ((fit n b).take cl) = false →
      (Config.keyTransport 0 mk ((fit n b).take cl)).bind (innerBlock p hk) = some nk → nk.attr.export_ ≠ 0 →
      mayUse h [uKBPK] pWRAP = true → mayUse h [uKBPK] pUNWRAP = true → exportOk nk.attr h.attr = true →
      (dieGen s (dieOfSeat k) (getEntry s (dieOfSeat k) h.entry).part h.slot).toNat ≤ h.gen.toNat →
      (∀ r, ∃ c, sealBlock (opLe i 61 1) h.attr.alg.toNat m nk.attr nk.x9 nk.material r = some c ∧ c.length ≤ opLe i 77 4) →
      (∀ l, l ≤ opLe i 77 4 → HostMay i 6 (opLe i 69 8) l 1 s) →
      dirPartUnits s.dir p + keyUnits nk.material.length ≤ (Tab.get dDirPart s.dir.parts p).quota.toNat →
      dirUnits s.dir + keyUnits nk.material.length ≤ 6291456 → s.dir.nextIdx < 4194304 →
      ∃ t ref c, exec (.keyImportAsym k (.ok b)) s = .next t ∧ Wrote (opLe i 69 8) c s t ∧
        (getDir t (refIndex ref)).material = nk.material ∧
        LibEnding k i [.hash, .mau, .block] stOK (toLE 8 ref.toNat ++ kcvField nk.attr nk.material ++ toLE 2 c.length) true t) ∧
    (LibRuns k 0x0611 i s → HasKey k 36 i hk mk s → HasKey2 k 36 48 i h m s → Form i true 2 40 → n ≤ 4088 →
      let a := attrOf (opLe i 44 4)
      let pl := opLe i 58 2
      pl ≤ n → pl = 2 * curveLen hk.attr.alg.toNat → 9 ≤ hk.attr.alg.toNat → hk.attr.alg.toNat ≤ 0xB → templateOk (opLe i 44 4) = true →
      a.export_ ≠ 0 → opLe i 56 1 = 2 → opLe i 57 1 ≤ 1 → ZeroFields i [(60, 4)] →
      rangesMeet (opLe i 65 8) (opLe i 73 4) (i.le 24 8) n = false → mayUse hk [uKA_PRIV] pDRV = true →
      Config.validPublic hk.attr.alg.toNat ((fit n b).take pl) = true → mayUse h [uKBPK] pWRAP = true →
      let nk := mkKey a p hk.slot hk.gen 0 (fit (keyLen a.alg.toNat)
        (Config.keyAgree 0 hk.attr.alg.toNat mk (fit n b) (keyLen a.alg.toNat)))
      exportOk nk.attr h.attr = true →
      (∀ r, ∃ c, sealBlock (opLe i 57 1) h.attr.alg.toNat m nk.attr nk.x9 nk.material r = some c ∧ c.length ≤ opLe i 73 4) →
      (∀ l, l ≤ opLe i 73 4 → HostMay i 6 (opLe i 65 8) l 1 s) →
      ∃ t r c, exec (.keyAgree k (.ok b)) s = .next t ∧ sealBlock (opLe i 57 1) h.attr.alg.toNat m nk.attr nk.x9 nk.material r = some c ∧
        Wrote (opLe i 65 8) c s t ∧
        LibEnding k i ([.mau, .hash] ++ if a.alg.toNat ≤ 6 then [.block] else []) stOK (toLE 8 0 ++ kcvField nk.attr nk.material ++ toLE 2 c.length) true t)) ∧
  -- R263: TOKENISE and DETOKENISE encipher or decipher the middle of a string of numerals by FF1 under an FPE key, keep its
  -- ends, and answer it in RESULT where no output buffer is given.
  (∀ (s : State) (k : Nat) (i : Item) (h : Handle) (m : Bytes), HasKey k 24 i h m s → UnitTakes k .block s →
    let n := opLe i 32 1
    let lead := opLe i 33 1
    let l := n - lead - opLe i 34 1
    let radix := if opLe i 35 1 = 1 then 36 else 10
    let tw := opLe i 36 1
    let nums := (opBytes i 65 n).map BitVec.toNat
    Form i false 2 (40 + n) → 2 ≤ n → n ≤ 16 → lead + opLe i 34 1 ≤ n → 2 ≤ l → 1000000 ≤ radix ^ l → opLe i 35 1 ≤ 1 →
    tw ≤ 16 → ZeroFields i [(37, 3), (56, 8)] → leNat ((opBytes i 40 16).drop tw) = 0 → (∀ v ∈ nums, v < radix) →
    ffxAlg h.attr.alg.toNat = true →
    let r (dec : Bool) := Config.ff1 dec radix h.attr.alg.toNat m ((opBytes i 40 16).take tw) ((nums.drop lead).take l)
    let out (dec : Bool) : Bytes := (nums.take lead ++ ((List.range l).map fun j => (r dec).getD j 0 % radix) ++ nums.drop (lead + l)).map
      (BitVec.ofNat 8)
    (LibRuns k 0x0700 i s → mayUse h [uFPE] pENC = true →
      ∃ t, exec (.tokenise k) s = .next t ∧ t.hostMem = s.hostMem ∧ LibEnding k i [.block] stOK (out false) false t) ∧
    (LibRuns k 0x0701 i s → mayUse h [uFPE] pDEC = true →
      ∃ t, exec (.detokenise k) s = .next t ∧ t.hostMem = s.hostMem ∧ LibEnding k i [.block] stOK (out true) false t))

/-- SIGN, VERIFY and the bulk services.  The comment before each part names the rules of the spec it follows. -/
def Obligations.SignatureAndBulkServices : Prop :=
  -- R264, R265: SIGN writes a signature of the digest, by an RSA or Ed25519 key that takes no random value here, to host
  -- memory and nothing else; VERIFY answers whether the signature in host memory is one of the digest under the key, or under
  -- the public key that follows the signature.
  (∀ (s : State) (k : Nat) (i : Item) (h : Handle) (m b : Bytes), UnitTakes k .mau s →
    (LibRuns k 0x0800 i s → HasKey k 24 i h m s →
      let d := opLe i 33 1
      let l := opLe i 34 1
      Form i false 2 (24 + l) → opLe i 32 1 < 2 → d ≤ 5 → l = sigDigestLen d → ZeroFields i [(35, 1)] →
      h.attr.alg = 0xC ∨ h.attr.alg = 0xE → sigDigestOk h.attr.alg.toNat d = true → sigLen h.attr ≤ opLe i 44 4 →
      mayUse h [uSIG_PRIV] pSIGN = true → rsaPrivOk h.attr m = true →
      HostMay i 6 (opLe i 36 8) (sigLen h.attr) 1 s →
      let sig := fit (sigLen h.attr) (Config.sign h.attr.alg.toNat (sigScheme (opLe i 32 1) d) m (opBytes i 48 l) [] 0)
      ∃ t, exec (.sign k) s = .next t ∧ Wrote (opLe i 36 8) sig s t ∧ LibEnding k i [.mau] stOK (toLE 2 sig.length) true t) ∧
    (LibRuns k 0x0801 i s → HasKey k 36 i h m s →
      let d := opLe i 44 1
      let l := opLe i 48 1
      let sl := opLe i 46 2
      let n := i.le 32 4
      Form i true 2 (16 + l) → n ≤ 4096 → d ≤ 5 → opLe i 45 1 < 2 → sl ≤ n → l = sigDigestLen d → ZeroFields i [(49, 3)] →
      sigDigestOk h.attr.alg.toNat d = true → sl = sigLen h.attr → HostMay i 6 (i.le 24 8) n 0 s →
      mayUse h [uSIG_PUB] pVER = true → handleKeyOk h.attr m ((fit n b).take sl) = true →
      ∃ t, exec (.verify k (.ok b)) s = .next t ∧ t.hostMem = s.hostMem ∧
        LibEnding k i [.mau] (if Config.verify h.attr.alg.toNat (sigScheme (opLe i 45 1) d) m (opBytes i 52 l) ((fit n b).take sl) then stOK
          else stVERIFY_MISMATCH) [] false t) ∧
    (∀ alg, LibRuns k 0x0801 i s → opRef i 36 = 0 → keyTypeAlg (opLe i 45 1 / 16) = some alg → opLe i 45 1 / 2 % 8 = 0 →
      let d := opLe i 44 1
      let l := opLe i 48 1
      let sl := opLe i 46 2
      let n := i.le 32 4
      let key := (fit n b).drop sl
      Form i true 2 (16 + l) → n ≤ 4096 → d ≤ 5 → l = sigDigestLen d → ZeroFields i [(49, 3)] → sigDigestOk alg d = true →
      (if alg = 0xE then sl = leAt 0 2 key ∧ n = sl + 6 + sl ∧ rsaKeyOk key = true
        else sl = 2 * curveLen alg ∧ n = sl + if alg = 0xC then 32 else 2 * curveLen alg) →
      HostMay i 6 (i.le 24 8) n 0 s → scratchKeyOk alg key ((fit n b).take sl) = true →
      ∃ t, exec (.verify k (.ok b)) s = .next t ∧ t.hostMem = s.hostMem ∧
        LibEnding k i [.mau] (if Config.verify alg (sigScheme (opLe i 45 1 % 2) d) key (opBytes i 52 l) ((fit n b).take sl) then stOK
          else stVERIFY_MISMATCH) [] false t)) ∧
  -- R266, R267, R271, R282, R285: BULK_CRYPT and BULK_REENCRYPT put a job on their die's SCU and end when it does, which may
  -- fall in with the command. The job's end writes the range of LENGTH bytes at DST, enciphered from what the SCU read at SRC,
  -- and nothing else, and answers the next IV; a failed check of the SCU ends the command ABORTED, with nothing written.
  (∀ (s : State) (k : Nat) (i : Item) (h h2 : Handle) (m m2 src : Bytes),
    let die := dieOfSeat k
    let u := getScu s die
    let n := opLe i 73 4
    let ready := u.ready = true ∧ (u.exclusive = false ∨ u.owner.toNat = (getSeat s k).part) ∧ u.queue.length < 64
    let scuAlg (h : Handle) : Prop := isBlockAlg h.attr.alg.toNat = true ∧ isTdes h.attr.alg.toNat = false
    let submitted (t : State) (desc : Bytes) (a2 : Nat) (k2 : Bytes) : Prop :=
      t.hostMem = s.hostMem ∧ LibEnding k i [.scu] stOK [] true t ∧ (∀ o ∈ (run t k).ops, o.job = u.next) ∧
      (getScu t die).active ++ (getScu t die).queue = u.active ++ u.queue ++ [{
        no := u.next, seat := k, part := (getSeat s k).part, desc := desc, off := 0, taint := false, held := u.katReq || u.katBusy
        alg1 := h.attr.alg.toNat, key1 := m, alg2 := a2, key2 := k2 }]
    (ready → HasKey k 24 i h m s → scuAlg h → h.attr.usage.toNat = uDATA → 1 ≤ n → n ≤ 0x40000000 → opLe i 56 8 = opLe i 65 8 →
      (LibRuns k 0x0900 i s → Form i false 2 52 → opLe i 32 1 = 2 → ZeroFields i [(33, 7)] → h.attr.perm.getLsbD pENC = true →
        ∃ t, exec (.bulkCrypt k src none) s = .next t ∧
          (∀ e, exec (.bulkCrypt k src (some e)) s = exec (.scuJobComplete die u.next src e) t) ∧
          submitted t (bulkDesc 2 false none (opLe i 56 8) (opLe i 65 8) n (opBytes i 40 16)) 0 []) ∧
      (LibRuns k 0x0901 i s → HasKey2 k 24 80 i h2 m2 s → Form i false 2 79 → opLe i 32 1 = 2 → opLe i 33 1 = 2 →
        ZeroFields i [(34, 6), (77, 3)] → h.attr.perm.getLsbD pDEC = true → scuAlg h2 →
        h2.attr.usage.toNat = uDATA → h2.attr.perm.getLsbD pENC = true →
        ∃ t, exec (.bulkReencrypt k src none) s = .next t ∧
          (∀ e, exec (.bulkReencrypt k src (some e)) s = exec (.scuJobComplete die u.next src e) t) ∧
          submitted t (bulkDesc 2 true (some (2, opBytes i 88 16)) (opLe i 56 8) (opLe i 65 8) n (opBytes i 40 16))
            h2.attr.alg.toNat m2)) ∧
    (∀ job j o out src, u.active.find? (fun a => decide (a.no = job)) = some j → oldestJob u j = true → j.seat = k →
      seatMuted s k = false → (run s k).ops = [o] → o.unit = .scu → o.job = job → (run s k).ending = some out →
      (run s k).endOk = true → (getSeat s k).run = some i.id → getItem s i.id = some i → wingItem s k = none →
      (getSeat s (k - 1)).suspended = false → (∀ x ∈ s.items, x.place = .core → x.phase ≠ 5) →
      let r := runJob j (fit (descLen j.desc) src)
      let ended (t : State) (out : Outcome) : Prop := (getSeat t k).run = none ∧
        getItem t i.id = some { i with place := .returning die, outcome := some out }
      ((passedBytes 512 7 true 0 (leAt 8 8 j.desc) (descLen j.desc) s).1 = descLen j.desc →
        (passedBytes 512 7 true 1 (leAt 16 8 j.desc) r.1.length s).1 = r.1.length →
        (o.dsts = [.outcome []] → ∃ t, exec (.scuJobComplete die job src .done) s = .next t ∧ Wrote (leAt 16 8 j.desc) r.1 s t ∧
          (getScu t die).jobs = u.jobs + 1 ∧ ended t { out with data := fit 16 r.2.1 }) ∧
        (∀ a b tn, o.dsts = [.scratch a b tn, .outcome []] → ∃ t, exec (.scuJobComplete die job src .done) s = .next t ∧
          Wrote (leAt 16 8 j.desc) r.1 s t ∧ (getScu t die).jobs = u.jobs + 1 ∧ ended t { out with data := fit 16 r.2.2 })) ∧
      ((passedBytes 512 7 true 0 (leAt 8 8 j.desc) (descLen j.desc) s).1 = descLen j.desc →
        ∃ t data, exec (.scuJobComplete die job src .check) s = .next t ∧ t.hostMem = s.hostMem ∧ (getScu t die).check = true ∧
        ended t { status := stABORTED, data := data })))

/-- R230 to R236: ROUTINE_CHALLENGE keeps 16 bytes of root output as the partition's nonce and answers them; a
ROUTINE_INSTALL that passes every check of R234, and a ROUTINE_REVOKE of an installed routine, spend the nonce and commit
the partition's manifest with the new entry under the next counter; a bundle whose version is not above the installed one
is refused, CLASS 0x04, and an authorisation that fails, CLASS 0x07. -/
def Obligations.RoutineAuthorisedServices : Prop :=
  ∀ (s : State) (id : Nat) (i : Item),
    (let p := i.le 24 1
     Serves id 0x0EF0 i s → Inline i → i.part = 0 ∨ i.part = p → RootReady s →
      exec (.routineChallenge id) s = .next (done id (drawRoot 16 s).1 (updRPart p (fun r => {
        r with
        nonce := some (BitVec.ofNat 128 (beNat (drawRoot 16 s).1), s.time.time64) }) (drawRoot 16 s).2))) ∧
    (∀ (b a : Bytes), Serves id 0x0EF1 i s → Pointer i →
      let p := i.le 48 1
      let bundle := fit (i.le 32 4) b
      let auth := fit (i.le 44 4) a
      let h := readBundle bundle
      let old := entryOf s p h.routine
      i.part = 0 ∨ i.part = p → manifestKnown s p = true → SvcBuffer i s → SvcMay i (i.le 36 8) (i.le 44 4) 0 s →
      headerOk bundle = true → declOk h = true → h.library = false → bundleSigned bundle = true →
      (RoutineAuthorised 1 p h.routine h.version (bundleDigest bundle) auth s →
        (∀ e, old = some e → e.version < h.version ∧ e.jaser = h.jaser) → (old = none → 0 < h.version) → verifyBundle h = none →
        quotaOk s p h.routine h.n = true →
        exec (.routineInstall id (.ok b) (.ok a)) s = .next (
          let gen := ((old.map ManEntry.gen).getD 0 + 1) % 65536
          let c := (manRec s p).word + 1
          let l := putEntry { routine := h.routine, jaser := h.jaser, version := h.version, digest := bundleDigest bundle, gen := gen }
            (getRPart s p).entries
          submitChange {
                         item := some id, data := toLE 4 c.toNat ++ zeros 4 ++ toLE 2 gen,
                         writes := [.man p c (sm3 (manifestBytes p c l)), .manifest p l],
                         acts := [.routine p {
                                               item := id, routine := h.routine, at_ := 0, epoch := 0, image := some (h.image gen),
                                               gen := gen }] } (routineSpent p s))) ∧
      (∀ e, RoutineAuthorised 1 p h.routine h.version (bundleDigest bundle) auth s → old = some e → h.version ≤ e.version →
        exec (.routineInstall id (.ok b) (.ok a)) s = .next (refuse id stOPERAND_FORMAT 0x04 (routineSpent p s))) ∧
      (∀ g, (getVPart s p).registry = some g → quorumOk g (g.policy.getD 0 17) auth = false →
        exec (.routineInstall id (.ok b) (.ok a)) s = .next (refuse id stKEY_BLOCK_AUTH 0x07 (routineSpent p s)))) ∧
    (∀ (a : Bytes) (e : ManEntry), Serves id 0x0EF2 i s → Inline i →
      let p := i.le 36 1
      let auth := fit (i.le 32 4) a
      i.part = 0 ∨ i.part = p → manifestKnown s p = true → SvcMay i (i.le 24 8) (i.le 32 4) 0 s →
      RoutineAuthorised 2 p (leAt 6 2 auth) 0 (zeros 32) auth s → entryOf s p (leAt 6 2 auth) = some e → e.revoked = false →
      exec (.routineRevoke id (.ok a)) s = .next (commitManifest id p { e with revoked := true } none (routineSpent p s)))

/-- The routine store, quotas and routine caches.  The comment before each part names the rules of the spec it follows. -/
def Obligations.RoutineStore : Prop :=
  -- R229, R230, R237: the services that read, restore and load. MANIFEST_READ writes the manifest to host memory;
  -- MANIFEST_RESTORE takes it back only where its SM3 is the Cage's digest; LOAD takes a bundle the manifest names, with no
  -- effect where the store holds it; QUERY answers an entry's state; VERIFY the bounds of a bundle that the static verifier
  -- passes, or its refusal record.
  (∀ (s : State) (id : Nat) (i : Item) (b : Bytes),
    let p := i.le 36 1
    let buf := fit (i.le 32 4) b
    let own := i.part = 0 ∨ i.part = p
    (Serves id 0x0EF3 i s → Inline i → own → manifestKnown s p = true →
      let m := manifestBytes p (manRec s p).word (getRPart s p).entries
      (m.length ≤ i.le 32 4 → SvcMay i (i.le 24 8) m.length 1 s →
        exec (.routineManifestRead id) s = .next (finish id stOK (toLE 4 m.length) true (dataWrite 0 i.part i.qp (i.le 24 8) m s))) ∧
      (i.le 32 4 < m.length → exec (.routineManifestRead id) s = .next (finish id stOPERAND_FORMAT (toLE 4 m.length) false s))) ∧
    (Serves id 0x0EF4 i s → Inline i → own → SvcBuffer i s →
      (sm3 buf = (manRec s p).digest → exec (.routineManifestRestore id (.ok b)) s = .next (done id (toLE 4 (manRec s p).word.toNat)
        (updRPart p (fun r => { r with restored := true, entries := parseEntries buf }) s))) ∧
      (sm3 buf ≠ (manRec s p).digest →
        exec (.routineManifestRestore id (.ok b)) s = .next (refuse id stKEY_BLOCK_AUTH 0x08 s))) ∧
    (∀ e, Serves id 0x0EF5 i s → Pointer i → own → manifestKnown s p = true → SvcBuffer i s → headerOk buf = true →
      declOk (readBundle buf) = true →
      (readBundle buf).library = false → bundleSigned buf = true → verifyBundle (readBundle buf) = none →
      (getRPart s p).entries.find? (fun e => !e.revoked && decide (e.digest = bundleDigest buf)) = some e →
      let m := Tab.get dImage (getRPart s p).loaded e.routine
      (m.len ≠ 0 → m.gen = e.gen → m.digest = e.digest → exec (.routineLoad id (.ok b)) s = .next (done id (toLE 2 e.routine) s)) ∧
      (m.len = 0 ∨ m.gen ≠ e.gen ∨ m.digest ≠ e.digest → storeTotal s + storeUse (readBundle buf).n ≤ 0x8000000 →
        exec (.routineLoad id (.ok b)) s = .next (done id (toLE 2 e.routine)
          (updRPart p (replaceImage s p e.routine (some ((readBundle buf).image e.gen))) s)))) ∧
    (Serves id 0x0EF6 i s → Inline i → (i.part = 0 ∨ i.part = i.le 26 1) → manifestKnown s (i.le 26 1) = true →
      (entryOf s (i.le 26 1) (i.le 24 2) = none → exec (.routineQuery id) s = .next (done id (zeros 16) s)) ∧
      (∀ e, entryOf s (i.le 26 1) (i.le 24 2) = some e → e.revoked = true → exec (.routineQuery id) s = .next (done id
        ([3, BitVec.ofNat 8 (b2n e.jaser)] ++ toLE 2 e.gen ++ toLE 4 e.version ++
          toLE 2 (oldGenSeats s (i.le 26 1) (i.le 24 2) e.gen) ++ e.digest.take 6) s))) ∧
    (Serves id 0x0EF7 i s → Pointer i → SvcBuffer i s → headerOk buf = true → declOk (readBundle buf) = true →
      let h := readBundle buf
      (verifyBundle h = none → exec (.routineVerify id (.ok b)) s = .next (done id
        (toLE 4 h.decl.1 ++ toLE 4 h.decl.2.1 ++ [BitVec.ofNat 8 h.decl.2.2, h.kUsed]) s)) ∧
      (∀ f, verifyBundle h = some f → exec (.routineVerify id (.ok b)) s = .next (finish id stOPERAND_FORMAT
        (refusalRecord 0x02 f.check f.index f.reg) false s)))) ∧
  -- R224 to R227, R234 to R236: ROUTINE_QUOTA_SET submits a quota its partition's use fits, ROUTINE_CACHE_PIN pins a library
  -- routine, a line fill that the gate lets pass puts the line on its way, with its errors, in the troupe's cache (logs 68,
  -- 69), and an install completes once it is in effect and no seat runs an earlier generation.
  (∀ (s : State) (id : Nat) (i : Item),
    (Serves id 0x0F40 i s → Inline i →
      let p := i.le 24 1
      let c := i.le 28 2
      let k := i.le 32 4
      1 ≤ c → c ≤ 1024 → (getRPart s p).entries.length ≤ c → partStore (getRPart s p) 0x10000 ≤ k * 1024 →
      exec (.routineQuotaSet id) s = .next (submitChange { item := some id, writes := [.routineQuota p c k] } s)) ∧
    (∀ r n, Serves id 0x0F41 i s → Inline i → r = i.le 24 2 → i.le 26 1 = 1 → i.le 27 5 = 0 →
      s.routines.library.find? (fun e => e.1 == r) = some (r, n) → s.routines.resident.contains r = false →
      pinBytes s (insertNat r s.routines.pins) ≤ 65536 →
      ∃ s', exec (.routineCachePin id) s = .next (done id
          (toLE 4 (pinBytes s s.routines.resident + pinBytes s (insertNat r s.routines.pins))) s') ∧
        s'.routines.pins = insertNat r s.routines.pins ∧ s'.routines.parts = s.routines.parts ∧ s'.seats = s.seats ∧
        ∀ t, t < nTroupes s.part.variant → (getTroupe s' t).lines = pinLines r n s.routines.useCtr (getTroupe s t).lines) ∧
    (∀ troupe part routine gen index line n, storedLen s part routine gen = some n → troupe < nTroupes s.part.variant →
      dieState s (dieOfTroupe troupe) = .active →
      let x := lineTag part routine gen index
      let at_ := 0x1120000000 + 256 * (Config.storeLine (x.part.getD 256) routine gen index % 0x80000)
      (getTroupe s troupe).fetching.any (sameLine x) = true →
      ((gateAccess 6 false at_ 256 0 s).1 = true →
        ∃ t, exec (.routineCacheFill troupe part routine gen ⟨index, line⟩) s = .next t ∧ t.seats = s.seats ∧ t.hostMem = s.hostMem ∧
          (getTroupe t troupe).lines = placeLine { x with used := s.routines.useCtr + 1, ecc := lineEcc line } (getTroupe s troupe).lines ∧
          (getTroupe t troupe).fetching = (getTroupe s troupe).fetching.filter (fun y => !sameLine x y) ∧
          ∀ u, u ≠ troupe → getTroupe t u = getTroupe s u) ∧
      ((gateAccess 6 false at_ 256 0 s).1 = false → (∀ k, sameLine x (seatLine s k) = false) →
        ∃ t, exec (.routineCacheFill troupe part routine gen ⟨index, line⟩) s = .next t ∧ t.seats = s.seats ∧ t.hostMem = s.hostMem ∧
          (getTroupe t troupe).lines = (getTroupe s troupe).lines)) ∧
    (∀ p r x o, getItem s id = some i → i.phase = 3 → i.outcome = some o →
      (List.find? (fun (e : Nat × RoutinePart) => e.2.pending.any fun x => decide (x.item = id)) s.routines.parts) = some (p, r) →
      r.pending.find? (fun x => decide (x.item = id)) = some x → x.inEffect = true →
      oldGenRuns s p x.routine x.gen x.image.isNone = false →
      exec (.routineGenDrained id) s = .next (finish id o.status o.data o.hostBuf
        (updRPart p (fun r => { r with pending := r.pending.filter fun y => decide (y.item ≠ id) }) s))))

/-- VLT_SLOT_CMD and changes of the Cage.  The comment before each part names the rules of the spec it follows. -/
def Obligations.SlotCommandsAndCage : Prop :=
  -- R311, R315, R327, R329: VLT_SLOT_CMD on a ready Cage, of a slot below its last generation and with a kind R307 allows, is
  -- BUSY and submits one change: a write of the staged key, an advance of GEN alone, or an erase. While BUSY nothing happens;
  -- a Cage that is not ready, an exhausted slot and a kind that is not allowed end with CODE 3, 1 and 2 and clear the staged
  -- key.
  (∀ (s : State),
    let v := s.vault
    let p := v.selPart.toNat
    let sl := v.selSlot.toNat
    let r := slotRec s p sl
    let submitted (w : CageWrite) : Res := .next (submitChange { writes := [w], acts := [.slotCmd (r.word + 1)] }
      { s with vault := { v with busy := true, keyStage := [] } })
    let code (c : BitVec 3) : Res := .next { s with vault := { v with code := c, gen := r.word, keyStage := [] } }
    (v.busy = false → v.ready = true → r.word ≠ 0xFFFFFFFF →
      (slotKindOk v.role.toNat v.alg.toNat = true →
        exec .vltSlotWrite s = submitted (.slot p sl (r.word + 1) true v.role v.alg (some (stagedKey s)))) ∧
      (slotKindOk v.role.toNat v.alg.toNat = false → exec .vltSlotWrite s = code 2) ∧
      exec .vltSlotAdvance s = submitted (.slot p sl (r.word + 1) r.valid r.role r.alg none) ∧
      exec .vltSlotErase s = submitted (.slot p sl (r.word + 1) false r.role r.alg none)) ∧
    (v.busy = true → exec .vltSlotWrite s = .next s ∧ exec .vltSlotAdvance s = .next s ∧ exec .vltSlotErase s = .next s) ∧
    (v.busy = false → v.ready = false → exec .vltSlotWrite s = code 3 ∧ exec .vltSlotAdvance s = code 3 ∧ exec .vltSlotErase s = code 3) ∧
    (v.busy = false → v.ready = true → r.word = 0xFFFFFFFF →
      exec .vltSlotWrite s = code 1 ∧ exec .vltSlotAdvance s = code 1 ∧ exec .vltSlotErase s = code 1)) ∧
  -- R311, R327, R461: a change submitted on a unit without a standby is carried out now. A slot write puts the key in the
  -- slot's inactive bank, raises its generation, recomputes CHECK over the word and the stored bank (R310; byte order of log
  -- 38) and leaves every other slot, registry and manifest record as it was; on a unit with a standby and its link up nothing
  -- changes in the Cage until the mirror answers.
  (∀ (s : State) (c : Change) (p sl : Nat) (gen : Word32) (valid : Bool) (role : BitVec 2) (alg : BitVec 4) (key : Option Bytes),
    c.writes = [.slot p sl gen valid role alg key] →
    (mirrors s = false →
      let t := submitChange c s
      (slotRec t p sl).word = gen ∧ (slotRec t p sl).valid = valid ∧ (slotRec t p sl).role = role ∧ (slotRec t p sl).alg = alg ∧
      (∀ b, key = some b → (slotRec t p sl).active = fit 32 b) ∧ (key = none → (slotRec t p sl).active = (slotRec s p sl).active) ∧
      (slotRec t p sl).check = crc16 (toLE 6 (slotRec t p sl).head ++ fit 32 (slotStored s (slotNo p sl) (slotRec t p sl))) ∧
      (∀ q j, slotNo q j ≠ slotNo p sl → slotRec t q j = slotRec s q j) ∧
      (∀ q, regRec t q = regRec s q ∧ manRec t q = manRec s q)) ∧
    (mirrors s = true → s.trp.linkUp = true → (submitChange c s).cage = s.cage))

/-- Generations, expiry, the fence and directory release.  The comment before each part names the rules of the spec it follows. -/
def Obligations.GenerationsAndFence : Prop :=
  -- R327 to R329, R339, R232, R333: an active die applies the oldest generation change sent to it; open ceremonies and
  -- transfers end 3,600 s after their opening, nonces 600 s after their challenge.
  (∀ (s : State) (die : Nat) (p : Nat),
    (∀ k g rest, dieState s die = .active → (getDie s die).kc.genQ = (k, g) :: rest →
      ∃ t, exec (.genApply die) s = .next t ∧ Tab.get dGen (getDie t die).kc.gens k = g ∧ (getDie t die).kc.genQ = rest ∧
        t.cage = s.cage) ∧
    (∃ t, exec (.ceremonyExpire p) s = .next t ∧
      (∀ c, (getVPart s p).ceremony = some c → (getVPart t p).ceremony =
        (if c.at_.toNat + 3600000000000 ≤ now s then none else some c)) ∧
      (∀ c, (getVPart s p).transfer = some c → (getVPart t p).transfer =
        (if c.at_.toNat + 3600000000000 ≤ now s then none else some c)) ∧ ∀ q, q ≠ p → getVPart t q = getVPart s q) ∧
    (∃ t, exec (.nonceExpire p) s = .next t ∧
      (∀ x, (getVPart s p).nonce = some x → (getVPart t p).nonce =
        (if now s < x.2.toNat + 600000000000 then some x else none)) ∧
      (∀ x, (getRPart s p).nonce = some x → (getRPart t p).nonce =
        (if now s < x.2.toNat + 600000000000 then some x else none)) ∧ ∀ q, q ≠ p → getVPart t q = getVPart s q)) ∧
  -- R330: PMK_FENCE completes at once where no pin of an older generation is left, and starts the sweep; else it waits, and
  -- ends with its last pin or, past its time limit, with TIMED_OUT and the pins that remain. A sweep leaves no record of the
  -- slot below its generation. KEY_DIR_RELEASE of a live reference frees its record.
  (∀ (s : State) (id : Nat) (i : Item),
    let p := i.le 24 1
    let sl := i.le 25 1
    let g : Word32 := BitVec.ofNat 32 (i.le 28 4)
    let swept (us : Nat) : State := done i.id (toLE 4 us) { s with dir := { s.dir with sweep := s.dir.sweep ++ [(p, sl, g)] } }
    (Serves id 0x0F68 i s → Inline i → s.vault.ready = true → sl < 8 → (slotRec s p sl).word.toNat = i.le 28 4 →
      (pinsBelow s p sl g = 0 → exec (.pmkFence id) s = .next (swept 0)) ∧
      (pinsBelow s p sl g ≠ 0 → exec (.pmkFence id) s = .next (updItem id (fun i => { i with phase := 4, waitAt := s.time.time64 }) s))) ∧
    (getItem s id = some i → i.place = .core → i.routine = 0x0F68 → i.phase = 4 →
      (pinsBelow s p sl g = 0 → exec (.pmkFenceDone id) s = .next (swept ((now s - i.waitAt.toNat) / 1000))) ∧
      (pinsBelow s p sl g ≠ 0 → exec (.pmkFenceDone id) s = .next s) ∧
      (pinsBelow s p sl g ≠ 0 → i.le 32 4 ≠ 0 → i.waitAt.toNat + i.le 32 4 * 1000 ≤ now s →
        exec (.pmkFenceTimeout id) s = .next (finish id stTIMED_OUT (toLE 4 (pinsBelow s p sl g)) false s))) ∧
    (∀ q j h rest, s.dir.sweep = (q, j, h) :: rest → ∃ t, exec .dirSweepDone s = .next t ∧ t.dir.sweep = rest ∧
      ∀ n, (getDir s n).issue ≠ 0 → (getDir s n).part = q → (getDir s n).slot = j → (getDir s n).gen.toNat < h.toNat →
        getDir t n = {}) ∧
    (Serves id 0x0F6E i s → Inline i → s.vault.ready = true → i.le 25 1 = 0 →
      let ref : Word64 := BitVec.ofNat 64 (i.le 32 8)
      refIsDir ref = true → refOk ref = true → refPart ref = p →
      let r := getDir s (refIndex ref)
      (r.issue ≠ 0 → r.issue.toNat = refIssue ref → r.part = p →
        exec (.keyDirRelease id) s = .next (done id (toLE 4 1) { dropRef ref s with dir := dirFree (refIndex ref) s.dir })) ∧
      (r.issue.toNat ≠ refIssue ref → exec (.keyDirRelease id) s = .next (done id (toLE 4 0) s))))

/-- Registries, challenges and ceremonies.  The comment before each part names the rules of the spec it follows. -/
def Obligations.RegistryAndCeremonies : Prop :=
  -- R331 to R337: VAULT_CHALLENGE keeps and answers a nonce; VAULT_REGISTRY_SET under the partition's quorum, with proof of
  -- possession of every new custodian, submits the registry under the next vault counter; VAULT_REGISTRY_RESTORE takes a
  -- registry back only where its SM3 is the Cage's digest. An authorisation that fails spends the nonce and is refused, CLASS
  -- 0x07.
  (∀ (s : State) (id : Nat) (i : Item) (b : Bytes), s.vault.ready = true →
    let buf := fit (i.le 32 4) b
    (Serves id 0x0F60 i s → Inline i → RootReady s →
      exec (.vaultChallenge id) s = .next (done id (drawRoot 16 s).1 (updVPart (i.le 24 1) (fun v => {
        v with
        nonce := some (BitVec.ofNat 128 (beNat (drawRoot 16 s).1), s.time.time64) }) (drawRoot 16 s).2))) ∧
    (∀ r, Serves id 0x0F61 i s → Pointer i → SvcBuffer i s →
      let p := i.le 44 1
      let l1 := i.le 36 4
      let l2 := i.le 40 4
      let auth := slice l1 l2 buf
      let w : AuthWant := { action := 0x10, part := p, subject := sm3 r.raw }
      parseRegistry p (buf.take l1) = some r → l1 + l2 ≤ i.le 32 4 → (p = 0 → regEmpty s 0 = false) →
      (VaultAuthorised w auth s → proofsOk (getVPart s p).registry r (slice 16 16 auth) (buf.drop (l1 + l2)) = true →
        exec (.vaultRegistrySet id (.ok b)) s = .next (submitChange {
          item := some id,
          writes := [.reg p (vaultCounter s p + 1) (some (sm3 r.raw)), .registry p (some r)],
          data := toLE 4 (vaultCounter s p + 1).toNat } (spendVault p s))) ∧
      (∀ g, (byteAt 7 auth).toNat = 0 → (getVPart s p).registry = some g → authBodyOk w 0 auth s = false →
        exec (.vaultRegistrySet id (.ok b)) s = .next (refuse id stKEY_BLOCK_AUTH 0x07 (spendVault p s)))) ∧
    (Serves id 0x0F62 i s → Pointer i → SvcBuffer i s →
      let p := i.le 36 1
      (∀ r, sm3 buf = (regRec s p).digest → parseRegistry p buf = some r →
        exec (.vaultRegistryRestore id (.ok b)) s = .next (done id (toLE 4 (vaultCounter s p).toNat)
          (updVPart p (fun v => { v with registry := some r }) s))) ∧
      (sm3 buf ≠ (regRec s p).digest →
        exec (.vaultRegistryRestore id (.ok b)) s = .next (refuse id stKEY_BLOCK_AUTH 0x08 s)))) ∧
  -- R338, R339: a ceremony. CEREMONY_OPEN writes a signed statement of 160 bytes to host memory and keeps the ceremony;
  -- COMPONENT adds the component of a custodian that the registry names and whose signature holds; CEREMONY_CLOSE with every
  -- component, the quorum and the expected check value writes the slot with their combination.
  (∀ (s : State) (id : Nat) (i : Item) (b : Bytes), s.vault.ready = true →
    let buf := fit (i.le 32 4) b
    (let p := i.le 24 1
     Serves id 0x0F63 i s → Inline i → RootReady s → i.le 25 1 < 8 → slotKindOk (i.le 26 1) (i.le 27 1) = true → 2 ≤ i.le 28 1 →
      i.le 28 1 ≤ 16 → 160 ≤ i.le 40 4 → openCount s < 16 → SvcMay i (i.le 32 8) 160 1 s →
      ∃ s' c, exec (.vaultCeremonyOpen id) s = .next (finish id stOK (toLE 4 s.vault.nextId) true s') ∧
        (getVPart s' p).ceremony = some c ∧ c.id = s.vault.nextId ∧ c.slot = i.le 25 1 ∧ c.role = i.le 26 1 ∧ c.alg = i.le 27 1 ∧
        c.c = i.le 28 1 ∧ c.comps = [] ∧ Wrote (i.le 32 8) c.statement s s' ∧ s'.vault.nextId = s.vault.nextId + 1 ∧
        s'.cage = s.cage) ∧
    (∀ c r m, Serves id 0x0F64 i s → Pointer i → SvcBuffer i s →
      let p := i.le 36 1
      (getVPart s p).ceremony = some c → c.id = i.le 40 4 → now s < c.at_.toNat + 3600000000000 → (getVPart s p).registry = some r →
      let n := keyLen c.alg
      i.le 32 4 = 96 + n + 100 → (∀ x ∈ c.comps, x.1 ≠ i.le 37 1) → c.comps.length < c.c → (sigEntry (96 + n) 0 buf).1 = i.le 37 1 →
      entryOk r (96 + n) 0 (sm3 (c.statement ++ buf.take (96 + n))) buf = true →
      Config.keyTransport 1 c.priv (buf.take (96 + n)) = some m →
      exec (.vaultComponent id (.ok b)) s = .next (
        let kcv := kcvOf c.alg (fit n m)
        done id (fit 5 kcv ++ [BitVec.ofNat 8 kcv.length, BitVec.ofNat 8 (c.comps.length + 1)])
          (updVPart p (fun v => { v with ceremony := some { c with comps := c.comps ++ [(i.le 37 1, fit n m)] } }) s))) ∧
    (∀ c, Serves id 0x0F65 i s → Pointer i → SvcBuffer i s →
      let p := i.le 36 1
      (getVPart s p).ceremony = some c → c.id = i.le 40 4 → now s < c.at_.toNat + 3600000000000 → c.comps.length = c.c →
      VaultAuthorised { action := 0x11, part := p, slot := c.slot, subject := sm3 c.statement } buf s →
      let key := combined c
      let kcv := kcvOf c.alg key
      (i.le 49 1 = kcv.length → slice 44 kcv.length i.raw = kcv →
        exec (.vaultCeremonyClose id (.ok b)) s =
          .next (writeSlotKey id p c.slot c.role c.alg key [.endCeremony p] (spendVault p s))) ∧
      (slice 44 kcv.length i.raw ≠ kcv → exec (.vaultCeremonyClose id (.ok b)) s = .next (finish id stVERIFY_MISMATCH [] false
        (updVPart p (fun v => { v with ceremony := none }) (spendVault p s))))))

/-- Slot services and sealed blobs.  The comment before each part names the rules of the spec it follows. -/
def Obligations.SlotAndBlobServices : Prop :=
  -- R336: the slot services under the partition's quorum. SLOT_GENERATE writes a key of root output, SLOT_INVALIDATE advances
  -- the generation, keeping the key in mode 0 and leaving the slot empty in mode 1, PARTITION_ERASE empties every slot and
  -- clears the registry and manifest records; each raises the vault counter, or clears it.
  (∀ (s : State) (id : Nat) (i : Item) (b : Bytes), s.vault.ready = true → Pointer i → SvcBuffer i s →
    let buf := fit (i.le 32 4) b
    let p := i.le 36 1
    let sl := i.le 37 1
    let r := slotRec s p sl
    (Serves id 0x0F66 i s → sl < 8 → slotKindOk (i.le 38 1) (i.le 39 1) = true → RootReady s →
      VaultAuthorised {
                        action := 0x12, part := p, slot := sl, param := [BitVec.ofNat 8 (i.le 38 1), BitVec.ofNat 8 (i.le 39 1), 0, 0],
                        subject := zeros 32 } buf s →
      exec (.vaultSlotGenerate id (.ok b)) s = .next (
        let d := drawRoot (keyLen (i.le 39 1)) (spendVault p s)
        writeSlotKey id p sl (i.le 38 1) (i.le 39 1) d.1 [] d.2)) ∧
    (Serves id 0x0F67 i s → sl < 8 → i.le 38 1 ≤ 1 → r.word ≠ 0xFFFFFFFF →
      VaultAuthorised { action := 0x13, part := p, slot := sl, param := [BitVec.ofNat 8 (i.le 38 1), 0, 0, 0], subject := zeros 32 } buf s →
      (i.le 38 1 = 0 → r.valid = true → exec (.vaultSlotInvalidate id (.ok b)) s = .next (submitChange {
        item := some id,
        data := toLE 4 (r.word + 1).toNat,
        writes := [.slot p sl (r.word + 1) true r.role r.alg none, .reg p (vaultCounter s p + 1) none] } (spendVault p s))) ∧
      (i.le 38 1 = 1 → exec (.vaultSlotInvalidate id (.ok b)) s = .next (submitChange {
        item := some id,
        data := toLE 4 (r.word + 1).toNat,
        writes := [.slot p sl (r.word + 1) false r.role r.alg none, .reg p (vaultCounter s p + 1) none] } (spendVault p s)))) ∧
    (Serves id 0x0F6D i s → VaultAuthorised { action := 0x17, part := p, subject := zeros 32 } buf s →
      (∀ j, j < 8 → (slotRec s p j).word ≠ 0xFFFFFFFF) →
      exec (.vaultPartitionErase id (.ok b)) s = .next (submitChange {
        item := some id,
        writes := ((List.range 8).map fun j => CageWrite.slot p j ((slotRec s p j).word + 1) false (slotRec s p j).role (slotRec s p j).alg none)
          ++ [.reg p (vaultCounter s p + 1) (some (zeros 32)), .man p 0 (zeros 32), .registry p none],
        acts := [.unloadManifest p, .endCeremony p, .endTransfer p, .releaseDir p] } (spendVault p s)))) ∧
  -- R340 to R343: blobs. BACKUP_EXPORT and TRANSFER_EXPORT write a sealed image of the partition to host memory and leave the
  -- Cage as it was; TRANSFER_OPEN writes a signed target statement; RESTORE of a backup that opens under the BACKUP slot's key
  -- submits its slots, each at its next generation, and the records it carries.
  (∀ (s : State) (id : Nat) (i : Item) (b : Bytes), s.vault.ready = true → RootReady s →
    let buf := fit (i.le 32 4) b
    let p := i.le 36 1
    (let sl := i.le 37 1
     let r := slotRec s p sl
     let image := partImage s p true
     Serves id 0x0F69 i s → Pointer i → SvcBuffer i s → sl < 8 → r.valid = true → r.role = 2 →
      VaultAuthorised { action := 0x14, part := p, slot := sl, subject := sm3 (fit 5 (slotKcv r)) } buf s →
      let n := (drawRoot 12 (spendVault p s)).1
      let h := blobHead true (blobLen image) p n
      let blob := sealBlob (h ++ fit 5 (slotKcv r) ++ zeros 3 ++ zeros 160) (backupKey r.key h) image
      blob.length ≤ i.le 48 4 → SvcMay i (i.le 40 8) blob.length 1 s →
      ∃ s', exec (.vaultBackupExport id (.ok b)) s = .next (finish id stOK (toLE 4 blob.length) true s') ∧
        Wrote (i.le 40 8) blob s s' ∧ s'.cage = s.cage) ∧
    (Serves id 0x0F6A i s → Inline i → 224 ≤ i.le 40 4 → openCount s < 16 → SvcMay i (i.le 32 8) 224 1 s →
      ∃ s' t, exec (.vaultTransferOpen id) s = .next (finish id stOK (toLE 4 s.vault.nextId) true s') ∧
        (getVPart s' (i.le 24 1)).transfer = some t ∧ t.id = s.vault.nextId ∧ Wrote (i.le 32 8) t.statement s s' ∧ s'.cage = s.cage) ∧
    (let st := buf.take 224
     Serves id 0x0F6B i s → Pointer i → SvcBuffer i s → i.le 32 4 = 224 + i.le 40 4 + i.le 44 4 → leAt 0 4 st = 0x00070002 →
      leAt 9 7 st = 0 → statementOk (caKey s) (slice 224 (i.le 40 4) buf) st = true →
      VaultAuthorised { action := 0x16, part := p, subject := sm3 st } (buf.drop (224 + i.le 40 4)) s →
      (∀ n, n ≤ i.le 56 4 → SvcMay i (i.le 48 8) n 1 s) → 192 + (partImage s p false).length + 16 ≤ i.le 56 4 →
      ∃ s' blob, exec (.vaultTransferExport id (.ok b)) s = .next (finish id stOK (toLE 4 blob.length) true s') ∧
        Wrote (i.le 48 8) blob s s' ∧ s'.cage = s.cage) ∧
    (∀ sl m, Serves id 0x0F6C i s → Pointer i → SvcBuffer i s →
      let lb := i.le 40 4
      let blob := buf.take lb
      i.le 44 4 = 0 → lb ≤ i.le 32 4 → 296 ≤ lb → leAt 4 4 blob = lb → leAt 0 4 blob = 0x00060001 →
      VaultAuthorised { action := 0x15, part := p, subject := sm3 blob } (buf.drop lb) s →
      (List.range 8).find? (fun sl => (slotRec s p sl).valid && decide ((slotRec s p sl).role = 2) &&
        decide (fit 5 (slotKcv (slotRec s p sl)) = slice 24 5 blob)) = some sl →
      openBlob (backupKey (slotRec s p sl).key (blob.take 24)) blob = some m → exhausted s (restoreWrites s p m) = false →
      exec (.vaultRestore id (.ok b)) s = .next (submitChange {
        item := some id, writes := restoreWrites s p m,
        acts := [.unloadManifest p], data := toLE 4 (max (leAt 8 4 m) (vaultCounter s p).toNat + 1) } (spendVault p s))))

/-- Bulk jobs of the SCU and self-tests.  The comment before each part names the rules of the spec it follows. -/
def Obligations.BulkJobsAndSelfTests : Prop :=
  -- R282 to R286, R394: a bulk job that ends, in its seat's order of submission. The memory gates permitting, a job that is
  -- done has written the ciphered bytes of its source at its destination and nothing else, and is counted in JOBS and BYTES;
  -- one the gate denies at a request of its destination is aborted with HOST_FAULT set, and what it wrote before stands; one
  -- denied at its first source request writes nothing. R49 (log 54): the job of a command taken before an FLR stops and writes
  -- nothing.
  (∀ (s : State) (die job : Nat) (src : Bytes) (j : ScuJob),
    (getScu s die).active.find? (fun a => decide (a.no = job)) = some j →
    let n := descLen j.desc
    let r := passedBytes 512 7 true 0 (leAt 8 8 j.desc) n s
    let o := runJob j (fit n src)
    let w := passedBytes 512 7 true 1 (leAt 16 8 j.desc) o.1.length r.2
    let ivs := [slice 32 16 j.desc, slice 48 16 j.desc]
    let written (t : State) (b : Bytes) : State := if b = [] then t else
      updScu die (fun u => { u with bytes := u.bytes + BitVec.ofNat 64 b.length })
        (dataWrite j.part j.part (seatQp t j.seat) (leAt 16 8 j.desc) b t)
    let aborted (t : State) : Res := .next (endJob die j 0x11 ivs (updScu die (fun u => { u with hostFault := true }) (scuAborted die t)))
    (oldestJob (getScu s die) j = false → ∀ e, exec (.scuJobComplete die job src e) s = .next s) ∧
    (oldestJob (getScu s die) j = true →
      (seatMuted s j.seat = false →
        (r.1 = n → w.1 = o.1.length →
          exec (.scuJobComplete die job src .done) s = .next (
            endJob die j 0 [fit 16 o.2.1, fit 16 o.2.2] (updScu die (fun u => { u with jobs := u.jobs + 1 }) (written w.2 o.1)))) ∧
        (r.1 = n → w.1 < o.1.length → exec (.scuJobComplete die job src .done) s = aborted (written w.2 (o.1.take w.1))) ∧
        (r.1 = 0 → 0 < n → ∀ e, exec (.scuJobComplete die job src e) s = aborted r.2)) ∧
      (seatMuted s j.seat = true → ∀ e, exec (.scuJobComplete die job src e) s = .next (endJob die j 0x11 ivs s)))) ∧
  -- R31, R272, R273, R303: self-tests. A request of a unit that is there is pending; a test that ends, on a die that is up,
  -- leaves the unit ready if it passed and the unit had not failed, and failed otherwise, with KAT_FAIL kept once set.
  (∀ (s : State) (kind : UnitKind) (n : Nat), unitHere s kind n = true →
    (∃ t, exec (.katReq kind n) s = .next t ∧ katPending t kind n = true ∧ unitFailed t kind n = unitFailed s kind n ∧
      t.hostMem = s.hostMem ∧ t.seats = s.seats) ∧
    (∀ (u : OpUnit) (pass : Bool), opUnitOf kind = some u → (getUnit s u n).katBusy = true → dieUp s (unitDie u n) = true →
      ∃ t, exec (.katComplete kind n pass) s = .next t ∧ (getUnit t u n).katBusy = false ∧
        (getUnit t u n).ready = (pass && !(getUnit s u n).failed) ∧ (getUnit t u n).failed = (!pass || (getUnit s u n).failed) ∧
        (getUnit t u n).katFail = ((getUnit s u n).katFail || !pass)) ∧
    (∀ pass : Bool, kind = .scu → (getScu s n).katBusy = true → (getScu s n).queue = [] → dieUp s n = true →
      ∃ t, exec (.katComplete kind n pass) s = .next t ∧ (getScu t n).katBusy = false ∧
        (getScu t n).ready = (pass && !(getScu s n).failed) ∧ (getScu t n).failed = (!pass || (getScu s n).failed) ∧
        (getScu t n).katFail = ((getScu s n).katFail || !pass)) ∧
    (∀ pass : Bool, kind = .rng → s.units.rng.katReq = true →
      ∃ t, exec (.katComplete kind n pass) s = .next t ∧ t.units.rng.katReq = false ∧
        t.units.rng.failed = (!pass || s.units.rng.failed) ∧ t.units.rng.esReady = (pass && !s.units.rng.failed) ∧
        t.units.rng.drbgReady = (pass && !s.units.rng.failed && !s.units.rng.recovering)))

/-- Unit services and the random generators.  The comment before each part names the rules of the spec it follows. -/
def Obligations.UnitServicesAndGenerators : Prop :=
  -- R215, R287, R288, R300: the unit services of partition 0. UNIT_STATUS_READ and PRF_FAULT_LOG write the register blocks and
  -- the fault records, as those of their dies' mirror read (R28), to host memory, the first as a read of the registers (log
  -- 57), the second clearing the records that stand where its operand asks; UNIT_KAT requests the tests of the units it names
  -- and waits for them; SCU_LOCK_SET writes OWNER and EXCLUSIVE, and completes at once where no job of another partition is
  -- left.
  (∀ (s : State) (id : Nat) (i : Item),
    (let out := unitBlocks s
     Serves id 0x0F50 i s → out.length ≤ i.le 32 4 → SvcMay i (i.le 24 8) out.length 1 s →
      ∃ s', exec (.unitStatusRead id) s = .next (finish id stOK (toLE 4 out.length) true (rngRead s')) ∧ Wrote (i.le 24 8) out s s' ∧
        s'.units = s.units) ∧
    (∀ l, Serves id 0x0F52 i s → katUnits s (unitHere s) i = some l →
      let dies : Byte := (List.range 7).foldl (fun m d => if dieState s d = .lost then m else setBit m d) 0
      exec (.unitKat id) s = .next (katsDone (updItem id (fun i => { i with phase := 6, outcome := some { status := stOK, data := [dies] } })
        (l.foldl (fun s u => katRequest u.1 u.2 s) s)))) ∧
    (Serves id 0x0F51 i s → i.le 24 1 < nDies s.part.variant → i.le 26 1 < 2 →
      let d := i.le 24 1
      let t := updScu d (fun u => lockSettled { u with
        owner := BitVec.ofNat 8 (i.le 25 1), exclusive := decide (i.le 26 1 = 1), lockPending := true }) s
      exec (.scuLockSet id) s = .next (lockDone d (updItem id (fun i => { i with phase := 5 }) t))) ∧
    (let out := (List.range (nSeats s.part.variant)).flatMap (seatRecord s)
     Serves id 0x0F30 i s → 16 * nSeats s.part.variant ≤ i.le 32 4 → i.le 36 1 ≤ 1 → SvcMay i (i.le 24 8) out.length 1 s →
      ∃ s', exec (.prfFaultLog id) s = .next (finish id stOK (toLE 2 (nSeats s.part.variant)) true s') ∧ Wrote (i.le 24 8) out s s' ∧
        (i.le 36 1 = 0 → s'.seats = s.seats) ∧
        (i.le 36 1 = 1 → ∀ k, k < nSeats s.part.variant → (byteAt 0 (seatRecord s k)).getLsbD 0 = true →
          (getSeat s' k).fault.valid = false))) ∧
  -- R295 to R298, R303: the generators. A health failure stops every one, empties every troupe buffer, counts itself, leaves
  -- its test's threshold in RNG_HEALTH and faults the seats that wait for output; the fourth is for good; 10 ms later a passed
  -- rerun instantiates them anew, which raises RECOVERIES, and one that fails is a further failure; a root due for it reseeds;
  -- a die's instance due for it reseeds from the root, or stops producing while the root is down; a buffer below 128 bytes is
  -- filled; a raw read outside TEST returns zero, and a read of the health register clears its two maxima.
  (∀ (s : State),
    let r := s.units.rng
    (∀ rct : Bool, ∃ t, exec (.rngHealthFail rct) s = .next t ∧ t.units.rng.drbgReady = false ∧ t.units.rng.esReady = false ∧
      (∀ d, dieProduces t d = false) ∧ (∀ n, (getTroupe t n).drbgBuf = 0) ∧
      t.units.rng.rctFail = (if rct then satInc r.rctFail else r.rctFail) ∧
      t.units.rng.aptFail = (if rct then r.aptFail else satInc r.aptFail) ∧
      (rct = true → t.units.rng.rctMax = 41) ∧ (rct = false → 589 ≤ t.units.rng.aptMax.toNat) ∧
      t.units.rng.failed = (r.failed || decide (3 ≤ r.fails)) ∧ t.units.rng.fails = r.fails + 1 ∧
      t.units.rng.recovering = (!r.failed && decide (r.fails < 3)) ∧ t.hostMem = s.hostMem ∧
      ((∀ k, (run s k).waitRnd = none) → t.seats = s.seats) ∧
      ∀ k opc, k < nSeats s.part.variant → (run s k).waitRnd = some opc → (getSeat s k).suspended = false → 0x1000 ≤ (getSeat s k).routine →
        (getSeat t k).fault.valid = true ∧ (getSeat t k).fault.cause = 0x14) ∧
    (r.recovering = true → r.failAt.toNat + 10000000 ≤ now s →
      (∃ t, exec (.rngRecovery none) s = .next t ∧ t.units.rng.recovering = false ∧ t.units.rng.esReady = true ∧
        t.units.rng.drbgReady = true ∧ t.units.rng.recoveries = r.recoveries + 1 ∧ t.units.rng.reseedCnt = r.reseedCnt + 1) ∧
      ∀ rct, exec (.rngRecovery (some rct)) s = exec (.rngHealthFail rct) s) ∧
    (r.drbgReady = true → 65536 ≤ r.reqs ∨ r.at_.toNat + 100000000 ≤ now s →
      exec .rootDrbgReseed s = .next (updRng (fun r => { r with reqs := 0, at_ := s.time.time64, reseedCnt := r.reseedCnt + 1 })
        { s with freeCtr := s.freeCtr + 1 })) ∧
    (∀ die, dieState s die = .active →
      let d := Tab.get dDieDrbg r.dies die
      1048576 ≤ d.reqs ∨ d.at_.toNat + 1000000000 ≤ now s →
      ∃ t, exec (.dieDrbgReseed die) s = .next t ∧ dieProduces t die = r.drbgReady ∧
        (r.drbgReady = true → (Tab.get dDieDrbg t.units.rng.dies die).reqs = 0) ∧
        (∀ e, e ≠ die → dieProduces t e = dieProduces s e)) ∧
    (∀ n, n < nTroupes s.part.variant → dieState s (dieOfTroupe n) = .active → dieProduces s (dieOfTroupe n) = true →
      drbgDown s = false → (getTroupe s n).drbgBuf < 128 →
      ∃ t, exec (.drbgBufferRefill n) s = .next t ∧ (getTroupe t n).drbgBuf = 256 ∧
        (∀ k, k ∈ seatsOfTroupe n → (run t k).waitRnd = none) ∧
        ∀ m, m ≠ n → getTroupe t m = getTroupe s m) ∧
    (r.rawEn = false ∨ s.lcs.state ≠ 1 → exec .rngRawRead s = .next { s with readData := 0 }) ∧
    (r.rawEn = true → s.lcs.state = 1 → ∃ t, exec .rngRawRead s = .next t ∧ t.units.rng.rawPos = r.rawPos + 1) ∧
    (∃ t, exec .rngHealthRead s = .next t ∧ t.units.rng.aptMax = 0 ∧ t.units.rng.rctMax = 0 ∧
      t.readData = BitVec.ofNat 64 (rngHealth s) ∧ t.units.rng.rctFail = r.rctFail ∧ t.units.rng.aptFail = r.aptFail))

/-- Link events, device time, Midway links, submission and refill.  The comment before each part names the rules of the spec it
follows. -/
def Obligations.HostLinkAndSubmission : Prop :=
  -- R30, R31, R38, R43, R44, R47, R272: requests the host may not make of a function the device presents are logged and change
  -- no register; a read of CLK_TIME64's low half returns it and latches the high half; the reference clock's loss and return
  -- move the PLL between locked, holdover and slewing; an active die's clock is re-aligned, and its units that are neither
  -- ready nor failed begin their power-up tests.
  (∀ (s : State),
    (∀ fn off size, readLegal fn off size = true ∨ fnExists s fn = false → exec (.misalignedAccess fn off size) s = .next s) ∧
    (∀ fn kind, fnExists s fn = false → exec (.unsupportedRequest fn kind) s = .next s) ∧
    (∀ fn off size, readLegal fn off size = false → fnExists s fn = true → exec (.misalignedAccess fn off size) s = .next (updFunc fn (fun f => {
      f with aer := aerLog 1 [off, size] f.aer }) { s with readData := 0 })) ∧
    (∀ fn kind, fnExists s fn = true → ∃ t, exec (.unsupportedRequest fn kind) s = .next t ∧ (getFunc t fn).aer.unsupported = true ∧
      (∀ g, g ≠ fn → getFunc t g = getFunc s g) ∧ t.queues = s.queues ∧ t.readData = s.readData) ∧
    (pfOpen s = false → exec .clkTime64LowRead s = .next { s with readData := 0 }) ∧
    (pfOpen s = true → exec .clkTime64LowRead s = .next { s with
      time := { s.time with hiLatch := BitVec.ofNat 32 (now s / 2 ^ 32) }, readData := BitVec.ofNat 64 (now s % 2 ^ 32) }) ∧
    (∀ b, ∃ t, exec (.refclkChange b) s = .next t ∧ t.time.refclk = b ∧ t.time.time64 = s.time.time64 ∧
      (s.time.pll = .free → t.time.pll = if b then .locked else .free) ∧
      (s.time.pll = .locked → t.time.pll = if b then .locked else .holdover) ∧
      (s.time.pll = .holdover → t.time.pll = if b then .slewing else .holdover) ∧
      (s.time.pll = .slewing → t.time.pll = if b then .slewing else .holdover)) ∧
    (∀ d, dieState s d = .active → ∃ t, exec (.timeAlign d) s = .next t ∧ (getDie t d).aligned = true ∧ (getDie t d).timeErr = 0 ∧
      (∀ e, e ≠ d → getDie t e = getDie s e) ∧
      ∀ j, j < 8 → let x := getUnit t .block (8 * d + j); x.ready = true ∨ x.failed = true ∨ x.katBusy = true)) ∧
  -- R17, R19: errors on a Midway link. Fewer than eight failures in succession are replayed and counted; eight, or a tag that
  -- fails, take the link down: the die is lost, its key cache and its seats are cleared, every other die's record is as it
  -- was, and every command on it returns with ABORTED.
  (∀ (s : State) (d fails : Nat), dieState s d ≠ .absent → dieState s d ≠ .lost →
    (fails < 8 → exec (.midwayFlitError d fails false) s = .next (updDie d (fun x => { x with replays := x.replays + fails }) s)) ∧
    (8 ≤ fails → ∃ t, exec (.midwayFlitError d fails false) s = .next t ∧ dieState t d = .lost ∧ (getDie t d).kc = {} ∧
      (∀ k, dieOfSeat k = d → (getSeat t k).run = none)) ∧
    (∃ t, exec (.midwayFlitError d fails true) s = .next t ∧ dieState t d = .lost ∧ (getDie t d).kc = {} ∧
      cMIDWAY_AUTH ∈ t.canvas.alarms)) ∧
  -- R67 to R72: submission. A push write fills slots of an enabled push queue; a complete slot at PUSH_NEXT enters the SQ
  -- while it has room, and the next one is at PUSH_NEXT + 1; one whose chunk a flush has discarded is dropped (log 66); a slot
  -- torn for 100 µs stops the queue with PUSH_ERROR; PUSH_RESET clears it. A fetching queue's doorbell moves its tail and
  -- makes the entries between ready, a full ring's too; reads are issued for what is ready, and their data enters the SQ, but
  -- a failed read consumes nothing and stops fetching.
  (∀ (s : State) (fn page q : Nat), (fn = 0 → pfOpen s = true) → queueOf s fn page = some q →
    let x := getQp s q
    (∀ pos data, x.enabled = true → x.cfg.mode = false → (fillSlots x pos data).2 = false →
      exec (.pushWrite fn page pos data) s = .next (setQp q (tornTimer s.time.time64 (fillSlots x pos data).1) s)) ∧
    (∀ par, x.enabled = true → x.cfg.mode = false → x.pushErr = false → slotComplete x x.pushNext.toNat = true →
      let c := clearSlot x.pushNext.toNat x
      let t := setQp q (tornTimer s.time.time64 { c with
        pushNext := c.pushNext + 1, sqHead := c.sqHead + 1, tornStart := none, doomed := clrBit c.doomed x.pushNext.toNat }) s
      (x.doomed.getLsbD x.pushNext.toNat = false → sqLevel x < sqCap x →
        exec (.slotConsume q par) s = .next (chunkArrive q (slotData x x.pushNext.toNat) x.sqHead par t)) ∧
      (x.doomed.getLsbD x.pushNext.toNat = true → exec (.slotConsume q par) s = .next t)) ∧
    (∀ t0, x.tornStart = some t0 → x.enabled = true → x.pushErr = false → t0.toNat + 100000 ≤ now s →
      exec (.pushTorn q) s = .next (qpErr q 3 (setQp q { x with pushErr := true } s))) ∧
    (x.pushErr = true → ∃ t, exec (.pushReset fn page) s = .next t ∧ (getQp t q).pushErr = false ∧ (getQp t q).pushNext = 0 ∧
      (getQp t q).sqHead = BitVec.ofNat 16 (roundUp x.sqHead.toNat 32) ∧ (∀ p, p ≠ q → getQp t p = getQp s p)) ∧
    (x.pushErr = false → exec (.pushReset fn page) s = .next s) ∧
    (∀ v : Word32, x.cfg.enable = true → x.cfg.mode = true → v.toNat % 65536 < sqCap x →
      exec (.queSqDb fn page v) s = .next (setQp q { x with
        sqTail := BitVec.ofNat 16 (v.toNat % 65536)
        ready := x.ready + (v.toNat % 65536 + sqCap x - x.sqTail.toNat) % sqCap x } s)) ∧
    (∀ v : Word32, x.cfg.enable = true → x.cfg.mode = true → sqCap x ≤ v.toNat % 65536 →
      exec (.queSqDb fn page v) s = .next (refuseDb q 0 s)) ∧
    (x.enabled = true → x.cfg.mode = true → x.fetchErr = false → fetchCount x ≠ 0 → exec (.sqFetchIssue q) s =
      .next (setQp q { x with
        fetches := x.fetches ++ [{ start := fetchIndex x, count := fetchCount x }], ready := x.ready - fetchCount x } s)) ∧
    (∀ f r data par, x.fetches = f :: r → x.enabled = true → f.dropped = false →
      exec (.sqFetchComplete q true data par) s = .next (arriveAll q data par f.count 0 (setQp q { x with fetches := r } s)) ∧
      exec (.sqFetchComplete q false data par) s = .next (qpErr q 4 (setQp q { x with
        fetchErr := true, ready := x.ready + inFlight x, fetches := r.map fun f => { f with dropped := true } } s)))) ∧
  -- R22, R97, R101, R102: HEAD_REFILL takes at most four lines of the Back Lot, oldest first, into a head window that holds at
  -- most four chunks; a line whose tag fails, and any once the memory's keys are gone, is poisoned whole; while the head waits
  -- for a first or single chunk, another is dropped and counted.
  (∀ (s : State) (q : Nat) (l : SpillLine) (fail : Bool) (par : Bytes),
    (getQp s q).middle = [l] → (getQp s q).headWin = [] → (getQp s q).tailWin = [] →
    ∃ t, exec (.headRefill q ⟨[fail], par⟩) s = .next t ∧ (getQp t q).middle = [] ∧ (getQp t q).tailWin = [] ∧
      (∀ p, p ≠ q → getQp t p = getQp s p) ∧
      ((getQp s q).headSync = false →
        (getQp t q).headWin = [if l.inverted || fail || keysGone s then { l.chunk with poison := 0xFF } else l.chunk]) ∧
      ((getQp s q).headSync = true → chunkKind l.chunk.bytes ≠ 2 → chunkKind l.chunk.bytes ≠ 3 →
        (getQp t q).headWin = [] ∧ (getQp t q).headSync = true ∧ (getQp t q).wm.lateCnt = satInc (getQp s q).wm.lateCnt))

/-- Queue control, ownership, functions and vectors.  The comment before each part names the rules of the spec it follows. -/
def Obligations.QueueRegisters : Prop :=
  -- R55, R57, R58, R75, R113 to R115, R545: the control registers of a queue page. ENABLE with a configuration that passes
  -- every check empties the queue pair, sets its phase and takes its granules, and with one that does not leaves it disabled
  -- with the code of the first failure; ENABLE 0 empties it; a CQ doorbell returns entries; FLUSH discards what was submitted,
  -- and ends with DISCARD where it discarded anything.
  (∀ (s : State) (fn page q : Nat), (fn = 0 → pfOpen s = true) → queueOf s fn page = some q →
    let x := getQp s q
    (x.draining = false → x.cfg.enable = false →
      (enableCheck s x = none → exec (.queueEnable fn page) s = .next (reselect (setQp q (enabledQp x) s))) ∧
      (∀ c, enableCheck s x = some c → exec (.queueEnable fn page) s = .next (setCfgErr q c s))) ∧
    (x.draining = true → exec (.queueEnable fn page) s = .next (setCfgErr q 8 s)) ∧
    (x.cfg.enable = true → ∃ t, exec (.queueDisable fn page) s = .next t ∧ (getQp t q).enabled = false ∧
      (getQp t q).cfg.enable = false ∧ sqLevel (getQp t q) = 0 ∧ (getQp t q).arrived = 0 ∧ (getQp t q).draining = takenFrom s q) ∧
    (∀ v : Word32, v.toNat % 65536 < cqCap x → (v.toNat % 65536 + cqCap x - x.cqHead.toNat) % cqCap x ≤ x.cqWritten →
      exec (.queCqDb fn page v) s = .next (touchQp q (fun x => { x with
        cqHead := BitVec.ofNat 16 (v.toNat % 65536)
        cqWritten := x.cqWritten - (v.toNat % 65536 + cqCap x - x.cqHead.toNat) % cqCap x }) s)) ∧
    (∀ v : Word32, x.cqWritten < (v.toNat % 65536 + cqCap x - x.cqHead.toNat) % cqCap x →
      exec (.queCqDb fn page v) s = .next (refuseDb q 0 s)) ∧
    (x.flushBusy = false → x.cfg.enable = true → x.draining = false →
      ∃ t, exec (.flush fn page) s = .next t ∧ sqLevel (getQp t q) = 0 ∧ (getQp t q).flushBusy = true ∧ (getQp t q).arrived = 0 ∧
        (getQp t q).resync = true ∧ (getQp t q).cqTail = x.cqTail ∧ ∀ p, p ≠ q → getQp t p = getQp s p) ∧
    (x.flushBusy = true → exec (.flush fn page) s = .next s ∧
      (x.flushAny = false → exec (.flushDone q) s = .next (setQp q { x with flushBusy := false, flushAny := false, flushCnt := 0 } s)) ∧
      (x.flushAny = true → exec (.flushDone q) s = .next (calEvent 0x147 (some x.own.part.toNat) q x.flushCnt
        (qpNotice q 4 (setQp q { x with flushBusy := false, flushAny := false, flushCnt := 0 } s)))))) ∧
  -- R60, R61, R110: QUE_COALESCE and QUE_OWNER as the PF writes them, with PF_CFG_ERR 7, 1 and 6 for what is refused, and
  -- QUE_PEAK, whose read returns the peaks and lowers them to the levels.
  (∀ (s : State) (q : Nat), q < 2048 → pfOpen s = true →
    let x := getQp s q
    (∀ v : Word32, v.toNat % 256 ≠ 0 →
      let tm := v.toNat / 256 % 65536
      (1 < v.toNat % 256 → tm = 0 → exec (.queCoalesceWrite 0 q v) s = .next (refusePf q 7 s)) ∧
      (v.toNat % 256 = 1 ∨ tm ≠ 0 → exec (.queCoalesceWrite 0 q v) s = .next (setQp q { x with
        own := { x.own with count := BitVec.ofNat 8 (v.toNat % 256), time := BitVec.ofNat 16 tm, pfCfgErr := 0 } } s))) ∧
    (∀ (v : Word32) (fn : Nat), fn ≠ 0 → exec (.queCoalesceWrite fn q v) s = .next s) ∧
    (∀ v : Word32, x.enabled = true ∨ x.draining = true → exec (.queOwnerWrite q v) s = .next (refusePf q 1 s)) ∧
    (∀ v : Word32, x.enabled = false → x.draining = false →
      let p := v.toNat % 256
      let vp := v.toNat / 256 % 8
      (ownerConflict s q p vp = true → exec (.queOwnerWrite q v) s = .next (refusePf q 6 s)) ∧
      (ownerConflict s q p vp = false → exec (.queOwnerWrite q v) s = .next (setQp q { x with
        own := { x.own with part := BitVec.ofNat 8 p, vfPage := BitVec.ofNat 3 vp, rslotEn := v.getLsbD 16, pfCfgErr := 0 } } s))) ∧
    (x.own.part = 0 → ∃ t, exec (.quePeakRead 0 q) s = .next t ∧
      t.readData = BitVec.ofNat 64 (x.wm.sqPeak.toNat + x.wm.cqPeak.toNat * 2 ^ 32) ∧
      (getQp t q).wm.sqPeak = BitVec.ofNat 17 (sqLevel x) ∧ (getQp t q).wm.cqPeak = BitVec.ofNat 17 (cqLevel x) ∧
      ∀ p, p ≠ q → getQp t p = getQp s p)) ∧
  -- R49, R52, R79, R80: function resets and vectors. A reset function is without Bus Master Enable and with every vector
  -- masked until FLR_COMPLETE; PF_RESET does so to every function and clears VF Enable, and but for an FLR that the host asked
  -- for no function is presented until the link is up again (R44). Unmasking a pending vector sends its one message; a
  -- coalesced completion queue sends one when its time is up.
  (∀ (s : State),
    (∀ vf, 0 < vf → vf < 256 → ∃ t, exec (.vfFlr vf) s = .next t ∧ (getFunc t vf).flrBusy = true ∧ (getFunc t vf).busMaster = false ∧
      (getFunc t vf).bar0 = 0 ∧ (getFunc t vf).msix = {} ∧ (∀ g, g ≠ vf → getFunc t g = getFunc s g) ∧ t.hostMem = s.hostMem ∧ t.seats = s.seats ∧
      ∀ q, q ∉ queuesOf s vf → getQp t q = getQp s q) ∧
    (∃ t, exec .pfReset s = .next t ∧ t.vfEnable = false ∧ t.booth.hold = false ∧ t.hostMem = s.hostMem ∧
      t.cage = s.cage ∧ t.pcie.flrReq = false ∧ linkUp t = (s.pcie.flrReq && linkUp s)) ∧
    (∀ fn, exec (.flrComplete fn) s = .next (updFunc fn (fun f => { f with flrBusy := false }) s)) ∧
    (∀ fn v, v < nVectors fn → fnExists s fn = true → (getFunc s fn).msix.fmask = false → (getFunc s fn).msix.enable = true →
      ∃ t, exec (.vectorUnmask fn v) s = .next t ∧ (getFunc t fn).msix.mask.getLsbD v = false ∧
        (getFunc t fn).msix.pba.getLsbD v = false ∧
        t.out = s.out ++ (if (getFunc s fn).msix.pba.getLsbD v then [.msix fn v] else []) ∧ t.queues = s.queues) ∧
    (∀ q, let x := getQp s q
      x.cfg.irqEn = true → x.own.time ≠ 0 → 0 < x.unsig → x.unsigAt.toNat + x.own.time.toNat * 100 ≤ now s →
      exec (.coalesceTimer q) s = .next (sendMsix x.own.part.toNat x.cfg.vector.toNat (setQp q { x with unsig := 0 } s))))

/-- Admission turns, buckets and share changes.  The comment before each part names the rules of the spec it follows. -/
def Obligations.TicketBooth : Prop :=
  -- R116, R119: a turn. Each turn moves to the next partition; an eligible one gains its weight, up to twice the weight and
  -- one, and its head commands are taken; one with no arrived command loses its deficit; any other keeps it.
  (∀ (s : State) (par : Bytes),
    let p := (s.booth.lastP + 1) % 256
    let s0 : State := { s with booth := { s.booth with lastP := p } }
    let w := (share s p).weight.toNat
    (∃ t, exec (.ticketTurn par) s = .next t ∧ t.booth.lastP = p ∧ t.seats = s.seats ∧ t.cage = s.cage) ∧
    (eligible s0 p = true → exec (.ticketTurn par) s = .next (turnLoop (2 * w + 1) p par
      (updPart p (fun x => { x with deficit := min (x.deficit + w) (2 * w + 1) }) s0))) ∧
    (eligible s0 p = false → noArrived s0 p = true → exec (.ticketTurn par) s = .next (updPart p (fun x => { x with deficit := 0 }) s0)) ∧
    (eligible s0 p = false → noArrived s0 p = false → exec (.ticketTurn par) s = .next s0)) ∧
  -- R117, R122, R123, R128, R461: buckets and share changes. Each microsecond a limited bucket gains its rate, up to its
  -- depth, and an unlimited one is left alone; a written change is staged and waits, the active registers as they were; at an
  -- epoch every change accepted 200 ns before takes effect, none while HOLD is set.
  (∀ (s : State),
    (∀ p c, s.booth.active.part = [(p, c)] → ∃ t, exec .bucketCredit s = .next t ∧
      (c.byteRate ≠ 0 → (getPart t p).byteTokens = min (c.byteDepth.toNat * 1024) ((getPart s p).byteTokens + c.byteRate.toNat)) ∧
      (c.byteRate = 0 → (getPart t p).byteTokens = (getPart s p).byteTokens) ∧
      (c.cmdRate = 0 → (getPart t p).cmdTokens = (getPart s p).cmdTokens) ∧
      (c.cmdRate ≠ 0 → (getPart t p).cmdTokens = min c.cmdDepth.toNat ((getPart s p).cmdTokens +
        ((getPart s p).cmdFrac + c.cmdRate.toNat * 100) / 1000000)) ∧
      ∀ q, q ≠ p → getPart t q = getPart s q) ∧
    (∀ off v h, pfOpen s = true → mirrors s = false → applyShare (nTroupes s.part.variant) off v s.booth.staged = some h →
      exec (.shareChangeWrite off v) s = .next { s with booth := { s.booth with
        staged := h, writes := s.booth.writes ++ [{ at_ := s.time.time64, off := off, value := v }] } }) ∧
    (now s % 10000 ≠ 0 → exec .epochApply s = .next s) ∧
    (now s % 10000 = 0 → s.booth.hold = true → exec .epochApply s = .next (reselect (applyRoutines s))) ∧
    (now s % 10000 = 0 → s.booth.hold = false → s.booth.holdCleared.toNat + 200 ≤ now s →
      (∀ w ∈ s.booth.writes, w.held = none ∧ w.at_.toNat + 200 ≤ now s) → s.booth.writes ≠ [] →
      ∃ t, exec .epochApply s = .next t ∧ t.booth.writes = [] ∧ t.booth.appliedEpoch = BitVec.ofNat 32 (now s / 10000) ∧
        t.booth.active = s.booth.writes.foldl (fun h w => (applyShare (nTroupes s.part.variant) w.off w.value h).getD h) s.booth.active))

/-- The Juggler's allocation and a troupe's selection.  The comment before each part names the rules of the spec it follows. -/
def Obligations.AllocationAndSelection : Prop :=
  -- R18, R123, R138, R141 to R144: allocation. The Juggler takes each pool item in the mode its routine has now, sends the
  -- first it can to the die it chooses, and ends one whose routine the partition does not have, or whose mode no troupe has,
  -- with ROUTINE_NOT_LOADED; the oldest item on its way to a die joins the die's ready lists once they have room, or returns
  -- to the pool where the die's troupes were taken from its partition on the way.
  (∀ (s : State) (i : Item) (d : Nat),
    let pool := (poolItems s).map (withMode s)
    (firstAlloc s pool = some (i, .to d) → exec .jugglerAllocate s = .next (dispatch i d (updItem i.id (withMode s) s))) ∧
    (firstAlloc s pool = some (i, .notLoaded false) → exec .jugglerAllocate s = .next (finish i.id stROUTINE_NOT_LOADED [] false s)) ∧
    (firstAlloc s pool = some (i, .notLoaded true) → exec .jugglerAllocate s = .next (finish i.id stROUTINE_NOT_LOADED [] false
      (calEvent 0x184 (some i.part) i.qp i.flow (jugErr 2 s)))) ∧
    (firstAlloc s pool = none → exec .jugglerAllocate s = .next s) ∧
    (readyRoom s d = false → exec (.dispatchArrive d) s = .next s ∧ exec (.itemMoveArrive d) s = .next s) ∧
    (∀ r, dieState s d = .active → readyRoom s d = true → (getDie s d).dispatchQ = i.id :: r → getItem s i.id = some i →
      let joins := i.recalled = false ∧ hasTroupeOn s i.part d = true
      let back (t : State) : State := updItem i.id (fun i => { i with place := .pool, recalled := false }) t
      (i.place = .dispatch d →
        let s1 := updDie d (fun x => { x with dispatchQ := r }) s
        (joins → exec (.dispatchArrive d) s = .next (becomeReady i.id d s1)) ∧
        (¬ joins → exec (.dispatchArrive d) s = .next (back s1)) ∧ exec (.itemMoveArrive d) s = .next s) ∧
      (i.place = .move d →
        let s1 := updDie d (fun x => { x with dispatchQ := r, movedIn := satInc x.movedIn }) s
        (joins → exec (.itemMoveArrive d) s = .next (becomeReady i.id d s1)) ∧
        (¬ joins → exec (.itemMoveArrive d) s = .next (back s1)) ∧ exec (.dispatchArrive d) s = .next s)) ∧
    (∀ a b, now s % 1000 = 0 → s.jug.rebalEn = true → maxLoad (loadedDies s) = some a → minLoad (loadedDies s) = some b →
      exec .rebalanceExamine s = .next (if s.jug.rebalThresh.toNat < a.2 - b.2 then moveItems s.jug.rebalBatch.toNat a.1 b.1 s else s)) ∧
    (now s % 1000 ≠ 0 ∨ s.jug.rebalEn = false → exec .rebalanceExamine s = .next s)) ∧
  -- R120, R145 to R148, R140: selection. A troupe with a free seat grants it to the next partition of its rotation, which
  -- fills it with the first item of its list in the list's order; an item past its deadline, where its partition expires them,
  -- ends with TIMED_OUT instead.
  (∀ (s : State) (tr k p : Nat) (i : Item), troupeRuns s tr = true → pickSeat s tr = some k → nextGrant s tr = some p →
    firstBy (before s.booth.active.discipline) (runnable s tr p) = some i →
    i ∈ s.items ∧ i.part = p ∧ (∀ j ∈ runnable s tr p, before s.booth.active.discipline j i = false) ∧
    (overdue s i = false → exec (.localSelect tr) s = .next (fillWing i k
      (updTroupe tr (fun x => { x with lastPart := p }) s))) ∧
    (overdue s i = true → exec (.localSelect tr) s = .next (selectLoop s.items.length tr (expire i (dieOfTroupe tr) s))))

/-- Deadlines, suspension, troupe mode, ordered release and completions.  The comment before each part names the rules of the spec
it follows. -/
def Obligations.SweepReleaseCompletion : Prop :=
  -- R140, R151, R152: the sweep ends every unstarted item past its deadline in a partition that expires them and no other;
  -- JASER_SUSPEND suspends seat 0, unless an instruction of it is not done (R209), and delivers to seat 1; JUG_TROUPE_CFG
  -- changes JASER only on an idle troupe that serves no partition.
  (∀ (s : State),
    (∃ t, exec .expirySweep s = .next t ∧ ((∀ i ∈ s.items, sweepable i.place = true → overdue s i = false) → t = s)) ∧
    (∀ i, s.items = [i] → sweepable i.place = true → overdue s i = true →
      exec .expirySweep s = .next (expire i (match i.place with | .ready d => d | _ => 7) s)) ∧
    (∀ k id i r, (getSeat s k).preemptBy = some id → getItem s id = some i → seatItem s k = some r → i.place = .ready (dieOfSeat k) →
      seatFree s (k + 1) = true → (getSeat s k).x.ops.any (fun o => o.try_ || o.sync) = false → overdue s i = false →
      ∃ t, exec (.jaserSuspend k) s = .next t ∧ (getSeat t k).suspended = true ∧ (getSeat t k).preemptBy = none ∧
        (getSeat t k).x = (getSeat s k).x ∧ t.jug.preemptCnt = s.jug.preemptCnt + 1) ∧
    (∀ k id i r, (getSeat s k).preemptBy = some id → getItem s id = some i → seatItem s k = some r → i.place = .ready (dieOfSeat k) →
      (getSeat s k).x.ops.any (fun o => o.try_ || o.sync) = false → overdue s i = true →
      exec (.jaserSuspend k) s = .next (expire i (dieOfSeat k) (updSeat k (fun x => { x with preemptBy := none }) s))) ∧
    (∀ tr (v : Word32), tr < nTroupes s.part.variant → pfOpen s = true →
      let j := v.getLsbD 0
      let p := updTroupe tr (fun x => { x with preemptEn := v.getLsbD 1 }) s
      (j = (getTroupe s tr).jaser → exec (.jugTroupeCfgWrite tr v) s = .next p) ∧
      (j ≠ (getTroupe s tr).jaser → Tab.get dMap s.booth.active.map tr = 0 → troupeIdle s tr = true →
        exec (.jugTroupeCfgWrite tr v) s = .next (updTroupe tr (fun x => { x with jaser := j }) p)) ∧
      (j ≠ (getTroupe s tr).jaser → troupeIdle s tr = false → exec (.jugTroupeCfgWrite tr v) s = .next (jugErr 0 p)))) ∧
  -- R18, R123, R138, R144, R154 to R158, R505: the Carousel. The oldest message from a die is a result, accepted with its
  -- outcome, or an item that rebalancing returned, sent on to its destination while that die serves its partition; the oldest
  -- release decision is written, but in D3hot, where nothing leaves; a hold that has lasted HOLD_NS and a deferral that is
  -- allowed again run the flow's loop; the next command of a serial flow is freed where no earlier one is out.
  (∀ (s : State),
    (∀ d r i, (getDie s d).resultQ = i.id :: r → getItem s i.id = some i → i.place = .returning d →
      exec (.resultAccept d) s = .next (outcomeArrives i.id (i.outcome.getD { status := stROUTINE_FAULT })
        (updItem i.id (fun i => { i with accepted := true })
          (acceptSample i (traceItem 0x30 i.seatNo 7 i (updDie d (fun x => { x with resultQ := r }) s)))))) ∧
    (∀ d e r i, (getDie s d).resultQ = i.id :: r → getItem s i.id = some i → i.place = .handback d e →
      let s1 := updDie d (fun x => { x with resultQ := r }) s
      (hasTroupeOn s i.part e = true → exec (.resultAccept d) s = .next (
        updDie e (fun x => { x with dispatchQ := x.dispatchQ ++ [i.id] }) (updItem i.id (fun i => { i with place := .move e }) s1))) ∧
      (hasTroupeOn s i.part e = false →
        exec (.resultAccept d) s = .next (updItem i.id (fun i => { i with place := .pool }) s1))) ∧
    (∀ id r, s.power.d3 = false → s.releaseQ = id :: r → exec .carouselRelease s = .next (writeRelease id { s with releaseQ := r })) ∧
    (s.power.d3 = true ∨ s.releaseQ = [] → exec .carouselRelease s = .next s) ∧
    (∀ p f t0, (getFlow s p f).holdStart = some t0 → t0.toNat + (share s p).holdNs.toNat ≤ now s →
      exec (.holdExpire p f) s = .next (settleFlow p f s)) ∧
    (∀ p f h, flowHead s p f = some h → (getFlow s p f).blockedAt = some h.seq →
      exec (.deferralUnblocked p f) s = .next (if deferralAllowed s h then settleFlow p f s else s)) ∧
    (∀ p f i, ((flowItems s p f).filter fun i => i.executed && i.serial && decide (i.place ≠ .done)) = [i] →
      i.serialWait = true → exec (.serialRelease p f) s = .next (updItem i.id (fun i => { i with serialWait := false }) s))) ∧
  -- R73, R74: a completion. The release of a command delivered to its CQ writes its 32 bytes at CQ_TAIL in host memory,
  -- advances CQ_TAIL, flips the phase at the ring's end, and frees its Carousel entry.
  (∀ (s : State) (i : Item) (o : Outcome), getItem s i.id = some i → i.outcome = some o → i.mute = false → i.rslot = none →
    i.poisoned = false → i.deferred = false →
    let x := getQp s i.qp
    let t := writeRelease i.id s
    Stored (x.cfg.cqBase.toNat * 4096 + 32 * x.cqTail.toNat) (entryBytes i o false x.cqPhase) s t ∧
    (entryBytes i o false x.cqPhase).length = 32 ∧
    (getQp t i.qp).cqTail = (if x.cqTail.toNat + 1 = cqCap x then 0 else x.cqTail + 1) ∧
    (getQp t i.qp).cqPhase = (if x.cqTail.toNat + 1 = cqCap x then !x.cqPhase else x.cqPhase) ∧
    (∀ j ∈ t.items, j.id ≠ i.id))

/-- The decision trace and the engine-die mirror.  The comment before each part names the rules of the spec it follows. -/
def Obligations.TraceAndMirror : Prop :=
  -- R159, R167, R169, R386, R394: the decision trace's registers, an entry that the memory gate denies counted as lost (log
  -- 75), the entry that counts lost events, and HOLD_PEAK, which its read clears alone.
  (∀ (s : State),
    (∀ d, (getDie s d).trcLost ≠ 0 → (getDie s d).trcFifo.length < 256 → ∃ t, exec (.traceLostWrite d) s = .next t ∧
      (getDie t d).trcLost = 0 ∧ (getDie t d).trcFifo = (getDie s d).trcFifo ++
        [traceEntry (now s) 0xFE 0 (d * 8) 0 0 (getDie s d).trcLost] ∧ ∀ e, e ≠ d → getDie t e = getDie s e) ∧
    (pfOpen s = true →
      (∀ v : Word32, v.getLsbD 0 = true → s.trace.enable = false → s.trace.count.toNat ≠ 65536 →
        (gateAccess 8 false (0x1130000000 + 16 * s.trace.wrIndex.toNat) 16 1 s).1 = false →
        ∃ t, exec (.trcEnable v) s = .next t ∧ t.trace = { s.trace with
          enable := true, wrap := v.getLsbD 1, lostCnt := satInc s.trace.lostCnt, marker := now s / 2 ^ 40 }) ∧
      (∀ v : Word32, v.getLsbD 0 = true → s.trace.enable = false →
        (gateAccess 8 false (0x1130000000 + 16 * s.trace.wrIndex.toNat) 16 1 s).1 = true → exec (.trcEnable v) s = .next { s with
        trace := { traceStore (markerEntry (now s)) { s.trace with enable := true, wrap := v.getLsbD 1 } with marker := now s / 2 ^ 40 } }) ∧
      (∀ v : Word32, v.getLsbD 0 = false ∨ s.trace.enable = true → exec (.trcEnable v) s = .next { s with
        trace := { s.trace with enable := v.getLsbD 0, wrap := v.getLsbD 1 } }) ∧
      (s.trace.enable = true → exec .trcClear s = .next s) ∧
      (s.trace.enable = false → ∃ t, exec .trcClear s = .next t ∧ t.trace.mem = [] ∧ t.trace.count = 0 ∧ t.trace.wrIndex = 0 ∧
        t.trace.lostCnt = 0 ∧ t.trace.enable = false) ∧
      (∃ t, exec .trcRdHiRead s = .next t ∧ t.trace.rdIndex = s.trace.rdIndex + 1 ∧ t.trace.mem = s.trace.mem ∧
        (keysGone s = false →
          t.readData = BitVec.ofNat 64 ((Tab.get (fun _ => (0 : BitVec 128)) s.trace.mem s.trace.rdIndex.toNat).toNat / 2 ^ 64))) ∧
      (∀ p, p < 256 → ∃ t, exec (.holdPeakRead p) s = .next t ∧ t.readData = carPartStatus s p ∧
        getPart t p = { getPart s p with holdPeak := 0 } ∧ (∀ q, q ≠ p → getPart t q = getPart s q) ∧ t.items = s.items))) ∧
  -- R28: a refresh copies the status and counters of every active die into its mirror, and of no other die, and changes
  -- nothing else.
  (∀ (s : State), ∃ t, exec .mirrorRefresh s = .next t ∧
    (∀ d, dieState s d = .active → getDie t d = { getDie s d with mirror := refreshed s d }) ∧
    (∀ d, dieState s d ≠ .active → getDie t d = getDie s d) ∧ { t with dies := s.dies } = s)

/-- The boot ROM and the checks of an image.  The comment before each part names the rules of the spec it follows. -/
def Obligations.BootRomAndImages : Prop :=
  -- R22, R350, R356, R357, R405, R410, R413, R425: the boot ROM. In PRODUCTION a boot that finds the battery secret absent
  -- blows one bit of the zeroisation row first, and no more. Otherwise, after a reset, it checks both image headers and loads
  -- the first slot of its order whose components load, else ends in recovery with a code in FAIL of each slot; the memory is
  -- trained under keys just drawn, the Cage ready outside BLANK, the generators ready and Canvas armed. In the wait of R410
  -- only the vote is held, in END_OF_LIFE the wipe begins or goes on.
  (∀ (s : State) (a b : ImageRead) (bad : List (Nat × Nat)), bootCanRun s = true →
    let s0 : State := { s with lcs := { s.lcs with fsm := 0xAAAA } }
    (s.lcs.waitLatch = true → ∀ e, exec (.bootRomStart a b bad e) s = .next s0) ∧
    (s.lcs.waitLatch = false → s.lcs.state = 3 → ∀ e, exec (.bootRomStart a b bad e) s = .next (bootEndOfLife s0)) ∧
    (s.lcs.waitLatch = false → s.lcs.state ≠ 3 →
      (∀ rct, exec (.bootRomStart a b bad (some rct)) s = exec (.rngHealthFail rct) s0) ∧
      (s.lcs.state = 2 → batteryAbsent bad s = true → s.boot.zeroBlown = false →
        ∃ t, exec (.bootRomStart a b bad none) s = .next t ∧ t.boot.stage = 0 ∧ t.boot.zeroBlown = true ∧ t.cage = s.cage ∧
          t.fuses = (blowZero s).fuses ∧ t.hostMem = s.hostMem) ∧
      (s.lcs.state ≠ 2 ∨ batteryAbsent bad s = false ∨ s.boot.zeroBlown = true →
      ∃ t, exec (.bootRomStart a b bad none) s = .next t ∧ t.power.memReady = true ∧ t.dir.memKey.length = 64 ∧ t.dir.tagKey.length = 32 ∧
        t.canvas.sentinel.loops.length = 8 ∧ t.canvas.fsm = cnvARMED ∧ t.lcs.fsm = 0xAAAA ∧
        t.units.rng.drbgReady = true ∧ t.dir.key.isSome = true ∧ (t.boot.stage = 1 ∨ t.boot.stage = 4) ∧
        (s.lcs.state = 0 → t.cage = s.cage) ∧ (s.lcs.state ≠ 0 → t.vault.ready = true ∧ t.vault.dkekValid = true ∧
          t.cage.battery.valid = true ∧ t.cage.pairing.valid = true) ∧ t.hostMem = s.hostMem ∧
        (s.boot.aonFail.getLsbD 0 = true → s.boot.aonFail.getLsbD 1 = true → t.boot.stage = 4 ∧ t.boot.failA = 8 ∧ t.boot.failB = 8)))) ∧
  -- R355: the checks of an image header, in their order; the first that fails gives the code.
  (∀ (s : State) (h : Bytes),
    (imageFormatOk h = false → headerFail s h = 0x01) ∧
    (imageFormatOk h = true → (signerFused s h = false → headerFail s h = 0x02) ∧
      (signerFused s h = true → (sm2Verify (slice 800 64 h) (h.take 960) (slice 960 64 h) = false → headerFail s h = 0x03) ∧
        (sm2Verify (slice 800 64 h) (h.take 960) (slice 960 64 h) = true → (leAt 12 1 h < fuseSvn s → headerFail s h = 0x04) ∧
          (fuseSvn s ≤ leAt 12 1 h → headerFail s h = if imageFits s h then 0 else 0x05)))) ∧
    (headerFail s h = 0 → s.fuses.revoked.getLsbD (leAt 13 1 h) = false ∧ fuseSvn s ≤ leAt 12 1 h ∧ leAt 12 1 h ≤ 64))

/-- Handover, BOOT_OK, recovery and firmware services.  The comment before each part names the rules of the spec it follows. -/
def Obligations.HandoverAndRecovery : Prop :=
  -- R357, R358, R397, R456: handover, BOOT_OK and the watchdog. Handover starts both pairs, and a paired unit joins; BOOT_OK
  -- waits for every die, then locks the gates with the entries of the MEM gate in place; 2 s without it reset the package, the
  -- failure of the slot or of the recovery image kept.
  (∀ (s : State),
    (s.boot.stage = 1 → ∀ certs record, ∃ t, exec (.bootHandover certs record) s = .next t ∧ t.boot.stage = 2 ∧ t.boot.handover = true ∧
      t.boot.handoverAt = s.time.time64 ∧ t.cal.enable = true ∧ (s.trp.paired = true → t.trp.fsm = fsmJOINING) ∧
      (s.trp.paired = false → t.trp.fsm = s.trp.fsm) ∧ t.cage = s.cage) ∧
    (s.boot.stage = 2 → diesReady s = true → ∃ t, exec .bootOk s = .next t ∧ t.boot.stage = 3 ∧
      ((getGate s 4).entries = [] → (entriesOf t 4).take 7 = memEntries ∧ ((entriesOf t 4).getD 31 {}).lock = true ∧
        ((entriesOf t 4).getD 31 {}).enable = false)) ∧
    (diesReady s = false → exec .bootOk s = .next s) ∧
    (s.boot.stage = 2 → s.boot.handoverAt.toNat + 2000000000 ≤ now s →
      ∃ t, exec .bootWatchdog s = .next t ∧ t.boot.stage = 0 ∧ t.queues = [] ∧ t.hostMem = s.hostMem ∧
        t.boot.aonFail = setBit s.boot.aonFail s.boot.slot)) ∧
  -- R360, R362 to R364: recovery and the firmware services. A recovery image read with no error that passes every check is
  -- loaded and its code is 0; FW_STAGE writes an image that passes to the slot not in use, its header last; FW_SVN_ADVANCE
  -- blows the SVN row up to a value between the fused SVN and the image's, a bit a command, and ends with the last;
  -- FW_KEY_REVOKE blows one revocation bit, never of the key in use.
  (∀ (s : State) (id : Nat) (i : Item) (b : Bytes),
    (s.boot.stage = 4 → s.lcs.state ≠ 3 → (getFunc s 0).busMaster = true →
      let img := fit (s.boot.recLen.toNat * 1024) b
      (∀ l, checkImage s img = .ok l → exec (.glbRecoveryGo (.ok b)) s = .next (loadImage 2 (fit 1024 img) l (setFail 2 0 s))) ∧
      (∀ e, checkImage s img = .error e → exec (.glbRecoveryGo (.ok b)) s = .next (setFail 2 e s)) ∧
      exec (.glbRecoveryGo .error) s = .next (setFail 2 0x07 s)) ∧
    (let k := i.le 36 1
     let buf := fit (i.le 32 4) b
     Serves id 0x0F70 i s → Pointer i → SvcBuffer i s → k ≤ 1 → k ≠ s.boot.slot →
      (∀ l, checkImage s buf = .ok l → exec (.fwStage id (.ok b)) s = .next (done id [BitVec.ofNat 8 k] { s with
        out := s.out ++ [.erase (slotBase k) 1024] ++
          ((componentsOf (fit 1024 buf)).map fun c => Emission.flash (slotBase k + c.off) (slice c.off c.len buf)) ++
          [.flash (slotBase k) (fit 1024 buf)] })) ∧
      (checkImage s buf = .error 2 ∨ checkImage s buf = .error 3 → exec (.fwStage id (.ok b)) s = .next (refuse id stKEY_BLOCK_AUTH 0x09 s)) ∧
      (checkImage s buf = .error 4 → exec (.fwStage id (.ok b)) s = .next (refuse id stOPERAND_FORMAT 0x04 s))) ∧
    (let n := i.le 24 1
     let u : State := { s with fuses := { s.fuses with svn := setBit s.fuses.svn (fuseSvn s) } }
     let begins := Serves id 0x0F71 i s ∧ Inline i ∧ s.boot.stage = 3 ∧ n ≤ s.boot.svn.toNat
     let goesOn := getItem s id = some i ∧ svnBlows i = true ∧ s.boot.stop0 = false
     n ≤ 64 →
      (begins → fuseSvn s = n → exec (.fwSvnAdvance id) s = .next (done id [BitVec.ofNat 8 n] s)) ∧
      (begins ∨ goesOn → fuseSvn s < n → fuseSvn u = fuseSvn s + 1 ∧
        exec (.fwSvnAdvance id) s = .next (if fuseSvn s + 1 < n then updItem id (fun i => { i with phase := phBlow }) u
          else done id [BitVec.ofNat 8 n] u))) ∧
    (let k := i.le 24 1
     Serves id 0x0F72 i s → Inline i → k ≤ 3 →
      (k = s.boot.keyIndex.toNat → exec (.fwKeyRevoke id) s = .next (refuse id stOPERAND_FORMAT 0x04 s)) ∧
      (k ≠ s.boot.keyIndex.toNat → exec (.fwKeyRevoke id) s = .next (done id [BitVec.ofNat 8 (setBit s.fuses.revoked k).toNat]
        { s with fuses := { s.fuses with revoked := setBit s.fuses.revoked k } }))))

/-- Quotes, the unit challenge, lockstep and SPDM.  The comment before each part names the rules of the spec it follows. -/
def Obligations.QuoteAndSpdm : Prop :=
  -- R366, R372, R374 to R376: ATTEST_QUOTE writes the quote of its partition, signed, and the measurement log; a unit
  -- challenge is answered with the response under the pairing secret; a lockstep mismatch stops its pair, whose services end
  -- with HALTED, and raises CORE_LOCKSTEP.
  (∀ (s : State) (id : Nat) (i : Item),
    (Serves id 0x0F73 i s → Inline i → s.vault.ready = true → RootReady s → 616 ≤ i.le 40 4 →
      let body := quoteBody s (i.le 24 1) (slice 65 32 i.raw)
      let sg := idSign body s
      let out := body ++ sg.1 ++ measLog s
      out.length ≤ i.le 40 4 → SvcMay i (i.le 32 8) out.length 1 sg.2 →
      exec (.attestQuote id) s = .next (finish id stOK (toLE 4 out.length) true (dataWrite 0 i.part i.qp (i.le 32 8) out sg.2)) ∧
        body.length = 192 ∧ sg.1.length = 64) ∧
    (s.uch.code ≠ 0x20 → exec .uchStart s = .next { s with uch := { s.uch with
      code := if s.vault.ready then 0x20 else 0x12, seq := s.uch.seq + 1, resp0 := 0, resp1 := 0 } }) ∧
    (s.uch.code = 0x20 → exec .uchStart s = .next s ∧ (s.vault.ready = true → exec .uchDone s = .next { s with uch := {
      s.uch with code := 0, resp0 := BitVec.ofNat 64 (leAt 0 8 (uchResponse s)), resp1 := BitVec.ofNat 64 (leAt 8 8 (uchResponse s)) } })) ∧
    (∃ t, exec (.lockstepMismatch 0) s = .next t ∧ t.boot.stop0 = true ∧ t.boot.stop1 = s.boot.stop1 ∧ cCORE_LOCKSTEP ∈ t.canvas.alarms) ∧
    (∃ t, exec (.lockstepMismatch 1) s = .next t ∧ t.boot.stop1 = true ∧ t.boot.stop0 = s.boot.stop0 ∧ cCORE_LOCKSTEP ∈ t.canvas.alarms)) ∧
  -- R369 to R371: the SPDM responder, once both pairs run and the Cage is ready. A response is sent, and is read at the PF's
  -- DOE mailbox where its request came by that. Version, capabilities and algorithms are negotiated in that order; digests,
  -- certificates and unsigned measurements are returned; what is asked too early or is longer than 4,096 bytes gets an error
  -- response and changes nothing else.
  (∀ (s : State) (msg : Bytes), spdmUp s = true →
    let u : State := updSpdm (fun x => { x with log := x.log ++ msg }) s
    let sends (code : Nat) (f : Bytes) (t : State) : Res := .next (respondSpdm code f t)
    (∀ code f, (respondSpdm code f s).out = s.out ++ [.spdm code f] ∧
      (s.pcie.doe.busy = none → respondSpdm code f s = { s with out := s.out ++ [.spdm code f] }) ∧
      (∀ ty, s.pcie.doe.busy = some ty → (respondSpdm code f s).pcie.doe.busy = none ∧
        (respondSpdm code f s).pcie.doe.read = s.pcie.doe.read ++ doeObject ty (Config.spdmMessage code f))) ∧
    (s.vault.ready = true → msg.length ≤ 4096 →
      exec (.getVersion msg) s = sends 0x04 [0x12] { s with spdm := { s.spdm with phase := 1, log := msg } } ∧
      (1 ≤ s.spdm.phase → ∃ f, exec (.getCapabilities msg) s = sends 0x61 f (updSpdm (fun x => { x with phase := max x.phase 2 }) u)) ∧
      (2 ≤ s.spdm.phase → ∀ p384, exec (.negotiateAlgorithms true p384 msg) s = sends 0x63 [0] (updSpdm (fun x => {
        x with phase := 3, sha384 := false }) u)) ∧
      (2 ≤ s.spdm.phase → exec (.negotiateAlgorithms false true msg) s = sends 0x63 [1] (updSpdm (fun x => {
        x with phase := 3, sha384 := true }) u) ∧ exec (.negotiateAlgorithms false false msg) s = sends 0x7F [] u) ∧
      (3 ≤ s.spdm.phase → (∃ f, exec (.getDigests msg) s = sends 0x01 f u) ∧
        (∀ slot off len e, s.spdm.slots.find? (fun e => decide (e.1 = slot)) = some e → off < e.2.length →
          exec (.getCertificate slot off len msg) s = sends 0x02 ((e.2.drop off).take len) u) ∧
        (∀ slot, exec (.getMeasurements 0 false slot msg) s = sends 0x60 [9] u) ∧
        (∀ n slot, 0 < n → n ≤ 9 → exec (.getMeasurements n false slot msg) s = sends 0x60
          ([BitVec.ofNat 8 n, BitVec.ofNat 8 (Config.measType n)] ++ (measDigests s.spdm.sha384 s).getD (n - 1) []) u))) ∧
    (s.vault.ready = false ∨ 4096 < msg.length → exec (.getVersion msg) s = sends 0x7F [] s) ∧
    (s.spdm.phase < 3 → ∀ slot, exec (.challenge slot msg) s = sends 0x7F [] s ∧ exec (.getDigests msg) s = sends 0x7F [] s)) ∧
  -- R367 to R371, R413: signatures and sessions. With the root secret in place and a slot whose leaf is the negotiated key,
  -- CHALLENGE is answered with a signed response; KEY_EXCHANGE opens a session, at most four; FINISH finishes or ends it; the
  -- requests of a finished session are answered; SET_CERTIFICATE writes the chain of slots 2 to 7 to flash, in PRODUCTION.
  (∀ (s : State) (msg : Bytes) (slot k : Nat), spdmUp s = true → s.vault.ready = true → msg.length ≤ 4096 → 3 ≤ s.spdm.phase →
    let u : State := updSpdm (fun x => { x with log := x.log ++ msg }) s
    let sends (code : Nat) (f : Bytes) (t : State) : Res := .next (respondSpdm code f t)
    (s.fuses.rootGone = false → signingSlot s slot = true → RootReady s →
      (∃ f t, exec (.challenge slot msg) s = sends 0x03 f t ∧ t.spdm = u.spdm ∧ t.cage = s.cage) ∧
      (s.spdm.sessions.length < 4 → ∃ f t, exec (.keyExchange slot msg) s = sends 0x64 f t ∧
        t.spdm.sessions = s.spdm.sessions ++ [{ id := s.spdm.nextId }] ∧ t.spdm.nextId = s.spdm.nextId + 1)) ∧
    (s.fuses.rootGone = true → exec (.challenge slot msg) s = sends 0x7F [] u ∧ exec (.keyExchange slot msg) s = sends 0x7F [] u) ∧
    (∀ x, findSession s k = some x → x.finished = false →
      exec (.finish k true msg) s = sends 0x65 [] (updSession k (fun y => { y with finished := true }) u) ∧
      exec (.finish k false msg) s = sends 0x7F [] (updSpdm (fun y => { y with sessions := y.sessions.filter fun z => decide (z.id ≠ k) }) u)) ∧
    (∀ x, findSession s k = some x → x.finished = true →
      exec (.heartbeat k msg) s = sends 0x68 [] u ∧
      exec (.keyUpdate k msg) s = sends 0x69 [] (updSession k (fun y => { y with updates := y.updates + 1 }) u) ∧
      exec (.endSession k msg) s = sends 0x6C [] (updSpdm (fun y => { y with sessions := y.sessions.filter fun z => decide (z.id ≠ k) }) u) ∧
      exec (.vendorDefined k true msg) s = sends 0x7E [] (updSpdm (fun x => { x with ideKeys := true }) u) ∧
      exec (.vendorDefined k false msg) s = sends 0x7F [] u ∧
      (∀ chain, 2 ≤ slot → slot ≤ 7 → s.lcs.state.toNat = 2 → chain.length + 4 ≤ 8192 →
        ∃ t, exec (.setCertificate k slot chain msg) s = .next t ∧
          t.out = s.out ++ [.flash (0x8000000 + slot * 0x2000) (toLE 4 chain.length ++ chain), .spdm 0x6E [BitVec.ofNat 8 slot]] ∧
          (∀ e ∈ t.spdm.slots, e.1 ≠ slot → e ∈ s.spdm.slots) ∧ (idLeaf s chain = true → (slot, chain) ∈ t.spdm.slots))))

/-- Dirty-page logs, quiescing and state blobs.  The comment before each part names the rules of the spec it follows. -/
def Obligations.MigrationServices : Prop :=
  -- R89 to R91: dirty-page logs. MIG_LOG_START logs a range with no page dirty; MIG_LOG_READ_CLEAR writes the bitmap of its
  -- pages to host memory and clears what it reported, and no other page; MIG_LOG_STOP ends every range of the VF.
  (∀ (s : State) (id : Nat) (i : Item), Inline i →
    let v := i.le 24 1
    let r := i.le 25 1
    (Serves id 0x0F20 i s → rangeOk s v r (i.le 32 8) (i.le 40 8) = true →
      ∃ s', exec (.migLogStart id) s = .next (done id [] s') ∧
        Tab.get dRange (getFunc s' v).logRanges r = { base := i.le 32 8, len := i.le 40 8 } ∧
        (∀ q, q ≠ r → Tab.get dRange (getFunc s' v).logRanges q = Tab.get dRange (getFunc s v).logRanges q) ∧
        ∀ g, g ≠ v → getFunc s' g = getFunc s g) ∧
    (let off := i.le 32 8
     let n := i.le 48 4
     let g := Tab.get dRange (getFunc s v).logRanges r
     let told := g.dirty.filter fun x => decide (off / 4096 ≤ x) && decide (x < off / 4096 + 8 * n)
     Serves id 0x0F21 i s → isVf v = true → r ≤ 3 → off % 0x08000000 = 0 → off < g.len → n % 8 = 0 → n ≤ 0x100000 →
      SvcMay i (i.le 40 8) n 1 s →
      ∃ s', exec (.migLogReadClear id) s = .next (finish id stOK (toLE 8 told.length ++ toLE 8 (getFunc s v).untracked.toNat) true s') ∧
        Wrote (i.le 40 8) ((List.range n).map fun k => bitmapByte told (off / 4096 + 8 * k)) s s' ∧
        ∀ x, x ∈ (Tab.get dRange (getFunc s' v).logRanges r).dirty ↔ x ∈ g.dirty ∧ ¬ (off / 4096 ≤ x ∧ x < off / 4096 + 8 * n)) ∧
    (Serves id 0x0F22 i s → isVf v = true → exec (.migLogStop id) s = .next (done id [] (updFunc v (fun f => { f with logRanges := [] }) s)))) ∧
  -- R92: quiescing. VF_QUIESCE stops admission from the VF and waits; it ends with OK once no command of the VF is
  -- outstanding, and with TIMED_OUT once its limit has passed; VF_RESUME admits again.
  (∀ (s : State) (id : Nat) (i : Item), isVf (i.le 24 1) = true →
    let v := i.le 24 1
    (Serves id 0x0F28 i s → Inline i → exec (.vfQuiesce id) s = .next (updItem id (fun i => {
      i with phase := phQuiesce, waitAt := s.time.time64 }) (updFunc v (fun f => { f with quiesced := true }) s))) ∧
    (quiesceWaits id s = some i → vfOutstanding s v = false → exec (.vfQuiesceDrained id) s = .next (done id [] s)) ∧
    (quiesceWaits id s = some i → vfOutstanding s v = true → exec (.vfQuiesceDrained id) s = .next s ∧
      (i.le 28 4 ≠ 0 → i.waitAt.toNat + i.le 28 4 * 1000 ≤ now s →
        exec (.vfQuiesceTimeout id) s = .next (finish id stTIMED_OUT [] false s))) ∧
    (Serves id 0x0F2B i s → Inline i → exec (.vfResume id) s = .next (done id [] (updFunc v (fun f => { f with quiesced := false }) s)))) ∧
  -- R93, R94: VF_SAVE of a quiesced VF writes one sealed blob under its partition's transfer key and leaves the VF as it was;
  -- VF_RESTORE of a blob whose tag holds, whose pages the target has and whose queues fit, writes them all into the VF, which
  -- is then quiesced; with a tag that does not hold it changes nothing.
  (∀ (s : State) (id : Nat) (i : Item), Inline i → isVf (i.le 24 1) = true →
    let v := i.le 24 1
    (∀ k, Serves id 0x0F29 i s → (getFunc s v).quiesced = true → RootReady s → transferKey s v = some k →
      let body := saveBody s v
      let n := 32 + body.length + 16
      let nonce := fit 12 (drawRoot 12 s).1
      let head := toLE 4 0x00010001 ++ toLE 4 n ++ [BitVec.ofNat 8 v, BitVec.ofNat 8 (savedQueues s v).length, 0, 0] ++ nonce ++
        toLE 4 (flowsOf s v).length ++ zeros 4
      let ct := fit body.length (Config.gcmEnc 5 (stateKey k v) nonce head body)
      let blob := head ++ ct ++ fit 16 (Config.gcmTag 5 (stateKey k v) nonce head ct)
      n ≤ i.le 40 4 → SvcMay i (i.le 32 8) blob.length 1 (drawRoot 12 s).2 →
      exec (.vfSave id) s = .next (finish id stOK (toLE 4 n) true (dataWrite 0 i.part i.qp (i.le 32 8) blob (drawRoot 12 s).2)) ∧ blob.length = n) ∧
    (∀ b k, Serves id 0x0F2A i s → savedQueues s v = [] → transferKey s v = some k → SvcMay i (i.le 32 8) (i.le 40 4) 0 s →
      let blob := fit (i.le 40 4) b
      let len := leAt 4 4 blob
      let ct := slice 32 (len - 48) blob
      let key := stateKey k (byteAt 8 blob).toNat
      112 ≤ len → len ≤ i.le 40 4 →
      (leAt 0 4 blob = 0x00010001 → fit 16 (Config.gcmTag 5 key (slice 12 12 blob) (blob.take 32) ct) = slice (len - 16) 16 blob →
        let o := openSaved (byteAt 9 blob).toNat (fit (len - 48) (Config.gcmDec 5 key (slice 12 12 blob) (blob.take 32) ct))
        (∀ e ∈ o.1, (targetQueue s v e.1).isSome = true) → savedGranules o.1 ≤ freeGranules s →
        exec (.vfRestore id (.ok b)) s = .next (done id [] (reselect (restoreVf v (leAt 24 4 blob) o.1 o.2 s)))) ∧
      (fit 16 (Config.gcmTag 5 key (slice 12 12 blob) (blob.take 32) ct) ≠ slice (len - 16) 16 blob →
        exec (.vfRestore id (.ok b)) s = .next (finish id stKEY_BLOCK_AUTH [] false s))))

/-- Roustabout, gate entries and the debug port.  The comment before each part names the rules of the spec it follows. -/
def Obligations.MoverGatesAndDebug : Prop :=
  -- R377 to R382: the mover. START of a channel with a bad COUNT or SWAP ends it with ERR 4; of a good one makes it pending,
  -- active at once where no other is; STOP ends a pending channel at once. A transfer that both sides allow has written its
  -- swapped data at its destination and is done, the channel no longer active; one a side denies has written what lies before
  -- the first denied access, and ends with that side's code and that count.
  (∀ (s : State) (ch pair : Nat), ch ≤ 7 →
    let c := getMov s ch
    (c.busy = false → movCfgBad c = true → ∃ t, exec (.movStart ch pair) s = .next t ∧ (getMov t ch).state = 5 ∧ (getMov t ch).err = 4 ∧
      t.mov.active = s.mov.active ∧ t.mov.irq.getLsbD (16 + ch) = true ∧ ∀ n, n ≠ ch → getMov t n = getMov s n) ∧
    (c.busy = false → movCfgBad c = false → ∃ t, exec (.movStart ch pair) s = .next t ∧ (getMov t ch).busy = true ∧ (getMov t ch).pair = pair ∧
      (getMov t ch).err = 0 ∧ t.mov.active.isSome = true ∧ (s.mov.active.isSome = true → t.mov.active = s.mov.active)) ∧
    (c.busy = true → exec (.movStart ch pair) s = .next (updMov ch (fun c => { c with cfgBusy := true }) s)) ∧
    (c.state = 1 → exec (.movStop ch) s = .next (updMov ch (fun c => { c with state := 4 }) s)) ∧
    (c.state = 2 → exec (.movStop ch) s = .next (updMov ch (fun c => { c with stop := true }) s)) ∧
    (c.state = 2 → ∃ t, exec (.movHalf ch) s = .next t ∧ c.count.toNat / 2 ≤ (getMov t ch).done.toNat ∧
      (bitOf c.cfg 4 = true → t.mov.irq.getLsbD ch = true) ∧ (bitOf c.cfg 4 = false → t.mov.irq = s.mov.irq)) ∧
    (s.mov.active = some ch → ∀ data reach,
      let n := c.count.toNat
      let r := movAccess c c.srcHost c.src.toNat n 0 s
      let w := movAccess c c.dstHost c.dst.toNat r.2.1 1 r.2.2
      let d := swapData c.swap (fit n data)
      let failed (e : Nat) : State := endMov ch (fun c => { c with state := 5, err := BitVec.ofNat 4 e, done := BitVec.ofNat 31 w.2.1 })
        (BitVec.ofNat 24 (2 ^ (16 + ch)) ||| halfIrq c ch w.2.1) (movWrite c (d.take w.2.1) w.2.2)
      c.stop = false →
      (r.1 = 0 → w.1 = 0 → exec (.movTransferEnd data reach .done) s = .next (
        endMov ch (fun c => { c with state := 3, done := c.count })
          ((if bitOf c.cfg 5 then BitVec.ofNat 24 (2 ^ (8 + ch)) else 0) ||| halfIrq c ch n) (movWrite c d w.2.2))) ∧
      (w.1 ≠ 0 → exec (.movTransferEnd data reach .done) s = .next (failed w.1)) ∧
      (r.1 ≠ 0 → w.1 = 0 → exec (.movTransferEnd data reach .done) s = .next (failed r.1)))) ∧
  -- R389 to R392, R396, R398: gate entries. An entry's configuration is committed with its staged base and limit where the
  -- writer's access passes the gate, and then lets through what it covers; a locked entry keeps itself and sets ERR bit 0, a
  -- bad range ERR bit 1; SYNC is up from its write until every access it found under way has completed.
  (∀ (s : State) (colour g e : Nat) (v : Word32), gatePresent s g = true → e ≤ 31 →
    let x := (entriesOf s g).getD e {}
    ((gateAccess colour false (gateReg g + 0x110 + e * 0x20) 4 1 s).1 = true →
      (x.lock = true → exec (.gatEntCfgWrite colour g e v) s = .next (updGate g (fun y => { y with err := setBit y.err 0 }) s)) ∧
      (x.lock = false → x.sLimit < x.sBase → exec (.gatEntCfgWrite colour g e v) s = .next (updGate g (fun y => { y with err := setBit y.err 1 }) s)) ∧
      (x.lock = false → x.sBase ≤ x.sLimit → v.getLsbD 19 = false ∨ g = 4 →
        exec (.gatEntCfgWrite colour g e v) s = .next (updEntry g e (fun x => { x with
          base := x.sBase, limit := x.sLimit, cfg := (v &&& 0x803FFFFF) ||| (x.cfg &&& 0x80100000) }) s))) ∧
    ((gateAccess colour false (gateReg g + 8) 4 1 s).1 = true →
      exec (.gateSync colour g) s = .next (updGate g (fun y => { y with sync := true, syncFor := gateReads s g }) s)) ∧
    ((∀ r ∈ (getGate s g).syncFor, r ∉ gateReads s g) →
      exec (.gateSyncDone g) s = .next (updGate g (fun y => { y with sync := false, syncFor := [] }) s)) ∧
    ((∃ r ∈ (getGate s g).syncFor, r ∈ gateReads s g) → exec (.gateSyncDone g) s = .next s)) ∧
  -- R400 to R407: the debug port. IDCODE and DBG_STATUS are shifted out in every state; BYPASS and SAMPLE/PRELOAD change
  -- nothing of the device; DBG_CORE1 halts and resumes pair 1 where it is available, and in PRODUCTION without its scope does
  -- nothing; EXTEST sets EXTEST_SEEN. DBG_ACCESS that the port does not emit, or a gate denies, answers ERR with zero data and
  -- changes no register; one that passes reads or writes with colour 10.
  (∀ (s : State),
    let sends (v : Word64) (err : Bool) (t : State) : State := { t with out := t.out ++ [.debug v err] }
    exec .bypass s = .next s ∧ exec .samplePreload s = .next s ∧
    exec .idcode s = .next (sends (BitVec.ofNat 64 (0xB * 2 ^ 28 + partCode s.part.variant * 2 ^ 12 + 0x73D * 2 + 1)) false s) ∧
    exec .dbgStatus s = .next (sends s.dbg.expiry false (sends (BitVec.ofNat 64 (dbgStatus s)) false s)) ∧
    (core1Port s = true → exec .dbgCore1Halt s = .next { s with dbg := { s.dbg with core1Halted := true } } ∧
      exec .dbgCore1Resume s = .next { s with dbg := { s.dbg with core1Halted := false } } ∧ exec .dbgCore1Step s = .next s) ∧
    (s.lcs.state = 2 → s.dbg.grant = false → exec .dbgCore1Halt s = .next s) ∧
    (supplyCase s = some 0 → (s.lcs.state = 3 → wiped s = true) → ∃ t, exec .extest s = .next t ∧ t.dbg.extest = true ∧
      t.canvas.cause.getLsbD cDEBUG_EXTEST = true) ∧
    (∀ w a v d, s.lcs.state = 3 → wiped s = false → exec (.dbgAccess w a v d) s = .next s) ∧
    (∀ a v d, s.lcs.state = 2 → s.dbg.grant = false → ∃ t, exec (.dbgAccess true a v d) s = .next t ∧
      t.out = s.out ++ [.debug 0 true] ∧ t.hostMem = s.hostMem ∧ t.seats = s.seats ∧ t.cage = s.cage ∧ t.queues = s.queues) ∧
    (∀ w a v d, s.lcs.state.toNat < 2 → (gateAccess 10 false a 8 (b2n w) s).1 = true →
      exec (.dbgAccess w a v d) s = .next (if w then sends 0 false (portWrite a v s)
        else sends (portRead s a d) false (readEffect a s))))

/-- Life-cycle requests, fuses, wiping and the debug and scrap services.  The comment before each part names the rules of the spec
it follows. -/
def Obligations.LifeCycleChanges : Prop :=
  -- R409 to R411, R414: life-cycle requests. Arming keeps the target; a GO within 1 ms of the same target, allowed and with
  -- its precondition, starts programming; another target or a late one gives RESULT 3, one R409 does not allow 2, a missing
  -- precondition 4, and none of them starts it; an armed request expires after 1 ms.
  (∀ (s : State) (t : Word32), s.lcs.state.toNat < 2 → s.lcs.programming = none →
    let l := s.lcs
    exec (.lcsReqArm none t) s = .next (updLcs (fun l => { l with target := t, armed := true, armAt := s.time.time64, fsm := 0x3C3C }) s) ∧
    (l.armed = false ∨ t ≠ l.target → exec (.lcsReqGo none t) s = .next (updLcs (fun l => { l with result := 3 }) s)) ∧
    (l.armed = true → t = l.target →
      (l.armAt.toNat + 1000000 < now s → exec (.lcsReqGo none t) s = .next (updLcs (fun l => { l with armed := false, fsm := 0xAAAA, result := 3 }) s)) ∧
      (now s ≤ l.armAt.toNat + 1000000 →
        (lcsOf t = none → exec (.lcsReqGo none t) s = .next (updLcs (fun l => { l with armed := false, fsm := 0xAAAA, result := 2 }) s)) ∧
        (∀ n, lcsOf t = some n →
          (lcsAllowed s n = false → exec (.lcsReqGo none t) s = .next (updLcs (fun l => { l with armed := false, fsm := 0xAAAA, result := 2 }) s)) ∧
          (lcsAllowed s n = true → lcsReady s n = false → exec (.lcsReqGo none t) s = .next (updLcs (fun l => { l with armed := false, fsm := 0xAAAA, result := 4 }) s)) ∧
          (lcsAllowed s n = true → lcsReady s n = true → exec (.lcsReqGo none t) s = .next (updLcs (fun l => {
            l with armed := false, fsm := 0xF0F0, result := 0, programming := some (BitVec.ofNat 2 n) }) s))))) ∧
    (l.armed = true → l.armAt.toNat + 1000000 ≤ now s → exec .lcsArmExpire s = .next (updLcs (fun l => { l with armed := false, fsm := 0xAAAA }) s)) ∧
    (l.armed = false → exec .lcsArmExpire s = .next s)) ∧
  -- R348, R405, R409, R410, R413: fuses and the life cycle. FUSE_PROG blows bits of its row in BLANK and TEST and changes
  -- nothing later; programming blows the new code in the three copies and resets the package, on the way to PRODUCTION with
  -- the Cage cleared and the boot held until a power-on; a wipe step has its effect and blows its bit.
  (∀ (s : State),
    (s.lcs.state.toNat < 2 → ∀ data, exec (.fuseProg 0 data) s = .next { s with fuses := {
      s.fuses with serial := s.fuses.serial ||| BitVec.ofNat 64 (leAt 0 8 data) } }) ∧
    (2 ≤ s.lcs.state.toNat → ∀ row data, exec (.fuseProg row data) s = .next s) ∧
    (∀ n, s.lcs.programming = some n → ∃ t, exec .lcsProgramDone s = .next t ∧
      bitsIn (lcsCode n.toNat) t.fuses.c0 = true ∧ bitsIn s.fuses.c0 t.fuses.c0 = true ∧ bitsIn s.fuses.c1 t.fuses.c1 = true ∧
      bitsIn s.fuses.c2 t.fuses.c2 = true ∧ t.boot.stage = 0 ∧ t.queues = [] ∧ t.lcs.programming = none ∧
      (n = 2 → t.cage = {} ∧ t.lcs.waitLatch = true) ∧ (n ≠ 2 → t.cage = s.cage ∧ t.lcs.waitLatch = s.lcs.waitLatch)) ∧
    (s.lcs.fsm = 0x6666 → s.lcs.wipeStep.toNat ≤ 4 → ∃ t, exec .wipeStepDone s = .next t ∧
      t.fuses.wipe = setBit s.fuses.wipe s.lcs.wipeStep.toNat ∧ (s.lcs.wipeStep = 0 → t.cage = {}) ∧
      (s.lcs.wipeStep = 4 → t.fuses.rootGone = true) ∧ (t.boot.stage = 6 ↔ s.boot.stage = 6 ∨ t.fuses.wipe = 0x1F)) ∧
    (s.lcs.fsm ≠ 0x6666 → exec .wipeStepDone s = .next s)) ∧
  -- R403, R412, R417: the debug and scrap services. DEBUG_UNLOCK in PRODUCTION under the quorum of partition 0 replaces the
  -- grant with the authorised scopes and duration; DEBUG_LOCK ends it, as its expiry does; LCS_SCRAP starts programming of
  -- END_OF_LIFE, without an authorisation in BLANK and TEST.
  (∀ (s : State) (id : Nat) (i : Item) (b : Bytes),
    (Serves id 0x0F81 i s → Pointer i → SvcBuffer i s → s.lcs.state = 2 → s.vault.ready = true →
      let buf := fit (i.le 32 4) b
      ∀ scope minutes, unlockParam buf = some (scope, minutes) →
      VaultAuthorised { action := 0x19, part := 0, param := slice 8 4 buf, subject := sm3 (serialBytes s) } buf s →
      ∃ t, exec (.debugUnlock id (.ok b)) s = .next (done id (toLE 8 t.dbg.expiry.toNat) t) ∧ t.dbg.grant = true ∧
        t.dbg.scope = BitVec.ofNat 4 scope ∧ t.dbg.expiry = s.time.time64 + BitVec.ofNat 64 (minutes * 60000000000) ∧
        t.dbg.grantCnt = satInc s.dbg.grantCnt ∧ t.dbg.tokens = s.dbg.tokens ++ buf ∧ cDEBUG_UNLOCK ∈ t.canvas.alarms) ∧
    (Serves id 0x0F81 i s → Pointer i → s.lcs.state ≠ 2 → exec (.debugUnlock id (.ok b)) s = .next (refuse id stOPERAND_FORMAT 0x04 s)) ∧
    (Serves id 0x0F82 i s → Inline i → exec (.debugLock id) s = .next (done id [] (endGrant s)) ∧ (endGrant s).dbg.grant = false) ∧
    (s.dbg.grant = true → s.dbg.expiry.toNat ≤ now s → exec .debugGrantExpire s = .next (endGrant s)) ∧
    (Serves id 0x0F80 i s → Pointer i → SvcBuffer i s → s.lcs.programming = none → s.lcs.state.toNat < 2 →
      exec (.lcsScrap id (.ok b)) s = .next (updItem id (fun i => { i with phase := phLifecycle }) (endUnstarted stHALTED
        (updLcs (fun l => { l with programming := some 3, armed := false, fsm := 0xF0F0 }) s)))) ∧
    (Serves id 0x0F80 i s → Pointer i → SvcBuffer i s → s.lcs.programming = none → s.lcs.state = 2 → s.vault.ready = true →
      VaultAuthorised { action := 0x18, part := 0, subject := sm3 (serialBytes s) } (fit (i.le 32 4) b) s → regEmpty s 0 = false →
      ∃ s', exec (.lcsScrap id (.ok b)) s = .next (updItem id (fun i => { i with phase := phLifecycle }) (endUnstarted stHALTED
        (updLcs (fun l => { l with programming := some 3, armed := false, fsm := 0xF0F0 }) s'))) ∧ s'.lcs = s.lcs ∧ s'.items = s.items))

/-- Canvas: detection, stimulation and clearing of causes.  The comment before each part names the rules of the spec it follows. -/
def Obligations.CanvasDetection : Prop :=
  -- R419, R430 to R436: detection. Causes that are watched are latched, with their count, and RESPONSE never falls; a cause
  -- that acts at S5 clears the Cage, whatever was in it; in battery supply the sentinel latches it, and clears the Cage at S5;
  -- one that is not watched does nothing.
  (∀ (s : State) (c : Nat) (raw : Word64),
    let u := readRaw raw s
    (supplyCase s = some 0 → srcWatched u 0 c = true → s.canvas.stimBusy = false →
      ∃ t, exec (.canvasDetect [c] raw) s = .next t ∧ t.canvas.cause.getLsbD c = true ∧ t.canvas.causeCnt = s.canvas.causeCnt + 1 ∧
        t.canvas.response = BitVec.ofNat 3 (max s.canvas.response.toNat (actedSev u c)) ∧
        (actedSev u c = 5 → s.canvas.response = 0 → t.cage = {} ∧ t.vault.ready = false ∧ t.canvas.zeroised = true ∧
          t.canvas.purged = true ∧ t.canvas.halted = true ∧ t.dir.key = none) ∧
        (s.canvas.firstValid = true → t.canvas.first = s.canvas.first ∧ t.canvas.firstTime = s.canvas.firstTime)) ∧
    (supplyCase s = some 0 → srcWatched u 0 c = false → exec (.canvasDetect [c] raw) s = .next u) ∧
    (supplyCase s = some 2 → srcWatched s 2 c = true → s.canvas.sentinel.latch.length < 16 →
      ∃ t, exec (.sentinelDetect c) s = .next t ∧
        t.canvas.sentinel.latch = s.canvas.sentinel.latch ++ [latchEntry s c (sentinelSev s c) 2] ∧
        (sentinelSev s c = 5 → t.cage = {}) ∧ (sentinelSev s c ≠ 5 → t.cage = s.cage)) ∧
    (supplyCase s = some 0 ∨ supplyCase s = some 1 → exec .sentinelConfigCopy s = .next (updCnv (fun c => {
      c with sentinel := { c.sentinel with cfg := c.cfg, stale := false } }) s))) ∧
  -- R439, R440, R447: stimulation by register. A start that R440 bars sets ERR bit 3 and does not begin; a stimulation that is
  -- detected and released passes and is counted, one that is not is counted as failed and raises STIM_FAIL.
  (∀ (s : State) (src : BitVec 6) (raw : Word64),
    let u := readRaw raw s
    (stimBarred u src.toNat = false → stimulable u src.toNat = true → ∃ t, exec (.cnvStimStart src raw) s = .next t ∧
      t.canvas.stimBusy = true ∧ t.canvas.source = src ∧ t.canvas.stimAt = s.time.time64 ∧ t.canvas.response = s.canvas.response ∧
      t.canvas.cause = s.canvas.cause) ∧
    (stimBarred u src.toNat = true → ∃ t, exec (.cnvStimStart src raw) s = .next t ∧ t.canvas.stimBusy = s.canvas.stimBusy ∧
      t.canvas.err.getLsbD 3 = true) ∧
    (∀ d r, s.canvas.stimBusy = true → s.canvas.stimAt.toNat + stimWindow s.canvas.source.toNat ≤ now s →
      ∃ t, exec (.stimEnd d r) s = .next t ∧ t.canvas.stimBusy = false ∧ t.canvas.stimResult = (if d then (if r then 1 else 3) else 2) ∧
        t.canvas.stimCnt = satInc s.canvas.stimCnt ∧ t.canvas.stimFail = (if d && r then s.canvas.stimFail else satInc s.canvas.stimFail) ∧
        ((d && r) = false → cSTIM_FAIL ∈ t.canvas.alarms) ∧ t.canvas.cause = s.canvas.cause)) ∧
  -- R432, R445: CNV_CAUSE is cleared only at the bits written 1 whose detector is quiet and whose severity is below S3, and
  -- not at all from S4 on.
  (∀ (s : State) (v raw : Word64),
    let u := readRaw raw s
    ∃ t, exec (.cnvCauseClear v raw) s = .next t ∧ t.canvas.response = s.canvas.response ∧ t.cage = s.cage ∧
      ∀ c, t.canvas.cause.getLsbD c = (s.canvas.cause.getLsbD c && !(v.getLsbD c && !u.canvas.raw.getLsbD c &&
        decide (srcSev s.canvas.cfg c < 3) && decide (s.canvas.response.toNat < 4))))

/-- R432, R436, R439 to R443, R447: the Canvas services.  CANVAS_RESUME ends a halt whose detectors are quiet, and no purge
or zeroisation; CANVAS_LATCH_CLEAR removes the oldest entries; CANVAS_STIMULATE stimulates one source; CANVAS_CONFIG takes a
configuration that keeps every floor and bound, one less strict than the factory's only under the quorum; and
CANVAS_DISABLE_FUSE blows disable bits. -/
def Obligations.CanvasServices : Prop :=
  ∀ (s : State) (id : Nat) (i : Item) (raw : Word64) (b : Bytes),
    let u := readRaw raw s
    let high (c : Nat) : Bool := u.canvas.cause.getLsbD c && decide (3 ≤ srcSev u.canvas.cfg c)
    (Serves id 0x0F90 i s →
      (4 ≤ s.canvas.highSince.toNat → exec (.canvasResume id raw) s = .next (refuse id stOPERAND_FORMAT 0x0D u)) ∧
      (s.canvas.highSince.toNat < 4 → s.canvas.halted = true → (∀ c, c < 64 → high c = true → u.canvas.raw.getLsbD c = false) →
        ∃ t, exec (.canvasResume id raw) s = .next (done id [] t) ∧ t.canvas.halted = false ∧ t.canvas.response = 0 ∧
          t.canvas.fsm = cnvARMED ∧ ∀ c, t.canvas.cause.getLsbD c = (s.canvas.cause.getLsbD c && !high c)) ∧
      (s.canvas.highSince.toNat < 4 → s.canvas.halted = false → exec (.canvasResume id raw) s = .next (done id [] u))) ∧
    (let n := i.le 24 1
     let l := s.canvas.sentinel.latch
     Serves id 0x0F91 i s → 1 ≤ n → n ≤ 16 → n ≤ l.length → exec (.canvasLatchClear id) s =
      .next (done id [BitVec.ofNat 8 (l.length - n)] (updCnv (fun c => { c with sentinel := { c.sentinel with latch := l.drop n } }) s))) ∧
    (∀ und stuck, let c := i.le 24 1
     Serves id 0x0F92 i s → c ≠ 0xFF → stimulable u c = true → stimBarred u c = false → und.getLsbD c = false → stuck.getLsbD c = false →
      exec (.canvasStimulate id raw und stuck) s = .next (done id (toLE 4 1 ++ toLE 4 0 ++ toLE 8 0) (stimResult c true true u))) ∧
    (let buf := fit (i.le 32 4) b
     let cfg := readBlock (buf.take 72)
     let taken (t : State) : Res := .next (done id [] (updCnv (fun x => {
       x with cfg := cfg, lock := x.lock || decide (i.le 40 1 = 1), sentinel := { x.sentinel with stale := true } }) t))
     Serves id 0x0F93 i s → Pointer i → SvcBuffer i s → s.canvas.lock = false → s.canvas.response.toNat < 4 → i.le 32 4 = 72 + i.le 36 4 →
      i.le 40 1 < 2 → leAt 44 4 (buf.take 72) = 0 → leAt 68 4 (buf.take 72) = 0 → configOk cfg = true →
      (lessStrict cfg = false → exec (.canvasConfig id (.ok b)) s = taken s) ∧
      (lessStrict cfg = true → regEmpty s 0 = false →
        VaultAuthorised { action := 0x1A, part := 0, subject := sm3 (buf.take 72 ++ serialBytes s) } (buf.drop 72) s →
        exec (.canvasConfig id (.ok b)) s = taken (spendVault 0 s))) ∧
    (let buf := fit (i.le 32 4) b
     let d := s.fuses.disable ||| BitVec.ofNat 16 (i.le 36 2)
     Serves id 0x0F94 i s → Pointer i → SvcBuffer i s → s.canvas.response.toNat < 4 → i.le 32 4 = i.le 38 2 → regEmpty s 0 = false →
      VaultAuthorised { action := 0x1B, part := 0, subject := sm3 (toLE 2 (i.le 36 2) ++ serialBytes s) } buf s →
      ∃ t, exec (.canvasDisableFuse id (.ok b)) s = .next (done id (toLE 2 d.toNat) t) ∧ t.fuses = { s.fuses with disable := d } ∧
        ∀ c, c < 16 → d.getLsbD c = true → t.canvas.raw.getLsbD c = false)

/-- The peer link, heartbeats, the interlock line and time across the pair.  The comment before each part names the rules of the
spec it follows. -/
def Obligations.DuplexLinkAndTime : Prop :=
  -- R449 to R454: the peer link, heartbeats and the interlock line. Training begins a session; HELLO makes the peer known; the
  -- eighth CRC failure retrains; KEEPALIVE feeds path A and the line driver, a beacon with HEALTHY path B; a path silent for
  -- T_DETECT is dead, and with both dead the peer is lost; an unfed driver releases the line.
  (∀ (s : State), trpUp s = true →
    let t := s.trp
    (∀ lanes, lanes ≠ 0 → RootReady s → ∃ u body, exec (.linkUp lanes) s = .next u ∧ u.trp.lanes = lanes ∧ u.trp.linkUp = false ∧
      u.trp.session = t.session + 1 ∧ u.trp.txSeq = 0 ∧ u.trp.rxSeq = 0 ∧ u.out = s.out ++ [.peer 0x01 body] ∧
      body.take 8 = toLE 8 s.fuses.serial.toNat) ∧
    (∀ n nonce, t.lanes ≠ 0 → ∃ u, exec (.hello ⟨n, nonce⟩) s = .next u ∧ u.trp.peer = n ∧ u.trp.linkUp = true ∧
      u.trp.linkKeys = sessionKeys n nonce s) ∧
    (∀ n, t.lanes ≠ 0 →
      (n < 8 → exec (.peerLinkRetrain n) s = .next (updTrp (fun t => { t with crc := satAdd t.crc n }) s)) ∧
      (8 ≤ n → ∃ u, exec (.peerLinkRetrain n) s = .next u ∧ u.trp.linkUp = false ∧ u.trp.lanes = 0 ∧ u.trp.retrains = satInc t.retrains)) ∧
    (t.linkUp = true → ∀ e r m f v,
      exec (.keepalive false e r m f v) s = .next (trpErr 9 (updTrp (fun t => { t with authFail := satInc t.authFail }) s)) ∧
      ∃ u, exec (.keepalive true e r m f v) s = .next u ∧ u.trp.pathA = true ∧ u.trp.lastA = s.time.time64 ∧ u.trp.rxSeq = t.rxSeq + 1 ∧
        (m = false → u.trp.err.getLsbD 4 = true) ∧ (f = true → u.trp.err.getLsbD 7 = true)) ∧
    (t.linkUp = true → t.wdReleased = false → ∃ u body, exec .keepaliveSend s = .next u ∧ u.out = s.out ++ [.peer 0x02 body] ∧
      u.trp.txSeq = t.txSeq + 1 ∧ (t.driving = true → u.trp.fedAt = s.time.time64)) ∧
    (∃ u, exec .beaconSend s = .next u ∧ u.trp.beaconTx = t.beaconTx + 1 ∧ u.out = s.out ++ [.beacon (beaconWord u)]) ∧
    (∀ w ns, BitVec.ofNat 8 (w.toNat / 2 ^ 24) ≠ crc8 w → exec (.beacon w ns) s = .next s) ∧
    (∀ w ns, BitVec.ofNat 8 (w.toNat / 2 ^ 24) = crc8 w →
      let c : BitVec 16 := BitVec.ofNat 16 (w.toNat / 256 % 65536)
      ∃ u, exec (.beacon w ns) s = .next u ∧ u.trp.beacon = c ∧
        (c ≠ t.beacon → (c - t.beacon).toNat < 32768 → w.getLsbD 2 = true → u.trp.pathB = true ∧ u.trp.lastB = s.time.time64)) ∧
    (t.pathA = true → t.lastA.toNat + tDetectNs s ≤ now s →
      (t.pathB = true → now s < t.lastB.toNat + tDetectNs s → ∃ u, exec .pathSilent s = .next u ∧ u.trp.pathA = false ∧
        u.trp.pathB = true ∧ u.trp.err.getLsbD 0 = true ∧ cHEARTBEAT_PATH ∈ u.canvas.alarms ∧ u.trp.fsm = t.fsm) ∧
      (t.pathB = false → ∃ u, exec .pathSilent s = .next u ∧ u.trp.pathA = false ∧ u.trp.peerLost = true ∧ u.trp.standby = false ∧
        u.trp.fsm = if t.fsm = fsmACTIVE then fsmSOLO else t.fsm)) ∧
    (t.driving = true → t.fedAt.toNat + min (t.tWd.toNat * 1000) (tDetectNs s / 2) ≤ now s →
      ∃ u, exec .watchdogRelease s = .next u ∧ u.trp.driving = false ∧ u.trp.wdReleased = true ∧ u.trp.line = true ∧ u.trp.fsm = t.fsm)) ∧
  -- R33, R34: device time across the pair. A standby that regains sync from more than 10 µs away steps to the active unit's
  -- value where it may, else slews towards it; an active unit never changes its own time; sync is lost after 10 ms.
  (∀ (s : State) (v : Word64),
    let d : Int := (v.toNat : Int) - (now s : Int)
    (trpUp s = true → s.trp.linkUp = true → s.time.syncEn = true →
      (s.trp.fsm = fsmSTANDBY → 10000 < d.natAbs → s.time.peerSync = false → s.time.stepAllow = true →
        ∃ t, exec (.time true v) s = .next t ∧ t.time.time64 = v ∧ t.time.peerSync = true ∧ t.time.stepped = true) ∧
      (s.trp.fsm = fsmSTANDBY → d.natAbs ≤ 100 → ∃ t, exec (.time true v) s = .next t ∧ t.time.time64 = s.time.time64 ∧
        t.time.slew = d ∧ t.time.peerSync = true) ∧
      (s.trp.fsm = fsmSTANDBY → 100 < d.natAbs → s.time.peerSync = true → ∃ t, exec (.time true v) s = .next t ∧
        t.time.time64 = s.time.time64 ∧ t.time.slew = d ∧ t.time.peerSync = false ∧ t.time.syncLost = true) ∧
      (s.trp.fsm = fsmACTIVE → ∃ t, exec (.time true v) s = .next t ∧ t.time.time64 = s.time.time64 ∧ t.time.slew = s.time.slew ∧
        t.time.peerSync = true) ∧
      (∃ t, exec .peerTimeExchange s = .next t ∧ t.out = s.out ++ [.peer 0x03 (toLE 8 (now s))] ∧ t.time = s.time ∧
        t.trp.lastSync = s.time.time64)) ∧
    (s.time.lastPeer.toNat + 10000000 ≤ now s → ∃ t, exec .peerSyncLoss s = .next t ∧ t.time.peerSync = false ∧
      t.time.time64 = s.time.time64) ∧
    (now s < s.time.lastPeer.toNat + 10000000 → exec .peerSyncLoss s = .next s))

/-- Mirroring, joining, claims and takeover.  The comment before each part names the rules of the spec it follows. -/
def Obligations.MirroringAndClaims : Prop :=
  -- R460 to R463, R465: mirroring and joining. A standby takes a MIRROR of its epoch and acknowledges it, any other unit
  -- answers STALE_ROLE; the active unit commits at the acknowledgement, and fails the change at any other result or after 500
  -- µs; a joining unit takes the records it is sent, and is STANDBY, at the active unit's time where steps are allowed, once
  -- its join completes.
  (∀ (s : State) (e : Word32) (n : Nat) (l : List CageWrite), trpUp s = true → s.trp.linkUp = true →
    let u := updTrp (fun t => { t with rxSeq := t.rxSeq + 1 }) s
    (s.trp.fsm = fsmSTANDBY → e = s.trp.epoch → exec (.mirror true e n l) s = .next (sendAck n stOK (takeWrites l u))) ∧
    (s.trp.fsm ≠ fsmSTANDBY ∨ e ≠ s.trp.epoch → exec (.mirror true e n l) s = .next (sendAck n stSTALE_ROLE (staleFrame u)) ∧
      (sendAck n stSTALE_ROLE (staleFrame u)).cage = s.cage) ∧
    (∀ m r, s.trp.mirrors.find? (fun m => decide (m.seq = n)) = some m → e = s.trp.epoch →
      let w := updTrp (fun t => { t with mirrors := t.mirrors.filter fun x => decide (x.seq ≠ n) }) u
      (r = stOK → now s - m.at_.toNat ≤ 500000 → exec (.mirrorAck true e n r) s = .next (releaseChange (some n) m.change (updTrp (fun t => {
        t with mirrored := t.mirrored + 1, rtt := BitVec.ofNat 16 (min (now s - m.at_.toNat) 65535) }) w))) ∧
      (r ≠ stOK → exec (.mirrorAck true e n r) s = .next (failMirror m w))) ∧
    (∀ m r, s.trp.mirrors = m :: r → m.at_.toNat + 500000 ≤ now s →
      exec .mirrorTimeout s = .next (failMirror m (updTrp (fun t => { t with mirrors := r }) s))) ∧
    (e = s.trp.epoch → s.trp.fsm = fsmJOINING → s.trp.joinActive = true → exec (.resync true e l) s = .next (takeWrites l u)) ∧
    (s.trp.fsm = fsmJOINING → s.trp.joinActive = true → ∀ v others, ∃ t, exec (.joinComplete v [] 0 0 others) s = .next t ∧
      t.trp.fsm = fsmSTANDBY ∧ t.time.time64 = (if s.time.stepAllow then v else s.time.time64) ∧ t.trp.peerLost = false ∧ t.trp.cycles = s.trp.cycles + 1 ∧
      t.trp.degraded = decide (others ≠ 0) ∧ t.cage = s.cage)) ∧
  -- R455 to R458, R470: claims and takeover. A standby that lost its peer claims under the next epoch once the line has been
  -- high for 2 µs; a starting unit that knows no active peer claims after its wait under an epoch of its own, never 0; of two
  -- that claim at once the one not preferred withdraws; with the window closed and every die awake the unit is ACTIVE, or SOLO
  -- while its peer stays lost.
  (∀ (s : State), trpUp s = true →
    let t := s.trp
    (t.fsm = fsmSTANDBY → t.peerLost = true ∨ t.relinquished = true → t.wdReleased = false → t.degraded = false → ∀ ns,
      (2000 ≤ ns → ∃ u, exec (.claimStart ns) s = .next u ∧ u.trp.fsm = fsmCLAIMING ∧ u.trp.driving = true ∧
        u.trp.epoch = nextEpoch t.epoch ∧ u.trp.claimAt = some s.time.time64) ∧
      (ns = 0 → ∃ u, exec (.claimStart ns) s = .next u ∧ u.trp.fsm = fsmSTANDBY ∧ u.trp.err.getLsbD 8 = true)) ∧
    (t.fsm = fsmJOINING → t.joinActive = false → t.wdReleased = false → t.lastAct = 0 → RootReady s → ∀ ns,
      let wait := if preferred s then 10000000 else 20000000
      wait ≤ ns → t.startAt.toNat + wait ≤ now s → ∃ u, exec (.startupClaim ns) s = .next u ∧ u.trp.fsm = fsmCLAIMING ∧
        u.trp.driving = true ∧ u.trp.epoch ≠ 0) ∧
    (∀ t0, t.linkUp = true → t.fsm = fsmCLAIMING → t.claimAt = some t0 → now s ≤ t0.toNat + 50000 → t.windowOver = false → t.adopting = false →
      (preferred s = false → ∃ u, exec (.claim true) s = .next u ∧ u.trp.fsm = fsmJOINING ∧ u.trp.driving = false ∧ u.trp.claimAt = none) ∧
      (preferred s = true → exec (.claim true) s = .next (updTrp (fun t => { t with rxSeq := t.rxSeq + 1 }) s))) ∧
    (t.linkUp = true → t.fsm = fsmSTANDBY → exec (.relinquish true t.epoch) s = .next (updTrp (fun t => {
      t with rxSeq := t.rxSeq + 1, relinquished := true }) s)) ∧
    (∀ t0, t.claimAt = some t0 → t.fsm = fsmCLAIMING → t.windowOver = false → t0.toNat + 50000 ≤ now s →
      exec .claimWindowClose s = .next (wakeAll (updTrp (fun t => { t with windowOver := true }) s))) ∧
    (t.fsm = fsmCLAIMING → t.windowOver = true → sleepers s = [] → ∃ u, exec .takeoverComplete s = .next u ∧
      u.trp.fsm = (if t.peerLost then fsmSOLO else fsmACTIVE) ∧ u.trp.claimAt = none ∧ u.trp.standby = t.adopting ∧
      u.trp.takeovers = (if t.adopting then t.takeovers else satInc t.takeovers) ∧ u.trp.epoch = t.epoch ∧ u.cage = s.cage))

/-- Planned handover, patrol and the Trapeze services.  The comment before each part names the rules of the spec it follows. -/
def Obligations.HandoverAndPatrol : Prop :=
  -- R464, R466, R467: planned handover. After its drain the active unit sends HANDOVER; the standby adopts the new epoch and
  -- answers; at the answer the line is released and the unit is STANDBY under the new epoch; without it in 100 µs admission
  -- resumes under the old; the former standby drives the high line and takes over; a preferred standby asks for the role once
  -- its conditions have held for REVERT_S.
  (∀ (s : State), trpUp s = true →
    let t := s.trp
    (∀ h, t.handover = some h → t.fsm = fsmHANDING_OVER →
      (h.sentAt = none → unfinished s h.item = [] ∨ ((unfinished s h.item).any (fun i => decide (i.place = .core) && cageService i.routine) = false ∧
        h.at_.toNat + h.drain * 1000 ≤ now s) →
        ∃ u, exec .handoverDrainExpire s = .next u ∧ u.trp.handover = some { h with sentAt := some s.time.time64 } ∧
          u.trp.epoch = t.epoch ∧ u.trp.fsm = fsmHANDING_OVER) ∧
      (h.sentAt ≠ none → t.linkUp = true → ∃ u, exec (.handoverAck true (nextEpoch t.epoch)) s = .next u ∧ u.trp.fsm = fsmSTANDBY ∧
        u.trp.epoch = nextEpoch t.epoch ∧ u.trp.driving = false ∧ u.trp.handover = none ∧ u.trp.handovers = satInc t.handovers)) ∧
    (∀ h t0, t.handover = some h → h.sentAt = some t0 → t0.toNat + 100000 ≤ now s → ∃ u, exec .handoverAckTimeout s = .next u ∧
      (t.peerLost = false → u.trp.fsm = fsmACTIVE ∧ u.trp.epoch = t.epoch ∧ u.trp.handover = none ∧ u.trp.stopAdm = false ∧
        u.trp.err.getLsbD 2 = true) ∧
      (t.peerLost = true → t.held = [] → u.trp.fsm = fsmSOLO)) ∧
    (t.linkUp = true → t.fsm = fsmSTANDBY → ∀ n, ∃ u, exec (.handover true t.epoch n) s = .next u ∧ u.trp.epoch = n ∧
      u.trp.adopting = true ∧ u.out = s.out ++ [.peer 0x23 []]) ∧
    (t.adopting = true → t.fsm = fsmSTANDBY → t.wdReleased = false → ∃ u, exec .handoverLineHigh s = .next u ∧
      u.trp.fsm = fsmCLAIMING ∧ u.trp.driving = true ∧ u.trp.windowOver = true ∧ u.trp.claimAt = some s.time.time64) ∧
    (∀ t0, t.healthyAt = some t0 → t.revertS ≠ 0 → preferred s = true → t.fsm = fsmSTANDBY → t.linkUp = true →
      t0.toNat + t.revertS.toNat * 1000000000 ≤ now s → ∃ u body, exec .revertRequest s = .next u ∧ u.out = s.out ++ [.peer 0x02 body] ∧
        u.trp.fsm = fsmSTANDBY)) ∧
  -- R463, R466, R468, R471: patrol and the Trapeze services. A cycle starts every 10 s on a standby and ends with its count
  -- and result; TRP_PAIR under the quorum keeps the pairing secret and makes the unit active or joining; TRP_DETACH makes it
  -- unpaired; TRP_HANDOVER starts a handover; TRP_SOLO serves alone under the next epoch.
  (∀ (s : State) (id : Nat) (i : Item) (b : Bytes),
    let t := s.trp
    let buf := fit (i.le 32 4) b
    (trpUp s = true → t.fsm = fsmSTANDBY → t.patrolEn = true → t.patrol = false → t.patrolAt.toNat + 10000000000 ≤ now s →
      ∃ u, exec .patrolCycle s = .next u ∧ u.trp.patrol = true ∧ u.trp.patrolAt = s.time.time64) ∧
    (t.patrol = true → ∀ others, ∃ u, exec (.patrolDone [] 0 0 others) s = .next u ∧ u.trp.patrol = false ∧ u.trp.cycles = t.cycles + 1 ∧
      u.trp.lastFails = BitVec.ofNat 8 (min others 255) ∧ u.trp.degraded = decide (others ≠ 0)) ∧
    (let lc := i.le 36 4
     let src := i.le 44 1
     ∀ leaf sh, Serves id 0x0FA0 i s → Pointer i → s.vault.ready = true → SvcBuffer i s → i.le 32 4 = lc + i.le 40 4 → src ≤ 1 →
      t.fsm ∉ [fsmSTANDBY, fsmCLAIMING, fsmHANDING_OVER] → (t.fsm = fsmACTIVE → t.standby = false) → t.peer ≠ 0 → t.linkUp = true →
      s.lcs.state = 2 → (caKey s).bind (fun ca => Config.certLeaf ca (buf.take lc)) = some leaf → regEmpty s 0 = false →
      VaultAuthorised { action := 0x1C, part := 0, subject := sm3 (toLE 8 t.peer.toNat ++ fit 64 leaf ++ [BitVec.ofNat 8 src]) } (buf.drop lc) s →
      ∃ u, exec (.trpPair id (.ok b) true sh) s = .next (done id (toLE 4 u.trp.epoch.toNat ++ toLE 8 t.peer.toNat) u) ∧ u.trp.paired = true ∧
        u.cage.pairing.valid = true ∧ u.cage.slots = s.cage.slots ∧
        (src = 1 → u.trp.fsm = fsmACTIVE ∧ u.trp.driving = true ∧ u.trp.epoch = nextEpoch t.epoch) ∧
        (src = 0 → u.trp.fsm = fsmJOINING ∧ u.trp.driving = false)) ∧
    (Serves id 0x0FA1 i s → Pointer i → s.vault.ready = true → SvcBuffer i s → i.le 32 4 = i.le 36 4 → t.fsm ≠ fsmUNPAIRED →
      RootReady s → regEmpty s 0 = false → VaultAuthorised { action := 0x1D, part := 0, subject := sm3 (serialBytes s) } buf s →
      ∃ u, exec (.trpDetach id (.ok b)) s = .next (done id [] u) ∧ u.trp.fsm = fsmUNPAIRED ∧ u.trp.paired = false ∧ u.trp.driving = false ∧
        (t.epoch ≠ 0 → u.trp.epoch = t.epoch)) ∧
    (Serves id 0x0FA2 i s → Inline i → 100 ≤ i.le 24 4 → i.le 24 4 ≤ 4000 → canHandOver s = true →
      exec (.trpHandover id) s = .next (startHandover (i.le 24 4) (some id) (updItem id (fun i => { i with phase := 9 }) s))) ∧
    (Serves id 0x0FA3 i s → Inline i → t.fsm = fsmACTIVE → t.linkUp = false →
      ∃ u, exec (.trpSolo id) s = .next (done id (toLE 4 (nextEpoch t.epoch).toNat) u) ∧ u.trp.fsm = fsmSOLO ∧
        u.trp.epoch = nextEpoch t.epoch ∧ u.trp.standby = false))

/-- Calliope: windows, events, records and reading them.  The comment before each part names the rules of the spec it follows. -/
def Obligations.CalliopeEventsAndRecords : Prop :=
  -- R475 to R484: windows and events. ENABLE opens a window of the staged length and its loss closes it SHORT; an item that
  -- arrives is counted in the window its timestamp names: an occurrence in the code table, and a detail entry while its bucket
  -- holds a token; a firmware event is recorded from a colour that may write it, else refused.
  (∀ (s : State),
    (pfOpen s = true → s.cal.enable = false → s.cal.faulted = false → ∃ t w, exec (.calEnable true) s = .next t ∧ t.cal.enable = true ∧
      t.cal.window = some w ∧ w.start = s.time.time64 ∧ w.seq = s.cal.seq + 1 ∧
      w.end_ = BitVec.ofNat 64 (now s + s.cal.staged.windowMs.toNat * 1000000) ∧ w.codes = [] ∧ w.details = []) ∧
    (pfOpen s = true → s.cal.enable = true → s.cal.frozen = false → ∀ w, s.cal.window = some w → ∃ t, exec (.calEnable false) s = .next t ∧
      t.cal.enable = false ∧ t.cal.window = none ∧
      t.cal.closing = s.cal.closing ++ [{ w with short := true, end_ := s.time.time64, closeAt := now s + 10000 }]) ∧
    (∀ e r w, pair1Up s = true → s.cal.inbox = .event e :: r → s.cal.closing = [] → s.cal.window = some w → w.start.toNat ≤ e.time.toNat →
      w.blind = false → exec .calEventArrive s = .next (updCal (fun c => { c with inbox := r, window := some (countEvent e w) }) s)) ∧
    (∀ q p v t0 r w, pair1Up s = true → s.cal.inbox = .sample q p v t0 :: r → s.cal.closing = [] → s.cal.window = some w →
      w.start.toNat ≤ t0.toNat → w.blind = false →
      exec .calEventArrive s = .next (updCal (fun c => { c with inbox := r, window := some (countSample q p v t0 w) }) s)) ∧
    (∀ v : Word64, v.toNat % 1024 < 0x200 → v.toNat / 1024 % 64 = 0 → v.toNat / 2 ^ 25 % 128 = 0 → ∀ c, c ≠ 1 →
      exec (.calFwEvent c v) s = .next (calErr 2 s)) ∧
    (∀ v : Word64, 0x200 ≤ v.toNat % 1024 → v.toNat % 1024 ≤ 0x2FF → v.toNat / 1024 % 64 = 0 → v.toNat / 2 ^ 25 % 128 = 0 → ∀ c, c = 1 ∨ c = 2 →
      exec (.calFwEvent c v) s = .next (calEvent (v.toNat % 1024) (if v.getLsbD 24 then some (v.toNat / 2 ^ 16 % 256) else none) 0
        (v.toNat / 2 ^ 32) s))) ∧
  -- R486 to R491, R495: records. 10 µs after its END the oldest ended window's record is written at TAIL where it fits, and
  -- else its window is lost and STATE is full; a freeze begins when it is entered, keeps records out of the ring, and ends
  -- with a thaw or after 10 s; CAL_CLEAR empties the ring while ENABLE is 0.
  (∀ (s : State),
    (∀ w r, s.cal.closing = w :: r → w.closeAt ≤ now s → pair1Up s = true → w.blind = false → s.cal.frozen = false →
      let b := recordBytes s.cal.lostBefore.toNat s.cal.resetMark w
      (b.length ≤ calFree s.cal → ∃ t, exec (.windowClose none) s = .next t ∧ t.cal.closing = r ∧ t.cal.lens = s.cal.lens ++ [b.length] ∧
        t.cal.tail = (s.cal.tail + b.length) % 2097152 ∧ t.cal.mem = ringWrite s.cal.mem s.cal.tail b ∧ t.cal.head = s.cal.head) ∧
      (calFree s.cal < b.length → ∃ t, exec (.windowClose none) s = .next t ∧ t.cal.closing = r ∧ t.cal.lens = s.cal.lens ∧
        t.cal.full = true ∧ t.cal.lost = satInc s.cal.lost ∧ t.cal.mem = s.cal.mem)) ∧
    (pfOpen s = true → s.cal.frozen = false → s.cal.faulted = false →
      exec .calFreeze s = .next (updCal (fun c => { c with freezeReq := true }) s)) ∧
    (s.cal.freezeReq = true → s.cal.frozen = false → s.cal.faulted = false → ∃ t, exec .calFreezeEnter s = .next t ∧ t.cal.frozen = true ∧
      t.cal.freezeReq = false ∧ t.cal.frozenAt = s.time.time64 ∧ t.cal.mem = s.cal.mem) ∧
    (pfOpen s = true → ∃ t, exec .calThaw s = .next t ∧ t.cal.frozen = false ∧ t.cal.freezeReq = false ∧ t.cal.enable = s.cal.enable) ∧
    (s.cal.frozen = true → s.cal.frozenAt.toNat + 10000000000 ≤ now s → ∃ t, exec .freezeTimeout s = .next t ∧ t.cal.frozen = false ∧
      t.cal.event.getLsbD 2 = true) ∧
    (pfOpen s = true → (s.cal.enable = true → exec .calClear s = .next s) ∧
      (s.cal.enable = false → ∃ t, exec .calClear s = .next t ∧ t.cal.mem = [] ∧ t.cal.head = 0 ∧ t.cal.tail = 0 ∧ t.cal.lens = [] ∧ t.cal.lost = 0 ∧
        t.cal.full = false ∧ calFree t.cal = 2097152))) ∧
  -- R488, R492, R493, R495: reading record memory. CAL_RELEASE frees whole records from HEAD; CAL_RD_DATA returns 8 bytes and
  -- advances; an uncorrectable word reads as zero and stops recording; a scrub pass counts what it corrected; CAL_COPY writes
  -- whole records to host memory, up to an uncorrectable word.
  (∀ (s : State),
    (pfOpen s = true → ∀ n, (∀ k, wholeRecords n s.cal.lens = some (k + 1) → exec (.calRelease n) s = .next (updCal (fun c => {
        c with head := (c.head + n) % 2097152, lens := c.lens.drop (k + 1) }) s)) ∧
      (wholeRecords n s.cal.lens = none → exec (.calRelease n) s = .next (calErr 0 s))) ∧
    (pfOpen s = true → (∃ t, exec (.calRdDataRead none) s = .next t ∧ t.cal.rdAddr = s.cal.rdAddr + 1 ∧
        t.readData = BitVec.ofNat 64 (leNat (ringRead s.cal.mem (s.cal.rdAddr.toNat * 8) 8)) ∧ t.cal.mem = s.cal.mem) ∧
      (∀ y, ∃ t, exec (.calRdDataRead (some y)) s = .next t ∧ t.readData = 0 ∧ t.cal.faulted = true ∧ t.cal.window = none)) ∧
    (s.cal.scrubAt.toNat + 10000000000 ≤ now s → ∀ n,
      exec (.scrubPass n none) s = .next (updCal (fun c => { c with scrubAt := s.time.time64, ceCnt := satAdd c.ceCnt n }) s) ∧
      (∀ o y, ∃ t, exec (.scrubPass n (some (o, y))) s = .next t ∧ t.cal.faulted = true ∧ t.cal.ceCnt = satAdd s.cal.ceCnt n)) ∧
    (∀ id i k, Serves id 0x0FB0 i s → copyRecords (i.le 40 4) s.cal.head (i.le 36 4) s.cal.lens = some k → i.le 40 4 ≤ i.le 32 4 →
      SvcMay i (i.le 24 8) (i.le 40 4) 1 s →
      ∃ s', exec (.calCopy ⟨id, none⟩) s = .next (finish id stOK (toLE 4 (i.le 40 4) ++ toLE 4 k) true s') ∧
        Wrote (i.le 24 8) (ringRead s.cal.mem (i.le 36 4) (i.le 40 4)) s s' ∧ s'.cal = s.cal) ∧
    (∀ id i k o y p, Serves id 0x0FB0 i s → copyRecords (i.le 40 4) s.cal.head (i.le 36 4) s.cal.lens = some k → i.le 40 4 ≤ i.le 32 4 →
      ringPos (i.le 36 4) (i.le 40 4) o = some p → SvcMay i (i.le 24 8) (p / 64 * 64) 1 (selfFault 2 o y s) →
      ∃ s', exec (.calCopy ⟨id, some (o, y)⟩) s = .next (finish id stPOISONED [] false s') ∧ s'.cal.faulted = true ∧
        Wrote (i.le 24 8) (ringRead s.cal.mem (i.le 36 4) (p / 64 * 64)) s s'))

/-- Package states, gating, operating points and the thermal paths.  The comment before each part names the rules of the spec it
follows. -/
def Obligations.PowerManagement : Prop :=
  -- R501, R503, R504, R505: package states. PS_ENTER deepens the state once the engine dies are idle; the last wake of an exit
  -- ends the state it left; D3hot stops admission on every enabled or draining queue pair and enters PS4, and D0 resumes
  -- admission and leaves PS4 at once where no die sleeps.
  (∀ (s : State),
    (pair1Up s = true → s.power.state.toNat < 4 → diesIdle s = true → s.power.waking = 0 → s.power.state.toNat < psTarget s →
      ∃ t, exec .psEnter s = .next t ∧ t.power.state = BitVec.ofNat 3 (psTarget s) ∧ t.power.want = BitVec.ofNat 3 (psTarget s) ∧
        t.power.changing = false ∧ t.cage = s.cage ∧ t.fuses = s.fuses) ∧
    (∀ d, s.power.waking.getLsbD d = true → pair1Up s = true → dieState s d = .retention →
      ∃ t, exec (.dieWakeDone d) s = .next t ∧ dieState t d = .active ∧ t.power.waking.getLsbD d = false ∧
        (getDie t d).aligned = true ∧ (getDie t d).kc = applyGens (getDie s d).kc ∧
        ∀ j ∈ troupesOfDie d, (getTP t j).gated = false) ∧
    (s.power.d3 = false → ∃ t, exec .d3hotEntry s = .next t ∧ t.power.d3 = true ∧ t.power.state = 4 ∧
      (∀ q x, (q, x) ∈ s.queues → x.enabled = true ∨ x.draining = true → q ∈ t.power.held) ∧ t.power.waking = 0) ∧
    (s.power.d3 = true → ∃ t, exec .d0Return s = .next t ∧ t.power.d3 = false ∧ t.power.held = [] ∧
      (psTarget s = 3 → t.power.state = 3) ∧ (psTarget s ≠ 3 → sleepers s = [] → t.power.state.toNat ≤ 1))) ∧
  -- R502, R507 to R510: gating and operating points. A troupe idle for IDLE_US whose conditions hold is gated and an ungating
  -- ends; an operating point moves one step towards the troupe's setting, or under throttling one step down; a sample at or
  -- over T_ALERT pulls THERM_ALERT_N low, 5 °C under it releases it, and the trip temperature loses every present die.
  (∀ (s : State) (k : Nat), k < nTroupes s.part.variant → pair1Up s = true →
    (dieState s (dieOfTroupe k) = .active → (getTP s k).gated = false → gateAllowed s k = true → troupeIdle s k = true →
      nothingRunnable s k = true → exec (.troupeGate k) s = .next (dropLines k (updTP k (fun x => { x with gated := true, ungating := false }) s))) ∧
    ((getTP s k).ungating = true → exec (.troupeUngateDone k) s = .next (reloadLines k (updTP k (fun x => { x with gated := false, ungating := false }) s))) ∧
    (dieState s (dieOfTroupe k) = .active → oppNext s k ≠ (getTP s k).opp.toNat →
      exec (.dvfsStep k) s = .next (calEvent 0x1A2 none k (oppNext s k) (updTP k (fun x => { x with opp := BitVec.ofNat 3 (oppNext s k) }) s))) ∧
    (s.power.alert = true → dieState s (dieOfTroupe k) = .active →
      ∃ t, exec .throttleStep s = .next t ∧ (getTP t k).opp.toNat = (getTP s k).opp.toNat - 1 ∧
        (0 < (getTP s k).opp.toNat → (getTP t k).throttled = true)) ∧
    (∀ r : Byte, r.toInt < tTrip s.part →
      (s.power.tAlert.toInt ≤ r.toInt → s.power.alert = false → ∃ t, exec (.thermalSample r) s = .next t ∧ t.power.tNow = r ∧
        t.power.alert = true ∧ t.power.event.getLsbD 2 = true ∧ .pin pinTHERM_ALERT false ∈ t.out) ∧
      (r.toInt ≤ s.power.tAlert.toInt - 5 → s.power.alert = true → ∃ t, exec (.thermalSample r) s = .next t ∧ t.power.tNow = r ∧
        t.power.alert = false ∧ .pin pinTHERM_ALERT true ∈ t.out)) ∧
    (∀ r : Byte, tTrip s.part ≤ r.toInt → s.power.trip = false → ∃ t, exec (.thermalSample r) s = .next t ∧ t.power.trip = true ∧
      t.power.event.getLsbD 3 = true ∧ ∀ d, d < nDies s.part.variant → dieState t d = .lost))

/-- The supply sequence, rails, bring-up and orderly power-down.  The comment before each part names the rules of the spec it
follows. -/
def Obligations.SupplyAndBringUp : Prop :=
  -- R511, R512, R514, R516: the supply sequencer. The sequence enables group 0 first and each next group once the power-good
  -- before it has risen; the last power-good releases the control die from power-on reset; a power-good late or fallen
  -- releases every enable, names the group and holds a restart; what the loss of system power leaves is the always-on domain.
  (∀ (s : State),
    (∀ vb, s.power.seq.blocked = false → s.power.seq.enabled = 0 → ∃ t, exec (.sequenceStart vb) s = .next t ∧
      t.power.seq = { s.power.seq with vaux := true, vbat := vb, enabled := 1, good := 0 } ∧ .pin pinPWR_EN true ∈ t.out) ∧
    (s.power.seq.enabled ≠ 0 → s.power.seq.good + 1 = s.power.seq.enabled → s.power.seq.enabled < 4 →
      exec .powerGoodRise s = .next (emit (.pin (pinPWR_EN + s.power.seq.enabled) true)
        (updPwr (fun p => { p with seq := { p.seq with good := s.power.seq.enabled, enabled := s.power.seq.enabled + 1 } }) s))) ∧
    (s.power.seq.enabled = 4 → s.power.seq.good = 3 → ∃ t, exec .powerGoodRise s = .next t ∧ t.power.seq.porReleased = true ∧
      t.power.seq.sysPower = true ∧ t.boot.stage = 0 ∧ t.queues = [] ∧ t.dies = [] ∧ t.cage = s.cage ∧ t.hostMem = s.hostMem) ∧
    (∀ g, g < s.power.seq.enabled → s.power.seq.good ≤ g → ∃ t, exec (.pgFault g) s = .next t ∧
      t.power.seq.fault = BitVec.ofNat 3 (g + 1) ∧ t.power.seq.blocked = true ∧ t.power.seq.enabled = 0 ∧ t.power.seq.sysPower = false) ∧
    (s.power.seq.sysPower = true → s.power.seq.vaux = true ∨ s.power.seq.vbat = true → ∃ t, exec .systemPowerLoss s = .next t ∧
      t.power.seq.sysPower = false ∧ t.cage = s.cage ∧ t.rtc = s.rtc ∧ t.fuses = (applyVote (cutBlow s)).fuses ∧ t.canvas = s.canvas ∧
      t.items = [] ∧ t.queues = []) ∧
    (s.power.seq.sysPower = false → s.power.seq.vaux = true → s.power.seq.vbat = true → ∃ t, exec (.caseBSwitchover false) s = .next t ∧
      t.power.seq.vaux = false ∧ t.power.seq.vbat = true ∧ t.canvas.sentinel = s.canvas.sentinel ∧ t.cage = s.cage ∧ t.rtc = s.rtc)) ∧
  -- R513, R515, R517: rails and bring-up. A poll stores what each rail answers, or says that the bus failed; PWR_TRIM returns
  -- the clamped set point; a die is brought up once its share of the handover time is over, with its link keyed, its DRBG
  -- seeded and its resident lines pinned; the link's width and rate are what was trained.
  (∀ (s : State),
    (s.power.recordOk = true → pair1Up s = true → ∀ r : RailReading, 0 < s.power.rails.length →
      (r.ack = false → ∃ t, exec (.railPoll [r]) s = .next t ∧ t.power.busFault = true ∧ t.power.rails = s.power.rails) ∧
      (r.ack = true → ∃ t, exec (.railPoll [r]) s = .next t ∧ t.power.busFault = false ∧
        t.power.rails = s.power.rails.modify 0 (fun x => { x with vout := r.vout, iout := r.iout, temp := r.temp }) ∧
        (r.status ≠ 0 → t.power.faultRail = 0 ∧ t.power.statusWord = r.status))) ∧
    (∀ id i r, Serves id 0x0FC1 i s → Inline i → s.power.recordOk = true → s.power.rails[i.le 24 1]? = some r →
      let mv := clampMv r.supply ((r.record : Int) + (BitVec.ofNat 16 (i.le 26 2)).toInt)
      exec (.pwrTrim id) s = .next (done id (toLE 2 mv)
        (updPwr (fun p => { p with rails := p.rails.modify (i.le 24 1) fun x => { x with setMv := BitVec.ofNat 16 mv } }) s))) ∧
    (∀ id i, Serves id 0x0FC2 i s → Inline i → ∃ t, exec (.rtcSet id) s = .next t ∧
      t.rtc = { seconds := BitVec.ofNat 32 (i.le 24 4), valid := true } ∧ t.cage = s.cage) ∧
    (∀ d, s.boot.handover = true → s.units.rng.drbgReady = true → d < nDies s.part.variant → dieState s d = .off →
      s.power.dieReady.getLsbD d = false → pair1Up s = true → s.boot.handoverAt.toNat + d * 100000 ≤ now s →
      ∃ t, exec (.dieBringup d) s = .next t ∧ dieState t d = .active ∧ t.power.dieReady.getLsbD d = true ∧ (getDie t d).aligned = true ∧
        (getDie t d).keyOut = (drawRoot 64 s).1.take 32 ∧ (getDie t d).keyIn = (drawRoot 64 s).1.drop 32 ∧
        Tab.get dDieDrbg t.units.rng.dies d = { seeded := true, at_ := s.time.time64 }) ∧
    (∀ w r, w = 16 ∨ w = 8 ∨ w = 4 → r = 32 ∨ r = 16 ∨ r = 8 → s.lcs.fsm ≠ 0xCCCC →
      exec (.pcieLinkL0 ⟨w, r⟩) s = .next (updPwr (fun p => { p with linkWidth := w, linkSpeed := r }) s)) ∧
    (∀ w r, (w ≠ 16 ∧ w ≠ 8 ∧ w ≠ 4) ∨ (r ≠ 32 ∧ r ≠ 16 ∧ r ≠ 8) → exec (.pcieLinkL0 ⟨w, r⟩) s = .next s)) ∧
  -- R514: orderly power-down. PWR_SHUTDOWN stops admission and begins the drain; at the drain's end, or once no other command
  -- is left, the supplies are released and held off until POR_N.
  (∀ (s : State) (id : Nat) (i : Item),
    (Serves id 0x0FC0 i s → Inline i → s.power.shutdown = none →
      (i.le 24 4 ≤ 100000 → exec (.pwrShutdown id) s = .next (calEvent 0x1AC none 0 (i.le 24 4) (endUnstarted stHALTED
        (updPwr (fun p => { p with shutdown := some (s.time.time64, i.le 24 4, id) }) (updItem id (fun i => { i with phase := 7 }) s))))) ∧
      (100000 < i.le 24 4 → exec (.pwrShutdown id) s = .next (refuse id stOPERAND_FORMAT 0x01 s))) ∧
    (∀ at_ d, s.power.shutdown = some (at_, d, id) → at_.toNat + d * 1000 ≤ now s ∨ (∀ j ∈ s.items, j.id = id) →
      ∃ t, exec .shutdownDrainEnd s = .next t ∧ t.power.seq.enabled = 0 ∧ t.power.seq.blocked = true ∧ t.power.seq.sysPower = false ∧
        t.power.shutdown = none ∧ t.items = [] ∧ t.cage = s.cage ∧ t.rtc = s.rtc))

/-- R4, R42, R45 to R47: what the host reads of the endpoint.  The identity registers hold the Vendor ID, the Device IDs and the
class; a read R47 does not allow is zeros, and of a function or BAR the device does not have is not answered; BAR2 holds the MSI-X
table, each entry's address, data and mask bit, and after it the pending bits. -/
def Obligations.EndpointReads : Prop :=
  ∀ (s : State),
    (∀ fn, fnExists s fn = false → (∀ r, readCfg s fn r = none) ∧ ∀ n off size, readBar s fn n off size = none) ∧
    (∀ fn n off size, n ≠ 0 → n ≠ 2 → readBar s fn n off size = none) ∧
    (∀ fn, fnExists s fn = true →
      readCfg s fn .vendorId = some 0x1E5A ∧ readCfg s fn .classCode = some 0x108000 ∧
      readCfg s fn .deviceId = some (BitVec.ofNat 64 (partCode s.part.variant + if fn = 0 then 0 else 1)) ∧
      (∀ off size, readLegal fn off size = false → readBar s fn 0 off size = some (zeros size)) ∧
      (let m := (getFunc s fn).msix
       (∀ n, n < nVectors fn →
        readBar s fn 2 (16 * n) 8 = some (toLE 8 (Tab.get (fun _ => (0 : Word64)) m.addr n).toNat) ∧
        readBar s fn 2 (16 * n + 8) 4 = some (toLE 4 (Tab.get (fun _ => (0 : Word32)) m.data n).toNat) ∧
        readBar s fn 2 (16 * n + 12) 4 = some (toLE 4 (b2n (m.mask.getLsbD n)))) ∧
       readBar s fn 2 (if fn = 0 then 0x8000 else 0x800) 8 = some (toLE 8 (m.pba.toNat % 2 ^ 64)))) ∧
    (∀ n off, n ≤ 255 → fnExists s n = true → readLegal n off 8 = true → off % 8 = 0 →
      readBar s n 0 off 8 = some (toLE 8 (if n = 0 then readPf s off else readVf s n off).toNat))

/-- Register writes and what each reset leaves.  The comment before each part names the rules of the spec it follows. -/
def Obligations.RegistersAndResets : Prop :=
  -- R7, R8, R27, R42, R46, R473, R496: register writes. A write that is not 4 or 8 naturally aligned bytes (the model's
  -- choice, assumption log 48), or of a function the device does not present, changes nothing; an RW1C field clears the bits
  -- written 1; a locked register keeps its value; CAL_CFG stages; Bus Master Enable, MSI-X control and VF Enable take effect
  -- at once; of the PF's configuration registers the BARs keep their size's low bits zero, and the AER status bits are cleared
  -- by writing 1.
  (∀ (s : State) (v : Word64),
    (∀ fn off n, writeLegal off n = false → exec (.registerWrite fn (.pf off) n v) s = .next s ∧ exec (.registerWrite fn (.msix off) n v) s = .next s ∧
      ∀ c, exec (.registerWrite fn (.fabric c off) n v) s = .next s) ∧
    (∀ fn, fnExists s fn = false → (∀ off n, exec (.registerWrite fn (.pf off) n v) s = .next s ∧ exec (.registerWrite fn (.msix off) n v) s = .next s) ∧
      ∀ r ∈ [Target.cfgVfEnable, .cfgMsix, .cfgDevice, .cfgDevice2, .cfgCommand, .cfgAerUncorrectable, .cfgAerCorrectable, .cfgNumVfs,
        .cfgBar 0, .cfgBar 2, .cfgVfBar 0, .cfgVfBar 2, .cfgLink, .cfgL1Substates, .cfgLtr, .cfgDoeControl, .cfgDoeWrite, .cfgDoeRead],
        exec (.registerWrite fn r 4 v) s = .next s) ∧
    (pfOpen s = true → ∀ q, q < 2048 → exec (.registerWrite 0 (.pf (0x1000000 + q * 0x1000 + 0x50)) 8 v) s =
      .next (updQp q (fun x => { x with err := w1c x.err v.toNat }) s)) ∧
    (s.trp.lock = true → exec (.registerWrite 0 (.pf 0x600000) 8 v) s = .next s) ∧
    (pfOpen s = true → s.trp.lock = false → ∃ t, exec (.registerWrite 0 (.pf 0x600000) 8 v) s = .next t ∧ t.trp.lock = v.getLsbD 63 ∧
      t.trp.patrolEn = v.getLsbD 51 ∧ t.trp.hot = v.getLsbD 52 ∧
      t.trp.tDetect.toNat = (if 20 ≤ v.toNat % 2 ^ 17 ∧ v.toNat % 2 ^ 17 ≤ 100000 then v.toNat % 2 ^ 17 else s.trp.tDetect.toNat)) ∧
    (pfOpen s = true → ∃ t, exec (.registerWrite 0 (.pf 0x400008) 8 v) s = .next t ∧ t.cal.mem = s.cal.mem ∧
      t.cal.staged.windowMs.toNat = (if 1 ≤ v.toNat % 2 ^ 22 ∧ v.toNat % 2 ^ 22 ≤ 3600000 then v.toNat % 2 ^ 22 else s.cal.staged.windowMs.toNat)) ∧
    (∀ fn, fnExists s fn = true → exec (.registerWrite fn .cfgCommand 4 v) s = .next (updFunc fn (fun f => { f with busMaster := v.getLsbD 2 }) s) ∧
      (∃ t, exec (.registerWrite fn .cfgMsix 4 v) s = .next t ∧ (getFunc t fn).msix.fmask = v.getLsbD 14 ∧
        (getFunc t fn).msix.enable = v.getLsbD 15)) ∧
    (fnExists s 0 = true →
      (v.getLsbD 0 = true → exec (.registerWrite 0 .cfgVfEnable 4 v) s = .next { s with vfEnable := true }) ∧
      (v.getLsbD 0 = false → ∃ t, exec (.registerWrite 0 .cfgVfEnable 4 v) s = .next t ∧ t.vfEnable = false) ∧
      exec (.registerWrite 0 .cfgDevice2 4 v) s = .next (updFunc 0 (fun f => { f with dev := { f.dev with
        timeout := BitVec.ofNat 4 (v.toNat % 16) } }) s) ∧
      (∃ t, exec (.registerWrite 0 .cfgDevice 4 v) s = .next t ∧ (getFunc t 0).dev.relaxed = v.getLsbD 4 ∧
        (getFunc t 0).dev.noSnoop = v.getLsbD 11 ∧
        t.pcie.flrReq = (s.pcie.flrReq || v.getLsbD 15)) ∧
      (∃ t, exec (.registerWrite 0 (.cfgBar 0) 8 v) s = .next t ∧ (getFunc t 0).bar0.toNat = v.toNat / 2 ^ 26 * 2 ^ 26) ∧
      (∃ t, exec (.registerWrite 0 (.cfgBar 2) 8 v) s = .next t ∧ (getFunc t 0).bar2.toNat = v.toNat / 2 ^ 16 * 2 ^ 16) ∧
      (s.vfEnable = false → exec (.registerWrite 0 .cfgNumVfs 4 v) s = .next { s with pcie := { s.pcie with numVfs := v.setWidth 8 } }) ∧
      exec (.registerWrite 0 .cfgLink 4 v) s = .next { s with pcie := { s.pcie with aspmL1 := v.getLsbD 1 } }) ∧
    (∀ fn, fnExists s fn = true → ∃ t, exec (.registerWrite fn .cfgAerUncorrectable 4 v) s = .next t ∧
      (getFunc t fn).aer.unsupported = ((getFunc s fn).aer.unsupported && !v.getLsbD 20) ∧
      (getFunc t fn).aer.internal = ((getFunc s fn).aer.internal && !v.getLsbD 22)) ∧
    (∀ c a n fn, writeLegal a n = true →
      ((gateAccess c false a n 1 s).1 = false → exec (.registerWrite fn (.fabric c a) n v) s = .next (gateAccess c false a n 1 s).2) ∧
      ((gateAccess c false a n 1 s).1 = true → exec (.registerWrite fn (.fabric c a) n v) s = .next (writeFabric c a n v (gateAccess c false a n 1 s).2)))) ∧
  -- R319, R345, R408, R489, R516: what each reset leaves. A fundamental reset keeps the always-on, battery and power-on
  -- domains and the fuses as the vote leaves them, and clears the rest; a power-on reset clears the power-on domain too, and
  -- the loss of every supply the battery domain; of an anti-rollback bit being blown, a loss of power leaves either reading
  -- (R349).
  (∀ (s : State), let f := (applyVote s).fuses
    let g := (applyVote (cutBlow s)).fuses
    (s.items.find? svnBlows = none → g = f) ∧
    (∃ t, exec .fundamentalReset s = .next t ∧ t.items = [] ∧ t.queues = [] ∧ t.funcs = [] ∧ t.seats = [] ∧ t.dies = [] ∧ t.flows = [] ∧
      t.spdm = State.reset.spdm ∧ t.boot.stage = 0 ∧ t.boot.handover = false ∧ t.vfEnable = false ∧ t.fuses = f ∧ t.cage = s.cage ∧ t.rtc = s.rtc ∧
      t.time = s.time ∧ t.part = s.part ∧ t.canvas.sentinel = { s.canvas.sentinel with stale := true } ∧ t.hostMem = s.hostMem ∧
      t.cal.mem = s.cal.mem ∧ t.cal.enable = false ∧ t.power.seq = s.power.seq) ∧
    (∃ t, exec .powerOnReset s = .next t ∧ t.items = [] ∧ t.queues = [] ∧ t.seats = [] ∧ t.dies = [] ∧ t.fuses = g ∧ t.cage = s.cage ∧
      t.rtc = s.rtc ∧ t.time = State.reset.time ∧ t.vault.ready = false ∧ t.cal.mem = [] ∧ t.booth.backlotSize = 4 ∧ t.power.seq.fault = 0) ∧
    (∃ t, exec .batteryReset s = .next t ∧ t.cage = {} ∧ t.rtc = {} ∧ t.items = [] ∧ t.queues = [] ∧ t.fuses = g ∧ t.trp.paired = false ∧
      t.power.seq.sysPower = false))
end

