-- ==== Sys2Proof/Laws/Bits.lean ====
section
/-!
SUPPORT. What the byte helpers give: lengths, and a value's bytes read back.
-/
namespace Sys2Proof.Laws
open Sys2Proof.Machine

@[simp] theorem length_zeros (n : Nat) : (zeros n).length = n := by simp [zeros]

@[simp] theorem length_fit (n : Nat) (b : Bytes) : (fit n b).length = n := by simp [fit]; omega

theorem fit_of_length {n : Nat} {b : Bytes} (h : b.length = n) : fit n b = b := by
  subst h; simp [fit, zeros]

@[simp] theorem length_slice (o n : Nat) (b : Bytes) : (slice o n b).length = n := by simp [slice]

@[simp] theorem length_toLE (n v : Nat) : (toLE n v).length = n := by
  induction n generalizing v with
  | zero => rfl
  | succ n ih => simp [toLE, ih]

@[simp] theorem length_toBE (n v : Nat) : (toBE n v).length = n := by simp [toBE]

@[simp] theorem length_toHex (b : Bytes) : (toHex b).length = 2 * b.length := by
  simp [toHex, List.length_flatMap, List.map_const', Nat.mul_comm]

/-- The little-endian bytes of a value spell it again, modulo the width. -/
theorem leNat_toLE (n v : Nat) : leNat (toLE n v) = v % 256 ^ n := by
  induction n generalizing v with
  | zero => simp [toLE, leNat, Nat.mod_one]
  | succ n ih =>
    rw [toLE, leNat, ih, Nat.pow_succ', Nat.mod_mul]
    simp

theorem leNat_lt (b : Bytes) : leNat b < 256 ^ b.length := by
  induction b with
  | nil => decide
  | cons x r ih => simp only [leNat, List.length_cons, Nat.pow_succ']; have := x.isLt; omega

end Sys2Proof.Laws
end

