-- ==== Sys2Proof/Laws/Table.lean ====
section
/-!
SUPPORT. Laws of the sparse tables and of host memory: a read after a write, what a write leaves alone, and that every
operation keeps the canonical form.
-/
namespace Sys2Proof.Laws
open Sys2Proof.Machine

variable {α : Type}

/-! ### Reads after writes -/

@[simp] theorem find_nil (k : Nat) : Tab.find? ([] : Tab α) k = none := rfl

theorem find_cons (j : Nat) (a : α) (r : Tab α) (k : Nat) :
    Tab.find? ((j, a) :: r) k = if j = k then some a else Tab.find? r k := rfl

theorem find_erase (t : Tab α) (k i : Nat) : Tab.find? (Tab.erase t k) i = if i = k then none else Tab.find? t i := by
  induction t with
  | nil => simp [Tab.erase]
  | cons e r ih =>
    obtain ⟨j, a⟩ := e
    have hr : Tab.find? (List.filter (fun e => decide (e.1 ≠ k)) r) i = if i = k then none else Tab.find? r i := ih
    unfold Tab.erase
    rw [List.filter_cons]
    by_cases hj : j = k
    · simp only [hj, ne_eq, not_true, decide_false, Bool.false_eq_true, if_false]
      rw [hr, find_cons]
      by_cases hi : i = k
      · simp [hi]
      · simp [hi, Ne.symm hi]
    · simp only [hj, ne_eq, not_false_iff, decide_true, if_true]
      rw [find_cons, find_cons, hr]
      by_cases hi : j = i
      · simp [hi, show ¬ i = k from hi ▸ hj]
      · simp [hi]

theorem find_insert (t : Tab α) (k : Nat) (a : α) (i : Nat) (h : Tab.find? t k = none) :
    Tab.find? (Tab.insert k a t) i = if i = k then some a else Tab.find? t i := by
  induction t with
  | nil =>
    simp only [Tab.insert, find_cons, find_nil]
    by_cases hi : i = k
    · simp [hi]
    · simp [hi, Ne.symm hi]
  | cons e r ih =>
    obtain ⟨j, b⟩ := e
    rw [find_cons] at h
    by_cases hj : j = k
    · simp [hj] at h
    · simp only [hj, if_false] at h
      unfold Tab.insert
      by_cases hk : k < j
      · simp only [hk, if_true, find_cons]
        by_cases hi : i = k
        · simp [hi]
        · simp [hi, Ne.symm hi]
      · simp only [hk, if_false, find_cons, ih h]
        by_cases hi : j = i
        · simp [hi, show ¬ i = k from hi ▸ hj]
        · simp [hi]

/-- A key reads as what was written to it, and every other key as before. -/
theorem get_set [DecidableEq α] (d : Nat → α) (t : Tab α) (k : Nat) (a : α) (i : Nat) :
    Tab.get d (Tab.set d t k a) i = if i = k then a else Tab.get d t i := by
  unfold Tab.get Tab.set
  by_cases ha : a = d k
  · simp only [ha, if_true, find_erase]
    by_cases hi : i = k
    · simp [hi]
    · simp [hi]
  · simp only [ha, if_false]
    rw [find_insert _ _ _ _ (by simp [find_erase]), find_erase]
    by_cases hi : i = k
    · simp [hi]
    · simp [hi]

theorem get_set_same [DecidableEq α] (d : Nat → α) (t : Tab α) (k : Nat) (a : α) :
    Tab.get d (Tab.set d t k a) k = a := by simp [get_set]

theorem get_upd [DecidableEq α] (d : Nat → α) (t : Tab α) (k : Nat) (f : α → α) (i : Nat) :
    Tab.get d (Tab.upd d t k f) i = if i = k then f (Tab.get d t k) else Tab.get d t i := get_set ..

/-! ### Host memory -/

/-- A byte reads as what was written, every other byte as before. -/
theorem find_memWrite (m : List Host.Cell) (a : Nat) (b : Byte) (i : Nat) :
    Tab.find? (memWrite m a b) i = if i = a then some b else Tab.find? m i := by
  unfold memWrite
  rw [find_insert _ _ _ _ (by simp [find_erase]), find_erase]
  by_cases hi : i = a
  · simp [hi]
  · simp [hi]

/-- Bytes outside those written read as before. -/
theorem find_memWrites_outside (bs : Bytes) : ∀ (m : List Host.Cell) (a i : Nat), i < a ∨ a + bs.length ≤ i →
    Tab.find? (memWrites m a bs) i = Tab.find? m i := by
  induction bs with
  | nil => intro m a i _; rfl
  | cons b r ih =>
    intro m a i h
    simp only [List.length_cons] at h
    rw [memWrites, ih _ _ _ (by omega), find_memWrite, if_neg (by omega)]

/-- The bytes written read back. -/
theorem find_memWrites_inside (bs : Bytes) : ∀ (m : List Host.Cell) (a i : Nat) (h : i < bs.length),
    Tab.find? (memWrites m a bs) (a + i) = some bs[i] := by
  induction bs with
  | nil => intro m a i h; simp at h
  | cons b r ih =>
    intro m a i h
    rw [memWrites]
    cases i with
    | zero =>
      rw [Nat.add_zero, find_memWrites_outside _ _ _ _ (by omega), find_memWrite]
      simp
    | succ n =>
      have := ih (memWrite m a b) (a + 1) n (by simpa using h)
      rw [show a + (n + 1) = a + 1 + n by omega, this]
      simp

/-! ### Canonical form -/

/-- Rising keys, as Lean's own predicate. -/
theorem wf_iff_pairwise (m : List Host.Cell) : Memory.wf m = true ↔ m.Pairwise (fun x y => x.1 < y.1) := by
  induction m with
  | nil => simp [Memory.wf]
  | cons a r ih =>
    cases r with
    | nil => simp [Memory.wf]
    | cons b t =>
      rw [Memory.wf, Bool.and_eq_true, ih, decide_eq_true_eq]
      constructor
      · rintro ⟨h, hp⟩
        refine List.pairwise_cons.2 ⟨?_, hp⟩
        intro c hc
        rcases List.mem_cons.1 hc with rfl | hc
        · exact h
        · exact Nat.lt_trans h ((List.pairwise_cons.1 hp).1 c hc)
      · intro h
        exact ⟨(List.pairwise_cons.1 h).1 b (by simp), (List.pairwise_cons.1 h).2⟩

theorem mem_insert (k : Nat) (a : α) (t : Tab α) (e : Nat × α) : e ∈ Tab.insert k a t ↔ e = (k, a) ∨ e ∈ t := by
  induction t with
  | nil => simp [Tab.insert]
  | cons x r ih =>
    obtain ⟨j, b⟩ := x
    unfold Tab.insert
    split
    · simp
    · simp only [List.mem_cons, ih]
      exact ⟨fun h => by rcases h with h | h | h <;> simp [h], fun h => by rcases h with h | h | h <;> simp [h]⟩

theorem pairwise_insert (k : Nat) (a : α) (t : Tab α) (h : t.Pairwise (fun x y => x.1 < y.1))
    (hk : ∀ e ∈ t, e.1 ≠ k) : (Tab.insert k a t).Pairwise (fun x y => x.1 < y.1) := by
  induction t with
  | nil => simp [Tab.insert]
  | cons x r ih =>
    obtain ⟨j, b⟩ := x
    obtain ⟨h1, h2⟩ := List.pairwise_cons.1 h
    unfold Tab.insert
    split
    · rename_i hlt
      refine List.pairwise_cons.2 ⟨?_, h⟩
      intro e he
      rcases List.mem_cons.1 he with rfl | he
      · exact hlt
      · exact Nat.lt_trans hlt (h1 e he)
    · rename_i hlt
      have hne : j ≠ k := hk (j, b) (by simp)
      refine List.pairwise_cons.2 ⟨?_, ih h2 fun e he => hk e (by simp [he])⟩
      intro e he
      rcases (mem_insert ..).1 he with rfl | he
      · show j < k
        omega
      · exact h1 e he

theorem pairwise_erase (t : Tab α) (k : Nat) (h : t.Pairwise (fun x y => x.1 < y.1)) :
    (Tab.erase t k).Pairwise (fun x y => x.1 < y.1) := List.Pairwise.filter _ h

theorem erase_ne (t : Tab α) (k : Nat) : ∀ e ∈ Tab.erase t k, e.1 ≠ k := by
  intro e he
  simpa using (List.mem_filter.1 he).2

theorem memWrite_wf (m : List Host.Cell) (a : Nat) (b : Byte) (h : Memory.wf m = true) :
    Memory.wf (memWrite m a b) = true := by
  rw [wf_iff_pairwise] at *
  exact pairwise_insert _ _ _ (pairwise_erase _ _ h) (erase_ne m a)

theorem memWrites_wf (bs : Bytes) : ∀ (m : List Host.Cell) (a : Nat), Memory.wf m = true →
    Memory.wf (memWrites m a bs) = true := by
  induction bs with
  | nil => intro m a h; exact h
  | cons b r ih => intro m a h; exact ih _ _ (memWrite_wf m a b h)

theorem memErases_wf (n : Nat) : ∀ (m : List Host.Cell) (a : Nat), Memory.wf m = true → Memory.wf (memErases m a n) = true := by
  induction n with
  | zero => intro m a h; exact h
  | succ n ih =>
    intro m a h
    exact ih _ _ (by rw [wf_iff_pairwise] at *; exact pairwise_erase _ _ h)

/-- A byte of a range that nothing is known of any more, and one outside it. -/
theorem find_memErases (n : Nat) : ∀ (m : List Host.Cell) (a i : Nat),
    Tab.find? (memErases m a n) i = if a ≤ i ∧ i < a + n then none else Tab.find? m i := by
  induction n with
  | zero => intro m a i; rw [if_neg (by omega)]; rfl
  | succ n ih =>
    intro m a i
    rw [memErases, ih, find_erase]
    by_cases h : i = a
    · simp [h]
    · rw [if_neg h]
      by_cases hi : a + 1 ≤ i ∧ i < a + 1 + n
      · rw [if_pos hi, if_pos (by omega)]
      · rw [if_neg hi, if_neg (by omega)]

/-- The dirty log's update touches no host memory and no write count. -/
@[simp] theorem logWrite_hostMem (own a n : Nat) (s : State) : (logWrite own a n s).hostMem = s.hostMem := by
  unfold logWrite; split <;> rfl

/-- Every write to host memory keeps its canonical form. -/
theorem hostWrite_wf (fn own a : Nat) (bs : Bytes) (rx ns ep : Bool) (s : State) (h : Memory.wf s.hostMem = true) :
    Memory.wf (hostWrite fn own a bs rx ns ep s).hostMem = true := by
  show Memory.wf (if ep then memErases (logWrite own a bs.length s).hostMem a bs.length
    else memWrites (logWrite own a bs.length s).hostMem a bs) = true
  rw [logWrite_hostMem]
  split
  · exact memErases_wf _ _ _ h
  · exact memWrites_wf _ _ _ h

/-- A write to host memory changes no byte outside those written. -/
theorem hostWrite_outside (fn own a : Nat) (bs : Bytes) (rx ns ep : Bool) (s : State) (i : Nat) (h : i < a ∨ a + bs.length ≤ i) :
    hostByte (hostWrite fn own a bs rx ns ep s) i = hostByte s i := by
  show Tab.find? (if ep then memErases (logWrite own a bs.length s).hostMem a bs.length
    else memWrites (logWrite own a bs.length s).hostMem a bs) i = _
  rw [logWrite_hostMem]
  split
  · rw [find_memErases, if_neg (by omega)]; rfl
  · exact find_memWrites_outside _ _ _ _ h

/-- The bytes of a write that passed its internal check read back. -/
theorem hostWrite_inside (fn own a : Nat) (bs : Bytes) (rx ns : Bool) (s : State) (i : Nat) (h : i < bs.length) :
    hostByte (hostWrite fn own a bs rx ns false s) (a + i) = some bs[i] := by
  show Tab.find? (memWrites (logWrite own a bs.length s).hostMem a bs) (a + i) = _
  exact find_memWrites_inside _ _ _ _ h

end Sys2Proof.Laws
end

