-- ==== Sys2Proof/Laws/State.lean ====
section
/-!
SUPPORT. One law per field of the state for each named update: the field it writes, and that it leaves every other field
alone; and what a table reads as after an update of it.
-/
namespace Sys2Proof.Laws
open Sys2Proof.Machine

/-! ### updDie -/

@[simp] theorem updDie_pending (d f s) : (updDie d f s).pending = s.pending := rfl
@[simp] theorem updDie_part (d f s) : (updDie d f s).part = s.part := rfl
@[simp] theorem updDie_time (d f s) : (updDie d f s).time = s.time := rfl
@[simp] theorem updDie_dies (d f s) : (updDie d f s).dies = Tab.upd dDie s.dies d f := rfl
@[simp] theorem updDie_funcs (d f s) : (updDie d f s).funcs = s.funcs := rfl
@[simp] theorem updDie_vfEnable (d f s) : (updDie d f s).vfEnable = s.vfEnable := rfl
@[simp] theorem updDie_pcie (d f s) : (updDie d f s).pcie = s.pcie := rfl
@[simp] theorem updDie_queues (d f s) : (updDie d f s).queues = s.queues := rfl
@[simp] theorem updDie_booth (d f s) : (updDie d f s).booth = s.booth := rfl
@[simp] theorem updDie_parts (d f s) : (updDie d f s).parts = s.parts := rfl
@[simp] theorem updDie_flows (d f s) : (updDie d f s).flows = s.flows := rfl
@[simp] theorem updDie_items (d f s) : (updDie d f s).items = s.items := rfl
@[simp] theorem updDie_releaseQ (d f s) : (updDie d f s).releaseQ = s.releaseQ := rfl
@[simp] theorem updDie_jug (d f s) : (updDie d f s).jug = s.jug := rfl
@[simp] theorem updDie_troupes (d f s) : (updDie d f s).troupes = s.troupes := rfl
@[simp] theorem updDie_seats (d f s) : (updDie d f s).seats = s.seats := rfl
@[simp] theorem updDie_performers (d f s) : (updDie d f s).performers = s.performers := rfl
@[simp] theorem updDie_routines (d f s) : (updDie d f s).routines = s.routines := rfl
@[simp] theorem updDie_freeCtr (d f s) : (updDie d f s).freeCtr = s.freeCtr := rfl
@[simp] theorem updDie_writeCtr (d f s) : (updDie d f s).writeCtr = s.writeCtr := rfl
@[simp] theorem updDie_dir (d f s) : (updDie d f s).dir = s.dir := rfl
@[simp] theorem updDie_cage (d f s) : (updDie d f s).cage = s.cage := rfl
@[simp] theorem updDie_vault (d f s) : (updDie d f s).vault = s.vault := rfl
@[simp] theorem updDie_units (d f s) : (updDie d f s).units = s.units := rfl
@[simp] theorem updDie_gates (d f s) : (updDie d f s).gates = s.gates := rfl
@[simp] theorem updDie_fuses (d f s) : (updDie d f s).fuses = s.fuses := rfl
@[simp] theorem updDie_boot (d f s) : (updDie d f s).boot = s.boot := rfl
@[simp] theorem updDie_spdm (d f s) : (updDie d f s).spdm = s.spdm := rfl
@[simp] theorem updDie_uch (d f s) : (updDie d f s).uch = s.uch := rfl
@[simp] theorem updDie_mov (d f s) : (updDie d f s).mov = s.mov := rfl
@[simp] theorem updDie_lcs (d f s) : (updDie d f s).lcs = s.lcs := rfl
@[simp] theorem updDie_dbg (d f s) : (updDie d f s).dbg = s.dbg := rfl
@[simp] theorem updDie_trace (d f s) : (updDie d f s).trace = s.trace := rfl
@[simp] theorem updDie_cal (d f s) : (updDie d f s).cal = s.cal := rfl
@[simp] theorem updDie_canvas (d f s) : (updDie d f s).canvas = s.canvas := rfl
@[simp] theorem updDie_trp (d f s) : (updDie d f s).trp = s.trp := rfl
@[simp] theorem updDie_power (d f s) : (updDie d f s).power = s.power := rfl
@[simp] theorem updDie_rtc (d f s) : (updDie d f s).rtc = s.rtc := rfl
@[simp] theorem updDie_hostMem (d f s) : (updDie d f s).hostMem = s.hostMem := rfl
@[simp] theorem updDie_readData (d f s) : (updDie d f s).readData = s.readData := rfl
@[simp] theorem updDie_out (d f s) : (updDie d f s).out = s.out := rfl

/-! ### setQp -/

@[simp] theorem setQp_pending (q x s) : (setQp q x s).pending = s.pending := rfl
@[simp] theorem setQp_part (q x s) : (setQp q x s).part = s.part := rfl
@[simp] theorem setQp_time (q x s) : (setQp q x s).time = s.time := rfl
@[simp] theorem setQp_dies (q x s) : (setQp q x s).dies = s.dies := rfl
@[simp] theorem setQp_funcs (q x s) : (setQp q x s).funcs = s.funcs := rfl
@[simp] theorem setQp_vfEnable (q x s) : (setQp q x s).vfEnable = s.vfEnable := rfl
@[simp] theorem setQp_pcie (q x s) : (setQp q x s).pcie = s.pcie := rfl
@[simp] theorem setQp_queues (q x s) : (setQp q x s).queues = Tab.set dQp s.queues q x := rfl
@[simp] theorem setQp_booth (q x s) : (setQp q x s).booth = s.booth := rfl
@[simp] theorem setQp_parts (q x s) : (setQp q x s).parts = s.parts := rfl
@[simp] theorem setQp_flows (q x s) : (setQp q x s).flows = s.flows := rfl
@[simp] theorem setQp_items (q x s) : (setQp q x s).items = s.items := rfl
@[simp] theorem setQp_releaseQ (q x s) : (setQp q x s).releaseQ = s.releaseQ := rfl
@[simp] theorem setQp_jug (q x s) : (setQp q x s).jug = s.jug := rfl
@[simp] theorem setQp_troupes (q x s) : (setQp q x s).troupes = s.troupes := rfl
@[simp] theorem setQp_seats (q x s) : (setQp q x s).seats = s.seats := rfl
@[simp] theorem setQp_performers (q x s) : (setQp q x s).performers = s.performers := rfl
@[simp] theorem setQp_routines (q x s) : (setQp q x s).routines = s.routines := rfl
@[simp] theorem setQp_freeCtr (q x s) : (setQp q x s).freeCtr = s.freeCtr := rfl
@[simp] theorem setQp_writeCtr (q x s) : (setQp q x s).writeCtr = s.writeCtr := rfl
@[simp] theorem setQp_dir (q x s) : (setQp q x s).dir = s.dir := rfl
@[simp] theorem setQp_cage (q x s) : (setQp q x s).cage = s.cage := rfl
@[simp] theorem setQp_vault (q x s) : (setQp q x s).vault = s.vault := rfl
@[simp] theorem setQp_units (q x s) : (setQp q x s).units = s.units := rfl
@[simp] theorem setQp_gates (q x s) : (setQp q x s).gates = s.gates := rfl
@[simp] theorem setQp_fuses (q x s) : (setQp q x s).fuses = s.fuses := rfl
@[simp] theorem setQp_boot (q x s) : (setQp q x s).boot = s.boot := rfl
@[simp] theorem setQp_spdm (q x s) : (setQp q x s).spdm = s.spdm := rfl
@[simp] theorem setQp_uch (q x s) : (setQp q x s).uch = s.uch := rfl
@[simp] theorem setQp_mov (q x s) : (setQp q x s).mov = s.mov := rfl
@[simp] theorem setQp_lcs (q x s) : (setQp q x s).lcs = s.lcs := rfl
@[simp] theorem setQp_dbg (q x s) : (setQp q x s).dbg = s.dbg := rfl
@[simp] theorem setQp_trace (q x s) : (setQp q x s).trace = s.trace := rfl
@[simp] theorem setQp_cal (q x s) : (setQp q x s).cal = s.cal := rfl
@[simp] theorem setQp_canvas (q x s) : (setQp q x s).canvas = s.canvas := rfl
@[simp] theorem setQp_trp (q x s) : (setQp q x s).trp = s.trp := rfl
@[simp] theorem setQp_power (q x s) : (setQp q x s).power = s.power := rfl
@[simp] theorem setQp_rtc (q x s) : (setQp q x s).rtc = s.rtc := rfl
@[simp] theorem setQp_hostMem (q x s) : (setQp q x s).hostMem = s.hostMem := rfl
@[simp] theorem setQp_readData (q x s) : (setQp q x s).readData = s.readData := rfl
@[simp] theorem setQp_out (q x s) : (setQp q x s).out = s.out := rfl

/-! ### updQp -/

@[simp] theorem updQp_pending (q f s) : (updQp q f s).pending = s.pending := rfl
@[simp] theorem updQp_part (q f s) : (updQp q f s).part = s.part := rfl
@[simp] theorem updQp_time (q f s) : (updQp q f s).time = s.time := rfl
@[simp] theorem updQp_dies (q f s) : (updQp q f s).dies = s.dies := rfl
@[simp] theorem updQp_funcs (q f s) : (updQp q f s).funcs = s.funcs := rfl
@[simp] theorem updQp_vfEnable (q f s) : (updQp q f s).vfEnable = s.vfEnable := rfl
@[simp] theorem updQp_pcie (q f s) : (updQp q f s).pcie = s.pcie := rfl
@[simp] theorem updQp_queues (q f s) : (updQp q f s).queues = Tab.upd dQp s.queues q f := rfl
@[simp] theorem updQp_booth (q f s) : (updQp q f s).booth = s.booth := rfl
@[simp] theorem updQp_parts (q f s) : (updQp q f s).parts = s.parts := rfl
@[simp] theorem updQp_flows (q f s) : (updQp q f s).flows = s.flows := rfl
@[simp] theorem updQp_items (q f s) : (updQp q f s).items = s.items := rfl
@[simp] theorem updQp_releaseQ (q f s) : (updQp q f s).releaseQ = s.releaseQ := rfl
@[simp] theorem updQp_jug (q f s) : (updQp q f s).jug = s.jug := rfl
@[simp] theorem updQp_troupes (q f s) : (updQp q f s).troupes = s.troupes := rfl
@[simp] theorem updQp_seats (q f s) : (updQp q f s).seats = s.seats := rfl
@[simp] theorem updQp_performers (q f s) : (updQp q f s).performers = s.performers := rfl
@[simp] theorem updQp_routines (q f s) : (updQp q f s).routines = s.routines := rfl
@[simp] theorem updQp_freeCtr (q f s) : (updQp q f s).freeCtr = s.freeCtr := rfl
@[simp] theorem updQp_writeCtr (q f s) : (updQp q f s).writeCtr = s.writeCtr := rfl
@[simp] theorem updQp_dir (q f s) : (updQp q f s).dir = s.dir := rfl
@[simp] theorem updQp_cage (q f s) : (updQp q f s).cage = s.cage := rfl
@[simp] theorem updQp_vault (q f s) : (updQp q f s).vault = s.vault := rfl
@[simp] theorem updQp_units (q f s) : (updQp q f s).units = s.units := rfl
@[simp] theorem updQp_gates (q f s) : (updQp q f s).gates = s.gates := rfl
@[simp] theorem updQp_fuses (q f s) : (updQp q f s).fuses = s.fuses := rfl
@[simp] theorem updQp_boot (q f s) : (updQp q f s).boot = s.boot := rfl
@[simp] theorem updQp_spdm (q f s) : (updQp q f s).spdm = s.spdm := rfl
@[simp] theorem updQp_uch (q f s) : (updQp q f s).uch = s.uch := rfl
@[simp] theorem updQp_mov (q f s) : (updQp q f s).mov = s.mov := rfl
@[simp] theorem updQp_lcs (q f s) : (updQp q f s).lcs = s.lcs := rfl
@[simp] theorem updQp_dbg (q f s) : (updQp q f s).dbg = s.dbg := rfl
@[simp] theorem updQp_trace (q f s) : (updQp q f s).trace = s.trace := rfl
@[simp] theorem updQp_cal (q f s) : (updQp q f s).cal = s.cal := rfl
@[simp] theorem updQp_canvas (q f s) : (updQp q f s).canvas = s.canvas := rfl
@[simp] theorem updQp_trp (q f s) : (updQp q f s).trp = s.trp := rfl
@[simp] theorem updQp_power (q f s) : (updQp q f s).power = s.power := rfl
@[simp] theorem updQp_rtc (q f s) : (updQp q f s).rtc = s.rtc := rfl
@[simp] theorem updQp_hostMem (q f s) : (updQp q f s).hostMem = s.hostMem := rfl
@[simp] theorem updQp_readData (q f s) : (updQp q f s).readData = s.readData := rfl
@[simp] theorem updQp_out (q f s) : (updQp q f s).out = s.out := rfl

/-! ### updFunc -/

@[simp] theorem updFunc_pending (n f s) : (updFunc n f s).pending = s.pending := rfl
@[simp] theorem updFunc_part (n f s) : (updFunc n f s).part = s.part := rfl
@[simp] theorem updFunc_time (n f s) : (updFunc n f s).time = s.time := rfl
@[simp] theorem updFunc_dies (n f s) : (updFunc n f s).dies = s.dies := rfl
@[simp] theorem updFunc_funcs (n f s) : (updFunc n f s).funcs = Tab.upd dFunc s.funcs n f := rfl
@[simp] theorem updFunc_vfEnable (n f s) : (updFunc n f s).vfEnable = s.vfEnable := rfl
@[simp] theorem updFunc_pcie (n f s) : (updFunc n f s).pcie = s.pcie := rfl
@[simp] theorem updFunc_queues (n f s) : (updFunc n f s).queues = s.queues := rfl
@[simp] theorem updFunc_booth (n f s) : (updFunc n f s).booth = s.booth := rfl
@[simp] theorem updFunc_parts (n f s) : (updFunc n f s).parts = s.parts := rfl
@[simp] theorem updFunc_flows (n f s) : (updFunc n f s).flows = s.flows := rfl
@[simp] theorem updFunc_items (n f s) : (updFunc n f s).items = s.items := rfl
@[simp] theorem updFunc_releaseQ (n f s) : (updFunc n f s).releaseQ = s.releaseQ := rfl
@[simp] theorem updFunc_jug (n f s) : (updFunc n f s).jug = s.jug := rfl
@[simp] theorem updFunc_troupes (n f s) : (updFunc n f s).troupes = s.troupes := rfl
@[simp] theorem updFunc_seats (n f s) : (updFunc n f s).seats = s.seats := rfl
@[simp] theorem updFunc_performers (n f s) : (updFunc n f s).performers = s.performers := rfl
@[simp] theorem updFunc_routines (n f s) : (updFunc n f s).routines = s.routines := rfl
@[simp] theorem updFunc_freeCtr (n f s) : (updFunc n f s).freeCtr = s.freeCtr := rfl
@[simp] theorem updFunc_writeCtr (n f s) : (updFunc n f s).writeCtr = s.writeCtr := rfl
@[simp] theorem updFunc_dir (n f s) : (updFunc n f s).dir = s.dir := rfl
@[simp] theorem updFunc_cage (n f s) : (updFunc n f s).cage = s.cage := rfl
@[simp] theorem updFunc_vault (n f s) : (updFunc n f s).vault = s.vault := rfl
@[simp] theorem updFunc_units (n f s) : (updFunc n f s).units = s.units := rfl
@[simp] theorem updFunc_gates (n f s) : (updFunc n f s).gates = s.gates := rfl
@[simp] theorem updFunc_fuses (n f s) : (updFunc n f s).fuses = s.fuses := rfl
@[simp] theorem updFunc_boot (n f s) : (updFunc n f s).boot = s.boot := rfl
@[simp] theorem updFunc_spdm (n f s) : (updFunc n f s).spdm = s.spdm := rfl
@[simp] theorem updFunc_uch (n f s) : (updFunc n f s).uch = s.uch := rfl
@[simp] theorem updFunc_mov (n f s) : (updFunc n f s).mov = s.mov := rfl
@[simp] theorem updFunc_lcs (n f s) : (updFunc n f s).lcs = s.lcs := rfl
@[simp] theorem updFunc_dbg (n f s) : (updFunc n f s).dbg = s.dbg := rfl
@[simp] theorem updFunc_trace (n f s) : (updFunc n f s).trace = s.trace := rfl
@[simp] theorem updFunc_cal (n f s) : (updFunc n f s).cal = s.cal := rfl
@[simp] theorem updFunc_canvas (n f s) : (updFunc n f s).canvas = s.canvas := rfl
@[simp] theorem updFunc_trp (n f s) : (updFunc n f s).trp = s.trp := rfl
@[simp] theorem updFunc_power (n f s) : (updFunc n f s).power = s.power := rfl
@[simp] theorem updFunc_rtc (n f s) : (updFunc n f s).rtc = s.rtc := rfl
@[simp] theorem updFunc_hostMem (n f s) : (updFunc n f s).hostMem = s.hostMem := rfl
@[simp] theorem updFunc_readData (n f s) : (updFunc n f s).readData = s.readData := rfl
@[simp] theorem updFunc_out (n f s) : (updFunc n f s).out = s.out := rfl

/-! ### updPart -/

@[simp] theorem updPart_pending (p f s) : (updPart p f s).pending = s.pending := rfl
@[simp] theorem updPart_part (p f s) : (updPart p f s).part = s.part := rfl
@[simp] theorem updPart_time (p f s) : (updPart p f s).time = s.time := rfl
@[simp] theorem updPart_dies (p f s) : (updPart p f s).dies = s.dies := rfl
@[simp] theorem updPart_funcs (p f s) : (updPart p f s).funcs = s.funcs := rfl
@[simp] theorem updPart_vfEnable (p f s) : (updPart p f s).vfEnable = s.vfEnable := rfl
@[simp] theorem updPart_pcie (p f s) : (updPart p f s).pcie = s.pcie := rfl
@[simp] theorem updPart_queues (p f s) : (updPart p f s).queues = s.queues := rfl
@[simp] theorem updPart_booth (p f s) : (updPart p f s).booth = s.booth := rfl
@[simp] theorem updPart_parts (p f s) : (updPart p f s).parts = Tab.upd dPart s.parts p f := rfl
@[simp] theorem updPart_flows (p f s) : (updPart p f s).flows = s.flows := rfl
@[simp] theorem updPart_items (p f s) : (updPart p f s).items = s.items := rfl
@[simp] theorem updPart_releaseQ (p f s) : (updPart p f s).releaseQ = s.releaseQ := rfl
@[simp] theorem updPart_jug (p f s) : (updPart p f s).jug = s.jug := rfl
@[simp] theorem updPart_troupes (p f s) : (updPart p f s).troupes = s.troupes := rfl
@[simp] theorem updPart_seats (p f s) : (updPart p f s).seats = s.seats := rfl
@[simp] theorem updPart_performers (p f s) : (updPart p f s).performers = s.performers := rfl
@[simp] theorem updPart_routines (p f s) : (updPart p f s).routines = s.routines := rfl
@[simp] theorem updPart_freeCtr (p f s) : (updPart p f s).freeCtr = s.freeCtr := rfl
@[simp] theorem updPart_writeCtr (p f s) : (updPart p f s).writeCtr = s.writeCtr := rfl
@[simp] theorem updPart_dir (p f s) : (updPart p f s).dir = s.dir := rfl
@[simp] theorem updPart_cage (p f s) : (updPart p f s).cage = s.cage := rfl
@[simp] theorem updPart_vault (p f s) : (updPart p f s).vault = s.vault := rfl
@[simp] theorem updPart_units (p f s) : (updPart p f s).units = s.units := rfl
@[simp] theorem updPart_gates (p f s) : (updPart p f s).gates = s.gates := rfl
@[simp] theorem updPart_fuses (p f s) : (updPart p f s).fuses = s.fuses := rfl
@[simp] theorem updPart_boot (p f s) : (updPart p f s).boot = s.boot := rfl
@[simp] theorem updPart_spdm (p f s) : (updPart p f s).spdm = s.spdm := rfl
@[simp] theorem updPart_uch (p f s) : (updPart p f s).uch = s.uch := rfl
@[simp] theorem updPart_mov (p f s) : (updPart p f s).mov = s.mov := rfl
@[simp] theorem updPart_lcs (p f s) : (updPart p f s).lcs = s.lcs := rfl
@[simp] theorem updPart_dbg (p f s) : (updPart p f s).dbg = s.dbg := rfl
@[simp] theorem updPart_trace (p f s) : (updPart p f s).trace = s.trace := rfl
@[simp] theorem updPart_cal (p f s) : (updPart p f s).cal = s.cal := rfl
@[simp] theorem updPart_canvas (p f s) : (updPart p f s).canvas = s.canvas := rfl
@[simp] theorem updPart_trp (p f s) : (updPart p f s).trp = s.trp := rfl
@[simp] theorem updPart_power (p f s) : (updPart p f s).power = s.power := rfl
@[simp] theorem updPart_rtc (p f s) : (updPart p f s).rtc = s.rtc := rfl
@[simp] theorem updPart_hostMem (p f s) : (updPart p f s).hostMem = s.hostMem := rfl
@[simp] theorem updPart_readData (p f s) : (updPart p f s).readData = s.readData := rfl
@[simp] theorem updPart_out (p f s) : (updPart p f s).out = s.out := rfl

/-! ### updTroupe -/

@[simp] theorem updTroupe_pending (t f s) : (updTroupe t f s).pending = s.pending := rfl
@[simp] theorem updTroupe_part (t f s) : (updTroupe t f s).part = s.part := rfl
@[simp] theorem updTroupe_time (t f s) : (updTroupe t f s).time = s.time := rfl
@[simp] theorem updTroupe_dies (t f s) : (updTroupe t f s).dies = s.dies := rfl
@[simp] theorem updTroupe_funcs (t f s) : (updTroupe t f s).funcs = s.funcs := rfl
@[simp] theorem updTroupe_vfEnable (t f s) : (updTroupe t f s).vfEnable = s.vfEnable := rfl
@[simp] theorem updTroupe_pcie (t f s) : (updTroupe t f s).pcie = s.pcie := rfl
@[simp] theorem updTroupe_queues (t f s) : (updTroupe t f s).queues = s.queues := rfl
@[simp] theorem updTroupe_booth (t f s) : (updTroupe t f s).booth = s.booth := rfl
@[simp] theorem updTroupe_parts (t f s) : (updTroupe t f s).parts = s.parts := rfl
@[simp] theorem updTroupe_flows (t f s) : (updTroupe t f s).flows = s.flows := rfl
@[simp] theorem updTroupe_items (t f s) : (updTroupe t f s).items = s.items := rfl
@[simp] theorem updTroupe_releaseQ (t f s) : (updTroupe t f s).releaseQ = s.releaseQ := rfl
@[simp] theorem updTroupe_jug (t f s) : (updTroupe t f s).jug = s.jug := rfl
@[simp] theorem updTroupe_troupes (t f s) : (updTroupe t f s).troupes = Tab.upd dTroupe s.troupes t f := rfl
@[simp] theorem updTroupe_seats (t f s) : (updTroupe t f s).seats = s.seats := rfl
@[simp] theorem updTroupe_performers (t f s) : (updTroupe t f s).performers = s.performers := rfl
@[simp] theorem updTroupe_routines (t f s) : (updTroupe t f s).routines = s.routines := rfl
@[simp] theorem updTroupe_freeCtr (t f s) : (updTroupe t f s).freeCtr = s.freeCtr := rfl
@[simp] theorem updTroupe_writeCtr (t f s) : (updTroupe t f s).writeCtr = s.writeCtr := rfl
@[simp] theorem updTroupe_dir (t f s) : (updTroupe t f s).dir = s.dir := rfl
@[simp] theorem updTroupe_cage (t f s) : (updTroupe t f s).cage = s.cage := rfl
@[simp] theorem updTroupe_vault (t f s) : (updTroupe t f s).vault = s.vault := rfl
@[simp] theorem updTroupe_units (t f s) : (updTroupe t f s).units = s.units := rfl
@[simp] theorem updTroupe_gates (t f s) : (updTroupe t f s).gates = s.gates := rfl
@[simp] theorem updTroupe_fuses (t f s) : (updTroupe t f s).fuses = s.fuses := rfl
@[simp] theorem updTroupe_boot (t f s) : (updTroupe t f s).boot = s.boot := rfl
@[simp] theorem updTroupe_spdm (t f s) : (updTroupe t f s).spdm = s.spdm := rfl
@[simp] theorem updTroupe_uch (t f s) : (updTroupe t f s).uch = s.uch := rfl
@[simp] theorem updTroupe_mov (t f s) : (updTroupe t f s).mov = s.mov := rfl
@[simp] theorem updTroupe_lcs (t f s) : (updTroupe t f s).lcs = s.lcs := rfl
@[simp] theorem updTroupe_dbg (t f s) : (updTroupe t f s).dbg = s.dbg := rfl
@[simp] theorem updTroupe_trace (t f s) : (updTroupe t f s).trace = s.trace := rfl
@[simp] theorem updTroupe_cal (t f s) : (updTroupe t f s).cal = s.cal := rfl
@[simp] theorem updTroupe_canvas (t f s) : (updTroupe t f s).canvas = s.canvas := rfl
@[simp] theorem updTroupe_trp (t f s) : (updTroupe t f s).trp = s.trp := rfl
@[simp] theorem updTroupe_power (t f s) : (updTroupe t f s).power = s.power := rfl
@[simp] theorem updTroupe_rtc (t f s) : (updTroupe t f s).rtc = s.rtc := rfl
@[simp] theorem updTroupe_hostMem (t f s) : (updTroupe t f s).hostMem = s.hostMem := rfl
@[simp] theorem updTroupe_readData (t f s) : (updTroupe t f s).readData = s.readData := rfl
@[simp] theorem updTroupe_out (t f s) : (updTroupe t f s).out = s.out := rfl

/-! ### setSeat -/

@[simp] theorem setSeat_pending (k x s) : (setSeat k x s).pending = s.pending := rfl
@[simp] theorem setSeat_part (k x s) : (setSeat k x s).part = s.part := rfl
@[simp] theorem setSeat_time (k x s) : (setSeat k x s).time = s.time := rfl
@[simp] theorem setSeat_dies (k x s) : (setSeat k x s).dies = s.dies := rfl
@[simp] theorem setSeat_funcs (k x s) : (setSeat k x s).funcs = s.funcs := rfl
@[simp] theorem setSeat_vfEnable (k x s) : (setSeat k x s).vfEnable = s.vfEnable := rfl
@[simp] theorem setSeat_pcie (k x s) : (setSeat k x s).pcie = s.pcie := rfl
@[simp] theorem setSeat_queues (k x s) : (setSeat k x s).queues = s.queues := rfl
@[simp] theorem setSeat_booth (k x s) : (setSeat k x s).booth = s.booth := rfl
@[simp] theorem setSeat_parts (k x s) : (setSeat k x s).parts = s.parts := rfl
@[simp] theorem setSeat_flows (k x s) : (setSeat k x s).flows = s.flows := rfl
@[simp] theorem setSeat_items (k x s) : (setSeat k x s).items = s.items := rfl
@[simp] theorem setSeat_releaseQ (k x s) : (setSeat k x s).releaseQ = s.releaseQ := rfl
@[simp] theorem setSeat_jug (k x s) : (setSeat k x s).jug = s.jug := rfl
@[simp] theorem setSeat_troupes (k x s) : (setSeat k x s).troupes = s.troupes := rfl
@[simp] theorem setSeat_seats (k x s) : (setSeat k x s).seats = Tab.set dSeat s.seats k x := rfl
@[simp] theorem setSeat_performers (k x s) : (setSeat k x s).performers = s.performers := rfl
@[simp] theorem setSeat_routines (k x s) : (setSeat k x s).routines = s.routines := rfl
@[simp] theorem setSeat_freeCtr (k x s) : (setSeat k x s).freeCtr = s.freeCtr := rfl
@[simp] theorem setSeat_writeCtr (k x s) : (setSeat k x s).writeCtr = s.writeCtr := rfl
@[simp] theorem setSeat_dir (k x s) : (setSeat k x s).dir = s.dir := rfl
@[simp] theorem setSeat_cage (k x s) : (setSeat k x s).cage = s.cage := rfl
@[simp] theorem setSeat_vault (k x s) : (setSeat k x s).vault = s.vault := rfl
@[simp] theorem setSeat_units (k x s) : (setSeat k x s).units = s.units := rfl
@[simp] theorem setSeat_gates (k x s) : (setSeat k x s).gates = s.gates := rfl
@[simp] theorem setSeat_fuses (k x s) : (setSeat k x s).fuses = s.fuses := rfl
@[simp] theorem setSeat_boot (k x s) : (setSeat k x s).boot = s.boot := rfl
@[simp] theorem setSeat_spdm (k x s) : (setSeat k x s).spdm = s.spdm := rfl
@[simp] theorem setSeat_uch (k x s) : (setSeat k x s).uch = s.uch := rfl
@[simp] theorem setSeat_mov (k x s) : (setSeat k x s).mov = s.mov := rfl
@[simp] theorem setSeat_lcs (k x s) : (setSeat k x s).lcs = s.lcs := rfl
@[simp] theorem setSeat_dbg (k x s) : (setSeat k x s).dbg = s.dbg := rfl
@[simp] theorem setSeat_trace (k x s) : (setSeat k x s).trace = s.trace := rfl
@[simp] theorem setSeat_cal (k x s) : (setSeat k x s).cal = s.cal := rfl
@[simp] theorem setSeat_canvas (k x s) : (setSeat k x s).canvas = s.canvas := rfl
@[simp] theorem setSeat_trp (k x s) : (setSeat k x s).trp = s.trp := rfl
@[simp] theorem setSeat_power (k x s) : (setSeat k x s).power = s.power := rfl
@[simp] theorem setSeat_rtc (k x s) : (setSeat k x s).rtc = s.rtc := rfl
@[simp] theorem setSeat_hostMem (k x s) : (setSeat k x s).hostMem = s.hostMem := rfl
@[simp] theorem setSeat_readData (k x s) : (setSeat k x s).readData = s.readData := rfl
@[simp] theorem setSeat_out (k x s) : (setSeat k x s).out = s.out := rfl

/-! ### updSeat -/

@[simp] theorem updSeat_pending (k f s) : (updSeat k f s).pending = s.pending := rfl
@[simp] theorem updSeat_part (k f s) : (updSeat k f s).part = s.part := rfl
@[simp] theorem updSeat_time (k f s) : (updSeat k f s).time = s.time := rfl
@[simp] theorem updSeat_dies (k f s) : (updSeat k f s).dies = s.dies := rfl
@[simp] theorem updSeat_funcs (k f s) : (updSeat k f s).funcs = s.funcs := rfl
@[simp] theorem updSeat_vfEnable (k f s) : (updSeat k f s).vfEnable = s.vfEnable := rfl
@[simp] theorem updSeat_pcie (k f s) : (updSeat k f s).pcie = s.pcie := rfl
@[simp] theorem updSeat_queues (k f s) : (updSeat k f s).queues = s.queues := rfl
@[simp] theorem updSeat_booth (k f s) : (updSeat k f s).booth = s.booth := rfl
@[simp] theorem updSeat_parts (k f s) : (updSeat k f s).parts = s.parts := rfl
@[simp] theorem updSeat_flows (k f s) : (updSeat k f s).flows = s.flows := rfl
@[simp] theorem updSeat_items (k f s) : (updSeat k f s).items = s.items := rfl
@[simp] theorem updSeat_releaseQ (k f s) : (updSeat k f s).releaseQ = s.releaseQ := rfl
@[simp] theorem updSeat_jug (k f s) : (updSeat k f s).jug = s.jug := rfl
@[simp] theorem updSeat_troupes (k f s) : (updSeat k f s).troupes = s.troupes := rfl
@[simp] theorem updSeat_seats (k f s) : (updSeat k f s).seats = Tab.upd dSeat s.seats k f := rfl
@[simp] theorem updSeat_performers (k f s) : (updSeat k f s).performers = s.performers := rfl
@[simp] theorem updSeat_routines (k f s) : (updSeat k f s).routines = s.routines := rfl
@[simp] theorem updSeat_freeCtr (k f s) : (updSeat k f s).freeCtr = s.freeCtr := rfl
@[simp] theorem updSeat_writeCtr (k f s) : (updSeat k f s).writeCtr = s.writeCtr := rfl
@[simp] theorem updSeat_dir (k f s) : (updSeat k f s).dir = s.dir := rfl
@[simp] theorem updSeat_cage (k f s) : (updSeat k f s).cage = s.cage := rfl
@[simp] theorem updSeat_vault (k f s) : (updSeat k f s).vault = s.vault := rfl
@[simp] theorem updSeat_units (k f s) : (updSeat k f s).units = s.units := rfl
@[simp] theorem updSeat_gates (k f s) : (updSeat k f s).gates = s.gates := rfl
@[simp] theorem updSeat_fuses (k f s) : (updSeat k f s).fuses = s.fuses := rfl
@[simp] theorem updSeat_boot (k f s) : (updSeat k f s).boot = s.boot := rfl
@[simp] theorem updSeat_spdm (k f s) : (updSeat k f s).spdm = s.spdm := rfl
@[simp] theorem updSeat_uch (k f s) : (updSeat k f s).uch = s.uch := rfl
@[simp] theorem updSeat_mov (k f s) : (updSeat k f s).mov = s.mov := rfl
@[simp] theorem updSeat_lcs (k f s) : (updSeat k f s).lcs = s.lcs := rfl
@[simp] theorem updSeat_dbg (k f s) : (updSeat k f s).dbg = s.dbg := rfl
@[simp] theorem updSeat_trace (k f s) : (updSeat k f s).trace = s.trace := rfl
@[simp] theorem updSeat_cal (k f s) : (updSeat k f s).cal = s.cal := rfl
@[simp] theorem updSeat_canvas (k f s) : (updSeat k f s).canvas = s.canvas := rfl
@[simp] theorem updSeat_trp (k f s) : (updSeat k f s).trp = s.trp := rfl
@[simp] theorem updSeat_power (k f s) : (updSeat k f s).power = s.power := rfl
@[simp] theorem updSeat_rtc (k f s) : (updSeat k f s).rtc = s.rtc := rfl
@[simp] theorem updSeat_hostMem (k f s) : (updSeat k f s).hostMem = s.hostMem := rfl
@[simp] theorem updSeat_readData (k f s) : (updSeat k f s).readData = s.readData := rfl
@[simp] theorem updSeat_out (k f s) : (updSeat k f s).out = s.out := rfl

/-! ### updFlow -/

@[simp] theorem updFlow_pending (p n g s) : (updFlow p n g s).pending = s.pending := rfl
@[simp] theorem updFlow_part (p n g s) : (updFlow p n g s).part = s.part := rfl
@[simp] theorem updFlow_time (p n g s) : (updFlow p n g s).time = s.time := rfl
@[simp] theorem updFlow_dies (p n g s) : (updFlow p n g s).dies = s.dies := rfl
@[simp] theorem updFlow_funcs (p n g s) : (updFlow p n g s).funcs = s.funcs := rfl
@[simp] theorem updFlow_vfEnable (p n g s) : (updFlow p n g s).vfEnable = s.vfEnable := rfl
@[simp] theorem updFlow_pcie (p n g s) : (updFlow p n g s).pcie = s.pcie := rfl
@[simp] theorem updFlow_queues (p n g s) : (updFlow p n g s).queues = s.queues := rfl
@[simp] theorem updFlow_booth (p n g s) : (updFlow p n g s).booth = s.booth := rfl
@[simp] theorem updFlow_parts (p n g s) : (updFlow p n g s).parts = s.parts := rfl
@[simp] theorem updFlow_items (p n g s) : (updFlow p n g s).items = s.items := rfl
@[simp] theorem updFlow_releaseQ (p n g s) : (updFlow p n g s).releaseQ = s.releaseQ := rfl
@[simp] theorem updFlow_jug (p n g s) : (updFlow p n g s).jug = s.jug := rfl
@[simp] theorem updFlow_troupes (p n g s) : (updFlow p n g s).troupes = s.troupes := rfl
@[simp] theorem updFlow_seats (p n g s) : (updFlow p n g s).seats = s.seats := rfl
@[simp] theorem updFlow_performers (p n g s) : (updFlow p n g s).performers = s.performers := rfl
@[simp] theorem updFlow_routines (p n g s) : (updFlow p n g s).routines = s.routines := rfl
@[simp] theorem updFlow_freeCtr (p n g s) : (updFlow p n g s).freeCtr = s.freeCtr := rfl
@[simp] theorem updFlow_writeCtr (p n g s) : (updFlow p n g s).writeCtr = s.writeCtr := rfl
@[simp] theorem updFlow_dir (p n g s) : (updFlow p n g s).dir = s.dir := rfl
@[simp] theorem updFlow_cage (p n g s) : (updFlow p n g s).cage = s.cage := rfl
@[simp] theorem updFlow_vault (p n g s) : (updFlow p n g s).vault = s.vault := rfl
@[simp] theorem updFlow_units (p n g s) : (updFlow p n g s).units = s.units := rfl
@[simp] theorem updFlow_gates (p n g s) : (updFlow p n g s).gates = s.gates := rfl
@[simp] theorem updFlow_fuses (p n g s) : (updFlow p n g s).fuses = s.fuses := rfl
@[simp] theorem updFlow_boot (p n g s) : (updFlow p n g s).boot = s.boot := rfl
@[simp] theorem updFlow_spdm (p n g s) : (updFlow p n g s).spdm = s.spdm := rfl
@[simp] theorem updFlow_uch (p n g s) : (updFlow p n g s).uch = s.uch := rfl
@[simp] theorem updFlow_mov (p n g s) : (updFlow p n g s).mov = s.mov := rfl
@[simp] theorem updFlow_lcs (p n g s) : (updFlow p n g s).lcs = s.lcs := rfl
@[simp] theorem updFlow_dbg (p n g s) : (updFlow p n g s).dbg = s.dbg := rfl
@[simp] theorem updFlow_trace (p n g s) : (updFlow p n g s).trace = s.trace := rfl
@[simp] theorem updFlow_cal (p n g s) : (updFlow p n g s).cal = s.cal := rfl
@[simp] theorem updFlow_canvas (p n g s) : (updFlow p n g s).canvas = s.canvas := rfl
@[simp] theorem updFlow_trp (p n g s) : (updFlow p n g s).trp = s.trp := rfl
@[simp] theorem updFlow_power (p n g s) : (updFlow p n g s).power = s.power := rfl
@[simp] theorem updFlow_rtc (p n g s) : (updFlow p n g s).rtc = s.rtc := rfl
@[simp] theorem updFlow_hostMem (p n g s) : (updFlow p n g s).hostMem = s.hostMem := rfl
@[simp] theorem updFlow_readData (p n g s) : (updFlow p n g s).readData = s.readData := rfl
@[simp] theorem updFlow_out (p n g s) : (updFlow p n g s).out = s.out := rfl

/-! ### updItem -/

@[simp] theorem updItem_pending (i f s) : (updItem i f s).pending = s.pending := rfl
@[simp] theorem updItem_part (i f s) : (updItem i f s).part = s.part := rfl
@[simp] theorem updItem_time (i f s) : (updItem i f s).time = s.time := rfl
@[simp] theorem updItem_dies (i f s) : (updItem i f s).dies = s.dies := rfl
@[simp] theorem updItem_funcs (i f s) : (updItem i f s).funcs = s.funcs := rfl
@[simp] theorem updItem_vfEnable (i f s) : (updItem i f s).vfEnable = s.vfEnable := rfl
@[simp] theorem updItem_pcie (i f s) : (updItem i f s).pcie = s.pcie := rfl
@[simp] theorem updItem_queues (i f s) : (updItem i f s).queues = s.queues := rfl
@[simp] theorem updItem_booth (i f s) : (updItem i f s).booth = s.booth := rfl
@[simp] theorem updItem_parts (i f s) : (updItem i f s).parts = s.parts := rfl
@[simp] theorem updItem_flows (i f s) : (updItem i f s).flows = s.flows := rfl
@[simp] theorem updItem_items (i f s) : (updItem i f s).items = mapItem i f s.items := rfl
@[simp] theorem updItem_releaseQ (i f s) : (updItem i f s).releaseQ = s.releaseQ := rfl
@[simp] theorem updItem_jug (i f s) : (updItem i f s).jug = s.jug := rfl
@[simp] theorem updItem_troupes (i f s) : (updItem i f s).troupes = s.troupes := rfl
@[simp] theorem updItem_seats (i f s) : (updItem i f s).seats = s.seats := rfl
@[simp] theorem updItem_performers (i f s) : (updItem i f s).performers = s.performers := rfl
@[simp] theorem updItem_routines (i f s) : (updItem i f s).routines = s.routines := rfl
@[simp] theorem updItem_freeCtr (i f s) : (updItem i f s).freeCtr = s.freeCtr := rfl
@[simp] theorem updItem_writeCtr (i f s) : (updItem i f s).writeCtr = s.writeCtr := rfl
@[simp] theorem updItem_dir (i f s) : (updItem i f s).dir = s.dir := rfl
@[simp] theorem updItem_cage (i f s) : (updItem i f s).cage = s.cage := rfl
@[simp] theorem updItem_vault (i f s) : (updItem i f s).vault = s.vault := rfl
@[simp] theorem updItem_units (i f s) : (updItem i f s).units = s.units := rfl
@[simp] theorem updItem_gates (i f s) : (updItem i f s).gates = s.gates := rfl
@[simp] theorem updItem_fuses (i f s) : (updItem i f s).fuses = s.fuses := rfl
@[simp] theorem updItem_boot (i f s) : (updItem i f s).boot = s.boot := rfl
@[simp] theorem updItem_spdm (i f s) : (updItem i f s).spdm = s.spdm := rfl
@[simp] theorem updItem_uch (i f s) : (updItem i f s).uch = s.uch := rfl
@[simp] theorem updItem_mov (i f s) : (updItem i f s).mov = s.mov := rfl
@[simp] theorem updItem_lcs (i f s) : (updItem i f s).lcs = s.lcs := rfl
@[simp] theorem updItem_dbg (i f s) : (updItem i f s).dbg = s.dbg := rfl
@[simp] theorem updItem_trace (i f s) : (updItem i f s).trace = s.trace := rfl
@[simp] theorem updItem_cal (i f s) : (updItem i f s).cal = s.cal := rfl
@[simp] theorem updItem_canvas (i f s) : (updItem i f s).canvas = s.canvas := rfl
@[simp] theorem updItem_trp (i f s) : (updItem i f s).trp = s.trp := rfl
@[simp] theorem updItem_power (i f s) : (updItem i f s).power = s.power := rfl
@[simp] theorem updItem_rtc (i f s) : (updItem i f s).rtc = s.rtc := rfl
@[simp] theorem updItem_hostMem (i f s) : (updItem i f s).hostMem = s.hostMem := rfl
@[simp] theorem updItem_readData (i f s) : (updItem i f s).readData = s.readData := rfl
@[simp] theorem updItem_out (i f s) : (updItem i f s).out = s.out := rfl

/-! ### dropItem -/

@[simp] theorem dropItem_pending (i s) : (dropItem i s).pending = s.pending := rfl
@[simp] theorem dropItem_part (i s) : (dropItem i s).part = s.part := rfl
@[simp] theorem dropItem_time (i s) : (dropItem i s).time = s.time := rfl
@[simp] theorem dropItem_dies (i s) : (dropItem i s).dies = s.dies := rfl
@[simp] theorem dropItem_funcs (i s) : (dropItem i s).funcs = s.funcs := rfl
@[simp] theorem dropItem_vfEnable (i s) : (dropItem i s).vfEnable = s.vfEnable := rfl
@[simp] theorem dropItem_pcie (i s) : (dropItem i s).pcie = s.pcie := rfl
@[simp] theorem dropItem_queues (i s) : (dropItem i s).queues = s.queues := rfl
@[simp] theorem dropItem_booth (i s) : (dropItem i s).booth = s.booth := rfl
@[simp] theorem dropItem_parts (i s) : (dropItem i s).parts = s.parts := rfl
@[simp] theorem dropItem_flows (i s) : (dropItem i s).flows = s.flows := rfl
@[simp] theorem dropItem_items (i s) : (dropItem i s).items = s.items.filter fun j => decide (j.id ≠ i) := rfl
@[simp] theorem dropItem_releaseQ (i s) : (dropItem i s).releaseQ = s.releaseQ := rfl
@[simp] theorem dropItem_jug (i s) : (dropItem i s).jug = s.jug := rfl
@[simp] theorem dropItem_troupes (i s) : (dropItem i s).troupes = s.troupes := rfl
@[simp] theorem dropItem_seats (i s) : (dropItem i s).seats = s.seats := rfl
@[simp] theorem dropItem_performers (i s) : (dropItem i s).performers = s.performers := rfl
@[simp] theorem dropItem_routines (i s) : (dropItem i s).routines = s.routines := rfl
@[simp] theorem dropItem_freeCtr (i s) : (dropItem i s).freeCtr = s.freeCtr := rfl
@[simp] theorem dropItem_writeCtr (i s) : (dropItem i s).writeCtr = s.writeCtr := rfl
@[simp] theorem dropItem_dir (i s) : (dropItem i s).dir = s.dir := rfl
@[simp] theorem dropItem_cage (i s) : (dropItem i s).cage = s.cage := rfl
@[simp] theorem dropItem_vault (i s) : (dropItem i s).vault = s.vault := rfl
@[simp] theorem dropItem_units (i s) : (dropItem i s).units = s.units := rfl
@[simp] theorem dropItem_gates (i s) : (dropItem i s).gates = s.gates := rfl
@[simp] theorem dropItem_fuses (i s) : (dropItem i s).fuses = s.fuses := rfl
@[simp] theorem dropItem_boot (i s) : (dropItem i s).boot = s.boot := rfl
@[simp] theorem dropItem_spdm (i s) : (dropItem i s).spdm = s.spdm := rfl
@[simp] theorem dropItem_uch (i s) : (dropItem i s).uch = s.uch := rfl
@[simp] theorem dropItem_mov (i s) : (dropItem i s).mov = s.mov := rfl
@[simp] theorem dropItem_lcs (i s) : (dropItem i s).lcs = s.lcs := rfl
@[simp] theorem dropItem_dbg (i s) : (dropItem i s).dbg = s.dbg := rfl
@[simp] theorem dropItem_trace (i s) : (dropItem i s).trace = s.trace := rfl
@[simp] theorem dropItem_cal (i s) : (dropItem i s).cal = s.cal := rfl
@[simp] theorem dropItem_canvas (i s) : (dropItem i s).canvas = s.canvas := rfl
@[simp] theorem dropItem_trp (i s) : (dropItem i s).trp = s.trp := rfl
@[simp] theorem dropItem_power (i s) : (dropItem i s).power = s.power := rfl
@[simp] theorem dropItem_rtc (i s) : (dropItem i s).rtc = s.rtc := rfl
@[simp] theorem dropItem_hostMem (i s) : (dropItem i s).hostMem = s.hostMem := rfl
@[simp] theorem dropItem_readData (i s) : (dropItem i s).readData = s.readData := rfl
@[simp] theorem dropItem_out (i s) : (dropItem i s).out = s.out := rfl

/-! ### emit -/

@[simp] theorem emit_pending (e s) : (emit e s).pending = s.pending := rfl
@[simp] theorem emit_part (e s) : (emit e s).part = s.part := rfl
@[simp] theorem emit_time (e s) : (emit e s).time = s.time := rfl
@[simp] theorem emit_dies (e s) : (emit e s).dies = s.dies := rfl
@[simp] theorem emit_funcs (e s) : (emit e s).funcs = s.funcs := rfl
@[simp] theorem emit_vfEnable (e s) : (emit e s).vfEnable = s.vfEnable := rfl
@[simp] theorem emit_pcie (e s) : (emit e s).pcie = s.pcie := rfl
@[simp] theorem emit_queues (e s) : (emit e s).queues = s.queues := rfl
@[simp] theorem emit_booth (e s) : (emit e s).booth = s.booth := rfl
@[simp] theorem emit_parts (e s) : (emit e s).parts = s.parts := rfl
@[simp] theorem emit_flows (e s) : (emit e s).flows = s.flows := rfl
@[simp] theorem emit_items (e s) : (emit e s).items = s.items := rfl
@[simp] theorem emit_releaseQ (e s) : (emit e s).releaseQ = s.releaseQ := rfl
@[simp] theorem emit_jug (e s) : (emit e s).jug = s.jug := rfl
@[simp] theorem emit_troupes (e s) : (emit e s).troupes = s.troupes := rfl
@[simp] theorem emit_seats (e s) : (emit e s).seats = s.seats := rfl
@[simp] theorem emit_performers (e s) : (emit e s).performers = s.performers := rfl
@[simp] theorem emit_routines (e s) : (emit e s).routines = s.routines := rfl
@[simp] theorem emit_freeCtr (e s) : (emit e s).freeCtr = s.freeCtr := rfl
@[simp] theorem emit_writeCtr (e s) : (emit e s).writeCtr = s.writeCtr := rfl
@[simp] theorem emit_dir (e s) : (emit e s).dir = s.dir := rfl
@[simp] theorem emit_cage (e s) : (emit e s).cage = s.cage := rfl
@[simp] theorem emit_vault (e s) : (emit e s).vault = s.vault := rfl
@[simp] theorem emit_units (e s) : (emit e s).units = s.units := rfl
@[simp] theorem emit_gates (e s) : (emit e s).gates = s.gates := rfl
@[simp] theorem emit_fuses (e s) : (emit e s).fuses = s.fuses := rfl
@[simp] theorem emit_boot (e s) : (emit e s).boot = s.boot := rfl
@[simp] theorem emit_spdm (e s) : (emit e s).spdm = s.spdm := rfl
@[simp] theorem emit_uch (e s) : (emit e s).uch = s.uch := rfl
@[simp] theorem emit_mov (e s) : (emit e s).mov = s.mov := rfl
@[simp] theorem emit_lcs (e s) : (emit e s).lcs = s.lcs := rfl
@[simp] theorem emit_dbg (e s) : (emit e s).dbg = s.dbg := rfl
@[simp] theorem emit_trace (e s) : (emit e s).trace = s.trace := rfl
@[simp] theorem emit_cal (e s) : (emit e s).cal = s.cal := rfl
@[simp] theorem emit_canvas (e s) : (emit e s).canvas = s.canvas := rfl
@[simp] theorem emit_trp (e s) : (emit e s).trp = s.trp := rfl
@[simp] theorem emit_power (e s) : (emit e s).power = s.power := rfl
@[simp] theorem emit_rtc (e s) : (emit e s).rtc = s.rtc := rfl
@[simp] theorem emit_hostMem (e s) : (emit e s).hostMem = s.hostMem := rfl
@[simp] theorem emit_readData (e s) : (emit e s).readData = s.readData := rfl
@[simp] theorem emit_out (e s) : (emit e s).out = s.out ++ [e] := rfl

/-! ### calEvent -/

@[simp] theorem calEvent_pending (c p u a s) : (calEvent c p u a s).pending = s.pending := rfl
@[simp] theorem calEvent_part (c p u a s) : (calEvent c p u a s).part = s.part := rfl
@[simp] theorem calEvent_time (c p u a s) : (calEvent c p u a s).time = s.time := rfl
@[simp] theorem calEvent_dies (c p u a s) : (calEvent c p u a s).dies = s.dies := rfl
@[simp] theorem calEvent_funcs (c p u a s) : (calEvent c p u a s).funcs = s.funcs := rfl
@[simp] theorem calEvent_vfEnable (c p u a s) : (calEvent c p u a s).vfEnable = s.vfEnable := rfl
@[simp] theorem calEvent_pcie (c p u a s) : (calEvent c p u a s).pcie = s.pcie := rfl
@[simp] theorem calEvent_queues (c p u a s) : (calEvent c p u a s).queues = s.queues := rfl
@[simp] theorem calEvent_booth (c p u a s) : (calEvent c p u a s).booth = s.booth := rfl
@[simp] theorem calEvent_parts (c p u a s) : (calEvent c p u a s).parts = s.parts := rfl
@[simp] theorem calEvent_flows (c p u a s) : (calEvent c p u a s).flows = s.flows := rfl
@[simp] theorem calEvent_items (c p u a s) : (calEvent c p u a s).items = s.items := rfl
@[simp] theorem calEvent_releaseQ (c p u a s) : (calEvent c p u a s).releaseQ = s.releaseQ := rfl
@[simp] theorem calEvent_jug (c p u a s) : (calEvent c p u a s).jug = s.jug := rfl
@[simp] theorem calEvent_troupes (c p u a s) : (calEvent c p u a s).troupes = s.troupes := rfl
@[simp] theorem calEvent_seats (c p u a s) : (calEvent c p u a s).seats = s.seats := rfl
@[simp] theorem calEvent_performers (c p u a s) : (calEvent c p u a s).performers = s.performers := rfl
@[simp] theorem calEvent_routines (c p u a s) : (calEvent c p u a s).routines = s.routines := rfl
@[simp] theorem calEvent_freeCtr (c p u a s) : (calEvent c p u a s).freeCtr = s.freeCtr := rfl
@[simp] theorem calEvent_writeCtr (c p u a s) : (calEvent c p u a s).writeCtr = s.writeCtr := rfl
@[simp] theorem calEvent_dir (c p u a s) : (calEvent c p u a s).dir = s.dir := rfl
@[simp] theorem calEvent_cage (c p u a s) : (calEvent c p u a s).cage = s.cage := rfl
@[simp] theorem calEvent_vault (c p u a s) : (calEvent c p u a s).vault = s.vault := rfl
@[simp] theorem calEvent_units (c p u a s) : (calEvent c p u a s).units = s.units := rfl
@[simp] theorem calEvent_gates (c p u a s) : (calEvent c p u a s).gates = s.gates := rfl
@[simp] theorem calEvent_fuses (c p u a s) : (calEvent c p u a s).fuses = s.fuses := rfl
@[simp] theorem calEvent_boot (c p u a s) : (calEvent c p u a s).boot = s.boot := rfl
@[simp] theorem calEvent_spdm (c p u a s) : (calEvent c p u a s).spdm = s.spdm := rfl
@[simp] theorem calEvent_uch (c p u a s) : (calEvent c p u a s).uch = s.uch := rfl
@[simp] theorem calEvent_mov (c p u a s) : (calEvent c p u a s).mov = s.mov := rfl
@[simp] theorem calEvent_lcs (c p u a s) : (calEvent c p u a s).lcs = s.lcs := rfl
@[simp] theorem calEvent_dbg (c p u a s) : (calEvent c p u a s).dbg = s.dbg := rfl
@[simp] theorem calEvent_trace (c p u a s) : (calEvent c p u a s).trace = s.trace := rfl
@[simp] theorem calEvent_canvas (c p u a s) : (calEvent c p u a s).canvas = s.canvas := rfl
@[simp] theorem calEvent_trp (c p u a s) : (calEvent c p u a s).trp = s.trp := rfl
@[simp] theorem calEvent_power (c p u a s) : (calEvent c p u a s).power = s.power := rfl
@[simp] theorem calEvent_rtc (c p u a s) : (calEvent c p u a s).rtc = s.rtc := rfl
@[simp] theorem calEvent_hostMem (c p u a s) : (calEvent c p u a s).hostMem = s.hostMem := rfl
@[simp] theorem calEvent_readData (c p u a s) : (calEvent c p u a s).readData = s.readData := rfl
@[simp] theorem calEvent_out (c p u a s) : (calEvent c p u a s).out = s.out := rfl

/-! ### calEventDie -/

@[simp] theorem calEventDie_pending (d c p u a s) : (calEventDie d c p u a s).pending = s.pending := rfl
@[simp] theorem calEventDie_part (d c p u a s) : (calEventDie d c p u a s).part = s.part := rfl
@[simp] theorem calEventDie_time (d c p u a s) : (calEventDie d c p u a s).time = s.time := rfl
@[simp] theorem calEventDie_dies (d c p u a s) : (calEventDie d c p u a s).dies = s.dies := rfl
@[simp] theorem calEventDie_funcs (d c p u a s) : (calEventDie d c p u a s).funcs = s.funcs := rfl
@[simp] theorem calEventDie_vfEnable (d c p u a s) : (calEventDie d c p u a s).vfEnable = s.vfEnable := rfl
@[simp] theorem calEventDie_pcie (d c p u a s) : (calEventDie d c p u a s).pcie = s.pcie := rfl
@[simp] theorem calEventDie_queues (d c p u a s) : (calEventDie d c p u a s).queues = s.queues := rfl
@[simp] theorem calEventDie_booth (d c p u a s) : (calEventDie d c p u a s).booth = s.booth := rfl
@[simp] theorem calEventDie_parts (d c p u a s) : (calEventDie d c p u a s).parts = s.parts := rfl
@[simp] theorem calEventDie_flows (d c p u a s) : (calEventDie d c p u a s).flows = s.flows := rfl
@[simp] theorem calEventDie_items (d c p u a s) : (calEventDie d c p u a s).items = s.items := rfl
@[simp] theorem calEventDie_releaseQ (d c p u a s) : (calEventDie d c p u a s).releaseQ = s.releaseQ := rfl
@[simp] theorem calEventDie_jug (d c p u a s) : (calEventDie d c p u a s).jug = s.jug := rfl
@[simp] theorem calEventDie_troupes (d c p u a s) : (calEventDie d c p u a s).troupes = s.troupes := rfl
@[simp] theorem calEventDie_seats (d c p u a s) : (calEventDie d c p u a s).seats = s.seats := rfl
@[simp] theorem calEventDie_performers (d c p u a s) : (calEventDie d c p u a s).performers = s.performers := rfl
@[simp] theorem calEventDie_routines (d c p u a s) : (calEventDie d c p u a s).routines = s.routines := rfl
@[simp] theorem calEventDie_freeCtr (d c p u a s) : (calEventDie d c p u a s).freeCtr = s.freeCtr := rfl
@[simp] theorem calEventDie_writeCtr (d c p u a s) : (calEventDie d c p u a s).writeCtr = s.writeCtr := rfl
@[simp] theorem calEventDie_dir (d c p u a s) : (calEventDie d c p u a s).dir = s.dir := rfl
@[simp] theorem calEventDie_cage (d c p u a s) : (calEventDie d c p u a s).cage = s.cage := rfl
@[simp] theorem calEventDie_vault (d c p u a s) : (calEventDie d c p u a s).vault = s.vault := rfl
@[simp] theorem calEventDie_units (d c p u a s) : (calEventDie d c p u a s).units = s.units := rfl
@[simp] theorem calEventDie_gates (d c p u a s) : (calEventDie d c p u a s).gates = s.gates := rfl
@[simp] theorem calEventDie_fuses (d c p u a s) : (calEventDie d c p u a s).fuses = s.fuses := rfl
@[simp] theorem calEventDie_boot (d c p u a s) : (calEventDie d c p u a s).boot = s.boot := rfl
@[simp] theorem calEventDie_spdm (d c p u a s) : (calEventDie d c p u a s).spdm = s.spdm := rfl
@[simp] theorem calEventDie_uch (d c p u a s) : (calEventDie d c p u a s).uch = s.uch := rfl
@[simp] theorem calEventDie_mov (d c p u a s) : (calEventDie d c p u a s).mov = s.mov := rfl
@[simp] theorem calEventDie_lcs (d c p u a s) : (calEventDie d c p u a s).lcs = s.lcs := rfl
@[simp] theorem calEventDie_dbg (d c p u a s) : (calEventDie d c p u a s).dbg = s.dbg := rfl
@[simp] theorem calEventDie_trace (d c p u a s) : (calEventDie d c p u a s).trace = s.trace := rfl
@[simp] theorem calEventDie_canvas (d c p u a s) : (calEventDie d c p u a s).canvas = s.canvas := rfl
@[simp] theorem calEventDie_trp (d c p u a s) : (calEventDie d c p u a s).trp = s.trp := rfl
@[simp] theorem calEventDie_power (d c p u a s) : (calEventDie d c p u a s).power = s.power := rfl
@[simp] theorem calEventDie_rtc (d c p u a s) : (calEventDie d c p u a s).rtc = s.rtc := rfl
@[simp] theorem calEventDie_hostMem (d c p u a s) : (calEventDie d c p u a s).hostMem = s.hostMem := rfl
@[simp] theorem calEventDie_readData (d c p u a s) : (calEventDie d c p u a s).readData = s.readData := rfl
@[simp] theorem calEventDie_out (d c p u a s) : (calEventDie d c p u a s).out = s.out := rfl

/-! ### updGate -/

@[simp] theorem updGate_pending (g f s) : (updGate g f s).pending = s.pending := rfl
@[simp] theorem updGate_part (g f s) : (updGate g f s).part = s.part := rfl
@[simp] theorem updGate_time (g f s) : (updGate g f s).time = s.time := rfl
@[simp] theorem updGate_dies (g f s) : (updGate g f s).dies = s.dies := rfl
@[simp] theorem updGate_funcs (g f s) : (updGate g f s).funcs = s.funcs := rfl
@[simp] theorem updGate_vfEnable (g f s) : (updGate g f s).vfEnable = s.vfEnable := rfl
@[simp] theorem updGate_pcie (g f s) : (updGate g f s).pcie = s.pcie := rfl
@[simp] theorem updGate_queues (g f s) : (updGate g f s).queues = s.queues := rfl
@[simp] theorem updGate_booth (g f s) : (updGate g f s).booth = s.booth := rfl
@[simp] theorem updGate_parts (g f s) : (updGate g f s).parts = s.parts := rfl
@[simp] theorem updGate_flows (g f s) : (updGate g f s).flows = s.flows := rfl
@[simp] theorem updGate_items (g f s) : (updGate g f s).items = s.items := rfl
@[simp] theorem updGate_releaseQ (g f s) : (updGate g f s).releaseQ = s.releaseQ := rfl
@[simp] theorem updGate_jug (g f s) : (updGate g f s).jug = s.jug := rfl
@[simp] theorem updGate_troupes (g f s) : (updGate g f s).troupes = s.troupes := rfl
@[simp] theorem updGate_seats (g f s) : (updGate g f s).seats = s.seats := rfl
@[simp] theorem updGate_performers (g f s) : (updGate g f s).performers = s.performers := rfl
@[simp] theorem updGate_routines (g f s) : (updGate g f s).routines = s.routines := rfl
@[simp] theorem updGate_freeCtr (g f s) : (updGate g f s).freeCtr = s.freeCtr := rfl
@[simp] theorem updGate_writeCtr (g f s) : (updGate g f s).writeCtr = s.writeCtr := rfl
@[simp] theorem updGate_dir (g f s) : (updGate g f s).dir = s.dir := rfl
@[simp] theorem updGate_cage (g f s) : (updGate g f s).cage = s.cage := rfl
@[simp] theorem updGate_vault (g f s) : (updGate g f s).vault = s.vault := rfl
@[simp] theorem updGate_units (g f s) : (updGate g f s).units = s.units := rfl
@[simp] theorem updGate_gates (g f s) : (updGate g f s).gates = Tab.upd dGate s.gates g f := rfl
@[simp] theorem updGate_fuses (g f s) : (updGate g f s).fuses = s.fuses := rfl
@[simp] theorem updGate_boot (g f s) : (updGate g f s).boot = s.boot := rfl
@[simp] theorem updGate_spdm (g f s) : (updGate g f s).spdm = s.spdm := rfl
@[simp] theorem updGate_uch (g f s) : (updGate g f s).uch = s.uch := rfl
@[simp] theorem updGate_mov (g f s) : (updGate g f s).mov = s.mov := rfl
@[simp] theorem updGate_lcs (g f s) : (updGate g f s).lcs = s.lcs := rfl
@[simp] theorem updGate_dbg (g f s) : (updGate g f s).dbg = s.dbg := rfl
@[simp] theorem updGate_trace (g f s) : (updGate g f s).trace = s.trace := rfl
@[simp] theorem updGate_cal (g f s) : (updGate g f s).cal = s.cal := rfl
@[simp] theorem updGate_canvas (g f s) : (updGate g f s).canvas = s.canvas := rfl
@[simp] theorem updGate_trp (g f s) : (updGate g f s).trp = s.trp := rfl
@[simp] theorem updGate_power (g f s) : (updGate g f s).power = s.power := rfl
@[simp] theorem updGate_rtc (g f s) : (updGate g f s).rtc = s.rtc := rfl
@[simp] theorem updGate_hostMem (g f s) : (updGate g f s).hostMem = s.hostMem := rfl
@[simp] theorem updGate_readData (g f s) : (updGate g f s).readData = s.readData := rfl
@[simp] theorem updGate_out (g f s) : (updGate g f s).out = s.out := rfl

/-! ### updEntry -/

@[simp] theorem updEntry_pending (g e f s) : (updEntry g e f s).pending = s.pending := rfl
@[simp] theorem updEntry_part (g e f s) : (updEntry g e f s).part = s.part := rfl
@[simp] theorem updEntry_time (g e f s) : (updEntry g e f s).time = s.time := rfl
@[simp] theorem updEntry_dies (g e f s) : (updEntry g e f s).dies = s.dies := rfl
@[simp] theorem updEntry_funcs (g e f s) : (updEntry g e f s).funcs = s.funcs := rfl
@[simp] theorem updEntry_vfEnable (g e f s) : (updEntry g e f s).vfEnable = s.vfEnable := rfl
@[simp] theorem updEntry_pcie (g e f s) : (updEntry g e f s).pcie = s.pcie := rfl
@[simp] theorem updEntry_queues (g e f s) : (updEntry g e f s).queues = s.queues := rfl
@[simp] theorem updEntry_booth (g e f s) : (updEntry g e f s).booth = s.booth := rfl
@[simp] theorem updEntry_parts (g e f s) : (updEntry g e f s).parts = s.parts := rfl
@[simp] theorem updEntry_flows (g e f s) : (updEntry g e f s).flows = s.flows := rfl
@[simp] theorem updEntry_items (g e f s) : (updEntry g e f s).items = s.items := rfl
@[simp] theorem updEntry_releaseQ (g e f s) : (updEntry g e f s).releaseQ = s.releaseQ := rfl
@[simp] theorem updEntry_jug (g e f s) : (updEntry g e f s).jug = s.jug := rfl
@[simp] theorem updEntry_troupes (g e f s) : (updEntry g e f s).troupes = s.troupes := rfl
@[simp] theorem updEntry_seats (g e f s) : (updEntry g e f s).seats = s.seats := rfl
@[simp] theorem updEntry_performers (g e f s) : (updEntry g e f s).performers = s.performers := rfl
@[simp] theorem updEntry_routines (g e f s) : (updEntry g e f s).routines = s.routines := rfl
@[simp] theorem updEntry_freeCtr (g e f s) : (updEntry g e f s).freeCtr = s.freeCtr := rfl
@[simp] theorem updEntry_writeCtr (g e f s) : (updEntry g e f s).writeCtr = s.writeCtr := rfl
@[simp] theorem updEntry_dir (g e f s) : (updEntry g e f s).dir = s.dir := rfl
@[simp] theorem updEntry_cage (g e f s) : (updEntry g e f s).cage = s.cage := rfl
@[simp] theorem updEntry_vault (g e f s) : (updEntry g e f s).vault = s.vault := rfl
@[simp] theorem updEntry_units (g e f s) : (updEntry g e f s).units = s.units := rfl
@[simp] theorem updEntry_fuses (g e f s) : (updEntry g e f s).fuses = s.fuses := rfl
@[simp] theorem updEntry_boot (g e f s) : (updEntry g e f s).boot = s.boot := rfl
@[simp] theorem updEntry_spdm (g e f s) : (updEntry g e f s).spdm = s.spdm := rfl
@[simp] theorem updEntry_uch (g e f s) : (updEntry g e f s).uch = s.uch := rfl
@[simp] theorem updEntry_mov (g e f s) : (updEntry g e f s).mov = s.mov := rfl
@[simp] theorem updEntry_lcs (g e f s) : (updEntry g e f s).lcs = s.lcs := rfl
@[simp] theorem updEntry_dbg (g e f s) : (updEntry g e f s).dbg = s.dbg := rfl
@[simp] theorem updEntry_trace (g e f s) : (updEntry g e f s).trace = s.trace := rfl
@[simp] theorem updEntry_cal (g e f s) : (updEntry g e f s).cal = s.cal := rfl
@[simp] theorem updEntry_canvas (g e f s) : (updEntry g e f s).canvas = s.canvas := rfl
@[simp] theorem updEntry_trp (g e f s) : (updEntry g e f s).trp = s.trp := rfl
@[simp] theorem updEntry_power (g e f s) : (updEntry g e f s).power = s.power := rfl
@[simp] theorem updEntry_rtc (g e f s) : (updEntry g e f s).rtc = s.rtc := rfl
@[simp] theorem updEntry_hostMem (g e f s) : (updEntry g e f s).hostMem = s.hostMem := rfl
@[simp] theorem updEntry_readData (g e f s) : (updEntry g e f s).readData = s.readData := rfl
@[simp] theorem updEntry_out (g e f s) : (updEntry g e f s).out = s.out := rfl

/-! ### updRPart -/

@[simp] theorem updRPart_pending (p f s) : (updRPart p f s).pending = s.pending := rfl
@[simp] theorem updRPart_part (p f s) : (updRPart p f s).part = s.part := rfl
@[simp] theorem updRPart_time (p f s) : (updRPart p f s).time = s.time := rfl
@[simp] theorem updRPart_dies (p f s) : (updRPart p f s).dies = s.dies := rfl
@[simp] theorem updRPart_funcs (p f s) : (updRPart p f s).funcs = s.funcs := rfl
@[simp] theorem updRPart_vfEnable (p f s) : (updRPart p f s).vfEnable = s.vfEnable := rfl
@[simp] theorem updRPart_pcie (p f s) : (updRPart p f s).pcie = s.pcie := rfl
@[simp] theorem updRPart_queues (p f s) : (updRPart p f s).queues = s.queues := rfl
@[simp] theorem updRPart_booth (p f s) : (updRPart p f s).booth = s.booth := rfl
@[simp] theorem updRPart_parts (p f s) : (updRPart p f s).parts = s.parts := rfl
@[simp] theorem updRPart_flows (p f s) : (updRPart p f s).flows = s.flows := rfl
@[simp] theorem updRPart_items (p f s) : (updRPart p f s).items = s.items := rfl
@[simp] theorem updRPart_releaseQ (p f s) : (updRPart p f s).releaseQ = s.releaseQ := rfl
@[simp] theorem updRPart_jug (p f s) : (updRPart p f s).jug = s.jug := rfl
@[simp] theorem updRPart_troupes (p f s) : (updRPart p f s).troupes = s.troupes := rfl
@[simp] theorem updRPart_seats (p f s) : (updRPart p f s).seats = s.seats := rfl
@[simp] theorem updRPart_performers (p f s) : (updRPart p f s).performers = s.performers := rfl
@[simp] theorem updRPart_routines (p f s) : (updRPart p f s).routines = { s.routines with parts := Tab.upd dRPart s.routines.parts p f } := rfl
@[simp] theorem updRPart_freeCtr (p f s) : (updRPart p f s).freeCtr = s.freeCtr := rfl
@[simp] theorem updRPart_writeCtr (p f s) : (updRPart p f s).writeCtr = s.writeCtr := rfl
@[simp] theorem updRPart_dir (p f s) : (updRPart p f s).dir = s.dir := rfl
@[simp] theorem updRPart_cage (p f s) : (updRPart p f s).cage = s.cage := rfl
@[simp] theorem updRPart_vault (p f s) : (updRPart p f s).vault = s.vault := rfl
@[simp] theorem updRPart_units (p f s) : (updRPart p f s).units = s.units := rfl
@[simp] theorem updRPart_gates (p f s) : (updRPart p f s).gates = s.gates := rfl
@[simp] theorem updRPart_fuses (p f s) : (updRPart p f s).fuses = s.fuses := rfl
@[simp] theorem updRPart_boot (p f s) : (updRPart p f s).boot = s.boot := rfl
@[simp] theorem updRPart_spdm (p f s) : (updRPart p f s).spdm = s.spdm := rfl
@[simp] theorem updRPart_uch (p f s) : (updRPart p f s).uch = s.uch := rfl
@[simp] theorem updRPart_mov (p f s) : (updRPart p f s).mov = s.mov := rfl
@[simp] theorem updRPart_lcs (p f s) : (updRPart p f s).lcs = s.lcs := rfl
@[simp] theorem updRPart_dbg (p f s) : (updRPart p f s).dbg = s.dbg := rfl
@[simp] theorem updRPart_trace (p f s) : (updRPart p f s).trace = s.trace := rfl
@[simp] theorem updRPart_cal (p f s) : (updRPart p f s).cal = s.cal := rfl
@[simp] theorem updRPart_canvas (p f s) : (updRPart p f s).canvas = s.canvas := rfl
@[simp] theorem updRPart_trp (p f s) : (updRPart p f s).trp = s.trp := rfl
@[simp] theorem updRPart_power (p f s) : (updRPart p f s).power = s.power := rfl
@[simp] theorem updRPart_rtc (p f s) : (updRPart p f s).rtc = s.rtc := rfl
@[simp] theorem updRPart_hostMem (p f s) : (updRPart p f s).hostMem = s.hostMem := rfl
@[simp] theorem updRPart_readData (p f s) : (updRPart p f s).readData = s.readData := rfl
@[simp] theorem updRPart_out (p f s) : (updRPart p f s).out = s.out := rfl

/-! ### updPerf -/

@[simp] theorem updPerf_pending (n f s) : (updPerf n f s).pending = s.pending := rfl
@[simp] theorem updPerf_part (n f s) : (updPerf n f s).part = s.part := rfl
@[simp] theorem updPerf_time (n f s) : (updPerf n f s).time = s.time := rfl
@[simp] theorem updPerf_dies (n f s) : (updPerf n f s).dies = s.dies := rfl
@[simp] theorem updPerf_funcs (n f s) : (updPerf n f s).funcs = s.funcs := rfl
@[simp] theorem updPerf_vfEnable (n f s) : (updPerf n f s).vfEnable = s.vfEnable := rfl
@[simp] theorem updPerf_pcie (n f s) : (updPerf n f s).pcie = s.pcie := rfl
@[simp] theorem updPerf_queues (n f s) : (updPerf n f s).queues = s.queues := rfl
@[simp] theorem updPerf_booth (n f s) : (updPerf n f s).booth = s.booth := rfl
@[simp] theorem updPerf_parts (n f s) : (updPerf n f s).parts = s.parts := rfl
@[simp] theorem updPerf_flows (n f s) : (updPerf n f s).flows = s.flows := rfl
@[simp] theorem updPerf_items (n f s) : (updPerf n f s).items = s.items := rfl
@[simp] theorem updPerf_releaseQ (n f s) : (updPerf n f s).releaseQ = s.releaseQ := rfl
@[simp] theorem updPerf_jug (n f s) : (updPerf n f s).jug = s.jug := rfl
@[simp] theorem updPerf_troupes (n f s) : (updPerf n f s).troupes = s.troupes := rfl
@[simp] theorem updPerf_seats (n f s) : (updPerf n f s).seats = s.seats := rfl
@[simp] theorem updPerf_performers (n f s) : (updPerf n f s).performers = Tab.upd dPerf s.performers n f := rfl
@[simp] theorem updPerf_routines (n f s) : (updPerf n f s).routines = s.routines := rfl
@[simp] theorem updPerf_freeCtr (n f s) : (updPerf n f s).freeCtr = s.freeCtr := rfl
@[simp] theorem updPerf_writeCtr (n f s) : (updPerf n f s).writeCtr = s.writeCtr := rfl
@[simp] theorem updPerf_dir (n f s) : (updPerf n f s).dir = s.dir := rfl
@[simp] theorem updPerf_cage (n f s) : (updPerf n f s).cage = s.cage := rfl
@[simp] theorem updPerf_vault (n f s) : (updPerf n f s).vault = s.vault := rfl
@[simp] theorem updPerf_units (n f s) : (updPerf n f s).units = s.units := rfl
@[simp] theorem updPerf_gates (n f s) : (updPerf n f s).gates = s.gates := rfl
@[simp] theorem updPerf_fuses (n f s) : (updPerf n f s).fuses = s.fuses := rfl
@[simp] theorem updPerf_boot (n f s) : (updPerf n f s).boot = s.boot := rfl
@[simp] theorem updPerf_spdm (n f s) : (updPerf n f s).spdm = s.spdm := rfl
@[simp] theorem updPerf_uch (n f s) : (updPerf n f s).uch = s.uch := rfl
@[simp] theorem updPerf_mov (n f s) : (updPerf n f s).mov = s.mov := rfl
@[simp] theorem updPerf_lcs (n f s) : (updPerf n f s).lcs = s.lcs := rfl
@[simp] theorem updPerf_dbg (n f s) : (updPerf n f s).dbg = s.dbg := rfl
@[simp] theorem updPerf_trace (n f s) : (updPerf n f s).trace = s.trace := rfl
@[simp] theorem updPerf_cal (n f s) : (updPerf n f s).cal = s.cal := rfl
@[simp] theorem updPerf_canvas (n f s) : (updPerf n f s).canvas = s.canvas := rfl
@[simp] theorem updPerf_trp (n f s) : (updPerf n f s).trp = s.trp := rfl
@[simp] theorem updPerf_power (n f s) : (updPerf n f s).power = s.power := rfl
@[simp] theorem updPerf_rtc (n f s) : (updPerf n f s).rtc = s.rtc := rfl
@[simp] theorem updPerf_hostMem (n f s) : (updPerf n f s).hostMem = s.hostMem := rfl
@[simp] theorem updPerf_readData (n f s) : (updPerf n f s).readData = s.readData := rfl
@[simp] theorem updPerf_out (n f s) : (updPerf n f s).out = s.out := rfl

/-! ### setRun -/

@[simp] theorem setRun_pending (k x s) : (setRun k x s).pending = s.pending := rfl
@[simp] theorem setRun_part (k x s) : (setRun k x s).part = s.part := rfl
@[simp] theorem setRun_time (k x s) : (setRun k x s).time = s.time := rfl
@[simp] theorem setRun_dies (k x s) : (setRun k x s).dies = s.dies := rfl
@[simp] theorem setRun_funcs (k x s) : (setRun k x s).funcs = s.funcs := rfl
@[simp] theorem setRun_vfEnable (k x s) : (setRun k x s).vfEnable = s.vfEnable := rfl
@[simp] theorem setRun_pcie (k x s) : (setRun k x s).pcie = s.pcie := rfl
@[simp] theorem setRun_queues (k x s) : (setRun k x s).queues = s.queues := rfl
@[simp] theorem setRun_booth (k x s) : (setRun k x s).booth = s.booth := rfl
@[simp] theorem setRun_parts (k x s) : (setRun k x s).parts = s.parts := rfl
@[simp] theorem setRun_flows (k x s) : (setRun k x s).flows = s.flows := rfl
@[simp] theorem setRun_items (k x s) : (setRun k x s).items = s.items := rfl
@[simp] theorem setRun_releaseQ (k x s) : (setRun k x s).releaseQ = s.releaseQ := rfl
@[simp] theorem setRun_jug (k x s) : (setRun k x s).jug = s.jug := rfl
@[simp] theorem setRun_troupes (k x s) : (setRun k x s).troupes = s.troupes := rfl
@[simp] theorem setRun_seats (k x s) : (setRun k x s).seats = Tab.upd dSeat s.seats k fun y => { y with x := x } := rfl
@[simp] theorem setRun_performers (k x s) : (setRun k x s).performers = s.performers := rfl
@[simp] theorem setRun_routines (k x s) : (setRun k x s).routines = s.routines := rfl
@[simp] theorem setRun_freeCtr (k x s) : (setRun k x s).freeCtr = s.freeCtr := rfl
@[simp] theorem setRun_writeCtr (k x s) : (setRun k x s).writeCtr = s.writeCtr := rfl
@[simp] theorem setRun_dir (k x s) : (setRun k x s).dir = s.dir := rfl
@[simp] theorem setRun_cage (k x s) : (setRun k x s).cage = s.cage := rfl
@[simp] theorem setRun_vault (k x s) : (setRun k x s).vault = s.vault := rfl
@[simp] theorem setRun_units (k x s) : (setRun k x s).units = s.units := rfl
@[simp] theorem setRun_gates (k x s) : (setRun k x s).gates = s.gates := rfl
@[simp] theorem setRun_fuses (k x s) : (setRun k x s).fuses = s.fuses := rfl
@[simp] theorem setRun_boot (k x s) : (setRun k x s).boot = s.boot := rfl
@[simp] theorem setRun_spdm (k x s) : (setRun k x s).spdm = s.spdm := rfl
@[simp] theorem setRun_uch (k x s) : (setRun k x s).uch = s.uch := rfl
@[simp] theorem setRun_mov (k x s) : (setRun k x s).mov = s.mov := rfl
@[simp] theorem setRun_lcs (k x s) : (setRun k x s).lcs = s.lcs := rfl
@[simp] theorem setRun_dbg (k x s) : (setRun k x s).dbg = s.dbg := rfl
@[simp] theorem setRun_trace (k x s) : (setRun k x s).trace = s.trace := rfl
@[simp] theorem setRun_cal (k x s) : (setRun k x s).cal = s.cal := rfl
@[simp] theorem setRun_canvas (k x s) : (setRun k x s).canvas = s.canvas := rfl
@[simp] theorem setRun_trp (k x s) : (setRun k x s).trp = s.trp := rfl
@[simp] theorem setRun_power (k x s) : (setRun k x s).power = s.power := rfl
@[simp] theorem setRun_rtc (k x s) : (setRun k x s).rtc = s.rtc := rfl
@[simp] theorem setRun_hostMem (k x s) : (setRun k x s).hostMem = s.hostMem := rfl
@[simp] theorem setRun_readData (k x s) : (setRun k x s).readData = s.readData := rfl
@[simp] theorem setRun_out (k x s) : (setRun k x s).out = s.out := rfl

/-! ### updKc -/

@[simp] theorem updKc_pending (d f s) : (updKc d f s).pending = s.pending := rfl
@[simp] theorem updKc_part (d f s) : (updKc d f s).part = s.part := rfl
@[simp] theorem updKc_time (d f s) : (updKc d f s).time = s.time := rfl
@[simp] theorem updKc_dies (d f s) : (updKc d f s).dies = Tab.upd dDie s.dies d fun y => { y with kc := f y.kc } := rfl
@[simp] theorem updKc_funcs (d f s) : (updKc d f s).funcs = s.funcs := rfl
@[simp] theorem updKc_vfEnable (d f s) : (updKc d f s).vfEnable = s.vfEnable := rfl
@[simp] theorem updKc_pcie (d f s) : (updKc d f s).pcie = s.pcie := rfl
@[simp] theorem updKc_queues (d f s) : (updKc d f s).queues = s.queues := rfl
@[simp] theorem updKc_booth (d f s) : (updKc d f s).booth = s.booth := rfl
@[simp] theorem updKc_parts (d f s) : (updKc d f s).parts = s.parts := rfl
@[simp] theorem updKc_flows (d f s) : (updKc d f s).flows = s.flows := rfl
@[simp] theorem updKc_items (d f s) : (updKc d f s).items = s.items := rfl
@[simp] theorem updKc_releaseQ (d f s) : (updKc d f s).releaseQ = s.releaseQ := rfl
@[simp] theorem updKc_jug (d f s) : (updKc d f s).jug = s.jug := rfl
@[simp] theorem updKc_troupes (d f s) : (updKc d f s).troupes = s.troupes := rfl
@[simp] theorem updKc_seats (d f s) : (updKc d f s).seats = s.seats := rfl
@[simp] theorem updKc_performers (d f s) : (updKc d f s).performers = s.performers := rfl
@[simp] theorem updKc_routines (d f s) : (updKc d f s).routines = s.routines := rfl
@[simp] theorem updKc_freeCtr (d f s) : (updKc d f s).freeCtr = s.freeCtr := rfl
@[simp] theorem updKc_writeCtr (d f s) : (updKc d f s).writeCtr = s.writeCtr := rfl
@[simp] theorem updKc_dir (d f s) : (updKc d f s).dir = s.dir := rfl
@[simp] theorem updKc_cage (d f s) : (updKc d f s).cage = s.cage := rfl
@[simp] theorem updKc_vault (d f s) : (updKc d f s).vault = s.vault := rfl
@[simp] theorem updKc_units (d f s) : (updKc d f s).units = s.units := rfl
@[simp] theorem updKc_gates (d f s) : (updKc d f s).gates = s.gates := rfl
@[simp] theorem updKc_fuses (d f s) : (updKc d f s).fuses = s.fuses := rfl
@[simp] theorem updKc_boot (d f s) : (updKc d f s).boot = s.boot := rfl
@[simp] theorem updKc_spdm (d f s) : (updKc d f s).spdm = s.spdm := rfl
@[simp] theorem updKc_uch (d f s) : (updKc d f s).uch = s.uch := rfl
@[simp] theorem updKc_mov (d f s) : (updKc d f s).mov = s.mov := rfl
@[simp] theorem updKc_lcs (d f s) : (updKc d f s).lcs = s.lcs := rfl
@[simp] theorem updKc_dbg (d f s) : (updKc d f s).dbg = s.dbg := rfl
@[simp] theorem updKc_trace (d f s) : (updKc d f s).trace = s.trace := rfl
@[simp] theorem updKc_cal (d f s) : (updKc d f s).cal = s.cal := rfl
@[simp] theorem updKc_canvas (d f s) : (updKc d f s).canvas = s.canvas := rfl
@[simp] theorem updKc_trp (d f s) : (updKc d f s).trp = s.trp := rfl
@[simp] theorem updKc_power (d f s) : (updKc d f s).power = s.power := rfl
@[simp] theorem updKc_rtc (d f s) : (updKc d f s).rtc = s.rtc := rfl
@[simp] theorem updKc_hostMem (d f s) : (updKc d f s).hostMem = s.hostMem := rfl
@[simp] theorem updKc_readData (d f s) : (updKc d f s).readData = s.readData := rfl
@[simp] theorem updKc_out (d f s) : (updKc d f s).out = s.out := rfl

/-! ### setSlot -/

@[simp] theorem setSlot_pending (p n r s) : (setSlot p n r s).pending = s.pending := rfl
@[simp] theorem setSlot_part (p n r s) : (setSlot p n r s).part = s.part := rfl
@[simp] theorem setSlot_time (p n r s) : (setSlot p n r s).time = s.time := rfl
@[simp] theorem setSlot_dies (p n r s) : (setSlot p n r s).dies = s.dies := rfl
@[simp] theorem setSlot_funcs (p n r s) : (setSlot p n r s).funcs = s.funcs := rfl
@[simp] theorem setSlot_vfEnable (p n r s) : (setSlot p n r s).vfEnable = s.vfEnable := rfl
@[simp] theorem setSlot_pcie (p n r s) : (setSlot p n r s).pcie = s.pcie := rfl
@[simp] theorem setSlot_queues (p n r s) : (setSlot p n r s).queues = s.queues := rfl
@[simp] theorem setSlot_booth (p n r s) : (setSlot p n r s).booth = s.booth := rfl
@[simp] theorem setSlot_parts (p n r s) : (setSlot p n r s).parts = s.parts := rfl
@[simp] theorem setSlot_flows (p n r s) : (setSlot p n r s).flows = s.flows := rfl
@[simp] theorem setSlot_items (p n r s) : (setSlot p n r s).items = s.items := rfl
@[simp] theorem setSlot_releaseQ (p n r s) : (setSlot p n r s).releaseQ = s.releaseQ := rfl
@[simp] theorem setSlot_jug (p n r s) : (setSlot p n r s).jug = s.jug := rfl
@[simp] theorem setSlot_troupes (p n r s) : (setSlot p n r s).troupes = s.troupes := rfl
@[simp] theorem setSlot_seats (p n r s) : (setSlot p n r s).seats = s.seats := rfl
@[simp] theorem setSlot_performers (p n r s) : (setSlot p n r s).performers = s.performers := rfl
@[simp] theorem setSlot_routines (p n r s) : (setSlot p n r s).routines = s.routines := rfl
@[simp] theorem setSlot_freeCtr (p n r s) : (setSlot p n r s).freeCtr = s.freeCtr := rfl
@[simp] theorem setSlot_writeCtr (p n r s) : (setSlot p n r s).writeCtr = s.writeCtr := rfl
@[simp] theorem setSlot_dir (p n r s) : (setSlot p n r s).dir = s.dir := rfl
@[simp] theorem setSlot_vault (p n r s) : (setSlot p n r s).vault = s.vault := rfl
@[simp] theorem setSlot_units (p n r s) : (setSlot p n r s).units = s.units := rfl
@[simp] theorem setSlot_gates (p n r s) : (setSlot p n r s).gates = s.gates := rfl
@[simp] theorem setSlot_fuses (p n r s) : (setSlot p n r s).fuses = s.fuses := rfl
@[simp] theorem setSlot_boot (p n r s) : (setSlot p n r s).boot = s.boot := rfl
@[simp] theorem setSlot_spdm (p n r s) : (setSlot p n r s).spdm = s.spdm := rfl
@[simp] theorem setSlot_uch (p n r s) : (setSlot p n r s).uch = s.uch := rfl
@[simp] theorem setSlot_mov (p n r s) : (setSlot p n r s).mov = s.mov := rfl
@[simp] theorem setSlot_lcs (p n r s) : (setSlot p n r s).lcs = s.lcs := rfl
@[simp] theorem setSlot_dbg (p n r s) : (setSlot p n r s).dbg = s.dbg := rfl
@[simp] theorem setSlot_trace (p n r s) : (setSlot p n r s).trace = s.trace := rfl
@[simp] theorem setSlot_cal (p n r s) : (setSlot p n r s).cal = s.cal := rfl
@[simp] theorem setSlot_canvas (p n r s) : (setSlot p n r s).canvas = s.canvas := rfl
@[simp] theorem setSlot_trp (p n r s) : (setSlot p n r s).trp = s.trp := rfl
@[simp] theorem setSlot_power (p n r s) : (setSlot p n r s).power = s.power := rfl
@[simp] theorem setSlot_rtc (p n r s) : (setSlot p n r s).rtc = s.rtc := rfl
@[simp] theorem setSlot_hostMem (p n r s) : (setSlot p n r s).hostMem = s.hostMem := rfl
@[simp] theorem setSlot_readData (p n r s) : (setSlot p n r s).readData = s.readData := rfl
@[simp] theorem setSlot_out (p n r s) : (setSlot p n r s).out = s.out := rfl

/-! ### setMan -/

@[simp] theorem setMan_pending (p r s) : (setMan p r s).pending = s.pending := rfl
@[simp] theorem setMan_part (p r s) : (setMan p r s).part = s.part := rfl
@[simp] theorem setMan_time (p r s) : (setMan p r s).time = s.time := rfl
@[simp] theorem setMan_dies (p r s) : (setMan p r s).dies = s.dies := rfl
@[simp] theorem setMan_funcs (p r s) : (setMan p r s).funcs = s.funcs := rfl
@[simp] theorem setMan_vfEnable (p r s) : (setMan p r s).vfEnable = s.vfEnable := rfl
@[simp] theorem setMan_pcie (p r s) : (setMan p r s).pcie = s.pcie := rfl
@[simp] theorem setMan_queues (p r s) : (setMan p r s).queues = s.queues := rfl
@[simp] theorem setMan_booth (p r s) : (setMan p r s).booth = s.booth := rfl
@[simp] theorem setMan_parts (p r s) : (setMan p r s).parts = s.parts := rfl
@[simp] theorem setMan_flows (p r s) : (setMan p r s).flows = s.flows := rfl
@[simp] theorem setMan_items (p r s) : (setMan p r s).items = s.items := rfl
@[simp] theorem setMan_releaseQ (p r s) : (setMan p r s).releaseQ = s.releaseQ := rfl
@[simp] theorem setMan_jug (p r s) : (setMan p r s).jug = s.jug := rfl
@[simp] theorem setMan_troupes (p r s) : (setMan p r s).troupes = s.troupes := rfl
@[simp] theorem setMan_seats (p r s) : (setMan p r s).seats = s.seats := rfl
@[simp] theorem setMan_performers (p r s) : (setMan p r s).performers = s.performers := rfl
@[simp] theorem setMan_routines (p r s) : (setMan p r s).routines = s.routines := rfl
@[simp] theorem setMan_freeCtr (p r s) : (setMan p r s).freeCtr = s.freeCtr := rfl
@[simp] theorem setMan_writeCtr (p r s) : (setMan p r s).writeCtr = s.writeCtr := rfl
@[simp] theorem setMan_dir (p r s) : (setMan p r s).dir = s.dir := rfl
@[simp] theorem setMan_cage (p r s) : (setMan p r s).cage = { s.cage with mans := Tab.set dRec s.cage.mans p r.plain } := rfl
@[simp] theorem setMan_vault (p r s) : (setMan p r s).vault = s.vault := rfl
@[simp] theorem setMan_units (p r s) : (setMan p r s).units = s.units := rfl
@[simp] theorem setMan_gates (p r s) : (setMan p r s).gates = s.gates := rfl
@[simp] theorem setMan_fuses (p r s) : (setMan p r s).fuses = s.fuses := rfl
@[simp] theorem setMan_boot (p r s) : (setMan p r s).boot = s.boot := rfl
@[simp] theorem setMan_spdm (p r s) : (setMan p r s).spdm = s.spdm := rfl
@[simp] theorem setMan_uch (p r s) : (setMan p r s).uch = s.uch := rfl
@[simp] theorem setMan_mov (p r s) : (setMan p r s).mov = s.mov := rfl
@[simp] theorem setMan_lcs (p r s) : (setMan p r s).lcs = s.lcs := rfl
@[simp] theorem setMan_dbg (p r s) : (setMan p r s).dbg = s.dbg := rfl
@[simp] theorem setMan_trace (p r s) : (setMan p r s).trace = s.trace := rfl
@[simp] theorem setMan_cal (p r s) : (setMan p r s).cal = s.cal := rfl
@[simp] theorem setMan_canvas (p r s) : (setMan p r s).canvas = s.canvas := rfl
@[simp] theorem setMan_trp (p r s) : (setMan p r s).trp = s.trp := rfl
@[simp] theorem setMan_power (p r s) : (setMan p r s).power = s.power := rfl
@[simp] theorem setMan_rtc (p r s) : (setMan p r s).rtc = s.rtc := rfl
@[simp] theorem setMan_hostMem (p r s) : (setMan p r s).hostMem = s.hostMem := rfl
@[simp] theorem setMan_readData (p r s) : (setMan p r s).readData = s.readData := rfl
@[simp] theorem setMan_out (p r s) : (setMan p r s).out = s.out := rfl

/-! ### setReg -/

@[simp] theorem setReg_pending (p r s) : (setReg p r s).pending = s.pending := rfl
@[simp] theorem setReg_part (p r s) : (setReg p r s).part = s.part := rfl
@[simp] theorem setReg_time (p r s) : (setReg p r s).time = s.time := rfl
@[simp] theorem setReg_dies (p r s) : (setReg p r s).dies = s.dies := rfl
@[simp] theorem setReg_funcs (p r s) : (setReg p r s).funcs = s.funcs := rfl
@[simp] theorem setReg_vfEnable (p r s) : (setReg p r s).vfEnable = s.vfEnable := rfl
@[simp] theorem setReg_pcie (p r s) : (setReg p r s).pcie = s.pcie := rfl
@[simp] theorem setReg_queues (p r s) : (setReg p r s).queues = s.queues := rfl
@[simp] theorem setReg_booth (p r s) : (setReg p r s).booth = s.booth := rfl
@[simp] theorem setReg_parts (p r s) : (setReg p r s).parts = s.parts := rfl
@[simp] theorem setReg_flows (p r s) : (setReg p r s).flows = s.flows := rfl
@[simp] theorem setReg_items (p r s) : (setReg p r s).items = s.items := rfl
@[simp] theorem setReg_releaseQ (p r s) : (setReg p r s).releaseQ = s.releaseQ := rfl
@[simp] theorem setReg_jug (p r s) : (setReg p r s).jug = s.jug := rfl
@[simp] theorem setReg_troupes (p r s) : (setReg p r s).troupes = s.troupes := rfl
@[simp] theorem setReg_seats (p r s) : (setReg p r s).seats = s.seats := rfl
@[simp] theorem setReg_performers (p r s) : (setReg p r s).performers = s.performers := rfl
@[simp] theorem setReg_routines (p r s) : (setReg p r s).routines = s.routines := rfl
@[simp] theorem setReg_freeCtr (p r s) : (setReg p r s).freeCtr = s.freeCtr := rfl
@[simp] theorem setReg_writeCtr (p r s) : (setReg p r s).writeCtr = s.writeCtr := rfl
@[simp] theorem setReg_dir (p r s) : (setReg p r s).dir = s.dir := rfl
@[simp] theorem setReg_cage (p r s) : (setReg p r s).cage = { s.cage with regs := Tab.set dRec s.cage.regs p r.plain } := rfl
@[simp] theorem setReg_vault (p r s) : (setReg p r s).vault = s.vault := rfl
@[simp] theorem setReg_units (p r s) : (setReg p r s).units = s.units := rfl
@[simp] theorem setReg_gates (p r s) : (setReg p r s).gates = s.gates := rfl
@[simp] theorem setReg_fuses (p r s) : (setReg p r s).fuses = s.fuses := rfl
@[simp] theorem setReg_boot (p r s) : (setReg p r s).boot = s.boot := rfl
@[simp] theorem setReg_spdm (p r s) : (setReg p r s).spdm = s.spdm := rfl
@[simp] theorem setReg_uch (p r s) : (setReg p r s).uch = s.uch := rfl
@[simp] theorem setReg_mov (p r s) : (setReg p r s).mov = s.mov := rfl
@[simp] theorem setReg_lcs (p r s) : (setReg p r s).lcs = s.lcs := rfl
@[simp] theorem setReg_dbg (p r s) : (setReg p r s).dbg = s.dbg := rfl
@[simp] theorem setReg_trace (p r s) : (setReg p r s).trace = s.trace := rfl
@[simp] theorem setReg_cal (p r s) : (setReg p r s).cal = s.cal := rfl
@[simp] theorem setReg_canvas (p r s) : (setReg p r s).canvas = s.canvas := rfl
@[simp] theorem setReg_trp (p r s) : (setReg p r s).trp = s.trp := rfl
@[simp] theorem setReg_power (p r s) : (setReg p r s).power = s.power := rfl
@[simp] theorem setReg_rtc (p r s) : (setReg p r s).rtc = s.rtc := rfl
@[simp] theorem setReg_hostMem (p r s) : (setReg p r s).hostMem = s.hostMem := rfl
@[simp] theorem setReg_readData (p r s) : (setReg p r s).readData = s.readData := rfl
@[simp] theorem setReg_out (p r s) : (setReg p r s).out = s.out := rfl

/-! ### updVPart -/

@[simp] theorem updVPart_pending (p f s) : (updVPart p f s).pending = s.pending := rfl
@[simp] theorem updVPart_part (p f s) : (updVPart p f s).part = s.part := rfl
@[simp] theorem updVPart_time (p f s) : (updVPart p f s).time = s.time := rfl
@[simp] theorem updVPart_dies (p f s) : (updVPart p f s).dies = s.dies := rfl
@[simp] theorem updVPart_funcs (p f s) : (updVPart p f s).funcs = s.funcs := rfl
@[simp] theorem updVPart_vfEnable (p f s) : (updVPart p f s).vfEnable = s.vfEnable := rfl
@[simp] theorem updVPart_pcie (p f s) : (updVPart p f s).pcie = s.pcie := rfl
@[simp] theorem updVPart_queues (p f s) : (updVPart p f s).queues = s.queues := rfl
@[simp] theorem updVPart_booth (p f s) : (updVPart p f s).booth = s.booth := rfl
@[simp] theorem updVPart_parts (p f s) : (updVPart p f s).parts = s.parts := rfl
@[simp] theorem updVPart_flows (p f s) : (updVPart p f s).flows = s.flows := rfl
@[simp] theorem updVPart_items (p f s) : (updVPart p f s).items = s.items := rfl
@[simp] theorem updVPart_releaseQ (p f s) : (updVPart p f s).releaseQ = s.releaseQ := rfl
@[simp] theorem updVPart_jug (p f s) : (updVPart p f s).jug = s.jug := rfl
@[simp] theorem updVPart_troupes (p f s) : (updVPart p f s).troupes = s.troupes := rfl
@[simp] theorem updVPart_seats (p f s) : (updVPart p f s).seats = s.seats := rfl
@[simp] theorem updVPart_performers (p f s) : (updVPart p f s).performers = s.performers := rfl
@[simp] theorem updVPart_routines (p f s) : (updVPart p f s).routines = s.routines := rfl
@[simp] theorem updVPart_freeCtr (p f s) : (updVPart p f s).freeCtr = s.freeCtr := rfl
@[simp] theorem updVPart_writeCtr (p f s) : (updVPart p f s).writeCtr = s.writeCtr := rfl
@[simp] theorem updVPart_dir (p f s) : (updVPart p f s).dir = s.dir := rfl
@[simp] theorem updVPart_cage (p f s) : (updVPart p f s).cage = s.cage := rfl
@[simp] theorem updVPart_vault (p f s) : (updVPart p f s).vault = { s.vault with parts := Tab.upd dVault s.vault.parts p f } := rfl
@[simp] theorem updVPart_units (p f s) : (updVPart p f s).units = s.units := rfl
@[simp] theorem updVPart_gates (p f s) : (updVPart p f s).gates = s.gates := rfl
@[simp] theorem updVPart_fuses (p f s) : (updVPart p f s).fuses = s.fuses := rfl
@[simp] theorem updVPart_boot (p f s) : (updVPart p f s).boot = s.boot := rfl
@[simp] theorem updVPart_spdm (p f s) : (updVPart p f s).spdm = s.spdm := rfl
@[simp] theorem updVPart_uch (p f s) : (updVPart p f s).uch = s.uch := rfl
@[simp] theorem updVPart_mov (p f s) : (updVPart p f s).mov = s.mov := rfl
@[simp] theorem updVPart_lcs (p f s) : (updVPart p f s).lcs = s.lcs := rfl
@[simp] theorem updVPart_dbg (p f s) : (updVPart p f s).dbg = s.dbg := rfl
@[simp] theorem updVPart_trace (p f s) : (updVPart p f s).trace = s.trace := rfl
@[simp] theorem updVPart_cal (p f s) : (updVPart p f s).cal = s.cal := rfl
@[simp] theorem updVPart_canvas (p f s) : (updVPart p f s).canvas = s.canvas := rfl
@[simp] theorem updVPart_trp (p f s) : (updVPart p f s).trp = s.trp := rfl
@[simp] theorem updVPart_power (p f s) : (updVPart p f s).power = s.power := rfl
@[simp] theorem updVPart_rtc (p f s) : (updVPart p f s).rtc = s.rtc := rfl
@[simp] theorem updVPart_hostMem (p f s) : (updVPart p f s).hostMem = s.hostMem := rfl
@[simp] theorem updVPart_readData (p f s) : (updVPart p f s).readData = s.readData := rfl
@[simp] theorem updVPart_out (p f s) : (updVPart p f s).out = s.out := rfl

/-! ### updScu -/

@[simp] theorem updScu_pending (d f s) : (updScu d f s).pending = s.pending := rfl
@[simp] theorem updScu_part (d f s) : (updScu d f s).part = s.part := rfl
@[simp] theorem updScu_time (d f s) : (updScu d f s).time = s.time := rfl
@[simp] theorem updScu_dies (d f s) : (updScu d f s).dies = s.dies := rfl
@[simp] theorem updScu_funcs (d f s) : (updScu d f s).funcs = s.funcs := rfl
@[simp] theorem updScu_vfEnable (d f s) : (updScu d f s).vfEnable = s.vfEnable := rfl
@[simp] theorem updScu_pcie (d f s) : (updScu d f s).pcie = s.pcie := rfl
@[simp] theorem updScu_queues (d f s) : (updScu d f s).queues = s.queues := rfl
@[simp] theorem updScu_booth (d f s) : (updScu d f s).booth = s.booth := rfl
@[simp] theorem updScu_parts (d f s) : (updScu d f s).parts = s.parts := rfl
@[simp] theorem updScu_flows (d f s) : (updScu d f s).flows = s.flows := rfl
@[simp] theorem updScu_items (d f s) : (updScu d f s).items = s.items := rfl
@[simp] theorem updScu_releaseQ (d f s) : (updScu d f s).releaseQ = s.releaseQ := rfl
@[simp] theorem updScu_jug (d f s) : (updScu d f s).jug = s.jug := rfl
@[simp] theorem updScu_troupes (d f s) : (updScu d f s).troupes = s.troupes := rfl
@[simp] theorem updScu_seats (d f s) : (updScu d f s).seats = s.seats := rfl
@[simp] theorem updScu_performers (d f s) : (updScu d f s).performers = s.performers := rfl
@[simp] theorem updScu_routines (d f s) : (updScu d f s).routines = s.routines := rfl
@[simp] theorem updScu_freeCtr (d f s) : (updScu d f s).freeCtr = s.freeCtr := rfl
@[simp] theorem updScu_writeCtr (d f s) : (updScu d f s).writeCtr = s.writeCtr := rfl
@[simp] theorem updScu_dir (d f s) : (updScu d f s).dir = s.dir := rfl
@[simp] theorem updScu_cage (d f s) : (updScu d f s).cage = s.cage := rfl
@[simp] theorem updScu_vault (d f s) : (updScu d f s).vault = s.vault := rfl
@[simp] theorem updScu_gates (d f s) : (updScu d f s).gates = s.gates := rfl
@[simp] theorem updScu_fuses (d f s) : (updScu d f s).fuses = s.fuses := rfl
@[simp] theorem updScu_boot (d f s) : (updScu d f s).boot = s.boot := rfl
@[simp] theorem updScu_spdm (d f s) : (updScu d f s).spdm = s.spdm := rfl
@[simp] theorem updScu_uch (d f s) : (updScu d f s).uch = s.uch := rfl
@[simp] theorem updScu_mov (d f s) : (updScu d f s).mov = s.mov := rfl
@[simp] theorem updScu_lcs (d f s) : (updScu d f s).lcs = s.lcs := rfl
@[simp] theorem updScu_dbg (d f s) : (updScu d f s).dbg = s.dbg := rfl
@[simp] theorem updScu_trace (d f s) : (updScu d f s).trace = s.trace := rfl
@[simp] theorem updScu_cal (d f s) : (updScu d f s).cal = s.cal := rfl
@[simp] theorem updScu_canvas (d f s) : (updScu d f s).canvas = s.canvas := rfl
@[simp] theorem updScu_trp (d f s) : (updScu d f s).trp = s.trp := rfl
@[simp] theorem updScu_power (d f s) : (updScu d f s).power = s.power := rfl
@[simp] theorem updScu_rtc (d f s) : (updScu d f s).rtc = s.rtc := rfl
@[simp] theorem updScu_hostMem (d f s) : (updScu d f s).hostMem = s.hostMem := rfl
@[simp] theorem updScu_readData (d f s) : (updScu d f s).readData = s.readData := rfl
@[simp] theorem updScu_out (d f s) : (updScu d f s).out = s.out := rfl

/-! ### updRng -/

@[simp] theorem updRng_pending (f s) : (updRng f s).pending = s.pending := rfl
@[simp] theorem updRng_part (f s) : (updRng f s).part = s.part := rfl
@[simp] theorem updRng_time (f s) : (updRng f s).time = s.time := rfl
@[simp] theorem updRng_dies (f s) : (updRng f s).dies = s.dies := rfl
@[simp] theorem updRng_funcs (f s) : (updRng f s).funcs = s.funcs := rfl
@[simp] theorem updRng_vfEnable (f s) : (updRng f s).vfEnable = s.vfEnable := rfl
@[simp] theorem updRng_pcie (f s) : (updRng f s).pcie = s.pcie := rfl
@[simp] theorem updRng_queues (f s) : (updRng f s).queues = s.queues := rfl
@[simp] theorem updRng_booth (f s) : (updRng f s).booth = s.booth := rfl
@[simp] theorem updRng_parts (f s) : (updRng f s).parts = s.parts := rfl
@[simp] theorem updRng_flows (f s) : (updRng f s).flows = s.flows := rfl
@[simp] theorem updRng_items (f s) : (updRng f s).items = s.items := rfl
@[simp] theorem updRng_releaseQ (f s) : (updRng f s).releaseQ = s.releaseQ := rfl
@[simp] theorem updRng_jug (f s) : (updRng f s).jug = s.jug := rfl
@[simp] theorem updRng_troupes (f s) : (updRng f s).troupes = s.troupes := rfl
@[simp] theorem updRng_seats (f s) : (updRng f s).seats = s.seats := rfl
@[simp] theorem updRng_performers (f s) : (updRng f s).performers = s.performers := rfl
@[simp] theorem updRng_routines (f s) : (updRng f s).routines = s.routines := rfl
@[simp] theorem updRng_freeCtr (f s) : (updRng f s).freeCtr = s.freeCtr := rfl
@[simp] theorem updRng_writeCtr (f s) : (updRng f s).writeCtr = s.writeCtr := rfl
@[simp] theorem updRng_dir (f s) : (updRng f s).dir = s.dir := rfl
@[simp] theorem updRng_cage (f s) : (updRng f s).cage = s.cage := rfl
@[simp] theorem updRng_vault (f s) : (updRng f s).vault = s.vault := rfl
@[simp] theorem updRng_units (f s) : (updRng f s).units = { s.units with rng := f s.units.rng } := rfl
@[simp] theorem updRng_gates (f s) : (updRng f s).gates = s.gates := rfl
@[simp] theorem updRng_fuses (f s) : (updRng f s).fuses = s.fuses := rfl
@[simp] theorem updRng_boot (f s) : (updRng f s).boot = s.boot := rfl
@[simp] theorem updRng_spdm (f s) : (updRng f s).spdm = s.spdm := rfl
@[simp] theorem updRng_uch (f s) : (updRng f s).uch = s.uch := rfl
@[simp] theorem updRng_mov (f s) : (updRng f s).mov = s.mov := rfl
@[simp] theorem updRng_lcs (f s) : (updRng f s).lcs = s.lcs := rfl
@[simp] theorem updRng_dbg (f s) : (updRng f s).dbg = s.dbg := rfl
@[simp] theorem updRng_trace (f s) : (updRng f s).trace = s.trace := rfl
@[simp] theorem updRng_cal (f s) : (updRng f s).cal = s.cal := rfl
@[simp] theorem updRng_canvas (f s) : (updRng f s).canvas = s.canvas := rfl
@[simp] theorem updRng_trp (f s) : (updRng f s).trp = s.trp := rfl
@[simp] theorem updRng_power (f s) : (updRng f s).power = s.power := rfl
@[simp] theorem updRng_rtc (f s) : (updRng f s).rtc = s.rtc := rfl
@[simp] theorem updRng_hostMem (f s) : (updRng f s).hostMem = s.hostMem := rfl
@[simp] theorem updRng_readData (f s) : (updRng f s).readData = s.readData := rfl
@[simp] theorem updRng_out (f s) : (updRng f s).out = s.out := rfl

/-! ### updSpdm -/

@[simp] theorem updSpdm_pending (f s) : (updSpdm f s).pending = s.pending := rfl
@[simp] theorem updSpdm_part (f s) : (updSpdm f s).part = s.part := rfl
@[simp] theorem updSpdm_time (f s) : (updSpdm f s).time = s.time := rfl
@[simp] theorem updSpdm_dies (f s) : (updSpdm f s).dies = s.dies := rfl
@[simp] theorem updSpdm_funcs (f s) : (updSpdm f s).funcs = s.funcs := rfl
@[simp] theorem updSpdm_vfEnable (f s) : (updSpdm f s).vfEnable = s.vfEnable := rfl
@[simp] theorem updSpdm_pcie (f s) : (updSpdm f s).pcie = s.pcie := rfl
@[simp] theorem updSpdm_queues (f s) : (updSpdm f s).queues = s.queues := rfl
@[simp] theorem updSpdm_booth (f s) : (updSpdm f s).booth = s.booth := rfl
@[simp] theorem updSpdm_parts (f s) : (updSpdm f s).parts = s.parts := rfl
@[simp] theorem updSpdm_flows (f s) : (updSpdm f s).flows = s.flows := rfl
@[simp] theorem updSpdm_items (f s) : (updSpdm f s).items = s.items := rfl
@[simp] theorem updSpdm_releaseQ (f s) : (updSpdm f s).releaseQ = s.releaseQ := rfl
@[simp] theorem updSpdm_jug (f s) : (updSpdm f s).jug = s.jug := rfl
@[simp] theorem updSpdm_troupes (f s) : (updSpdm f s).troupes = s.troupes := rfl
@[simp] theorem updSpdm_seats (f s) : (updSpdm f s).seats = s.seats := rfl
@[simp] theorem updSpdm_performers (f s) : (updSpdm f s).performers = s.performers := rfl
@[simp] theorem updSpdm_routines (f s) : (updSpdm f s).routines = s.routines := rfl
@[simp] theorem updSpdm_freeCtr (f s) : (updSpdm f s).freeCtr = s.freeCtr := rfl
@[simp] theorem updSpdm_writeCtr (f s) : (updSpdm f s).writeCtr = s.writeCtr := rfl
@[simp] theorem updSpdm_dir (f s) : (updSpdm f s).dir = s.dir := rfl
@[simp] theorem updSpdm_cage (f s) : (updSpdm f s).cage = s.cage := rfl
@[simp] theorem updSpdm_vault (f s) : (updSpdm f s).vault = s.vault := rfl
@[simp] theorem updSpdm_units (f s) : (updSpdm f s).units = s.units := rfl
@[simp] theorem updSpdm_gates (f s) : (updSpdm f s).gates = s.gates := rfl
@[simp] theorem updSpdm_fuses (f s) : (updSpdm f s).fuses = s.fuses := rfl
@[simp] theorem updSpdm_boot (f s) : (updSpdm f s).boot = s.boot := rfl
@[simp] theorem updSpdm_spdm (f s) : (updSpdm f s).spdm = f s.spdm := rfl
@[simp] theorem updSpdm_uch (f s) : (updSpdm f s).uch = s.uch := rfl
@[simp] theorem updSpdm_mov (f s) : (updSpdm f s).mov = s.mov := rfl
@[simp] theorem updSpdm_lcs (f s) : (updSpdm f s).lcs = s.lcs := rfl
@[simp] theorem updSpdm_dbg (f s) : (updSpdm f s).dbg = s.dbg := rfl
@[simp] theorem updSpdm_trace (f s) : (updSpdm f s).trace = s.trace := rfl
@[simp] theorem updSpdm_cal (f s) : (updSpdm f s).cal = s.cal := rfl
@[simp] theorem updSpdm_canvas (f s) : (updSpdm f s).canvas = s.canvas := rfl
@[simp] theorem updSpdm_trp (f s) : (updSpdm f s).trp = s.trp := rfl
@[simp] theorem updSpdm_power (f s) : (updSpdm f s).power = s.power := rfl
@[simp] theorem updSpdm_rtc (f s) : (updSpdm f s).rtc = s.rtc := rfl
@[simp] theorem updSpdm_hostMem (f s) : (updSpdm f s).hostMem = s.hostMem := rfl
@[simp] theorem updSpdm_readData (f s) : (updSpdm f s).readData = s.readData := rfl
@[simp] theorem updSpdm_out (f s) : (updSpdm f s).out = s.out := rfl

/-! ### updMov -/

@[simp] theorem updMov_pending (n f s) : (updMov n f s).pending = s.pending := rfl
@[simp] theorem updMov_part (n f s) : (updMov n f s).part = s.part := rfl
@[simp] theorem updMov_time (n f s) : (updMov n f s).time = s.time := rfl
@[simp] theorem updMov_dies (n f s) : (updMov n f s).dies = s.dies := rfl
@[simp] theorem updMov_funcs (n f s) : (updMov n f s).funcs = s.funcs := rfl
@[simp] theorem updMov_vfEnable (n f s) : (updMov n f s).vfEnable = s.vfEnable := rfl
@[simp] theorem updMov_pcie (n f s) : (updMov n f s).pcie = s.pcie := rfl
@[simp] theorem updMov_queues (n f s) : (updMov n f s).queues = s.queues := rfl
@[simp] theorem updMov_booth (n f s) : (updMov n f s).booth = s.booth := rfl
@[simp] theorem updMov_parts (n f s) : (updMov n f s).parts = s.parts := rfl
@[simp] theorem updMov_flows (n f s) : (updMov n f s).flows = s.flows := rfl
@[simp] theorem updMov_items (n f s) : (updMov n f s).items = s.items := rfl
@[simp] theorem updMov_releaseQ (n f s) : (updMov n f s).releaseQ = s.releaseQ := rfl
@[simp] theorem updMov_jug (n f s) : (updMov n f s).jug = s.jug := rfl
@[simp] theorem updMov_troupes (n f s) : (updMov n f s).troupes = s.troupes := rfl
@[simp] theorem updMov_seats (n f s) : (updMov n f s).seats = s.seats := rfl
@[simp] theorem updMov_performers (n f s) : (updMov n f s).performers = s.performers := rfl
@[simp] theorem updMov_routines (n f s) : (updMov n f s).routines = s.routines := rfl
@[simp] theorem updMov_freeCtr (n f s) : (updMov n f s).freeCtr = s.freeCtr := rfl
@[simp] theorem updMov_writeCtr (n f s) : (updMov n f s).writeCtr = s.writeCtr := rfl
@[simp] theorem updMov_dir (n f s) : (updMov n f s).dir = s.dir := rfl
@[simp] theorem updMov_cage (n f s) : (updMov n f s).cage = s.cage := rfl
@[simp] theorem updMov_vault (n f s) : (updMov n f s).vault = s.vault := rfl
@[simp] theorem updMov_units (n f s) : (updMov n f s).units = s.units := rfl
@[simp] theorem updMov_gates (n f s) : (updMov n f s).gates = s.gates := rfl
@[simp] theorem updMov_fuses (n f s) : (updMov n f s).fuses = s.fuses := rfl
@[simp] theorem updMov_boot (n f s) : (updMov n f s).boot = s.boot := rfl
@[simp] theorem updMov_spdm (n f s) : (updMov n f s).spdm = s.spdm := rfl
@[simp] theorem updMov_uch (n f s) : (updMov n f s).uch = s.uch := rfl
@[simp] theorem updMov_mov (n f s) : (updMov n f s).mov = { s.mov with ch := Tab.upd dMov s.mov.ch n f } := rfl
@[simp] theorem updMov_lcs (n f s) : (updMov n f s).lcs = s.lcs := rfl
@[simp] theorem updMov_dbg (n f s) : (updMov n f s).dbg = s.dbg := rfl
@[simp] theorem updMov_trace (n f s) : (updMov n f s).trace = s.trace := rfl
@[simp] theorem updMov_cal (n f s) : (updMov n f s).cal = s.cal := rfl
@[simp] theorem updMov_canvas (n f s) : (updMov n f s).canvas = s.canvas := rfl
@[simp] theorem updMov_trp (n f s) : (updMov n f s).trp = s.trp := rfl
@[simp] theorem updMov_power (n f s) : (updMov n f s).power = s.power := rfl
@[simp] theorem updMov_rtc (n f s) : (updMov n f s).rtc = s.rtc := rfl
@[simp] theorem updMov_hostMem (n f s) : (updMov n f s).hostMem = s.hostMem := rfl
@[simp] theorem updMov_readData (n f s) : (updMov n f s).readData = s.readData := rfl
@[simp] theorem updMov_out (n f s) : (updMov n f s).out = s.out := rfl

/-! ### updMv -/

@[simp] theorem updMv_pending (f s) : (updMv f s).pending = s.pending := rfl
@[simp] theorem updMv_part (f s) : (updMv f s).part = s.part := rfl
@[simp] theorem updMv_time (f s) : (updMv f s).time = s.time := rfl
@[simp] theorem updMv_dies (f s) : (updMv f s).dies = s.dies := rfl
@[simp] theorem updMv_funcs (f s) : (updMv f s).funcs = s.funcs := rfl
@[simp] theorem updMv_vfEnable (f s) : (updMv f s).vfEnable = s.vfEnable := rfl
@[simp] theorem updMv_pcie (f s) : (updMv f s).pcie = s.pcie := rfl
@[simp] theorem updMv_queues (f s) : (updMv f s).queues = s.queues := rfl
@[simp] theorem updMv_booth (f s) : (updMv f s).booth = s.booth := rfl
@[simp] theorem updMv_parts (f s) : (updMv f s).parts = s.parts := rfl
@[simp] theorem updMv_flows (f s) : (updMv f s).flows = s.flows := rfl
@[simp] theorem updMv_items (f s) : (updMv f s).items = s.items := rfl
@[simp] theorem updMv_releaseQ (f s) : (updMv f s).releaseQ = s.releaseQ := rfl
@[simp] theorem updMv_jug (f s) : (updMv f s).jug = s.jug := rfl
@[simp] theorem updMv_troupes (f s) : (updMv f s).troupes = s.troupes := rfl
@[simp] theorem updMv_seats (f s) : (updMv f s).seats = s.seats := rfl
@[simp] theorem updMv_performers (f s) : (updMv f s).performers = s.performers := rfl
@[simp] theorem updMv_routines (f s) : (updMv f s).routines = s.routines := rfl
@[simp] theorem updMv_freeCtr (f s) : (updMv f s).freeCtr = s.freeCtr := rfl
@[simp] theorem updMv_writeCtr (f s) : (updMv f s).writeCtr = s.writeCtr := rfl
@[simp] theorem updMv_dir (f s) : (updMv f s).dir = s.dir := rfl
@[simp] theorem updMv_cage (f s) : (updMv f s).cage = s.cage := rfl
@[simp] theorem updMv_vault (f s) : (updMv f s).vault = s.vault := rfl
@[simp] theorem updMv_units (f s) : (updMv f s).units = s.units := rfl
@[simp] theorem updMv_gates (f s) : (updMv f s).gates = s.gates := rfl
@[simp] theorem updMv_fuses (f s) : (updMv f s).fuses = s.fuses := rfl
@[simp] theorem updMv_boot (f s) : (updMv f s).boot = s.boot := rfl
@[simp] theorem updMv_spdm (f s) : (updMv f s).spdm = s.spdm := rfl
@[simp] theorem updMv_uch (f s) : (updMv f s).uch = s.uch := rfl
@[simp] theorem updMv_mov (f s) : (updMv f s).mov = f s.mov := rfl
@[simp] theorem updMv_lcs (f s) : (updMv f s).lcs = s.lcs := rfl
@[simp] theorem updMv_dbg (f s) : (updMv f s).dbg = s.dbg := rfl
@[simp] theorem updMv_trace (f s) : (updMv f s).trace = s.trace := rfl
@[simp] theorem updMv_cal (f s) : (updMv f s).cal = s.cal := rfl
@[simp] theorem updMv_canvas (f s) : (updMv f s).canvas = s.canvas := rfl
@[simp] theorem updMv_trp (f s) : (updMv f s).trp = s.trp := rfl
@[simp] theorem updMv_power (f s) : (updMv f s).power = s.power := rfl
@[simp] theorem updMv_rtc (f s) : (updMv f s).rtc = s.rtc := rfl
@[simp] theorem updMv_hostMem (f s) : (updMv f s).hostMem = s.hostMem := rfl
@[simp] theorem updMv_readData (f s) : (updMv f s).readData = s.readData := rfl
@[simp] theorem updMv_out (f s) : (updMv f s).out = s.out := rfl

/-! ### updLcs -/

@[simp] theorem updLcs_pending (f s) : (updLcs f s).pending = s.pending := rfl
@[simp] theorem updLcs_part (f s) : (updLcs f s).part = s.part := rfl
@[simp] theorem updLcs_time (f s) : (updLcs f s).time = s.time := rfl
@[simp] theorem updLcs_dies (f s) : (updLcs f s).dies = s.dies := rfl
@[simp] theorem updLcs_funcs (f s) : (updLcs f s).funcs = s.funcs := rfl
@[simp] theorem updLcs_vfEnable (f s) : (updLcs f s).vfEnable = s.vfEnable := rfl
@[simp] theorem updLcs_pcie (f s) : (updLcs f s).pcie = s.pcie := rfl
@[simp] theorem updLcs_queues (f s) : (updLcs f s).queues = s.queues := rfl
@[simp] theorem updLcs_booth (f s) : (updLcs f s).booth = s.booth := rfl
@[simp] theorem updLcs_parts (f s) : (updLcs f s).parts = s.parts := rfl
@[simp] theorem updLcs_flows (f s) : (updLcs f s).flows = s.flows := rfl
@[simp] theorem updLcs_items (f s) : (updLcs f s).items = s.items := rfl
@[simp] theorem updLcs_releaseQ (f s) : (updLcs f s).releaseQ = s.releaseQ := rfl
@[simp] theorem updLcs_jug (f s) : (updLcs f s).jug = s.jug := rfl
@[simp] theorem updLcs_troupes (f s) : (updLcs f s).troupes = s.troupes := rfl
@[simp] theorem updLcs_seats (f s) : (updLcs f s).seats = s.seats := rfl
@[simp] theorem updLcs_performers (f s) : (updLcs f s).performers = s.performers := rfl
@[simp] theorem updLcs_routines (f s) : (updLcs f s).routines = s.routines := rfl
@[simp] theorem updLcs_freeCtr (f s) : (updLcs f s).freeCtr = s.freeCtr := rfl
@[simp] theorem updLcs_writeCtr (f s) : (updLcs f s).writeCtr = s.writeCtr := rfl
@[simp] theorem updLcs_dir (f s) : (updLcs f s).dir = s.dir := rfl
@[simp] theorem updLcs_cage (f s) : (updLcs f s).cage = s.cage := rfl
@[simp] theorem updLcs_vault (f s) : (updLcs f s).vault = s.vault := rfl
@[simp] theorem updLcs_units (f s) : (updLcs f s).units = s.units := rfl
@[simp] theorem updLcs_gates (f s) : (updLcs f s).gates = s.gates := rfl
@[simp] theorem updLcs_fuses (f s) : (updLcs f s).fuses = s.fuses := rfl
@[simp] theorem updLcs_boot (f s) : (updLcs f s).boot = s.boot := rfl
@[simp] theorem updLcs_spdm (f s) : (updLcs f s).spdm = s.spdm := rfl
@[simp] theorem updLcs_uch (f s) : (updLcs f s).uch = s.uch := rfl
@[simp] theorem updLcs_mov (f s) : (updLcs f s).mov = s.mov := rfl
@[simp] theorem updLcs_lcs (f s) : (updLcs f s).lcs = f s.lcs := rfl
@[simp] theorem updLcs_dbg (f s) : (updLcs f s).dbg = s.dbg := rfl
@[simp] theorem updLcs_trace (f s) : (updLcs f s).trace = s.trace := rfl
@[simp] theorem updLcs_cal (f s) : (updLcs f s).cal = s.cal := rfl
@[simp] theorem updLcs_canvas (f s) : (updLcs f s).canvas = s.canvas := rfl
@[simp] theorem updLcs_trp (f s) : (updLcs f s).trp = s.trp := rfl
@[simp] theorem updLcs_power (f s) : (updLcs f s).power = s.power := rfl
@[simp] theorem updLcs_rtc (f s) : (updLcs f s).rtc = s.rtc := rfl
@[simp] theorem updLcs_hostMem (f s) : (updLcs f s).hostMem = s.hostMem := rfl
@[simp] theorem updLcs_readData (f s) : (updLcs f s).readData = s.readData := rfl
@[simp] theorem updLcs_out (f s) : (updLcs f s).out = s.out := rfl

/-! ### updCal -/

@[simp] theorem updCal_pending (f s) : (updCal f s).pending = s.pending := rfl
@[simp] theorem updCal_part (f s) : (updCal f s).part = s.part := rfl
@[simp] theorem updCal_time (f s) : (updCal f s).time = s.time := rfl
@[simp] theorem updCal_dies (f s) : (updCal f s).dies = s.dies := rfl
@[simp] theorem updCal_funcs (f s) : (updCal f s).funcs = s.funcs := rfl
@[simp] theorem updCal_vfEnable (f s) : (updCal f s).vfEnable = s.vfEnable := rfl
@[simp] theorem updCal_pcie (f s) : (updCal f s).pcie = s.pcie := rfl
@[simp] theorem updCal_queues (f s) : (updCal f s).queues = s.queues := rfl
@[simp] theorem updCal_booth (f s) : (updCal f s).booth = s.booth := rfl
@[simp] theorem updCal_parts (f s) : (updCal f s).parts = s.parts := rfl
@[simp] theorem updCal_flows (f s) : (updCal f s).flows = s.flows := rfl
@[simp] theorem updCal_items (f s) : (updCal f s).items = s.items := rfl
@[simp] theorem updCal_releaseQ (f s) : (updCal f s).releaseQ = s.releaseQ := rfl
@[simp] theorem updCal_jug (f s) : (updCal f s).jug = s.jug := rfl
@[simp] theorem updCal_troupes (f s) : (updCal f s).troupes = s.troupes := rfl
@[simp] theorem updCal_seats (f s) : (updCal f s).seats = s.seats := rfl
@[simp] theorem updCal_performers (f s) : (updCal f s).performers = s.performers := rfl
@[simp] theorem updCal_routines (f s) : (updCal f s).routines = s.routines := rfl
@[simp] theorem updCal_freeCtr (f s) : (updCal f s).freeCtr = s.freeCtr := rfl
@[simp] theorem updCal_writeCtr (f s) : (updCal f s).writeCtr = s.writeCtr := rfl
@[simp] theorem updCal_dir (f s) : (updCal f s).dir = s.dir := rfl
@[simp] theorem updCal_cage (f s) : (updCal f s).cage = s.cage := rfl
@[simp] theorem updCal_vault (f s) : (updCal f s).vault = s.vault := rfl
@[simp] theorem updCal_units (f s) : (updCal f s).units = s.units := rfl
@[simp] theorem updCal_gates (f s) : (updCal f s).gates = s.gates := rfl
@[simp] theorem updCal_fuses (f s) : (updCal f s).fuses = s.fuses := rfl
@[simp] theorem updCal_boot (f s) : (updCal f s).boot = s.boot := rfl
@[simp] theorem updCal_spdm (f s) : (updCal f s).spdm = s.spdm := rfl
@[simp] theorem updCal_uch (f s) : (updCal f s).uch = s.uch := rfl
@[simp] theorem updCal_mov (f s) : (updCal f s).mov = s.mov := rfl
@[simp] theorem updCal_lcs (f s) : (updCal f s).lcs = s.lcs := rfl
@[simp] theorem updCal_dbg (f s) : (updCal f s).dbg = s.dbg := rfl
@[simp] theorem updCal_trace (f s) : (updCal f s).trace = s.trace := rfl
@[simp] theorem updCal_cal (f s) : (updCal f s).cal = f s.cal := rfl
@[simp] theorem updCal_canvas (f s) : (updCal f s).canvas = s.canvas := rfl
@[simp] theorem updCal_trp (f s) : (updCal f s).trp = s.trp := rfl
@[simp] theorem updCal_power (f s) : (updCal f s).power = s.power := rfl
@[simp] theorem updCal_rtc (f s) : (updCal f s).rtc = s.rtc := rfl
@[simp] theorem updCal_hostMem (f s) : (updCal f s).hostMem = s.hostMem := rfl
@[simp] theorem updCal_readData (f s) : (updCal f s).readData = s.readData := rfl
@[simp] theorem updCal_out (f s) : (updCal f s).out = s.out := rfl

/-! ### updCnv -/

@[simp] theorem updCnv_pending (f s) : (updCnv f s).pending = s.pending := rfl
@[simp] theorem updCnv_part (f s) : (updCnv f s).part = s.part := rfl
@[simp] theorem updCnv_time (f s) : (updCnv f s).time = s.time := rfl
@[simp] theorem updCnv_dies (f s) : (updCnv f s).dies = s.dies := rfl
@[simp] theorem updCnv_funcs (f s) : (updCnv f s).funcs = s.funcs := rfl
@[simp] theorem updCnv_vfEnable (f s) : (updCnv f s).vfEnable = s.vfEnable := rfl
@[simp] theorem updCnv_pcie (f s) : (updCnv f s).pcie = s.pcie := rfl
@[simp] theorem updCnv_queues (f s) : (updCnv f s).queues = s.queues := rfl
@[simp] theorem updCnv_booth (f s) : (updCnv f s).booth = s.booth := rfl
@[simp] theorem updCnv_parts (f s) : (updCnv f s).parts = s.parts := rfl
@[simp] theorem updCnv_flows (f s) : (updCnv f s).flows = s.flows := rfl
@[simp] theorem updCnv_items (f s) : (updCnv f s).items = s.items := rfl
@[simp] theorem updCnv_releaseQ (f s) : (updCnv f s).releaseQ = s.releaseQ := rfl
@[simp] theorem updCnv_jug (f s) : (updCnv f s).jug = s.jug := rfl
@[simp] theorem updCnv_troupes (f s) : (updCnv f s).troupes = s.troupes := rfl
@[simp] theorem updCnv_seats (f s) : (updCnv f s).seats = s.seats := rfl
@[simp] theorem updCnv_performers (f s) : (updCnv f s).performers = s.performers := rfl
@[simp] theorem updCnv_routines (f s) : (updCnv f s).routines = s.routines := rfl
@[simp] theorem updCnv_freeCtr (f s) : (updCnv f s).freeCtr = s.freeCtr := rfl
@[simp] theorem updCnv_writeCtr (f s) : (updCnv f s).writeCtr = s.writeCtr := rfl
@[simp] theorem updCnv_dir (f s) : (updCnv f s).dir = s.dir := rfl
@[simp] theorem updCnv_cage (f s) : (updCnv f s).cage = s.cage := rfl
@[simp] theorem updCnv_vault (f s) : (updCnv f s).vault = s.vault := rfl
@[simp] theorem updCnv_units (f s) : (updCnv f s).units = s.units := rfl
@[simp] theorem updCnv_gates (f s) : (updCnv f s).gates = s.gates := rfl
@[simp] theorem updCnv_fuses (f s) : (updCnv f s).fuses = s.fuses := rfl
@[simp] theorem updCnv_boot (f s) : (updCnv f s).boot = s.boot := rfl
@[simp] theorem updCnv_spdm (f s) : (updCnv f s).spdm = s.spdm := rfl
@[simp] theorem updCnv_uch (f s) : (updCnv f s).uch = s.uch := rfl
@[simp] theorem updCnv_mov (f s) : (updCnv f s).mov = s.mov := rfl
@[simp] theorem updCnv_lcs (f s) : (updCnv f s).lcs = s.lcs := rfl
@[simp] theorem updCnv_dbg (f s) : (updCnv f s).dbg = s.dbg := rfl
@[simp] theorem updCnv_trace (f s) : (updCnv f s).trace = s.trace := rfl
@[simp] theorem updCnv_cal (f s) : (updCnv f s).cal = s.cal := rfl
@[simp] theorem updCnv_canvas (f s) : (updCnv f s).canvas = f s.canvas := rfl
@[simp] theorem updCnv_trp (f s) : (updCnv f s).trp = s.trp := rfl
@[simp] theorem updCnv_power (f s) : (updCnv f s).power = s.power := rfl
@[simp] theorem updCnv_rtc (f s) : (updCnv f s).rtc = s.rtc := rfl
@[simp] theorem updCnv_hostMem (f s) : (updCnv f s).hostMem = s.hostMem := rfl
@[simp] theorem updCnv_readData (f s) : (updCnv f s).readData = s.readData := rfl
@[simp] theorem updCnv_out (f s) : (updCnv f s).out = s.out := rfl

/-! ### updTrp -/

@[simp] theorem updTrp_pending (f s) : (updTrp f s).pending = s.pending := rfl
@[simp] theorem updTrp_part (f s) : (updTrp f s).part = s.part := rfl
@[simp] theorem updTrp_time (f s) : (updTrp f s).time = s.time := rfl
@[simp] theorem updTrp_dies (f s) : (updTrp f s).dies = s.dies := rfl
@[simp] theorem updTrp_funcs (f s) : (updTrp f s).funcs = s.funcs := rfl
@[simp] theorem updTrp_vfEnable (f s) : (updTrp f s).vfEnable = s.vfEnable := rfl
@[simp] theorem updTrp_pcie (f s) : (updTrp f s).pcie = s.pcie := rfl
@[simp] theorem updTrp_queues (f s) : (updTrp f s).queues = s.queues := rfl
@[simp] theorem updTrp_booth (f s) : (updTrp f s).booth = s.booth := rfl
@[simp] theorem updTrp_parts (f s) : (updTrp f s).parts = s.parts := rfl
@[simp] theorem updTrp_flows (f s) : (updTrp f s).flows = s.flows := rfl
@[simp] theorem updTrp_items (f s) : (updTrp f s).items = s.items := rfl
@[simp] theorem updTrp_releaseQ (f s) : (updTrp f s).releaseQ = s.releaseQ := rfl
@[simp] theorem updTrp_jug (f s) : (updTrp f s).jug = s.jug := rfl
@[simp] theorem updTrp_troupes (f s) : (updTrp f s).troupes = s.troupes := rfl
@[simp] theorem updTrp_seats (f s) : (updTrp f s).seats = s.seats := rfl
@[simp] theorem updTrp_performers (f s) : (updTrp f s).performers = s.performers := rfl
@[simp] theorem updTrp_routines (f s) : (updTrp f s).routines = s.routines := rfl
@[simp] theorem updTrp_freeCtr (f s) : (updTrp f s).freeCtr = s.freeCtr := rfl
@[simp] theorem updTrp_writeCtr (f s) : (updTrp f s).writeCtr = s.writeCtr := rfl
@[simp] theorem updTrp_dir (f s) : (updTrp f s).dir = s.dir := rfl
@[simp] theorem updTrp_cage (f s) : (updTrp f s).cage = s.cage := rfl
@[simp] theorem updTrp_vault (f s) : (updTrp f s).vault = s.vault := rfl
@[simp] theorem updTrp_units (f s) : (updTrp f s).units = s.units := rfl
@[simp] theorem updTrp_gates (f s) : (updTrp f s).gates = s.gates := rfl
@[simp] theorem updTrp_fuses (f s) : (updTrp f s).fuses = s.fuses := rfl
@[simp] theorem updTrp_boot (f s) : (updTrp f s).boot = s.boot := rfl
@[simp] theorem updTrp_spdm (f s) : (updTrp f s).spdm = s.spdm := rfl
@[simp] theorem updTrp_uch (f s) : (updTrp f s).uch = s.uch := rfl
@[simp] theorem updTrp_mov (f s) : (updTrp f s).mov = s.mov := rfl
@[simp] theorem updTrp_lcs (f s) : (updTrp f s).lcs = s.lcs := rfl
@[simp] theorem updTrp_dbg (f s) : (updTrp f s).dbg = s.dbg := rfl
@[simp] theorem updTrp_trace (f s) : (updTrp f s).trace = s.trace := rfl
@[simp] theorem updTrp_cal (f s) : (updTrp f s).cal = s.cal := rfl
@[simp] theorem updTrp_canvas (f s) : (updTrp f s).canvas = s.canvas := rfl
@[simp] theorem updTrp_trp (f s) : (updTrp f s).trp = f s.trp := rfl
@[simp] theorem updTrp_power (f s) : (updTrp f s).power = s.power := rfl
@[simp] theorem updTrp_rtc (f s) : (updTrp f s).rtc = s.rtc := rfl
@[simp] theorem updTrp_hostMem (f s) : (updTrp f s).hostMem = s.hostMem := rfl
@[simp] theorem updTrp_readData (f s) : (updTrp f s).readData = s.readData := rfl
@[simp] theorem updTrp_out (f s) : (updTrp f s).out = s.out := rfl

/-! ### updPwr -/

@[simp] theorem updPwr_pending (f s) : (updPwr f s).pending = s.pending := rfl
@[simp] theorem updPwr_part (f s) : (updPwr f s).part = s.part := rfl
@[simp] theorem updPwr_time (f s) : (updPwr f s).time = s.time := rfl
@[simp] theorem updPwr_dies (f s) : (updPwr f s).dies = s.dies := rfl
@[simp] theorem updPwr_funcs (f s) : (updPwr f s).funcs = s.funcs := rfl
@[simp] theorem updPwr_vfEnable (f s) : (updPwr f s).vfEnable = s.vfEnable := rfl
@[simp] theorem updPwr_pcie (f s) : (updPwr f s).pcie = s.pcie := rfl
@[simp] theorem updPwr_queues (f s) : (updPwr f s).queues = s.queues := rfl
@[simp] theorem updPwr_booth (f s) : (updPwr f s).booth = s.booth := rfl
@[simp] theorem updPwr_parts (f s) : (updPwr f s).parts = s.parts := rfl
@[simp] theorem updPwr_flows (f s) : (updPwr f s).flows = s.flows := rfl
@[simp] theorem updPwr_items (f s) : (updPwr f s).items = s.items := rfl
@[simp] theorem updPwr_releaseQ (f s) : (updPwr f s).releaseQ = s.releaseQ := rfl
@[simp] theorem updPwr_jug (f s) : (updPwr f s).jug = s.jug := rfl
@[simp] theorem updPwr_troupes (f s) : (updPwr f s).troupes = s.troupes := rfl
@[simp] theorem updPwr_seats (f s) : (updPwr f s).seats = s.seats := rfl
@[simp] theorem updPwr_performers (f s) : (updPwr f s).performers = s.performers := rfl
@[simp] theorem updPwr_routines (f s) : (updPwr f s).routines = s.routines := rfl
@[simp] theorem updPwr_freeCtr (f s) : (updPwr f s).freeCtr = s.freeCtr := rfl
@[simp] theorem updPwr_writeCtr (f s) : (updPwr f s).writeCtr = s.writeCtr := rfl
@[simp] theorem updPwr_dir (f s) : (updPwr f s).dir = s.dir := rfl
@[simp] theorem updPwr_cage (f s) : (updPwr f s).cage = s.cage := rfl
@[simp] theorem updPwr_vault (f s) : (updPwr f s).vault = s.vault := rfl
@[simp] theorem updPwr_units (f s) : (updPwr f s).units = s.units := rfl
@[simp] theorem updPwr_gates (f s) : (updPwr f s).gates = s.gates := rfl
@[simp] theorem updPwr_fuses (f s) : (updPwr f s).fuses = s.fuses := rfl
@[simp] theorem updPwr_boot (f s) : (updPwr f s).boot = s.boot := rfl
@[simp] theorem updPwr_spdm (f s) : (updPwr f s).spdm = s.spdm := rfl
@[simp] theorem updPwr_uch (f s) : (updPwr f s).uch = s.uch := rfl
@[simp] theorem updPwr_mov (f s) : (updPwr f s).mov = s.mov := rfl
@[simp] theorem updPwr_lcs (f s) : (updPwr f s).lcs = s.lcs := rfl
@[simp] theorem updPwr_dbg (f s) : (updPwr f s).dbg = s.dbg := rfl
@[simp] theorem updPwr_trace (f s) : (updPwr f s).trace = s.trace := rfl
@[simp] theorem updPwr_cal (f s) : (updPwr f s).cal = s.cal := rfl
@[simp] theorem updPwr_canvas (f s) : (updPwr f s).canvas = s.canvas := rfl
@[simp] theorem updPwr_trp (f s) : (updPwr f s).trp = s.trp := rfl
@[simp] theorem updPwr_power (f s) : (updPwr f s).power = f s.power := rfl
@[simp] theorem updPwr_rtc (f s) : (updPwr f s).rtc = s.rtc := rfl
@[simp] theorem updPwr_hostMem (f s) : (updPwr f s).hostMem = s.hostMem := rfl
@[simp] theorem updPwr_readData (f s) : (updPwr f s).readData = s.readData := rfl
@[simp] theorem updPwr_out (f s) : (updPwr f s).out = s.out := rfl

/-! ### updTP -/

@[simp] theorem updTP_pending (t f s) : (updTP t f s).pending = s.pending := rfl
@[simp] theorem updTP_part (t f s) : (updTP t f s).part = s.part := rfl
@[simp] theorem updTP_time (t f s) : (updTP t f s).time = s.time := rfl
@[simp] theorem updTP_dies (t f s) : (updTP t f s).dies = s.dies := rfl
@[simp] theorem updTP_funcs (t f s) : (updTP t f s).funcs = s.funcs := rfl
@[simp] theorem updTP_vfEnable (t f s) : (updTP t f s).vfEnable = s.vfEnable := rfl
@[simp] theorem updTP_pcie (t f s) : (updTP t f s).pcie = s.pcie := rfl
@[simp] theorem updTP_queues (t f s) : (updTP t f s).queues = s.queues := rfl
@[simp] theorem updTP_booth (t f s) : (updTP t f s).booth = s.booth := rfl
@[simp] theorem updTP_parts (t f s) : (updTP t f s).parts = s.parts := rfl
@[simp] theorem updTP_flows (t f s) : (updTP t f s).flows = s.flows := rfl
@[simp] theorem updTP_items (t f s) : (updTP t f s).items = s.items := rfl
@[simp] theorem updTP_releaseQ (t f s) : (updTP t f s).releaseQ = s.releaseQ := rfl
@[simp] theorem updTP_jug (t f s) : (updTP t f s).jug = s.jug := rfl
@[simp] theorem updTP_troupes (t f s) : (updTP t f s).troupes = s.troupes := rfl
@[simp] theorem updTP_seats (t f s) : (updTP t f s).seats = s.seats := rfl
@[simp] theorem updTP_performers (t f s) : (updTP t f s).performers = s.performers := rfl
@[simp] theorem updTP_routines (t f s) : (updTP t f s).routines = s.routines := rfl
@[simp] theorem updTP_freeCtr (t f s) : (updTP t f s).freeCtr = s.freeCtr := rfl
@[simp] theorem updTP_writeCtr (t f s) : (updTP t f s).writeCtr = s.writeCtr := rfl
@[simp] theorem updTP_dir (t f s) : (updTP t f s).dir = s.dir := rfl
@[simp] theorem updTP_cage (t f s) : (updTP t f s).cage = s.cage := rfl
@[simp] theorem updTP_vault (t f s) : (updTP t f s).vault = s.vault := rfl
@[simp] theorem updTP_units (t f s) : (updTP t f s).units = s.units := rfl
@[simp] theorem updTP_gates (t f s) : (updTP t f s).gates = s.gates := rfl
@[simp] theorem updTP_fuses (t f s) : (updTP t f s).fuses = s.fuses := rfl
@[simp] theorem updTP_boot (t f s) : (updTP t f s).boot = s.boot := rfl
@[simp] theorem updTP_spdm (t f s) : (updTP t f s).spdm = s.spdm := rfl
@[simp] theorem updTP_uch (t f s) : (updTP t f s).uch = s.uch := rfl
@[simp] theorem updTP_mov (t f s) : (updTP t f s).mov = s.mov := rfl
@[simp] theorem updTP_lcs (t f s) : (updTP t f s).lcs = s.lcs := rfl
@[simp] theorem updTP_dbg (t f s) : (updTP t f s).dbg = s.dbg := rfl
@[simp] theorem updTP_trace (t f s) : (updTP t f s).trace = s.trace := rfl
@[simp] theorem updTP_cal (t f s) : (updTP t f s).cal = s.cal := rfl
@[simp] theorem updTP_canvas (t f s) : (updTP t f s).canvas = s.canvas := rfl
@[simp] theorem updTP_trp (t f s) : (updTP t f s).trp = s.trp := rfl
@[simp] theorem updTP_power (t f s) : (updTP t f s).power = { s.power with troupes := Tab.upd dTPower s.power.troupes t f } := rfl
@[simp] theorem updTP_rtc (t f s) : (updTP t f s).rtc = s.rtc := rfl
@[simp] theorem updTP_hostMem (t f s) : (updTP t f s).hostMem = s.hostMem := rfl
@[simp] theorem updTP_readData (t f s) : (updTP t f s).readData = s.readData := rfl
@[simp] theorem updTP_out (t f s) : (updTP t f s).out = s.out := rfl

/-! ### updSeq -/

@[simp] theorem updSeq_pending (f s) : (updSeq f s).pending = s.pending := rfl
@[simp] theorem updSeq_part (f s) : (updSeq f s).part = s.part := rfl
@[simp] theorem updSeq_time (f s) : (updSeq f s).time = s.time := rfl
@[simp] theorem updSeq_dies (f s) : (updSeq f s).dies = s.dies := rfl
@[simp] theorem updSeq_funcs (f s) : (updSeq f s).funcs = s.funcs := rfl
@[simp] theorem updSeq_vfEnable (f s) : (updSeq f s).vfEnable = s.vfEnable := rfl
@[simp] theorem updSeq_pcie (f s) : (updSeq f s).pcie = s.pcie := rfl
@[simp] theorem updSeq_queues (f s) : (updSeq f s).queues = s.queues := rfl
@[simp] theorem updSeq_booth (f s) : (updSeq f s).booth = s.booth := rfl
@[simp] theorem updSeq_parts (f s) : (updSeq f s).parts = s.parts := rfl
@[simp] theorem updSeq_flows (f s) : (updSeq f s).flows = s.flows := rfl
@[simp] theorem updSeq_items (f s) : (updSeq f s).items = s.items := rfl
@[simp] theorem updSeq_releaseQ (f s) : (updSeq f s).releaseQ = s.releaseQ := rfl
@[simp] theorem updSeq_jug (f s) : (updSeq f s).jug = s.jug := rfl
@[simp] theorem updSeq_troupes (f s) : (updSeq f s).troupes = s.troupes := rfl
@[simp] theorem updSeq_seats (f s) : (updSeq f s).seats = s.seats := rfl
@[simp] theorem updSeq_performers (f s) : (updSeq f s).performers = s.performers := rfl
@[simp] theorem updSeq_routines (f s) : (updSeq f s).routines = s.routines := rfl
@[simp] theorem updSeq_freeCtr (f s) : (updSeq f s).freeCtr = s.freeCtr := rfl
@[simp] theorem updSeq_writeCtr (f s) : (updSeq f s).writeCtr = s.writeCtr := rfl
@[simp] theorem updSeq_dir (f s) : (updSeq f s).dir = s.dir := rfl
@[simp] theorem updSeq_cage (f s) : (updSeq f s).cage = s.cage := rfl
@[simp] theorem updSeq_vault (f s) : (updSeq f s).vault = s.vault := rfl
@[simp] theorem updSeq_units (f s) : (updSeq f s).units = s.units := rfl
@[simp] theorem updSeq_gates (f s) : (updSeq f s).gates = s.gates := rfl
@[simp] theorem updSeq_fuses (f s) : (updSeq f s).fuses = s.fuses := rfl
@[simp] theorem updSeq_boot (f s) : (updSeq f s).boot = s.boot := rfl
@[simp] theorem updSeq_spdm (f s) : (updSeq f s).spdm = s.spdm := rfl
@[simp] theorem updSeq_uch (f s) : (updSeq f s).uch = s.uch := rfl
@[simp] theorem updSeq_mov (f s) : (updSeq f s).mov = s.mov := rfl
@[simp] theorem updSeq_lcs (f s) : (updSeq f s).lcs = s.lcs := rfl
@[simp] theorem updSeq_dbg (f s) : (updSeq f s).dbg = s.dbg := rfl
@[simp] theorem updSeq_trace (f s) : (updSeq f s).trace = s.trace := rfl
@[simp] theorem updSeq_cal (f s) : (updSeq f s).cal = s.cal := rfl
@[simp] theorem updSeq_canvas (f s) : (updSeq f s).canvas = s.canvas := rfl
@[simp] theorem updSeq_trp (f s) : (updSeq f s).trp = s.trp := rfl
@[simp] theorem updSeq_power (f s) : (updSeq f s).power = { s.power with seq := f s.power.seq } := rfl
@[simp] theorem updSeq_rtc (f s) : (updSeq f s).rtc = s.rtc := rfl
@[simp] theorem updSeq_hostMem (f s) : (updSeq f s).hostMem = s.hostMem := rfl
@[simp] theorem updSeq_readData (f s) : (updSeq f s).readData = s.readData := rfl
@[simp] theorem updSeq_out (f s) : (updSeq f s).out = s.out := rfl

/-! ### Reading what was written -/

theorem getDie_updDie (d f j s) : getDie (updDie d f s) j = if j = d then f (getDie s d) else getDie s j := get_upd ..
theorem getQp_setQp (q x j s) : getQp (setQp q x s) j = if j = q then x else getQp s j := get_set ..
theorem getQp_updQp (q f j s) : getQp (updQp q f s) j = if j = q then f (getQp s q) else getQp s j := get_upd ..
theorem getFunc_updFunc (q f j s) : getFunc (updFunc q f s) j = if j = q then f (getFunc s q) else getFunc s j := get_upd ..
theorem getPart_updPart (q f j s) : getPart (updPart q f s) j = if j = q then f (getPart s q) else getPart s j := get_upd ..
theorem getTroupe_updTroupe (q f j s) : getTroupe (updTroupe q f s) j = if j = q then f (getTroupe s q) else getTroupe s j := get_upd ..
theorem getPerf_updPerf (q f j s) : getPerf (updPerf q f s) j = if j = q then f (getPerf s q) else getPerf s j := get_upd ..
theorem getGate_updGate (q f j s) : getGate (updGate q f s) j = if j = q then f (getGate s q) else getGate s j := get_upd ..
theorem getMov_updMov (q f j s) : getMov (updMov q f s) j = if j = q then f (getMov s q) else getMov s j := get_upd ..
theorem getTP_updTP (q f j s) : getTP (updTP q f s) j = if j = q then f (getTP s q) else getTP s j := get_upd ..
theorem getRPart_updRPart (q f j s) : getRPart (updRPart q f s) j = if j = q then f (getRPart s q) else getRPart s j := get_upd ..
theorem getVPart_updVPart (q f j s) : getVPart (updVPart q f s) j = if j = q then f (getVPart s q) else getVPart s j := get_upd ..

end Sys2Proof.Laws
end

