-- ==== Sys2Proof/Laws/Frame.lean ====
section
/-!
SUPPORT. Everything the operations all commands share may touch, said once each: a completion's delivery (R73 to R80, R154 to
R158) and a gate's check (R388 to R399).
-/
namespace Sys2Proof.Laws
open Sys2Proof.Machine Sys2Proof.Safety

/-! ### Gates -/

/-- A gate's check changes at most the gate's violation registers, the debug port's, Canvas's alarms and Calliope's inbox. -/
theorem debugViolation_keeps (info a) (s : State) : let u := debugViolation info a s
    u = { s with dbg := u.dbg, canvas := u.canvas } := by
  simp only [debugViolation]
  split <;> rfl

theorem denied_keeps (c g host a y d) (s : State) : let u := denied c g host a y d s
    u = { s with gates := u.gates, dbg := u.dbg, canvas := u.canvas, cal := u.cal } := by
  simp only [denied]
  split
  · rw [debugViolation_keeps]; rfl
  · rfl

theorem gateAccess_keeps (c host a n t) (s : State) : let u := (gateAccess c host a n t s).2
    u = { s with gates := u.gates, dbg := u.dbg, canvas := u.canvas, cal := u.cal } := by
  simp only [gateAccess]
  split
  · rfl
  · split
    · rfl
    · split
      · rfl
      · exact denied_keeps ..

/-- An access that passes leaves the state as it is. -/
theorem gateAccess_pass (c host a n t) (s : State) (h : (gateAccess c host a n t s).1 = true) : (gateAccess c host a n t s).2 = s := by
  simp only [gateAccess] at h ⊢
  split at h
  · simp at h
  · split at h
    · simp at h
    · rename_i hg
      split at h
      · rename_i hd
        simp [hg]
      · simp at h

/-! ### Delivery -/

/-- `t` is `s` but for what the delivery of completions writes: functions' MSI-X and logs, queue pairs, partitions' peaks, flows,
commands and releases, Carousel counts, the trace and what a denied write of it leaves at its gate, Calliope's inbox, host memory
(whose form it keeps) and messages sent. -/
structure Delivered (s t : State) : Prop where
  frame : t = { s with
    funcs := t.funcs, queues := t.queues, parts := t.parts, flows := t.flows, items := t.items, releaseQ := t.releaseQ, jug := t.jug
    trace := t.trace, cal := t.cal, hostMem := t.hostMem, out := t.out, gates := t.gates, dbg := t.dbg, canvas := t.canvas }
  canonical : Memory.wf s.hostMem = true → Memory.wf t.hostMem = true

theorem Delivered.refl (s : State) : Delivered s s := ⟨rfl, id⟩

theorem Delivered.trans {s t u : State} (h : Delivered s t) (g : Delivered t u) : Delivered s u :=
  ⟨g.frame.trans (by rw [h.frame]), fun w => g.canonical (h.canonical w)⟩

theorem Delivered.ite {s a b : State} (c : Prop) [Decidable c] (ha : Delivered s a) (hb : Delivered s b) :
    Delivered s (if c then a else b) := by
  split
  · exact ha
  · exact hb

theorem delivered_fold {α : Type} (f : State → α → State) (h : ∀ s x, Delivered s (f s x)) (l : List α) :
    ∀ s, Delivered s (l.foldl f s) := by
  induction l with
  | nil => exact Delivered.refl
  | cons x r ih => exact fun s => (h s x).trans (ih _)

theorem delivered_updQp (q f s) : Delivered s (updQp q f s) := ⟨rfl, id⟩
theorem delivered_setQp (q x s) : Delivered s (setQp q x s) := ⟨rfl, id⟩
theorem delivered_calEvent (c p u a s) : Delivered s (calEvent c p u a s) := ⟨rfl, id⟩
theorem delivered_calSample (q p v s) : Delivered s (calSample q p v s) := ⟨rfl, id⟩
theorem delivered_calCount (k p s) : Delivered s (calCount k p s) := ⟨rfl, id⟩
theorem delivered_updItem (i f s) : Delivered s (updItem i f s) := ⟨rfl, id⟩
theorem delivered_updFlow (p n f s) : Delivered s (updFlow p n f s) := ⟨rfl, id⟩
theorem delivered_updPart (p f s) : Delivered s (updPart p f s) := ⟨rfl, id⟩
theorem delivered_updFunc (n f s) : Delivered s (updFunc n f s) := ⟨rfl, id⟩
theorem delivered_emit (e s) : Delivered s (emit e s) := ⟨rfl, id⟩

theorem delivered_sendMsix (fn v s) : Delivered s (sendMsix fn v s) := by
  unfold sendMsix
  exact .ite _ (.ite _ (delivered_updFunc ..) (.ite _ (delivered_emit ..) (.refl _))) (.refl _)

theorem delivered_vec0 (fn s) : Delivered s (vec0 fn s) := delivered_sendMsix ..

theorem delivered_hostWrite (fn o a b rx ns ep s) : Delivered s (hostWrite fn o a b rx ns ep s) := by
  refine ⟨?_, hostWrite_wf fn o a b rx ns ep s⟩
  unfold hostWrite logWrite
  split <;> rfl

theorem delivered_qpNotice (q b s) : Delivered s (qpNotice q b s) := by
  unfold qpNotice
  exact .ite _ (.refl _) (.ite _ ((delivered_setQp ..).trans (delivered_vec0 ..)) (delivered_setQp ..))

theorem delivered_qpErr (q b s) : Delivered s (qpErr q b s) := by
  unfold qpErr
  exact .ite _ (.refl _) (((delivered_setQp ..).trans (delivered_vec0 ..)).trans (delivered_calEvent ..))

theorem delivered_touchQp (q f s) : Delivered s (touchQp q f s) :=
  (delivered_setQp ..).trans (delivered_fold _ (fun _ _ => delivered_qpNotice ..) _ _)

theorem delivered_cqMessage (q s) : Delivered s (cqMessage q s) := by
  unfold cqMessage
  exact .ite _ ((delivered_setQp ..).trans (delivered_sendMsix ..)) (.refl _)

theorem delivered_drainEnd (q s) : Delivered s (drainEnd q s) := by
  unfold drainEnd
  extract_lets t
  have h : Delivered s t := delivered_updQp ..
  clear_value t
  exact .ite _ h (h.trans (delivered_updQp ..))

theorem delivered_traceWrite (e s) : Delivered s (traceWrite e s) := by
  unfold traceWrite
  refine .ite _ ⟨rfl, id⟩ ?_
  have h := gateAccess_keeps 8 false (0x1130000000 + 16 * s.trace.wrIndex.toNat) 16 1 s
  simp only at h
  generalize gateAccess 8 false (0x1130000000 + 16 * s.trace.wrIndex.toNat) 16 1 s = r at h
  constructor
  · simp only; rw [h]
  · simp only; rw [h]; exact id

theorem delivered_traceMark (s) : Delivered s (traceMark s) := by
  unfold traceMark
  extract_lets m t
  have h : Delivered s t := delivered_traceWrite ..
  clear_value t
  exact .ite _ (.refl _) (h.trans ⟨rfl, id⟩)

/-- An event observed on the control die goes to the trace. -/
theorem delivered_traceItem (ty u i s) : Delivered s (traceItem ty u 7 i s) := by
  unfold traceItem traceRaw
  refine .ite _ ?_ (.refl _)
  exact (delivered_traceMark s).trans (delivered_traceWrite ..)

theorem delivered_cqWrite (q r e s) : Delivered s (cqWrite q r e s) := by
  unfold cqWrite
  extract_lets x p a s1 w s2 s3
  have h1 : Delivered s s1 := delivered_hostWrite ..
  have h2 : Delivered s1 s2 := delivered_touchQp ..
  have h3 : Delivered s2 s3 := delivered_calSample ..
  have h := (h1.trans h2).trans h3
  clear_value s3
  exact .ite _ (h.trans (delivered_cqMessage ..)) h

theorem delivered_countEntry (i st s) : Delivered s (countEntry i st s) := by
  unfold countEntry
  refine .ite _ (.trans (delivered_calCount 3 i.part s) (delivered_calEvent ..)) ?_
  extract_lets s1 s2
  have h1 : Delivered s s1 := delivered_calCount ..
  have h2 : Delivered s s2 := .trans (h1.trans (delivered_calCount 4 i.part s1)) (delivered_calEvent ..)
  exact .ite _ (h1.trans (delivered_calCount ..)) (.ite _ (h2.trans (delivered_calCount ..)) h2)

theorem delivered_writeEntry (i o p s) : Delivered s (writeEntry i o p s) := by
  unfold writeEntry
  extract_lets s1
  have h : Delivered s s1 := delivered_countEntry ..
  clear_value s1
  split
  · exact h.trans (by unfold rslotWrite; exact delivered_updQp ..)
  · exact h.trans (delivered_cqWrite ..)

theorem delivered_poisonRelease (i s) : Delivered s (poisonRelease i s) := by
  unfold poisonRelease
  refine .ite _ ?_ (.refl _)
  extract_lets s1
  have h : Delivered s s1 := delivered_updQp ..
  exact (h.trans (delivered_qpNotice i.qp 5 s1)).trans (delivered_calEvent ..)

theorem delivered_endItem (i s) : Delivered s (endItem i s) := by
  unfold endItem
  simp only
  refine .trans ?_ (delivered_drainEnd ..)
  refine .ite _ (.trans ?_ (delivered_updFlow ..)) ⟨rfl, id⟩
  exact ⟨rfl, id⟩

theorem delivered_writeRelease (id s) : Delivered s (writeRelease id s) := by
  unfold writeRelease
  split
  · exact .refl _
  · split
    · exact .refl _
    · rename_i i _ _ o _
      refine .ite _ (delivered_endItem ..) ?_
      extract_lets s1 s2
      have h1 : Delivered s s1 := delivered_writeEntry ..
      have h2 : Delivered s1 s2 := delivered_traceItem ..
      exact ((h1.trans h2).trans (delivered_poisonRelease i s2)).trans (delivered_endItem ..)

theorem delivered_flushReleases (l) : ∀ s, Delivered s (flushReleases l s) := by
  induction l with
  | nil => exact fun s => ⟨rfl, id⟩
  | cons n r ih => exact fun s => (delivered_writeRelease n s).trans (ih _)

theorem delivered_releaseSamples (i s) : Delivered s (releaseSamples i s) := by
  unfold releaseSamples
  extract_lets w t
  have h : Delivered s t := .ite _ (delivered_calSample ..) (.refl _)
  exact .ite _ (h.trans (delivered_calSample ..)) h

theorem delivered_release (i s) : Delivered s (release i s) := (delivered_releaseSamples i s).trans ⟨rfl, id⟩

theorem delivered_notePeak (p c s) : Delivered s (notePeak p c s) := by
  unfold notePeak
  split
  · exact .refl _
  · exact delivered_updPart ..

theorem delivered_defer (h s) : Delivered s (defer h s) := by
  unfold defer
  extract_lets s1 s2 s3
  have h1 : Delivered s s1 := delivered_flushReleases ..
  have h2 : Delivered s1 s2 := delivered_writeEntry ..
  have h3 : Delivered s2 s3 := delivered_traceItem ..
  exact ((h1.trans h2).trans h3).trans ⟨rfl, id⟩

theorem delivered_blockDeferral (h s) : Delivered s (blockDeferral h s) := by
  unfold blockDeferral
  refine .ite _ (.refl _) (.trans ?_ (delivered_calEvent ..))
  exact .trans (t := { s with jug := { s.jug with blockedCnt := s.jug.blockedCnt + 1 } }) ⟨rfl, id⟩ (delivered_updFlow ..)

theorem delivered_carouselLoop (n p f) : ∀ s, Delivered s (carouselLoop n p f s) := by
  induction n with
  | zero => exact Delivered.refl
  | succ n ih =>
    intro s
    unfold carouselLoop
    split
    · exact .refl _
    · rename_i h _
      extract_lets s1 t s2 hold s3
      have h0 : Delivered s (notePeak p (getFlow s p f) s) := delivered_notePeak ..
      have h1 : Delivered s s1 := h0.trans (delivered_release h _)
      have h2 : Delivered s s2 := delivered_updFlow ..
      have h2' : Delivered s2 (notePeak p (getFlow s2 p f) s2) := delivered_notePeak ..
      have h3 : Delivered s2 s3 := h2'.trans (delivered_defer h _)
      clear_value s1 s2 s3
      refine .ite _ (.trans (h1.trans (delivered_updFlow ..)) (ih _)) (.ite _ (.ite _ (.ite _ ?_ ?_) h2) (.refl _))
      · exact .trans ((h2.trans h3).trans (delivered_updFlow ..)) (ih _)
      · exact h2.trans (delivered_blockDeferral ..)

theorem delivered_settleFlow (p f s) : Delivered s (settleFlow p f s) := delivered_carouselLoop ..

/-- What an outcome's arrival at the Carousel may touch. -/
theorem delivered_outcomeArrives (id o s) : Delivered s (outcomeArrives id o s) := by
  unfold outcomeArrives
  split
  · exact .refl _
  · extract_lets i s1
    have h : Delivered s s1 := delivered_updItem ..
    exact .ite _ (h.trans (delivered_endItem ..)) (.ite _ (h.trans (delivered_settleFlow ..)) (h.trans (delivered_release ..)))

/-- What a command's end may touch. -/
theorem delivered_finish (id st d h s) : Delivered s (finish id st d h s) := delivered_outcomeArrives ..

theorem delivered_refuse (id st c s) : Delivered s (refuse id st c s) := delivered_finish ..
theorem delivered_done (id d s) : Delivered s (Machine.done id d s) := delivered_finish ..

theorem Delivered.sameDevice {s t : State} (h : Delivered s t) : SameDevice s t := by
  rw [h.frame]
  exact ⟨rfl, rfl, rfl, rfl, rfl, rfl, rfl, rfl, rfl, rfl, rfl, rfl, rfl, rfl, rfl, rfl, rfl⟩

end Sys2Proof.Laws
end

