-- ==== Sys2Proof/Laws/Seat.lean ====
section
/-!
SUPPORT. What an instruction does to its seat, said once: the wrapper of every instruction, its five outcomes, and what
a retired instruction leaves alone.
-/
namespace Sys2Proof.Laws
open Sys2Proof.Machine Sys2Proof.Safety

/-! ### Reading and writing seats -/

@[simp] theorem getSeat_touchLine (k j : Nat) (s : State) : getSeat (touchLine k s) j = getSeat s j := rfl
@[simp] theorem run_touchLine (k j : Nat) (s : State) : run (touchLine k s) j = run s j := rfl
@[simp] theorem getSeat_noteInstr (k o : Nat) (io : Regs) (j : Nat) (s : State) : getSeat (noteInstr k o io s) j = getSeat s j := rfl
@[simp] theorem getSeat_issuing (k o : Nat) (io : Regs) (j : Nat) (s : State) : getSeat (issuing k o io s) j = getSeat s j := rfl
@[simp] theorem run_issuing (k o : Nat) (io : Regs) (j : Nat) (s : State) : run (issuing k o io s) j = run s j := rfl
@[simp] theorem getSeat_countIssue (k j : Nat) (s : State) : getSeat (countIssue k s) j = getSeat s j := rfl

theorem getSeat_setSeat (k j : Nat) (x : Seat) (s : State) : getSeat (setSeat k x s) j = if j = k then x else getSeat s j :=
  get_set dSeat s.seats k x j

theorem getSeat_updSeat (k j : Nat) (f : Seat → Seat) (s : State) :
    getSeat (updSeat k f s) j = if j = k then f (getSeat s k) else getSeat s j := getSeat_setSeat ..

theorem getSeat_setRun (k j : Nat) (x : SeatRun) (s : State) :
    getSeat (setRun k x s) j = if j = k then { getSeat s k with x := x } else getSeat s j := getSeat_updSeat ..

/-! ### The instruction wrapper (R175, R204, R205, R225) -/

/-- A seat that issues runs the body of its instruction on its own run state. -/
theorem seatInstr_issues (k opc : Nat) (io : Regs) (body : SeatRun → State → State) (s : State) (h : Issues k s) :
    seatInstr k opc io body s = body (run s k) (issuing k opc io s) := by
  obtain ⟨h1, h2, h3, h4, h5, h6, h7⟩ := h
  have h6' : parityDue (getSeat s k).x = false := h6
  have h3' : (getSeat s k).x.ops.any (fun o => o.try_ || o.sync) = false := h3
  simp only [seatInstr]
  rw [if_neg (by simp [h1, h2, h3']), if_neg (by simp [h4]), if_neg (by simp [h5]), if_neg (by simp [h6']), if_neg h7]
  rfl

/-- A seat that does not run a custom routine, or whose instruction before is not done, does nothing. -/
theorem seatInstr_idle (k opc : Nat) (io : Regs) (body : SeatRun → State → State) (s : State)
    (h : ¬ (seatRuns s k = true ∧ custom s k = true)) : seatInstr k opc io body s = s := if_pos (.inl h)

/-- A seat whose line is absent has it fetched. -/
theorem seatInstr_miss (k opc : Nat) (io : Regs) (body : SeatRun → State → State) (s : State) (h1 : seatRuns s k = true)
    (h2 : custom s k = true) (h3 : (run s k).ops.any (fun o => o.try_ || o.sync) = false) (h4 : lineHere s k = false) :
    seatInstr k opc io body s = missLine k s := by
  have h3' : (getSeat s k).x.ops.any (fun o => o.try_ || o.sync) = false := h3
  simp only [seatInstr]
  rw [if_neg (by simp [h1, h2, h3']), if_pos (by simp [h4])]

theorem onSeat_issues (k opc : Nat) (io : Regs) (body : SeatRun → IRes) (s : State) (h : Issues k s) :
    onSeat k opc io body s = applyIRes k opc (body (run s k)) (issuing k opc io s) := seatInstr_issues _ _ _ _ _ h

/-- The four outcomes of an instruction on its seat that its own operands decide. -/
theorem onSeat_ok {k opc : Nat} {io : Regs} {body : SeatRun → IRes} {s : State} {y : SeatRun} (h : Issues k s)
    (hb : body (run s k) = .ok y) : onSeat k opc io body s = retired k opc io ((run s k).pc + 1) y s := by
  rw [onSeat_issues _ _ _ _ _ h, hb]; rfl

theorem onSeat_goto {k opc pc : Nat} {io : Regs} {body : SeatRun → IRes} {s : State} {y : SeatRun} (h : Issues k s)
    (hb : body (run s k) = .goto y pc) : onSeat k opc io body s = retired k opc io pc y s := by
  rw [onSeat_issues _ _ _ _ _ h, hb]; rfl

theorem onSeat_fault {k opc c r : Nat} {io : Regs} {body : SeatRun → IRes} {s : State} (h : Issues k s)
    (hb : body (run s k) = .fault c r) : onSeat k opc io body s = faulted k c opc io r s := by
  rw [onSeat_issues _ _ _ _ _ h, hb]; rfl

theorem onSeat_stall {k opc c : Nat} {io : Regs} {body : SeatRun → IRes} {s : State} {u : Uses} (h : Issues k s)
    (hb : body (run s k) = .stall u c) :
    onSeat k opc io body s = setRun k (waitFor u c (run s k)) (issuing k opc io s) := by
  rw [onSeat_issues _ _ _ _ _ h, hb]; rfl

/-- The first three, for the answer of exec. -/
theorem next_ok {k opc : Nat} {io : Regs} {body : SeatRun → IRes} {s : State} {y : SeatRun} (h : Issues k s)
    (e : body (run s k) = .ok y) :
    (Host.Outcome.next (onSeat k opc io body s) : Res) = .next (retired k opc io ((run s k).pc + 1) y s) :=
  congrArg _ (onSeat_ok h e)

theorem next_goto {k opc pc : Nat} {io : Regs} {body : SeatRun → IRes} {s : State} {y : SeatRun} (h : Issues k s)
    (e : body (run s k) = .goto y pc) :
    (Host.Outcome.next (onSeat k opc io body s) : Res) = .next (retired k opc io pc y s) := congrArg _ (onSeat_goto h e)

theorem next_fault {k opc c r : Nat} {io : Regs} {body : SeatRun → IRes} {s : State} (h : Issues k s)
    (e : body (run s k) = .fault c r) :
    (Host.Outcome.next (onSeat k opc io body s) : Res) = .next (faulted k c opc io r s) := congrArg _ (onSeat_fault h e)

/-- Without a hazard an instruction's guarded body runs. -/
theorem guarded_clear (u : Uses) (x : SeatRun) (r : IRes) (h : Clear u x) : guarded u x r = r := by
  simp only [guarded, h.1, h.2]

theorem guardedS_clear (k : Nat) (u : Uses) (x : SeatRun) (s : State) (body : State → State) (h : Clear u x) :
    guardedS k u x s body = body s := by
  simp only [guardedS, h.1, h.2]

/-! ### A retired instruction (R202, R214) -/

/-- Within its routine, a retired instruction changes its own seat's run state and its performer's issue counts, and no
other part of the state. -/
theorem advance_within (k pc : Nat) (y : SeatRun) (s : State) (h : (goTo pc y).pc < (getSeat s k).len) :
    advance k pc y s = setRun k (goTo pc y) s := by
  have : ¬ (getSeat (setRun k (goTo pc y) s) k).len ≤ (goTo pc y).pc := by
    rw [getSeat_setRun, if_pos rfl]
    exact Nat.not_le.2 h
  simp only [advance, this, if_false]

theorem commit_within (k pc : Nat) (y : SeatRun) (s : State) (h : (goTo pc y).pc < (getSeat s k).len) :
    commit k pc y s = setRun k (goTo pc y) (countIssue k s) := advance_within k pc y (countIssue k s) h

end Sys2Proof.Laws
end

