-- ==== Sys2Proof/Laws/Library.lean ====
section
/-!
SUPPORT. What a library service is made of, said once: its start, its checks, its keys, and its end (R239 to R246).
-/
namespace Sys2Proof.Laws
open Sys2Proof.Machine Sys2Proof.Safety

/-! ### Commands -/

theorem find_mapItem (f : Item → Item) (hf : ∀ i, (f i).id = i.id) (id j : Nat) (l : List Item) :
    (mapItem j f l).find? (fun i => i.id == id) =
      (l.find? (fun i => i.id == id)).map fun i => if id = j then f i else i := by
  induction l with
  | nil => rfl
  | cons a r ih =>
    simp only [mapItem, List.map_cons, List.find?_cons] at *
    have h1 : (if a.id = j then f a else a).id = a.id := by split <;> simp [hf]
    rw [h1]
    by_cases ha : a.id = id
    · simp [ha]
    · simpa [beq_false_of_ne ha] using ih

theorem getItem_updItem (f : Item → Item) (hf : ∀ i, (f i).id = i.id) (id j : Nat) (s : State) :
    getItem (updItem j f s) id = (getItem s id).map fun i => if id = j then f i else i := find_mapItem f hf id j s.items

theorem wing_mapItem (f : Item → Item) (j k : Nat) (hf : ∀ i, (f i).place ≠ .wing k) (l : List Item)
    (h : l.find? (fun i => i.place == .wing k) = none) : (mapItem j f l).find? (fun i => i.place == .wing k) = none := by
  simp only [List.find?_eq_none, mapItem, List.mem_map, forall_exists_index, and_imp, forall_apply_eq_imp_iff₂] at *
  intro i hi
  split
  · simpa using hf i
  · exact h i hi

/-! ### The end of a routine (R200) -/

/-- Releasing pins changes nothing but the key caches. -/
theorem unpins_keep (d : Nat) (l : List Nat) (s : State) : ∃ x, l.foldl (fun s e => unpin d e s) s = { s with dies := x } := by
  revert s
  induction l with
  | nil => exact fun s => ⟨s.dies, rfl⟩
  | cons e r ih => exact fun s => let ⟨x, hx⟩ := ih (unpin d e s); ⟨x, hx⟩

/-- Closing the k registers changes nothing but the key caches. -/
theorem releaseKeys_keeps (k : Nat) (s : State) : releaseKeys k s = { s with dies := (releaseKeys k s).dies } := by
  obtain ⟨d, hd⟩ := unpins_keep (dieOfSeat k) (heldPins (getSeat s k).x) s
  rw [show releaseKeys k s = _ from hd]

/-- Replaced generations of routines go from the store only. -/
theorem pruneOld_keeps (s : State) : pruneOld s = { s with routines := (pruneOld s).routines } := by
  unfold pruneOld
  split <;> rfl

/-- A routine that leaves its seat: its command returns with the outcome, its seat is at its start state, every other seat
and host memory are as before. -/
theorem leaveSeat_ends (k : Nat) (o : Outcome) (i : Item) (s : State) (h : AtEnd k i s) :
    getItem (leaveSeat k o s) i.id = some { i with place := .returning (dieOfSeat k), outcome := some o } ∧
    getSeat (leaveSeat k o s) k = clearedSeat (getSeat s k) ∧
    (∀ j, j ≠ k → getSeat (leaveSeat k o s) j = getSeat s j) ∧ (leaveSeat k o s).hostMem = s.hostMem := by
  obtain ⟨h1, h2, _, h4, h5⟩ := h
  have key : ∀ t : State, t.seats = Tab.upd dSeat s.seats k clearedSeat →
      t.items = mapItem i.id (fun i => { i with place := .returning (dieOfSeat k), outcome := some o }) s.items →
      t.hostMem = s.hostMem → startSeat k (resumeZero k t) = t ∧
      getItem t i.id = some { i with place := .returning (dieOfSeat k), outcome := some o } ∧
      getSeat t k = clearedSeat (getSeat s k) ∧ (∀ j, j ≠ k → getSeat t j = getSeat s j) ∧ t.hostMem = s.hostMem := by
    intro t hs hi hm
    have hg : ∀ j, getSeat t j = if j = k then clearedSeat (getSeat s k) else getSeat s j := by
      intro j
      rw [getSeat, hs]
      exact get_upd ..
    have hz : resumeZero k t = t := by
      have : (getSeat t (k - 1)).suspended = false := by
        rw [hg]; split
        · rfl
        · exact h5
      simp [resumeZero, this]
    have hw : wingItem t k = none := by
      rw [wingItem, hi]
      exact wing_mapItem _ _ _ (by intro i; simp) _ h4
    refine ⟨by simp [hz, startSeat, hw], ?_, by rw [hg, if_pos rfl], fun j hj => by rw [hg, if_neg hj], hm⟩
    rw [getItem, hi]
    have := find_mapItem (fun i => { i with place := .returning (dieOfSeat k), outcome := some o }) (by intro; rfl) i.id i.id s.items
    rw [this, show List.find? _ s.items = some i from h2]
    simp
  simp only [leaveSeat, h1]
  rw [pruneOld_keeps, releaseKeys_keeps]
  generalize ht : ({ updSeat k clearedSeat _ with routines := _ } : State) = t
  have hs : t.seats = Tab.upd dSeat s.seats k clearedSeat := by rw [← ht]; rfl
  have hi : t.items = mapItem i.id (fun i => { i with place := .returning (dieOfSeat k), outcome := some o }) s.items := by
    rw [← ht]; rfl
  have hm : t.hostMem = s.hostMem := by rw [← ht]; rfl
  obtain ⟨e, r⟩ := key t hs hi hm
  rw [e]; exact r

/-- The free counts of a library routine stand in its performer. -/
theorem libCounts_keeps (k : Nat) (s : State) : ∃ p n, libCounts k s = { s with performers := p, freeCtr := n } := ⟨_, _, rfl⟩

/-- A library routine that ends with END. -/
theorem libEnd_ends (k : Nat) (i : Item) (st : Byte) (d : Bytes) (hb : Bool) (s : State) (h : AtEnd k i s) :
    LibEnded k i st d hb (libEnd k st d hb s) ∧ (libEnd k st d hb s).hostMem = s.hostMem := by
  simp only [libEnd]
  obtain ⟨p, n, e⟩ := libCounts_keeps k s
  rw [e]
  generalize ht : ({ s with performers := p, freeCtr := n } : State) = t
  have hc : AtEnd k i t := by rw [← ht]; exact h
  have hm : t.hostMem = s.hostMem := by rw [← ht]
  have ho : (getSeat t k).x.ops = [] := hc.2.2.1
  obtain ⟨e1, e2, _, e4⟩ := leaveSeat_ends k { status := st, data := fit 16 d, hostBuf := hb } i t hc
  simp only [endWith, ho, if_true, ← hm]
  exact ⟨⟨e1, by rw [e2]; rfl⟩, e4⟩

/-- A routine that reaches END with operations outstanding waits for them (R200). -/
theorem libEnd_waits (k : Nat) (i : Item) (st : Byte) (d : Bytes) (hb : Bool) (s : State) (h : (run s k).ops ≠ [])
    (hr : (getSeat s k).run = some i.id) (hi : getItem s i.id = some i) :
    LibEnding k i ((run s k).ops.map PendOp.unit) st d hb (libEnd k st d hb s) ∧ (libEnd k st d hb s).hostMem = s.hostMem := by
  simp only [libEnd]
  obtain ⟨p, n, e⟩ := libCounts_keeps k s
  rw [e]
  have ho : ¬ (getSeat { s with performers := p, freeCtr := n } k).x.ops = [] := h
  simp only [endWith, ho, if_false]
  refine ⟨?_, rfl⟩
  simp only [LibEnding, run, getSeat_updSeat, if_true]
  exact ⟨trivial, trivial, rfl, hr, hi⟩

/-- A seat that waits for a routine's operations is not one that waits for room. -/
theorem unlessStalled_ran (k : Nat) (s t : State) (h : (run t k).wait ≠ 5) : unlessStalled k s t = t := if_neg h

/-! ### Start, checks and keys -/

/-- A library routine at its first instruction runs its body on its command. -/
theorem onLib_runs (k r : Nat) (i : Item) (body : Item → State → State) (s : State) (h : LibRuns k r i s) :
    onLib k r body s = unlessStalled k s (body i (libBegins k s)) := by
  obtain ⟨_, h1, h2, h3, h4, h5, h6, h7, h8⟩ := h
  have h3' : (getSeat s k).x.instrs = 0 := h3
  have h4' : (getSeat s k).x.pc = 0 := h4
  have h8' : (getSeat s k).x.parityAt = none := h8
  simp only [onLib]
  rw [if_pos ⟨h1, h2, h3', h4'⟩, if_neg (by simp [h6]), if_neg (by simp [h7]), if_neg (by simp [h8']), h5]
  rfl

/-- A seat's run state but for what it waits for. -/
theorem getSeat_libBegins (k j : Nat) (s : State) : getSeat (libBegins k s) j =
    if j = k then { getSeat s k with x := { run s k with wait := 0, waitQ := none, waitRnd := none } } else getSeat s j :=
  getSeat_setRun ..

/-- A command whose fields pass every check goes on to the service's body. -/
theorem libChecks_pass (k : Nat) (l : List OpCheck) (s : State) (body : State → State) (h : ∀ c ∈ l, c.ok = true) :
    libChecks k l s body = body s := by
  induction l with
  | nil => rfl
  | cons c r ih => simp [libChecks, h c (by simp), ih (fun c hc => h c (by simp [hc]))]

/-- A reference in the die's cache at a current generation opens at once. -/
theorem libKey_has (k off : Nat) (i : Item) (h : Handle) (m : Bytes) (s : State) (body : Handle → CacheEntry → State → State)
    (hk : HasKey k off i h m s) :
    libKey k (opRef i off) s body = body h (getEntry s (dieOfSeat k) h.entry) (afterOpen k off i s) ∧
    (getEntry s (dieOfSeat k) h.entry).material = m := by
  obtain ⟨_, h2, h3, e, h4, rfl, rfl, h7⟩ := hk
  refine ⟨?_, rfl⟩
  simp only [libKey, h2, h3, h4, afterOpen, not_true_eq_false, ne_eq, or_self, if_false]
  rw [if_neg (by simpa using h7)]
  rfl

/-- What an opened reference leaves alone. -/
theorem afterOpen_keeps (k off : Nat) (i : Item) (s : State) :
    ∃ d r, afterOpen k off i s = { s with dies := d, dir := r } ∧ r.parts = s.dir.parts ∧ r.nextIdx = s.dir.nextIdx := by
  simp only [afterOpen]
  split
  · exact ⟨s.dies, s.dir, rfl, rfl, rfl⟩
  · simp only [dirOpened]
    split
    · exact ⟨_, _, rfl, rfl, rfl⟩
    · exact ⟨_, _, rfl, rfl, rfl⟩

theorem atEnd_afterOpen {k : Nat} {i : Item} {s : State} (h : AtEnd k i s) (j off : Nat) (c : Item) :
    AtEnd k i (Safety.afterOpen j off c s) := by
  obtain ⟨d, r, e, _⟩ := afterOpen_keeps j off c s
  rw [e]; exact h

theorem atEnd_libBegins {k : Nat} {i : Item} {s : State} (h : AtEnd k i s) : AtEnd k i (libBegins k s) := by
  obtain ⟨h1, h2, h3, h4, h5⟩ := h
  refine ⟨?_, h2, ?_, h4, ?_⟩
  · rw [getSeat_libBegins, if_pos rfl]; exact h1
  · rw [run, getSeat_libBegins, if_pos rfl]; exact h3
  · rw [getSeat_libBegins]
    split
    · rename_i hk; rw [hk] at h5; exact h5
    · exact h5

end Sys2Proof.Laws
end

