-- ==== Sys2Proof/Laws/Routine.lean ====
section
/-!
SUPPORT. Everything a routine's instruction or a library service may touch, said once for each operation they share (R172,
R175, R200, R206, R239 to R246).
-/
namespace Sys2Proof.Laws
open Sys2Proof.Machine Sys2Proof.Safety

/-- `t` is `s` but for what a routine may write: what a delivery writes, and dies, seats, performers, troupes, the routine
store's clock, the key directory, units, gates, the debug port's violation registers, Canvas's alarms and free values. -/
structure Ran (s t : State) : Prop where
  frame : t = { s with
    funcs := t.funcs, queues := t.queues, parts := t.parts, flows := t.flows, items := t.items, releaseQ := t.releaseQ, jug := t.jug
    trace := t.trace, cal := t.cal, hostMem := t.hostMem, out := t.out, dies := t.dies, troupes := t.troupes, seats := t.seats
    performers := t.performers, routines := t.routines, freeCtr := t.freeCtr, writeCtr := t.writeCtr, dir := t.dir, units := t.units
    gates := t.gates, dbg := t.dbg, canvas := t.canvas }
  canonical : Memory.wf s.hostMem = true → Memory.wf t.hostMem = true

theorem Ran.refl (s : State) : Ran s s := ⟨rfl, id⟩

theorem Ran.trans {s t u : State} (h : Ran s t) (g : Ran t u) : Ran s u :=
  ⟨g.frame.trans (by rw [h.frame]), fun w => g.canonical (h.canonical w)⟩

theorem Ran.ite {s a b : State} (c : Prop) [Decidable c] (ha : Ran s a) (hb : Ran s b) : Ran s (if c then a else b) := by
  split
  · exact ha
  · exact hb

theorem Delivered.ran {s t : State} (h : Delivered s t) : Ran s t := ⟨by rw [h.frame], h.canonical⟩

theorem Ran.sameDevice {s t : State} (h : Ran s t) : SameDevice s t := by
  rw [h.frame]
  exact ⟨rfl, rfl, rfl, rfl, rfl, rfl, rfl, rfl, rfl, rfl, rfl, rfl, rfl, rfl, rfl, rfl, rfl⟩

/-! ### Updates -/

theorem ran_updDie (d f s) : Ran s (updDie d f s) := ⟨rfl, id⟩
theorem ran_updKc (d f s) : Ran s (updKc d f s) := ⟨rfl, id⟩
theorem ran_unpin (d e s) : Ran s (unpin d e s) := ⟨rfl, id⟩
theorem ran_updSeat (k f s) : Ran s (updSeat k f s) := ⟨rfl, id⟩
theorem ran_setSeat (k x s) : Ran s (setSeat k x s) := ⟨rfl, id⟩
theorem ran_setRun (k x s) : Ran s (setRun k x s) := ⟨rfl, id⟩
theorem ran_updPerf (n f s) : Ran s (updPerf n f s) := ⟨rfl, id⟩
theorem ran_updTroupe (t f s) : Ran s (updTroupe t f s) := ⟨rfl, id⟩
theorem ran_touchLine (k s) : Ran s (touchLine k s) := ⟨rfl, id⟩
theorem ran_calEventDie (d c p u a s) : Ran s (calEventDie d c p u a s) := ⟨rfl, id⟩
theorem ran_finish (id st d h s) : Ran s (finish id st d h s) := (delivered_finish ..).ran
theorem ran_dataWrite (fn o q a b s) : Ran s (dataWrite fn o q a b s) := by
  unfold dataWrite
  extract_lets d bad t
  have h : Ran s t := .ite _ (delivered_updFunc ..).ran (.refl _)
  have h1 : Ran t { t with writeCtr := t.writeCtr + 1 } := ⟨rfl, id⟩
  exact (h.trans h1).trans (delivered_hostWrite ..).ran
theorem ran_missLine (k s) : Ran s (missLine k s) := ran_updTroupe ..
theorem ran_dropLine (k s) : Ran s (dropLine k s) := ran_updTroupe ..

theorem ran_updUnit (u n f s) : Ran s (updUnit u n f s) := by
  unfold updUnit
  split <;> exact ⟨rfl, id⟩

theorem ran_updScu (d f s) : Ran s (updScu d f s) := ⟨rfl, id⟩

theorem ran_traceItem (ty u d i s) : Ran s (traceItem ty u d i s) := by
  unfold traceItem traceRaw
  refine .ite _ (.ite _ ((delivered_traceMark s).trans (delivered_traceWrite ..)).ran (.ite _ (ran_updDie ..) ⟨rfl, id⟩)) (.refl _)

theorem ran_gateAccess (c host a n t s) : Ran s (gateAccess c host a n t s).2 := by
  have h := gateAccess_keeps c host a n t s
  simp only at h
  constructor
  · rw [h]
  · rw [h]; exact id

/-! ### The start and the end of a routine -/

theorem ran_startSeat (k s) : Ran s (startSeat k s) := by
  unfold startSeat
  split
  · exact .refl _
  · split
    · exact ran_finish ..
    · rename_i i _ m _
      extract_lets s1 s2 s3
      have h1 : Ran s s1 := (delivered_calSample ..).ran.trans (delivered_updItem ..).ran
      have h2 : Ran s1 s2 := ran_updSeat ..
      have h3 : Ran s2 s3 := ran_updPerf ..
      exact ((h1.trans h2).trans h3).trans (ran_traceItem ..)

theorem ran_resumeZero (k s) : Ran s (resumeZero k s) := by
  unfold resumeZero
  refine .ite _ ?_ (.refl _)
  extract_lets s1
  have h1 : Ran s s1 := ran_updSeat ..
  clear_value s1
  split
  · exact h1.trans (ran_traceItem ..)
  · exact h1

theorem ran_releaseKeys (k s) : Ran s (releaseKeys k s) := by
  have h := releaseKeys_keeps k s
  constructor
  · rw [h]
  · rw [h]; exact id

theorem ran_pruneOld (s) : Ran s (pruneOld s) := by
  constructor
  · rw [pruneOld_keeps]
  · rw [pruneOld_keeps]; exact id

theorem ran_countBusy (k s) : Ran s (countBusy k s) := ran_updPerf ..

theorem ran_leaveSeat (k o s) : Ran s (leaveSeat k o s) := by
  unfold leaveSeat
  split
  · exact .refl _
  · extract_lets d s1 s2 s3
    have h1 : Ran s s1 := ⟨rfl, id⟩
    have h2 : Ran s1 s2 := ran_updDie ..
    have h3 : Ran s2 s3 := by
      refine ((ran_countBusy k s2).trans (ran_releaseKeys k _)).trans ?_
      exact (ran_updSeat k clearedSeat _).trans (ran_pruneOld _)
    have h := (h1.trans h2).trans h3
    clear_value s3
    exact (h.trans (ran_resumeZero k s3)).trans (ran_startSeat ..)

theorem ran_endWith (k ok o s) : Ran s (endWith k ok o s) := .ite _ (ran_leaveSeat ..) (ran_updSeat ..)

theorem ran_endRoutine (k o s) : Ran s (endRoutine k o s) := ran_endWith ..

theorem ran_seatFault (k c o pc r a s) : Ran s (seatFault k c o pc r a s) := by
  unfold seatFault
  extract_lets st rec s1 s2
  have h1 : Ran s s1 := ran_setSeat ..
  have h2 : Ran s1 s2 := ran_calEventDie ..
  exact (h1.trans h2).trans (ran_endRoutine ..)

/-- An instruction done. -/
theorem ran_advance (k pc x s) : Ran s (advance k pc x s) := by
  unfold advance
  extract_lets y s1
  have h1 : Ran s s1 := ran_setRun k y s
  have h2 : Ran s1 { s1 with freeCtr := s1.freeCtr + 1 } := ⟨rfl, id⟩
  exact .ite _ ((h1.trans h2).trans (ran_seatFault ..)) h1

theorem ran_commit (k pc x s) : Ran s (commit k pc x s) := (ran_updPerf _ _ s).trans (ran_advance ..)

theorem ran_applyIRes (k o r s) : Ran s (applyIRes k o r s) := by
  unfold applyIRes
  split
  · exact ran_commit ..
  · exact ran_commit ..
  · exact ran_seatFault ..
  · exact ran_seatFault ..
  · exact ran_setRun ..

/-- Every instruction, by its body. -/
theorem ran_seatInstr (k o io) (body : SeatRun → State → State) (s) (h : ∀ x t, Ran t (body x t)) :
    Ran s (seatInstr k o io body s) := by
  unfold seatInstr
  extract_lets x s1
  have h1 : Ran s s1 := (ran_touchLine k s).trans (ran_updPerf ..)
  refine .ite _ (.refl _) (.ite _ (ran_missLine ..) (.ite _ ((ran_dropLine k s).trans (ran_seatFault ..)) ?_))
  exact .ite _ (h1.trans (ran_seatFault ..)) (.ite _ (h1.trans (ran_seatFault ..)) (h1.trans (h _ _)))

/-- An instruction that touches nothing but its seat. -/
theorem ran_onSeat (k o io body s) : Ran s (onSeat k o io body s) := ran_seatInstr _ _ _ _ _ fun _ _ => ran_applyIRes ..

/-! ### Library services -/

theorem ran_libCounts (k s) : Ran s (libCounts k s) := by
  obtain ⟨p, n, e⟩ := libCounts_keeps k s
  rw [e]
  exact ⟨rfl, id⟩

theorem ran_libEnd (k st d h s) : Ran s (libEnd k st d h s) := (ran_libCounts k s).trans (ran_endWith ..)

theorem ran_libRefuse (k r o n s) : Ran s (libRefuse k r o n s) := ran_libEnd ..

theorem ran_libFault (k c s) : Ran s (libFault k c s) := by
  unfold libFault
  extract_lets w v s1
  have h1 : Ran s s1 := ⟨rfl, id⟩
  exact (h1.trans (ran_libCounts k s1)).trans (ran_seatFault ..)

/-- A row that leaves its seat waiting has no other effect. -/
theorem ran_unlessStalled (k s t) (h : Ran s t) : Ran s (unlessStalled k s t) := .ite _ (ran_setRun ..) h

/-- A library service, by its body. -/
theorem ran_onLib (k r) (body : Item → State → State) (s) (h : ∀ i t, Ran t (body i t)) : Ran s (onLib k r body s) := by
  unfold onLib
  extract_lets st
  refine .ite _ (.ite _ (ran_missLine ..) (.ite _ ((ran_dropLine k s).trans (ran_libFault ..))
    (.ite _ ((ran_touchLine k s).trans (ran_libFault ..)) ?_))) (.refl _)
  split
  · exact ran_unlessStalled _ _ _ (((ran_touchLine k s).trans (ran_setRun ..)).trans (h _ _))
  · exact .refl _

theorem ran_libChecks (k l s) (body : State → State) (h : ∀ t, Ran t (body t)) : Ran s (libChecks k l s body) := by
  induction l with
  | nil => exact h s
  | cons c r ih => exact .ite _ ih (ran_libRefuse ..)

end Sys2Proof.Laws
end

