-- ==== Sys2Proof/Laws/Service.lean ====
section
/-!
SUPPORT. What the shared steps of a service of the control cores do, said once each (R230, R336, R366, R378, R384, R465).
-/
namespace Sys2Proof.Laws
open Sys2Proof.Machine Sys2Proof.Safety

/-- A service that begins runs its body on its command. -/
theorem onService_serves {id r : Nat} {i : Item} {s : State} (h : Serves id r i s) (body : Item → State → State) :
    onService id r body s = body i s := by
  obtain ⟨h1, h2, h3, h4, hh, h5, h6, h7, hs, h8⟩ := h
  have role : ¬ (roleDependent r ∧ (¬ carriesOut s ∨ i.le 60 4 ≠ s.trp.epoch.toNat)) := by
    rintro ⟨hr, hn⟩
    obtain ⟨ha, he⟩ := h6 hr
    simp [carriesOut, ha, he] at hn
  have free : ¬ (serialWaits s i ∨ i.serialWait ∨ (cageService r ∧ s.trp.joining)) := by
    rintro (hw | hw | ⟨hc, hj⟩)
    · simp [h7] at hw
    · simp [hs] at hw
    · simp [h8 hc] at hj
  simp only [onService, h1]
  rw [if_neg (by simp [h2, h3, h4])]
  by_cases hp : pairOf r = 0
  · rw [if_pos hp] at h5
    rw [if_neg (by simp [hp, h5]), if_neg (by simp [hp, hh]), if_neg role, if_neg free]
  · rw [if_neg hp] at h5
    rw [if_neg (by simp [hp, h5.1]), if_neg (by simp [h5.2, hh]), if_neg role, if_neg free]

/-- Everything a service command can come to: nothing, HALTED, STALE_ROLE, or its body. -/
theorem onService_cases (id r : Nat) (body : Item → State → State) (s : State) :
    onService id r body s = s ∨ onService id r body s = finish id stHALTED [] false s ∨
    onService id r body s = finish id stSTALE_ROLE [] false s ∨
    ∃ i, getItem s id = some i ∧ i.place = .core ∧ i.routine = r ∧ i.phase = 0 ∧ onService id r body s = body i s := by
  unfold onService
  cases hi : getItem s id with
  | none => exact .inl rfl
  | some i =>
    by_cases h0 : i.place ≠ .core ∨ i.routine ≠ r ∨ i.phase ≠ 0
    · exact .inl (if_pos h0)
    · simp only [if_neg h0]
      by_cases h1 : (pairOf r = 0 ∧ s.boot.stop0) ∨ (pairOf r = 1 ∧ s.boot.stop1)
      · exact .inr (.inl (if_pos h1))
      · simp only [if_neg h1]
        by_cases h2 : ¬ s.boot.handover ∨ (pairOf r = 1 ∧ s.dbg.core1Halted)
        · exact .inl (if_pos h2)
        · simp only [if_neg h2]
          by_cases h3 : roleDependent r ∧ (¬ carriesOut s ∨ i.le 60 4 ≠ s.trp.epoch.toNat)
          · exact .inr (.inr (.inl (if_pos h3)))
          · simp only [if_neg h3]
            by_cases h4 : serialWaits s i ∨ i.serialWait ∨ (cageService r ∧ s.trp.joining)
            · exact .inl (if_pos h4)
            · simp only [not_or, Decidable.not_not] at h0
              exact .inr (.inr (.inr ⟨i, rfl, h0.1, h0.2.1, h0.2.2, if_neg h4⟩))

theorem withForm_inline {i : Item} (h : Inline i) (s : State) (body : State → State) : withForm i false s body = body s := if_pos h
theorem withForm_pointer {i : Item} (h : Pointer i) (s : State) (body : State → State) : withForm i true s body = body s := if_pos h
theorem withCage_ready {s : State} (h : s.vault.ready = true) (i : Item) (body : State → State) : withCage i s body = body s := if_pos h

/-- A command with no FLR since it was taken. -/
theorem itemMuted_get {s : State} {id : Nat} {i : Item} (hi : getItem s id = some i) (hm : i.mute = false) : itemMuted s id = false := by
  simp [itemMuted, hi, hm]

/-- The bytes of a list of requests. -/
def total : List (Nat × Nat) → Nat
  | [] => 0
  | e :: r => e.2 + total r

theorem passed_le (c : Nat) (host : Bool) (t : Nat) (l : List (Nat × Nat)) : ∀ s, (passed c host t l s).1 ≤ total l := by
  induction l with
  | nil => exact fun s => Nat.le_refl _
  | cons e r ih =>
    intro s
    simp only [passed, total]
    split
    · exact Nat.add_le_add_left (ih _) _
    · exact Nat.zero_le _

/-- Requests none of which is empty that all pass leave the state as it is. -/
theorem passed_all (c : Nat) (host : Bool) (t : Nat) (l : List (Nat × Nat)) : ∀ s, (∀ e ∈ l, 0 < e.2) →
    (passed c host t l s).1 = total l → (passed c host t l s).2 = s := by
  induction l with
  | nil => intro s _ _; rfl
  | cons e r ih =>
    intro s hp h
    simp only [passed, total] at h ⊢
    split at h
    · rename_i ok
      rw [if_pos ok]
      rw [gateAccess_pass c host e.1 e.2 t s ok] at h ⊢
      exact ih s (fun x hx => hp x (List.mem_cons_of_mem _ hx)) (Nat.add_left_cancel h)
    · have := hp e (List.mem_cons_self ..)
      omega

theorem requests_pos (u : Nat) (hu : 0 < u) (k : Nat) : ∀ a n, ∀ e ∈ requests u k a n, 0 < e.2 := by
  induction k with
  | zero => intro a n e h; simp [requests] at h
  | succ k ih =>
    intro a n e h
    simp only [requests] at h
    split at h
    · simp at h
    · rename_i hn
      have := Nat.mod_lt a hu
      rcases List.mem_cons.1 h with rfl | h
      · show 0 < min n (u - a % u)
        omega
      · exact ih _ _ e h

theorem requests_le (u : Nat) (k : Nat) : ∀ a n, total (requests u k a n) ≤ n := by
  induction k with
  | zero => exact fun a n => Nat.zero_le n
  | succ k ih =>
    intro a n
    simp only [requests]
    split
    · exact Nat.zero_le n
    · show min n (u - a % u) + total (requests u k _ _) ≤ n
      have := ih (a + min n (u - a % u)) (n - min n (u - a % u))
      omega

/-- A range that passes whole leaves the state as it is. -/
theorem passedBytes_all {u c : Nat} {host : Bool} {t a n : Nat} {s : State} (hu : 0 < u) (h : (passedBytes u c host t a n s).1 = n) :
    passedBytes u c host t a n s = (n, s) := by
  refine Prod.ext h (passed_all _ _ _ _ _ (requests_pos u hu _ a n) ?_)
  have h1 := passed_le c host t (requests u (n / u + 2) a n) s
  have h2 := requests_le u (n / u + 2) a n
  simp only [passedBytes] at h
  omega

theorem svcAccess_may {i : Item} {a n t : Nat} {s : State} (h : SvcMay i a n t s) : svcAccess a n t s = (n, s) := by
  simp only [svcAccess, h.2.1, not_true, if_false]
  exact passedBytes_all (by decide) h.2.2

/-- A permitted read whose data arrive gives exactly as many bytes as it asks for. -/
theorem svcRead_may {i : Item} {a n : Nat} {s : State} (h : SvcMay i a n 0 s) {id : Nat} (hi : getItem s id = some i) (b : Bytes) (body : Bytes → State → State) :
    svcRead id a n (.ok b) s body = body (fit n b) s := by
  simp [svcRead, svcAccess_may h, itemMuted_get hi h.1]

theorem svcWrite_may {i : Item} {a : Nat} {b : Bytes} {s : State} (h : SvcMay i a b.length 1 s) {id : Nat} (hi : getItem s id = some i) (body : State → State) :
    svcWrite id a b s body = body (if b.length = 0 then s else dataWrite 0 i.part i.qp a b s) := by
  simp only [svcWrite, svcAccess_may h, itemMuted_get hi h.1, hi, Bool.false_eq_true, false_or, Nat.lt_irrefl, if_false,
    List.take_length, Option.map_some, Option.getD_some]

theorem svcBuffer_reads {i : Item} {s : State} (h : SvcBuffer i s) (hi : getItem s i.id = some i) (b : Bytes) (body : Bytes → State → State) :
    svcBuffer i (.ok b) s body = body (fit (i.le 32 4) b) s := by
  simp only [svcBuffer, if_neg h.1, svcRead_may h.2 hi]

end Sys2Proof.Laws
end

