-- ==== Sys2Proof/WellFormed.lean ====
section
/-!
DEFINITION. Well-formed commands: every number a command names lies within what the package has at most (R2, R16, R42,
R46, R50, R134, R377, R388, R390).  A command that is not well formed names nothing, and has no effect.
-/
namespace Sys2Proof

/-- Seats of the largest variant (R2). -/
def okSeat (k : Nat) : Bool := decide (k < 896)
/-- Engine dies, and the troupes on them (R2). -/
def okDie (d : Nat) : Bool := decide (d < 7)
def okTroupe (t : Nat) : Bool := decide (t < 28)
/-- Channels of Roustabout (R377). -/
def okChannel (n : Nat) : Bool := decide (n < 8)
/-- Gates and their entries (R388, R390). -/
def okGate (g : Nat) : Bool := decide (g < 13)
def okEntry (e : Nat) : Bool := decide (e < 32)
/-- Partitions, functions and virtual functions (R42). -/
def okPart (p : Nat) : Bool := decide (p < 256)
def okFn (f : Nat) : Bool := decide (f < 256)
def okVf (v : Nat) : Bool := decide (1 ≤ v) && decide (v < 256)
/-- Flows of a partition (R134). -/
def okFlow (f : Nat) : Bool := decide (f < 16384)
/-- Queue pages and queue pairs (R50). -/
def okPage (p : Nat) : Bool := decide (p < 2048)
def okQueue (q : Nat) : Bool := decide (q < 2048)
/-- MSI-X vectors of the PF (R42). -/
def okVector (v : Nat) : Bool := decide (v < 2048)
/-- Supply groups of the sequencer (R511). -/
def okGroup (g : Nat) : Bool := decide (g < 4)
/-- Fuse rows FUSE_PROG names (R400). -/
def okRow (r : Nat) : Bool := decide (r < 6)
/-- Control-core pairs (R365). -/
def okPair (p : Nat) : Bool := decide (p < 2)
/-- Certificate slots (R369). -/
def okSlot (n : Nat) : Bool := decide (n < 8)
/-- Colours (R386). -/
def okColour (c : Nat) : Bool := decide (c < 16)
/-- Bytes of one write within the push window (R47, R67). -/
def okPush (pos : Nat) (data : Bytes) : Bool := decide (data.length ≤ 64) && decide (pos + data.length ≤ 2048)
/-- A register write is of 4 or 8 bytes. -/
def okSize (n : Nat) : Bool := n == 4 || n == 8

/-- The well-formed commands. -/
def Instr.wf : Instr → Bool
  | .registerWrite fn _ size _ => okFn fn && okSize size
  | .misalignedAccess fn _ _ => okFn fn
  | .unsupportedRequest fn _ => okFn fn
  | .mirrorRefresh => true
  | .clkTime64LowRead => true
  | .refclkChange _ => true
  | .timeAlign die => okDie die
  | .midwayFlitError die _ _ => okDie die
  | .pushWrite fn page pos data => okFn fn && okPage page && okPush pos data
  | .slotConsume q _ => okQueue q
  | .pushTorn q => okQueue q
  | .pushReset fn page => okFn fn && okPage page
  | .queSqDb fn page _ => okFn fn && okPage page
  | .sqFetchIssue q => okQueue q
  | .sqFetchComplete q _ _ _ => okQueue q
  | .headRefill q _ => okQueue q
  | .queCqDb fn page _ => okFn fn && okPage page
  | .queueEnable fn page => okFn fn && okPage page
  | .queueDisable fn page => okFn fn && okPage page
  | .flush fn page => okFn fn && okPage page
  | .flushDone q => okQueue q
  | .queCoalesceWrite fn page _ => okFn fn && okPage page
  | .queOwnerWrite q _ => okQueue q
  | .quePeakRead fn page => okFn fn && okPage page
  | .vfFlr vf => okVf vf
  | .pfReset => true
  | .flrComplete fn => okFn fn
  | .vectorUnmask fn vector => okFn fn && okVector vector
  | .coalesceTimer q => okQueue q
  | .migLogStart _ => true
  | .migLogReadClear _ => true
  | .migLogStop _ => true
  | .vfQuiesce _ => true
  | .vfQuiesceDrained _ => true
  | .vfQuiesceTimeout _ => true
  | .vfSave _ => true
  | .vfRestore _ _ => true
  | .vfResume _ => true
  | .ticketTurn _ => true
  | .bucketCredit => true
  | .shareChangeWrite _ _ => true
  | .epochApply => true
  | .jugglerAllocate => true
  | .dispatchArrive die => okDie die
  | .jaserSuspend seat => okSeat seat
  | .localSelect troupe => okTroupe troupe
  | .rebalanceExamine => true
  | .itemMoveArrive die => okDie die
  | .expirySweep => true
  | .jugTroupeCfgWrite troupe _ => okTroupe troupe
  | .resultAccept die => okDie die
  | .carouselRelease => true
  | .holdExpire part flow => okPart part && okFlow flow
  | .deferralUnblocked part flow => okPart part && okFlow flow
  | .serialRelease part flow => okPart part && okFlow flow
  | .traceLostWrite die => okDie die
  | .trcEnable _ => true
  | .trcClear => true
  | .trcRdHiRead => true
  | .holdPeakRead part => okPart part
  | .add seat _ _ _ => okSeat seat
  | .sub seat _ _ _ => okSeat seat
  | .and seat _ _ _ => okSeat seat
  | .or seat _ _ _ => okSeat seat
  | .xor seat _ _ _ => okSeat seat
  | .shl seat _ _ _ => okSeat seat
  | .shr seat _ _ _ => okSeat seat
  | .sar seat _ _ _ => okSeat seat
  | .mul seat _ _ _ => okSeat seat
  | .minu seat _ _ _ => okSeat seat
  | .maxu seat _ _ _ => okSeat seat
  | .cmp seat _ _ => okSeat seat
  | .addi seat _ _ _ => okSeat seat
  | .andi seat _ _ _ => okSeat seat
  | .ori seat _ _ _ => okSeat seat
  | .xori seat _ _ _ => okSeat seat
  | .shi seat _ _ _ _ => okSeat seat
  | .movw seat _ _ _ _ => okSeat seat
  | .cmpi seat _ _ => okSeat seat
  | .sel seat _ _ _ _ => okSeat seat
  | .dmov seat _ _ => okSeat seat
  | .dxor seat _ _ _ => okSeat seat
  | .dand seat _ _ _ => okSeat seat
  | .dor seat _ _ _ => okSeat seat
  | .dshlb seat _ _ _ => okSeat seat
  | .dshrb seat _ _ _ => okSeat seat
  | .dshln seat _ _ _ => okSeat seat
  | .dshrn seat _ _ _ => okSeat seat
  | .dzero seat _ => okSeat seat
  | .drev seat _ _ => okSeat seat
  | .dins seat _ _ _ => okSeat seat
  | .dext seat _ _ _ => okSeat seat
  | .dcmp seat _ _ => okSeat seat
  | .decim seat _ _ _ => okSeat seat
  | .daddm seat _ _ _ => okSeat seat
  | .dcmpt seat _ _ _ => okSeat seat
  | .pinfmt seat _ _ _ _ => okSeat seat
  | .rnd seat _ => okSeat seat
  | .dnib seat _ _ _ _ _ => okSeat seat
  | .illegalInstruction seat _ => okSeat seat
  | .ldo seat _ _ _ _ => okSeat seat
  | .ldod seat _ _ _ _ => okSeat seat
  | .lds seat _ _ _ _ => okSeat seat
  | .ldsd seat _ _ _ _ => okSeat seat
  | .sts seat _ _ _ _ => okSeat seat
  | .stsd seat _ _ _ _ => okSeat seat
  | .str seat _ _ _ _ => okSeat seat
  | .strd seat _ _ _ _ => okSeat seat
  | .br seat _ _ => okSeat seat
  | .loop seat _ _ => okSeat seat
  | .brk seat _ => okSeat seat
  | .end_ seat _ _ => okSeat seat
  | .wait seat _ => okSeat seat
  | .nop seat => okSeat seat
  | .kopen seat _ _ _ => okSeat seat
  | .keyFillComplete fill => okSeat fill.seat
  | .kclose seat _ _ => okSeat seat
  | .kinfo seat _ _ _ => okSeat seat
  | .kcv seat _ _ _ => okSeat seat
  | .kderive seat _ _ _ _ => okSeat seat
  | .kunwrap seat _ _ _ _ => okSeat seat
  | .kwrap seat _ _ _ _ => okSeat seat
  | .kgen seat _ _ _ => okSeat seat
  | .kaimp seat _ _ _ _ => okSeat seat
  | .kagree seat _ _ _ _ => okSeat seat
  | .benc seat _ _ _ => okSeat seat
  | .bdec seat _ _ _ => okSeat seat
  | .bstr seat _ _ _ _ => okSeat seat
  | .bmac seat _ _ _ _ => okSeat seat
  | .bmacv seat _ _ _ _ => okSeat seat
  | .ffx seat _ _ _ _ => okSeat seat
  | .hstart seat _ _ => okSeat seat
  | .hdata seat _ _ => okSeat seat
  | .hend seat _ _ _ => okSeat seat
  | .mexp seat _ _ _ _ => okSeat seat
  | .msign seat _ _ _ _ _ _ => okSeat seat
  | .mver seat _ _ _ _ _ _ => okSeat seat
  | .sbulk seat _ _ _ => okSeat seat
  | .xld seat _ _ _ _ => okSeat seat
  | .xst seat _ _ _ _ _ => okSeat seat
  | .hostReadComplete seat _ _ => okSeat seat
  | .unitOpComplete seat _ _ => okSeat seat
  | .prfFaultLog _ => true
  | .routineCacheFill troupe part _ _ _ => okTroupe troupe && okPart part
  | .routineChallenge _ => true
  | .routineInstall _ _ _ => true
  | .routineRevoke _ _ => true
  | .routineGenDrained _ => true
  | .routineManifestRead _ => true
  | .routineManifestRestore _ _ => true
  | .routineLoad _ _ => true
  | .routineQuery _ => true
  | .routineVerify _ _ => true
  | .routineQuotaSet _ => true
  | .routineCachePin _ => true
  | .nonceExpire part => okPart part
  | .pinTranslate seat => okSeat seat
  | .pinTranslateDukpt seat => okSeat seat
  | .pinVerify seat => okSeat seat
  | .emvArqcVerify seat => okSeat seat
  | .cvcGenerate seat => okSeat seat
  | .cvcVerify seat => okSeat seat
  | .macGenerate seat _ => okSeat seat
  | .macVerify seat _ => okSeat seat
  | .dukptMacVerify seat => okSeat seat
  | .keyImport seat _ => okSeat seat
  | .keyExport seat => okSeat seat
  | .keyTranslate seat _ => okSeat seat
  | .keyGenerate seat => okSeat seat
  | .keyImportAsym seat _ => okSeat seat
  | .keyAgree seat _ => okSeat seat
  | .tokenise seat => okSeat seat
  | .detokenise seat => okSeat seat
  | .sign seat => okSeat seat
  | .verify seat _ => okSeat seat
  | .bulkCrypt seat _ _ => okSeat seat
  | .bulkReencrypt seat _ _ => okSeat seat
  | .scuJobComplete die _ _ _ => okDie die
  | .unitStatusRead _ => true
  | .scuLockSet _ => true
  | .unitKat _ => true
  | .katReq _ _ => true
  | .katComplete _ _ _ => true
  | .rngHealthFail _ => true
  | .rngRecovery _ => true
  | .rootDrbgReseed => true
  | .dieDrbgReseed die => okDie die
  | .drbgBufferRefill troupe => okTroupe troupe
  | .rngRawRead => true
  | .rngHealthRead => true
  | .vltSlotWrite => true
  | .vltSlotAdvance => true
  | .vltSlotErase => true
  | .genApply die => okDie die
  | .vaultChallenge _ => true
  | .vaultRegistrySet _ _ => true
  | .vaultRegistryRestore _ _ => true
  | .vaultCeremonyOpen _ => true
  | .vaultComponent _ _ => true
  | .vaultCeremonyClose _ _ => true
  | .vaultSlotGenerate _ _ => true
  | .vaultSlotInvalidate _ _ => true
  | .pmkFence _ => true
  | .pmkFenceDone _ => true
  | .pmkFenceTimeout _ => true
  | .dirSweepDone => true
  | .vaultBackupExport _ _ => true
  | .vaultTransferOpen _ => true
  | .vaultTransferExport _ _ => true
  | .vaultRestore _ _ => true
  | .vaultPartitionErase _ _ => true
  | .keyDirRelease _ => true
  | .ceremonyExpire part => okPart part
  | .powerOnReset => true
  | .batteryReset => true
  | .fundamentalReset => true
  | .bootRomStart _ _ _ _ => true
  | .bootHandover _ _ => true
  | .bootOk => true
  | .bootWatchdog => true
  | .glbRecoveryGo _ => true
  | .fwStage _ _ => true
  | .fwSvnAdvance _ => true
  | .fwKeyRevoke _ => true
  | .attestQuote _ => true
  | .lockstepMismatch pair => okPair pair
  | .getVersion _ => true
  | .getCapabilities _ => true
  | .negotiateAlgorithms _ _ _ => true
  | .getDigests _ => true
  | .getCertificate slot _ _ _ => okSlot slot
  | .challenge slot _ => okSlot slot
  | .getMeasurements _ _ slot _ => okSlot slot
  | .keyExchange slot _ => okSlot slot
  | .finish _ _ _ => true
  | .heartbeat _ _ => true
  | .keyUpdate _ _ => true
  | .endSession _ _ => true
  | .setCertificate _ slot _ _ => okSlot slot
  | .vendorDefined _ _ _ => true
  | .uchStart => true
  | .uchDone => true
  | .movStart ch pair => okChannel ch && okPair pair
  | .movStop ch => okChannel ch
  | .movHalf ch => okChannel ch
  | .movTransferEnd _ _ _ => true
  | .gatEntCfgWrite colour gate entry _ => okColour colour && okGate gate && okEntry entry
  | .gateSync colour gate => okColour colour && okGate gate
  | .gateSyncDone gate => okGate gate
  | .bypass => true
  | .idcode => true
  | .samplePreload => true
  | .extest => true
  | .dbgStatus => true
  | .dbgAccess _ _ _ _ => true
  | .dbgCore1Halt => true
  | .dbgCore1Step => true
  | .dbgCore1Resume => true
  | .fuseProg row _ => okRow row
  | .lcsReqArm colour _ => colour.all okColour
  | .lcsReqGo colour _ => colour.all okColour
  | .lcsArmExpire => true
  | .lcsProgramDone => true
  | .wipeStepDone => true
  | .debugGrantExpire => true
  | .lcsScrap _ _ => true
  | .debugUnlock _ _ => true
  | .debugLock _ => true
  | .canvasDetect _ _ => true
  | .sentinelDetect _ => true
  | .sentinelConfigCopy => true
  | .cnvStimStart _ _ => true
  | .stimEnd _ _ => true
  | .cnvCauseClear _ _ => true
  | .canvasResume _ _ => true
  | .canvasLatchClear _ => true
  | .canvasStimulate _ _ _ _ => true
  | .canvasConfig _ _ => true
  | .canvasDisableFuse _ _ => true
  | .linkUp _ => true
  | .hello frame => decide (frame.nonce.length = 16)
  | .keepalive _ _ _ _ _ _ => true
  | .keepaliveSend => true
  | .peerLinkRetrain _ => true
  | .time _ _ => true
  | .peerTimeExchange => true
  | .peerSyncLoss => true
  | .mirror _ _ _ _ => true
  | .mirrorAck _ _ _ _ => true
  | .mirrorTimeout => true
  | .resync _ _ _ => true
  | .joinComplete _ _ _ _ _ => true
  | .claim _ => true
  | .relinquish _ _ => true
  | .handover _ _ _ => true
  | .handoverAck _ _ => true
  | .handoverAckTimeout => true
  | .handoverDrainExpire => true
  | .beacon _ _ => true
  | .beaconSend => true
  | .pathSilent => true
  | .watchdogRelease => true
  | .claimStart _ => true
  | .startupClaim _ => true
  | .claimWindowClose => true
  | .takeoverComplete => true
  | .revertRequest => true
  | .patrolCycle => true
  | .patrolDone _ _ _ _ => true
  | .trpPair _ _ _ _ => true
  | .trpDetach _ _ => true
  | .trpHandover _ => true
  | .trpSolo _ => true
  | .calEnable _ => true
  | .calFreeze => true
  | .calFreezeEnter => true
  | .calThaw => true
  | .freezeTimeout => true
  | .calClear => true
  | .windowClose _ => true
  | .calEventArrive => true
  | .calRelease _ => true
  | .calRdDataRead _ => true
  | .calFwEvent colour _ => okColour colour
  | .calCopy read => read.bad.all fun w => decide (w.1 < 2097152)
  | .scrubPass _ _ => true
  | .psEnter => true
  | .dieWakeDone die => okDie die
  | .troupeGate troupe => okTroupe troupe
  | .troupeUngateDone troupe => okTroupe troupe
  | .d3hotEntry => true
  | .d0Return => true
  | .dvfsStep troupe => okTroupe troupe
  | .thermalSample _ => true
  | .throttleStep => true
  | .sequenceStart _ => true
  | .powerGoodRise => true
  | .pgFault group => okGroup group
  | .railPoll _ => true
  | .dieBringup die => okDie die
  | .pwrShutdown _ => true
  | .pwrTrim _ => true
  | .rtcSet _ => true
  | .systemPowerLoss => true
  | .caseBSwitchover _ => true
  | .handoverLineHigh => true
  | .shutdownDrainEnd => true
  | .pcieLinkL0 _ => true

end Sys2Proof
end

