-- ==== Sys2Proof/Tests/Slice0.lean ====
section
/-!
SUPPORT. Tests: the well-formedness check refuses an ill-formed command of each kind, words of the encoding, and for every
rule that has hypotheses a state and operands that meet them.
-/
namespace Sys2Proof.Tests
set_option Elab.async false
open Sys2Proof.Machine Sys2Proof.Safety Sys2Proof.Laws

/-- What the kernel decides by evaluation. -/
theorem sure {p : Prop} (h : p := by decide +kernel) : p := h

/-! ### States the tests use -/

/-- The command a routine of seat 5 runs for: item 1, of partition 5. -/
def seatItem1 : Item :=
  { id := 1, qp := 0, part := 5, flow := 0, prio := 1, ordered := false, serial := false, hint := false
    routine := 0x1000, tag := 7, raw := zeros 64, place := .seat 5, seatNo := 5 }

/-- The gates with entries of MEM that let every colour read and write all of host space and all of the control die's memory. -/
def openGates : Tab Gate := [(4, {
  entries := [{ limit := 0xFFFFFFFFFFFFF, cfg := 0x2FFFFF }, { base := 0x1000000, limit := 0x13FFFFF, cfg := 0x27FFFF }] ++
    List.replicate 30 {} })]

/-- Seat 5 runs routine 0x1000 of partition 5 with run state `x`; its line is in its troupe's cache, the troupe has random
bytes and the seat's units are ready. -/
def seatState (x : SeatRun) : State :=
  { dies := [(0, { state := .active })]
    items := [seatItem1]
    troupes := [(0, { lines := [{ part := some 5, routine := 0x1000, gen := 1, index := 0 }], drbgBuf := 256 })]
    seats := [(5, { run := some 1, part := 5, routine := 0x1000, gen := 1, len := 64, x := x })]
    units := { blk := [(0, { ready := true })], mau := [(0, { ready := true })], hsh := [(0, { ready := true })]
               scu := [(0, { ready := true })] }
    gates := openGates }

/-- A run state with nothing outstanding and no fault to be taken uses anything freely. -/
theorem quiet_clear {x : SeatRun} {u : Uses} (ha : x.asyncs = [] := by rfl) (hd : x.dPend = 0 := by rfl)
    (hk : x.kPend = 0 := by rfl) (hs : x.sPend = 0 := by rfl) (ht : x.tickets = 0 := by rfl) : Clear u x := by
  have h1 : asyncHit x u = none := by simp [asyncHit, ha]
  have h2 : stallCode x u = none := by
    cases h : u.ticket <;> simp [stallCode, hd, hk, hs, ht, h]
  exact ⟨h1, h2⟩

/-- Seat 5 of `seatState` issues where its run state lets it. -/
theorem seatState_issues {x : SeatRun} (hp : x.pc = 0 := by rfl) (he : x.ending = none := by rfl) (ho : x.ops = [] := by rfl)
    (hi : x.instrs = 0 := by rfl) (hf : x.parityAt = none := by rfl) : Issues 5 (seatState x) := by
  have hr : run (seatState x) 5 = x := rfl
  refine ⟨?_, rfl, ?_, ?_, ?_, ?_, ?_⟩
  · show (true && true && true && x.ending.isNone && true) = true
    rw [he]; rfl
  · rw [hr, ho]; rfl
  · show (lineIn _ 5 0x1000 1 (x.pc / 64)) = true
    rw [hp]; rfl
  · show ((sameLine _ _ && false) || false) = false
    rw [Bool.and_false]; rfl
  · rw [hr, parityDue, hf]
  · rw [hr, hi]; decide

/-! ### Well-formedness: the check refuses each ill-formed number, and takes the largest one -/

theorem test_seat : (Instr.nop 896).wf = false ∧ (Instr.nop 895).wf = true := by decide
theorem test_die : (Instr.dieBringup 7).wf = false ∧ (Instr.dieBringup 6).wf = true := by decide
theorem test_troupe : (Instr.troupeGate 28).wf = false ∧ (Instr.troupeGate 27).wf = true := by decide
theorem test_channel : (Instr.movStart 8 0).wf = false ∧ (Instr.movStart 7 2).wf = false ∧ (Instr.movStart 7 1).wf = true := by decide
theorem test_gate : (Instr.gateSync 1 13).wf = false ∧ (Instr.gateSync 16 12).wf = false ∧ (Instr.gateSync 15 12).wf = true := by decide
theorem test_entry : (Instr.gatEntCfgWrite 1 0 32 0).wf = false ∧ (Instr.gatEntCfgWrite 1 0 31 0).wf = true := by decide
theorem test_part : (Instr.nonceExpire 256).wf = false ∧ (Instr.nonceExpire 255).wf = true := by decide
theorem test_flow : (Instr.holdExpire 0 16384).wf = false ∧ (Instr.holdExpire 255 16383).wf = true := by decide
theorem test_fn : (Instr.flrComplete 256).wf = false ∧ (Instr.flrComplete 255).wf = true := by decide
theorem test_vf : (Instr.vfFlr 0).wf = false ∧ (Instr.vfFlr 256).wf = false ∧ (Instr.vfFlr 1).wf = true := by decide
theorem test_page : (Instr.flush 0 2048).wf = false ∧ (Instr.flush 0 2047).wf = true := by decide
theorem test_queue : (Instr.pushTorn 2048).wf = false ∧ (Instr.pushTorn 2047).wf = true := by decide
theorem test_vector : (Instr.vectorUnmask 0 2048).wf = false ∧ (Instr.vectorUnmask 0 2047).wf = true := by decide
theorem test_group : (Instr.pgFault 4).wf = false ∧ (Instr.pgFault 3).wf = true := by decide
theorem test_row : (Instr.fuseProg 6 []).wf = false ∧ (Instr.fuseProg 5 []).wf = true := by decide
theorem test_pair : (Instr.lockstepMismatch 2).wf = false ∧ (Instr.lockstepMismatch 1).wf = true := by decide
theorem test_slot : (Instr.getCertificate 8 0 0 []).wf = false ∧ (Instr.getCertificate 7 0 0 []).wf = true := by decide
theorem test_push : (Instr.pushWrite 0 0 2040 (zeros 9)).wf = false ∧ (Instr.pushWrite 0 0 0 (zeros 65)).wf = false ∧
    (Instr.pushWrite 0 0 2040 (zeros 8)).wf = true := by decide
theorem test_size : (Instr.registerWrite 0 (.pf 0) 2 0).wf = false ∧ (Instr.registerWrite 0 (.pf 0) 8 0).wf = true := by decide

/-! ### The encoding (R183 to R193): words put together field by field from the formats -/

/-- A word from its major opcode and its fields, each a value and the place of its lowest bit. -/
def wordWith (op : Nat) (f : List (Nat × Nat)) : Word32 := BitVec.ofNat 32 (f.foldl (fun w x => w + x.1 * 2 ^ x.2) (op * 2 ^ 26))

theorem test_words_integer :
    decodeWord 3 (wordWith 0x01 [(31, 21), (1, 16), (2, 11), (1, 0)]) = .sub 3 31 1 2 ∧
    decodeWord 3 (wordWith 0x01 [(4, 16), (5, 11), (11, 0)]) = .cmp 3 4 5 ∧
    decodeWord 3 (wordWith 0x05 [(7, 21), (6, 16), (0xF00F, 0)]) = .xori 3 7 6 0xF00F ∧
    decodeWord 3 (wordWith 0x06 [(7, 21), (6, 16), (2, 14), (63, 0)]) = .shi 3 7 6 2 63 ∧
    decodeWord 3 (wordWith 0x07 [(9, 21), (1, 20), (3, 16), (0xABCD, 0)]) = .movw 3 9 0xABCD 3 true ∧
    decodeWord 3 (wordWith 0x09 [(9, 21), (8, 16), (7, 11), (0xE, 0)]) = .sel 3 9 8 7 0xE := by
  decide +kernel

theorem test_words_data :
    decodeWord 3 (wordWith 0x10 [(15, 22), (1, 18), (2, 14), (3, 0)]) = .dor 3 15 1 2 ∧
    decodeWord 3 (wordWith 0x10 [(3, 22), (4, 18), (31, 8), (6, 0)]) = .dshln 3 3 4 31 ∧
    decodeWord 3 (wordWith 0x12 [(5, 22), (17, 17), (1, 0)]) = .dext 3 17 5 true ∧
    decodeWord 3 (wordWith 0x14 [(5, 22), (6, 18), (17, 13)]) = .decim 3 5 6 17 ∧
    decodeWord 3 (wordWith 0x17 [(5, 22), (6, 18), (3, 2), (1, 0)]) = .pinfmt 3 5 6 1 3 ∧
    decodeWord 3 (wordWith 0x19 [(5, 22), (6, 18), (7, 13), (30, 8), (1, 0)]) = .dnib 3 5 6 7 30 1 := by
  decide +kernel

theorem test_words_buffers :
    decodeWord 3 (wordWith 0x20 [(31, 21), (3, 16), (3, 14), (0x3FFF, 0)]) = .ldo 3 31 3 3 0x3FFF ∧
    decodeWord 3 (wordWith 0x23 [(15, 21), (3, 16), (2, 14), (16, 0)]) = .ldsd 3 15 3 2 16 ∧
    decodeWord 3 (wordWith 0x26 [(8, 21), (0, 16), (2, 14), (5, 0)]) = .str 3 8 0 2 5 := by
  decide +kernel

theorem test_words_control :
    decodeWord 3 (wordWith 0x30 [(0xE, 22), (4095, 0)]) = .br 3 0xE 4095 ∧
    decodeWord 3 (wordWith 0x31 [(31, 21), (4095, 0)]) = .loop 3 31 4095 ∧
    decodeWord 3 (wordWith 0x32 [(3, 22)]) = .brk 3 3 ∧
    decodeWord 3 (wordWith 0x33 [(1, 8), (0x41, 0)]) = .end_ 3 0x41 true ∧
    decodeWord 3 (wordWith 0x34 [(9, 0)]) = .wait 3 9 ∧
    decodeWord 3 (wordWith 0x35 []) = .nop 3 := by
  decide +kernel

theorem test_words_keys :
    decodeWord 3 (wordWith 0x38 [(7, 23), (31, 7), (1, 0)]) = .kopen 3 7 31 1 ∧
    decodeWord 3 (wordWith 0x3C [(6, 23), (5, 20), (4, 12), (0x13, 0)]) = .kderive 3 6 5 4 0x13 ∧
    decodeWord 3 (wordWith 0x3E [(6, 23), (5, 20), (30, 7), (2, 0)]) = .kwrap 3 30 6 5 2 ∧
    decodeWord 3 (wordWith 0x0D [(6, 23), (5, 20), (30, 7), (1, 0)]) = .kaimp 3 6 5 30 1 := by
  decide +kernel

theorem test_words_units :
    decodeWord 3 (wordWith 0x28 [(7, 23), (14, 16), (13, 12)]) = .benc 3 14 7 13 ∧
    decodeWord 3 (wordWith 0x2C [(7, 23), (13, 12), (30, 7), (0x78, 0)]) = .bmacv 3 7 13 30 0x78 ∧
    decodeWord 3 (wordWith 0x1C [(7, 23), (5, 0)]) = .hstart 3 7 5 ∧
    decodeWord 3 (wordWith 0x0A [(3, 24), (29, 19), (28, 14), (27, 9)]) = .mexp 3 3 29 28 27 ∧
    decodeWord 3 (wordWith 0x0B [(3, 24), (29, 19), (28, 14), (5, 6)]) = .msign 3 3 29 28 0 5 0 ∧
    decodeWord 3 (wordWith 0x36 [(2, 24), (30, 19), (6, 6)]) = .sbulk 3 2 30 6 ∧
    decodeWord 3 (wordWith 0x2F [(2, 24), (30, 19), (29, 14), (28, 9), (1, 0)]) = .xst 3 2 30 29 28 1 := by
  decide +kernel

/-- Words R184 calls illegal: a non-zero field marked zero, a reserved function, a d index with bit 25 set, a pair at g31, a reserved
condition, a shift of more than 31 nibbles. -/
theorem test_words_illegal :
    ([wordWith 0x08 [(1, 21), (4, 16)], wordWith 0x01 [(12, 0)], wordWith 0x21 [(16, 21)], wordWith 0x3E [(31, 7)],
      wordWith 0x30 [(0xF, 22), (1, 0)], wordWith 0x10 [(32, 8), (6, 0)]].map wordLegal) = List.replicate 6 false := by
  decide +kernel

/-- A Pachaca block of 88 bytes that holds an AES MAC key, and the key; its nonce, ciphertext and tag are zeros. -/
def pkbBytes : Bytes :=
  toLE 4 pkbMagic ++ toLE 2 88 ++ toLE 2 1 ++ toLE 8 (attrWord { attrOf 0x130C04 with bits := 128 } false) ++ zeros 72
def pkbKey : NewKey := mkKey (attrOf 0x130C04) 5 0 0 0 (zeros 16)

/-- A cipher whose tags are zeros and whose plaintexts are a key of 16 zero bytes. -/
def Opens : Prop := (∀ a k n h c, Config.gcmTag a k n h c = zeros 16) ∧ ∀ a k n h c, Config.gcmDec a k n h c = toLE 2 16 ++ zeros 30

theorem pkb_opens (h : Opens) (kkey : Bytes) : openBlock 1 5 0 0 3 kkey pkbBytes = (0, some pkbKey) := by
  rw [openBlock, if_neg sure]
  simp only [openPkb, h.1, h.2]
  decide +kernel

/-! ### Instructions of a seat -/

/-- A run state with `n` loops, and counts in g1 to g4. -/
def loopRun (n : Nat) : SeatRun :=
  { g := [(1, 3), (2, 70000), (3, 0xFFFFFFFFFFFFFFFF), (4, 65536), (5, 65537)]
    loops := (List.range n).map fun i => { start := 1, last := 10 + i, left := 2 } }

theorem witness_IntegerInstructions : Issues 5 (seatState (loopRun 0)) ∧ condHolds (loopRun 0) 0 = some true ∧
    condHolds (loopRun 0) 14 = some false :=
  ⟨seatState_issues, rfl, rfl⟩

/-- Branches not taken and taken to the end of the routine, BRK in a loop, WAIT with nothing outstanding. -/
theorem witness_ControlAndIllegalWords : Issues 5 (seatState (loopRun 0)) ∧ Issues 5 (seatState (loopRun 1)) ∧
    ((1 : BitVec 12) ≠ 0 ∧ condHolds (loopRun 0) 1 = some false) ∧
    (condHolds (loopRun 0) 0 = some true ∧ 0 + (63 : BitVec 12).toNat < (getSeat (seatState (loopRun 0)) 5).len) ∧
    (∀ f ∈ (loopRun 1).loops.head?, (loopRun 1).pc + (11 : BitVec 12).toNat ≤ f.last + 1) ∧
    (loopRun 1).loops = { start := 1, last := 10, left := 2 } :: [] ∧ (loopRun 0).tickets = 0 ∧ (loopRun 0).asyncs = [] :=
  ⟨seatState_issues, seatState_issues, sure, sure, sure, sure, rfl, rfl⟩

/-- Bodies that fit to the last index and one past it; counts 0, 3, 65,536 and more; four loops and fewer. -/
theorem witness_LoopInstruction : Issues 5 (seatState (loopRun 0)) ∧ Issues 5 (seatState (loopRun 4)) ∧
    (0 + (63 : BitVec 12).toNat < (getSeat (seatState (loopRun 0)) 5).len ∧
      ∀ f ∈ (loopRun 0).loops.head?, 63 ≤ f.last) ∧
    ¬ (0 + (64 : BitVec 12).toNat < (getSeat (seatState (loopRun 0)) 5).len) ∧
    (∀ f ∈ (loopRun 4).loops.head?, 0 + (10 : BitVec 12).toNat ≤ f.last) ∧
    ¬ (∀ f ∈ (loopRun 4).loops.head?, 0 + (11 : BitVec 12).toNat ≤ f.last) ∧
    (getG (loopRun 0) 0).toNat = 0 ∧ (getG (loopRun 4) 1).toNat ≠ 0 ∧ 4 ≤ (loopRun 4).loops.length ∧
    (loopRun 0).loops.length < 4 ∧ (getG (loopRun 0) 4).toNat ≤ (loopRun 0).iterLeft.toNat ∧ (getG (loopRun 0) 4).toNat ≤ 65536 ∧
    (loopRun 0).iterLeft.toNat < (getG (loopRun 0) 5).toNat :=
  ⟨seatState_issues, seatState_issues, sure, sure, sure, sure, sure,
    sure, sure, sure, sure, sure, sure⟩

theorem witness_EndOfRoutine : Issues 5 (seatState {}) ∧ (run (seatState {}) 5).ops = [] ∧ (run (seatState {}) 5).asyncs = [] ∧
    (getSeat (seatState {}) 5).run = some 1 ∧ getItem (seatState {}) 1 = some seatItem1 ∧ wingItem (seatState {}) 5 = none ∧
    (5 % 4 = 1 → (getSeat (seatState {}) (5 - 1)).suspended = false) ∧
    stOK ∈ [stOK, stVERIFY_MISMATCH, stOPERAND_FORMAT] ∧ (0x2D : Byte) ∉ [stOK, stVERIFY_MISMATCH, stOPERAND_FORMAT] :=
  ⟨seatState_issues, rfl, rfl, rfl, rfl, rfl, fun _ => rfl, sure, sure⟩

/-- d1 a clear PIN block of format 0's layout, d2 tainted, d3 no PIN block, and no comparison left where `c` is 0. -/
def dataRun (c : BitVec 3) : SeatRun :=
  { g := [(1, 0x123), (2, 4), (3, 4080)]
    d := [(1, 0x041234FFFFFFFFFF0000000000000000), (2, 0x99), (3, 0xF0)], dTaint := 4, cmpLeft := c }

/-- Shift amounts at both ends of their ranges, and DNIB to nibble 31 and past it. -/
theorem witness_DataInstructions : Issues 5 (seatState (dataRun 4)) ∧ Clear { d := [4, 1, 2] } (dataRun 4) ∧
    Clear { d := [4, 1] } (dataRun 4) ∧ (15 : BitVec 6).toNat ≤ 15 ∧ 15 < (16 : BitVec 6).toNat ∧ (31 : BitVec 6).toNat ≤ 31 ∧
    31 < (32 : BitVec 6).toNat ∧ (16 : BitVec 5).toNat + (15 : BitVec 4).toNat + 1 ≤ 32 ∧
    32 < (17 : BitVec 5).toNat + (15 : BitVec 4).toNat + 1 :=
  ⟨seatState_issues, quiet_clear, quiet_clear,
    sure, sure, sure, sure, sure, sure⟩

theorem witness_DataComparesAndDraws : Issues 5 (seatState (dataRun 4)) ∧ Issues 5 (seatState (dataRun 0)) ∧
    Clear { d := [4, 1, 2] } (dataRun 4) ∧ Clear { d := [4, 1, 2] } (dataRun 0) ∧ taintD (dataRun 4) 1 = false ∧
    taintD (dataRun 4) 2 = true ∧ (dataRun 4).cmpLeft ≠ 0 ∧ (dataRun 0).cmpLeft = 0 ∧
    pinDigits 0 (getD (dataRun 4) 1) = some [1, 2, 3, 4] ∧ pinDigits 0 (getD (dataRun 4) 3) = none ∧
    drbgDown (seatState (dataRun 4)) = false ∧ 16 ≤ (getTroupe (seatState (dataRun 4)) (troupeOfSeat 5)).drbgBuf ∧
    (goTo ((dataRun 4).pc + 1) (dataRun 4)).pc < (getSeat (seatState (dataRun 4)) 5).len ∧ (3 : BitVec 2) ≠ 0 :=
  ⟨seatState_issues, seatState_issues, quiet_clear,
    quiet_clear, rfl, rfl, sure, sure, sure, sure, rfl, sure, sure, sure⟩

/-- A run state whose granule 1 of scratch is tainted, with offsets in g1 to g3. -/
def bufferRun : SeatRun :=
  { g := [(1, 248), (2, 4088), (3, 4096), (4, 16)], d := [(1, 5)], dTaint := 4, scratch := [(16, 7)], sValid := 2, sTaint := 2 }

/-- Accesses that end at the last byte of their buffer and one byte past it. -/
theorem witness_BufferInstructions : Issues 5 (seatState bufferRun) ∧
    (getG bufferRun 1).toNat + (0 : BitVec 14).toNat + 2 ^ (3 : BitVec 2).toNat ≤ 256 ∧
    256 < (getG bufferRun 1).toNat + (1 : BitVec 14).toNat + 2 ^ (3 : BitVec 2).toNat ∧
    ((getG bufferRun 2).toNat + (0 : BitVec 14).toNat + 2 ^ (3 : BitVec 2).toNat ≤ 4096 ∧ Clear { o := 4088, n := 8 } bufferRun ∧
      scratchTaint bufferRun 4088 8 = false) ∧
    (Clear { o := 16, n := 8 } bufferRun ∧ scratchTaint bufferRun 16 8 = true) ∧
    4096 < (getG bufferRun 2).toNat + (1 : BitVec 14).toNat + 2 ^ (3 : BitVec 2).toNat ∧
    ((1 : BitVec 5).toNat < 16 ∧ (getG bufferRun 1).toNat + 8 ≤ 256 ∧ Clear { d := [1] } bufferRun ∧ taintD bufferRun 1 = false ∧
      taintD bufferRun 2 = true) ∧
    (16 + 16 ≤ 4096 ∧ Clear { d := [1], o := 16, n := 16 } bufferRun) ∧ (256 < (getG bufferRun 1).toNat + 16) ∧
    (16 ≤ (16 : BitVec 5).toNat ∨ (3 : BitVec 2).toNat < 2) :=
  ⟨seatState_issues, sure, sure, ⟨sure, quiet_clear, sure⟩,
    ⟨quiet_clear, sure⟩, sure,
    ⟨sure, sure, quiet_clear, rfl, rfl⟩,
    ⟨sure, quiet_clear⟩, sure, sure⟩

/-! ### Units and keys as a routine uses them -/

/-- A handle on entry `n` of the key cache, of an attribute word (R179). -/
def keyHandle (n word bits : Nat) : Handle := { entry := n, attr := { attrOf word with part := 5, bits := BitVec.ofNat 16 bits } }

/-- `seatState` with a run state that holds keys of partition 5, each with its entry in the die's key cache. -/
def keyState (x : SeatRun) : State :=
  { seatState x with
    dies := [(0, { state := .active, kc := { next := 9, entries := x.k.map fun e =>
      (e.1 + 1, { part := 5, units := 1, material := [7] }) } })] }

/-- Seat 5 of `keyState` issues. -/
theorem keyState_issues {x : SeatRun} (hp : x.pc = 0 := by rfl) (he : x.ending = none := by rfl) (ho : x.ops = [] := by rfl)
    (hi : x.instrs = 0 := by rfl) (hf : x.parityAt = none := by rfl) : Issues 5 (keyState x) :=
  seatState_issues hp he ho hi hf

/-- k0 a PIN-encryption key, k1 a data key, k2 a MAC key, k3 an FPE key, k4 an HMAC key, k5 a signing key, k6 its public key,
k7 a data key that may only encrypt; g1 and g2 a range of 32 bytes, g3 and g4 one of 16 at the end of scratch. -/
def unitRun (c : BitVec 3) : SeatRun :=
  { g := [(1, 0), (2, 32), (3, 4080), (4, 16), (5, 1024), (6, 512), (7, 240), (8, 16), (9, 6), (10, 7)]
    d := [(1, 0x01020304050607080000000000000000)], dTaint := 4, cmpLeft := c
    k := [(0, some (keyHandle 1 0x030301 128)), (1, some (keyHandle 2 0x030306 128)), (2, some (keyHandle 3 0x030C04 128)),
      (3, some (keyHandle 4 0x030307 128)), (4, some (keyHandle 5 0x070405 256)), (5, some (keyHandle 6 0x0E800D 2048)),
      (6, some (keyHandle 7 0x0E080E 2048)), (7, some (keyHandle 8 0x030106 128))]
    scratch := [(0, 128), (2, 1), (8, 0x80), (135, 1), (136, 3)], sValid := BitVec.allOnes 256, sTaint := 1#256 <<< 200 }

/-- The same with an open hash context. -/
def hashRun : SeatRun := { unitRun 4 with hash := some { alg := 1 } }

/-- `keyState` with `n` operations of the seat's block unit outstanding. -/
def queuedRun (n : Nat) : SeatRun :=
  { ops := (List.range n).map fun i => { unit := .block, opcode := 0x28, pc := 0, dsts := [.dreg i 0 false] } }

theorem witness_UnitSubmission :
    (getUnit (seatState {}) .block (unitOfSeat .block 5)).ready = true ∧ (getUnit State.reset .block (unitOfSeat .block 5)).ready = false ∧
    16 ≤ (unitOps (seatState (queuedRun 16)) .block (unitOfSeat .block 5)).length ∧
    (unitOps (seatState (queuedRun 15)) .block (unitOfSeat .block 5)).length < 16 ∧
    (goTo ((queuedRun 15).pc + 1) (queuedRun 15)).pc < (getSeat (seatState (queuedRun 15)) 5).len :=
  ⟨rfl, rfl, sure, sure, sure⟩

theorem witness_BlockCipherInstructions : Issues 5 (keyState (unitRun 4)) ∧ Clear { d := [1, 2], k := [0] } (unitRun 4) ∧
    (∀ i : BitVec 3, i = 0 ∨ i = 1 ∨ i = 7 → ∃ h, getK (unitRun 4) i = some h ∧ isBlockAlg h.attr.alg.toNat = true ∧
      h.attr.usage.toNat = (if i = 0 then uPIN_ENC else uDATA) ∧ h.attr.perm.getLsbD pENC = true ∧
      h.attr.perm.getLsbD pDEC = decide (i ≠ 7)) :=
  ⟨keyState_issues, quiet_clear, by
    rintro i (rfl | rfl | rfl) <;> exact ⟨_, rfl, sure, sure, sure, sure⟩⟩

/-- Ranges of 32 bytes at the start of scratch and 16 at its end; numerals of both radixes; every mode of BSTR. -/
theorem witness_StreamInstructions : Issues 5 (keyState (unitRun 4)) ∧ (∀ u, Clear u (unitRun 4)) ∧
    pair (unitRun 4) 1 = some (0, 32) ∧ pair (unitRun 4) 3 = some (4080, 16) ∧ pair (unitRun 4) 7 = some (240, 16) ∧
    (4080 + 16 ≤ 4096 ∧ bstrMode ((13 : BitVec 7).toNat % 8) = some .ofb ∧ (13 : BitVec 7).toNat < 16 ∧ 16 % blockLen 3 = 0) ∧
    ((1 : BitVec 7).toNat < 2 ∧ (keyHandle 3 0x030C04 128).attr.usage.toNat = uMAC ∧
      (keyHandle 3 0x030C04 128).attr.perm.getLsbD pGEN = true) ∧
    ((64 : BitVec 7).toNat / 4 ≤ 16 ∧ blockLen 3 = 16 ∧ (keyHandle 4 0x030307 128).attr.usage.toNat = uFPE ∧
      scratchTaint (unitRun 4) 240 16 = false ∧ taintD (unitRun 4) 1 = false ∧ 1000000 ≤ 10 ^ 16 ∧
      (∀ b ∈ scratchBytes (unitRun 4) 240 16, b.toNat < 10)) :=
  ⟨keyState_issues, (fun _ => quiet_clear), rfl, rfl, rfl, sure, sure, sure⟩

theorem witness_MacVerifyInstruction : Issues 5 (keyState (unitRun 4)) ∧ Issues 5 (keyState (unitRun 0)) ∧
    (∀ u, Clear u (unitRun 4)) ∧ (∀ u, Clear u (unitRun 0)) ∧ pair (unitRun 4) 1 = some (0, 32) ∧ pair (unitRun 0) 1 = some (0, 32) ∧
    getK (unitRun 4) 2 = some (keyHandle 3 0x030C04 128) ∧ getK (unitRun 0) 2 = some (keyHandle 3 0x030C04 128) ∧
    (0x79 : BitVec 7).toNat % 8 < 2 ∧ 4 ≤ (0x79 : BitVec 7).toNat / 8 + 1 ∧ 4 ≤ (0x18 : BitVec 7).toNat / 8 + 1 ∧
    (keyHandle 3 0x030C04 128).attr.usage.toNat = uMAC ∧ (keyHandle 3 0x030C04 128).attr.perm.getLsbD pVER = true ∧
    isBlockAlg (keyHandle 3 0x030C04 128).attr.alg.toNat = true ∧ (unitRun 4).cmpLeft ≠ 0 ∧ (unitRun 0).cmpLeft = 0 ∧
    UnitTakes 5 .block (keyState (unitRun 4)) :=
  ⟨keyState_issues, keyState_issues, (fun _ => quiet_clear),
    (fun _ => quiet_clear), rfl, rfl, rfl, rfl, sure, sure, sure, sure, sure, sure, sure,
    rfl, ⟨rfl, sure⟩⟩

/-- HSTART plain and keyed, HDATA from each source, HEND into scratch and into registers. -/
theorem witness_HashInstructions : Issues 5 (keyState (unitRun 4)) ∧ Issues 5 (keyState hashRun) ∧ (∀ u, Clear u (unitRun 4)) ∧
    (∀ u, Clear u hashRun) ∧ (6 : BitVec 7).toNat < 7 ∧ (8 ≤ (13 : BitVec 7).toNat ∧ (13 : BitVec 7).toNat < 14) ∧
    UnitTakes 5 .hash (keyState (unitRun 4)) ∧ UnitTakes 5 .hash (keyState hashRun) ∧ getK (unitRun 4) 4 = some (keyHandle 5 0x070405 256) ∧
    (keyHandle 5 0x070405 256).attr.usage.toNat = uHMAC ∧ (keyHandle 5 0x070405 256).attr.perm.getLsbD pGEN = true ∧
    (keyHandle 5 0x070405 256).attr.alg = 7 ∧ (goTo (hashRun.pc + 1) hashRun).pc < (getSeat (keyState hashRun) 5).len ∧
    hashRun.hash = some { alg := 1 } ∧ pair hashRun 3 = some (4080, 16) ∧ pair hashRun 7 = some (240, 16) ∧
    (getG hashRun 1).toNat + digestLen 1 ≤ 4096 ∧ (13 : BitVec 4).toNat + (digestLen 1 + 15) / 16 ≤ 16 :=
  ⟨keyState_issues, keyState_issues, (fun _ => quiet_clear),
    (fun _ => quiet_clear), sure, sure, ⟨rfl, sure⟩, ⟨rfl, sure⟩, rfl, sure, sure, rfl, sure, rfl, rfl, rfl, sure, sure⟩

/-- `unitRun` with an SM2 and a P-256 signing key in k5 and k6, and an identity of 3 bytes at 700. -/
def signRun : SeatRun :=
  { unitRun 4 with
    g := [(1, 0), (2, 32), (6, 512), (9, 700)], scratch := [(700, 3)]
    k := [(5, some (keyHandle 6 0x0D800D 256)), (6, some (keyHandle 7 0x09800D 256))] }

/-- A modulus of 128 bytes at 8 and an exponent of 1 at 136, a zero input at 1,024; a digest and a signature by an RSA key in
a handle and an SM9 key in scratch; SM2 and P-256 signing keys. -/
theorem witness_MauInstructions : Issues 5 (keyState (unitRun 4)) ∧ (∀ u, Clear u (unitRun 4)) ∧
    (128 = leNat (scratchBytes (unitRun 4) 0 2) ∧ 1 = leNat (scratchBytes (unitRun 4) (0 + 2) 2) ∧
      leNat (scratchBytes (unitRun 4) (0 + 4) 4) = 0) ∧
    (scratchTaint (unitRun 4) 0 (8 + 128 + 1) = false ∧ scratchTaint (unitRun 4) 1024 128 = false) ∧
    (beNat (scratchBytes (unitRun 4) (0 + 8) 128) % 2 = 1 ∧ 128 ≤ (byteAt 0 (scratchBytes (unitRun 4) (0 + 8) 128)).toNat ∧
      beNat (scratchBytes (unitRun 4) 1024 128) < beNat (scratchBytes (unitRun 4) (0 + 8) 128)) ∧
    (getK (unitRun 4) 5 = some (keyHandle 6 0x0E800D 2048) ∧ (keyHandle 6 0x0E800D 2048).attr.usage.toNat = uSIG_PRIV ∧
      (keyHandle 6 0x0E800D 2048).attr.perm.getLsbD pSIGN = true ∧ sigAlg 0xE = true ∧
      sha1At (unitRun 4) 32 = false ∧ 512 + sigLen (keyHandle 6 0x0E800D 2048).attr ≤ 4096) ∧
    (getK (unitRun 4) 6 = some (keyHandle 7 0x0E080E 2048) ∧ (keyHandle 7 0x0E080E 2048).attr.usage.toNat = uSIG_PUB ∧
      (keyHandle 7 0x0E080E 2048).attr.perm.getLsbD pVER = true ∧ 512 + sigLen (keyHandle 7 0x0E080E 2048).attr ≤ 4096) ∧
    (keyTypeAlg ((0x12 : BitVec 6).toNat / 4) = some 0xC ∧ (0x12 : BitVec 6).getLsbD 1 = true ∧ (getG (unitRun 4) 6).toNat = 512 ∧
      512 + sigAndKeyLen 0xC 512 ≤ 4096) :=
  ⟨keyState_issues, (fun _ => quiet_clear), sure, sure, sure, sure,
    sure, sure⟩

theorem witness_MauSigning : Issues 5 (keyState signRun) ∧ (∀ u, Clear u signRun) ∧ UnitTakes 5 .mau (keyState signRun) ∧
    drbgDown (keyState signRun) = false ∧ curveLen 9 ≤ (getTroupe (keyState signRun) (troupeOfSeat 5)).drbgBuf ∧
    (goTo (signRun.pc + 1) signRun).pc < (getSeat (keyState signRun) 5).len ∧
    (∀ i : BitVec 3, i = 5 ∨ i = 6 → ∃ h, getK signRun i = some h ∧ h.attr.usage.toNat = uSIG_PRIV ∧ h.attr.perm.getLsbD pSIGN = true ∧
      h.attr.alg = (if i = 5 then 0xD else 9) ∧ sigAlg h.attr.alg.toNat = true ∧ 512 + sigLen h.attr ≤ 4096) ∧
    (3 = leNat (scratchBytes signRun 700 2) ∧ 700 + 2 + 3 ≤ 4096 ∧ sha1At signRun 32 = false) :=
  ⟨keyState_issues, (fun _ => quiet_clear), ⟨rfl, sure⟩, rfl, sure, sure, by
    rintro i (rfl | rfl) <;> exact ⟨_, rfl, sure, sure, sure, sure, sure⟩, sure⟩

/-- XLD of 32 bytes; XST of 16 bytes of scratch to its end, and of the result buffer; XST of a tainted granule. -/
theorem witness_HostAccessInstructions : Issues 5 (seatState (unitRun 4)) ∧ (∀ u, Clear u (unitRun 4)) ∧
    (1 ≤ (getG (unitRun 4) 2).toNat ∧ (getG (unitRun 4) 2).toNat ≤ 4096 ∧ (getG (unitRun 4) 1).toNat + (getG (unitRun 4) 2).toNat ≤ 4096) ∧
    ((getG (unitRun 4) 4).toNat ≤ 4096 - (getG (unitRun 4) 3).toNat ∧ scratchTaint (unitRun 4) (getG (unitRun 4) 3).toNat 16 = false) ∧
    (getG (unitRun 4) 8).toNat ≤ 256 - (getG (unitRun 4) 7).toNat ∧ scratchTaint (unitRun 4) 3200 16 = true ∧
    (gateAccess 6 true 32 32 0 (touchLine 5 (seatState (unitRun 4)))).1 = true ∧
    (gateAccess 6 true 4080 16 1 (touchLine 5 (seatState (unitRun 4)))).1 = true ∧
    (goTo ((unitRun 4).pc + 1) (unitRun 4)).pc < (getSeat (seatState (unitRun 4)) 5).len ∧ seatMuted (seatState (unitRun 4)) 5 = false ∧
    (let m := { seatState (unitRun 4) with items := [{ seatItem1 with mute := true }] }
     Issues 5 m ∧ run m 5 = unitRun 4 ∧ seatMuted m 5 = true ∧ (gateAccess 6 true 32 32 0 (touchLine 5 m)).1 = true ∧
       (gateAccess 6 true 4080 16 1 (touchLine 5 m)).1 = true) :=
  ⟨seatState_issues, (fun _ => quiet_clear), sure, sure, sure, sure, sure, sure,
    sure, sure, seatState_issues, rfl, sure, sure, sure⟩

/-- k0 a base derivation key, k1 a key-block key, k2 an exportable MAC key, k3 a transport key, k4 an agreement key and k5
empty; g1 and g2 a range that holds a key block, g3 a template, g5 and g6 an agreement's operand. -/
def makeRun : SeatRun :=
  { g := [(1, 512), (2, 88), (3, 0x030C04), (5, 0), (6, 72), (7, 0x0583000300000001), (8, 0x0680000000000001)]
    d := [(1, 0x01020304050607080000000000000000)]
    k := [(0, some (keyHandle 1 0x021008 192)), (1, some (keyHandle 2 0x03600C 128)), (2, some (keyHandle 3 0x130C04 128)),
      (3, some (keyHandle 4 0x0D400F 256)), (4, some (keyHandle 5 0x091010 256))]
    scratch := [(0, 4), (1, 0x0C), (2, 3), (4, 64)] ++ pkbBytes.zipIdx.map (fun e => (512 + e.2, e.1)), sValid := BitVec.allOnes 256 }

/-- A reference of record 1 of partition 5's directory, and the state that has it cached and recorded, its fill pending. -/
def cachedRef : Word64 := dirRef 5 1 1
def fillRun : SeatRun :=
  { g := [(1, cachedRef)], kPend := 2, ops := [{ unit := .key, opcode := 0x38, pc := 0, reg := 1, dsts := [.kreg 1], ref := cachedRef }] }
def cachedState (x : SeatRun) : State :=
  { seatState x with
    dies := [(0, { state := .active, kc := { next := 2, entries := [(1, { kind := 1, part := 5, ref := cachedRef, units := 1 })] } })]
    dir := { key := some [], nextIdx := 2, recs := [(1, { issue := 1, part := 5, units := 1 })] } }

theorem witness_KeyReading : Issues 5 (keyState makeRun) ∧ Clear { k := [0] } makeRun ∧ (1 : BitVec 7).toNat ≤ 1 ∧
    getK makeRun 0 = some (keyHandle 1 0x021008 192) ∧ isBlockAlg (keyHandle 1 0x021008 192).attr.alg.toNat = true ∧
    (getUnit (keyState makeRun) .block (unitOfSeat .block 5)).ready = true ∧
    getK makeRun 3 = some (keyHandle 4 0x0D400F 256) ∧ isBlockAlg (keyHandle 4 0x0D400F 256).attr.alg.toNat = false ∧
    getK makeRun 5 = none ∧ Clear { k := [5] } makeRun :=
  ⟨keyState_issues, quiet_clear, sure, rfl, sure, rfl, rfl, sure, rfl,
    quiet_clear⟩

/-- A reference of another partition; one that is cached; one that is not. -/
theorem witness_KeyOpening : Issues 5 (keyState makeRun) ∧ (∀ u, Clear u makeRun) ∧ (1 : BitVec 7).toNat ≤ 1 ∧
    (goTo (makeRun.pc + 1) makeRun).pc < (getSeat (keyState makeRun) 5).len ∧
    refPart (getG makeRun 8) ≠ (getSeat (keyState makeRun) 5).part ∧
    (refOk cachedRef = true ∧ refPart cachedRef = (getSeat (cachedState { g := [(1, cachedRef)] }) 5).part ∧
      seatPins (setK 1 none { g := [(1, cachedRef)] }) < 8 ∧
      findRef (getDie (cachedState { g := [(1, cachedRef)] }) (dieOfSeat 5)).kc (getG { g := [(1, cachedRef)] } 1) = some 1 ∧
      (dieGen (cachedState { g := [(1, cachedRef)] }) 0 5 0).toNat ≤ (getEntry (cachedState { g := [(1, cachedRef)] }) 0 1).gen.toNat) ∧
    (refOk (dirRef 5 2 1) = true ∧ findRef (getDie (cachedState {}) 0).kc (dirRef 5 2 1) = none ∧ refIsDir (dirRef 5 2 1) = true) :=
  ⟨keyState_issues, (fun _ => quiet_clear), sure, sure, sure, sure, sure⟩

/-- KDERIVE of an initial key, KUNWRAP of a block that opens, KGEN of an AES MAC key and KWRAP of one. -/
theorem witness_KeyMakingInstructions (ho : Opens) :
    Issues 5 (keyState makeRun) ∧ (∀ u, Clear u makeRun) ∧ seatPins (setK 5 none makeRun) < 8 ∧
    UnitTakes 5 .block (keyState makeRun) ∧ (getUnit (keyState makeRun) .hash (unitOfSeat .hash 5)).ready = true ∧
    (goTo (makeRun.pc + 1) makeRun).pc < (getSeat (keyState makeRun) 5).len ∧ getK makeRun 5 = none ∧
    (deriveRow ((0 : BitVec 7).toNat % 16) ((0 : BitVec 7).toNat / 16) = some (uBDK, 1, 10, uDUKPT_IK, 0x10) ∧
      getK makeRun 0 = some (keyHandle 1 0x021008 192) ∧ mayUse (keyHandle 1 0x021008 192) [uBDK] pDRV = true ∧
      deriveAlgOk 1 (keyHandle 1 0x021008 192).attr.alg.toNat = true ∧ taintD makeRun 1 = false ∧
      counterBad 0 (dBytes (getD makeRun 1)) = false) ∧
    (pair makeRun 1 = some (512, 88) ∧ getK makeRun 1 = some (keyHandle 2 0x03600C 128) ∧
      mayUse (keyHandle 2 0x03600C 128) [uKBPK] pUNWRAP = true ∧
      (dieGen (keyState makeRun) 0 (getEntry (keyState makeRun) 0 2).part 0).toNat ≤ (keyHandle 2 0x03600C 128).gen.toNat ∧
      openBlock ((2 : BitVec 7).toNat / 2) 5 0 0 3 (getEntry (keyState makeRun) 0 2).material (scratchBytes makeRun 512 88) = (0, some pkbKey)) ∧
    (templateOk (getG makeRun 3).toNat = true ∧ drbgDown (keyState makeRun) = false ∧
      keyLen (attrOf (getG makeRun 3).toNat).alg.toNat ≤ (getTroupe (keyState makeRun) (troupeOfSeat 5)).drbgBuf) ∧
    (getK makeRun 2 = some (keyHandle 3 0x130C04 128) ∧ mayUse (keyHandle 2 0x03600C 128) [uKBPK] pWRAP = true ∧
      exportOk (keyHandle 3 0x130C04 128).attr (keyHandle 2 0x03600C 128).attr = true ∧
      ∃ b, sealBlock 1 3 [7] (keyHandle 3 0x130C04 128).attr 0 [7] (Config.drbg 0) = some b ∧ b.length ≤ 88) ∧
    ((keyHandle 4 0x0D400F 256).attr.usage.toNat = uKT_PRIV ∧ (keyHandle 4 0x0D400F 256).attr.alg = 0xD) ∧
    (pair makeRun 5 = some (0, 72) ∧ (keyHandle 5 0x091010 256).attr.usage.toNat = uKA_PRIV ∧
      (keyHandle 5 0x091010 256).attr.perm.getLsbD pDRV = true ∧ templateOk (leAt 0 4 (scratchBytes makeRun 0 72)) = true ∧
      leAt 6 2 (scratchBytes makeRun 0 72) = 0 ∧ leAt 4 2 (scratchBytes makeRun 0 72) = 2 * curveLen 9) :=
  ⟨keyState_issues, (fun _ => quiet_clear), sure, ⟨rfl, sure⟩, rfl, sure, rfl,
    sure, ⟨rfl, rfl, sure, sure, by
      rw [show scratchBytes makeRun 512 88 = pkbBytes by decide +kernel]; exact pkb_opens ho _⟩, sure,
    ⟨rfl, sure, sure, _, rfl, by simp; decide⟩, sure, sure⟩

/-- An SM2 key exchange. -/
def exchangeRun : SeatRun :=
  { makeRun with
    g := [(5, 0), (6, 264)], k := [(4, some (keyHandle 5 0x0D1010 256))] }

theorem witness_KeyExchange : Issues 5 (keyState exchangeRun) ∧ (∀ u, Clear u exchangeRun) ∧ seatPins (setK 5 none exchangeRun) < 8 ∧
    UnitTakes 5 .mau (keyState exchangeRun) ∧ drbgDown (keyState exchangeRun) = false ∧
    32 ≤ (getTroupe (keyState exchangeRun) (troupeOfSeat 5)).drbgBuf ∧
    (goTo (exchangeRun.pc + 1) exchangeRun).pc < (getSeat (keyState exchangeRun) 5).len ∧
    pair exchangeRun 5 = some (0, 264) ∧ getK exchangeRun 4 = some (keyHandle 5 0x0D1010 256) ∧
    (keyHandle 5 0x0D1010 256).attr.usage.toNat = uKA_PRIV ∧ (keyHandle 5 0x0D1010 256).attr.perm.getLsbD pDRV = true ∧
    (keyHandle 5 0x0D1010 256).attr.alg = 0xD ∧ templateOk (leAt 0 4 (scratchBytes exchangeRun 0 264)) = true ∧
    leAt 6 2 (scratchBytes exchangeRun 0 264) = 0 ∧ leAt 4 2 (scratchBytes exchangeRun 0 264) = 2 * curveLen 0xD :=
  ⟨keyState_issues, (fun _ => quiet_clear), sure, ⟨rfl, sure⟩, rfl, sure, sure,
    rfl, rfl, sure, sure, rfl, sure, sure, sure⟩

/-- A host read, a block operation and a key fill, each the seat's only one. -/
def endRun (o : PendOp) : SeatRun := { ops := [o] }
def hostOp : PendOp := { unit := .host, ticket := some 0, opcode := 0x2E, pc := 0, dsts := [.scratch 4080 (zeros 16) false] }
def blockOp : PendOp := { unit := .block, opcode := 0x28, pc := 0, dsts := [.dreg 3 9 true] }

/-- A comparison and a check value the seat waits for, and a key that a block operation makes. -/
def syncOp (w : OpWrite) : PendOp := { unit := .block, opcode := 0x3B, pc := 0, sync := true, dsts := [w] }
def makeOp : PendOp :=
  { unit := .block, opcode := 0x3C, pc := 0, dsts := [.kreg 2], newKey := some (mkKey (attrOf 0x030C04) 5 0 0 0 [7]) }

/-- A routine at END with one operation on its way. -/
def lastRun : SeatRun := { ops := [{ unit := .hash, opcode := 0x1E, pc := 0 }], ending := some { status := stOK }, endOk := true }

theorem witness_OperationEndsLater :
    (∀ w, (run (seatState (endRun (syncOp w))) 5).ops = [syncOp w] ∧ (run (seatState (endRun (syncOp w))) 5).ending = none ∧
      (goTo ((endRun (syncOp w)).pc + 1) (endRun (syncOp w))).pc < (getSeat (seatState (endRun (syncOp w))) 5).len) ∧
    (syncOp (.flags true)).dsts = [.flags true] ∧ (syncOp (.greg 31 9)).dsts = [.greg 31 9] ∧
    ((run (seatState (endRun makeOp)) 5).ops = [makeOp] ∧ makeOp.newKey = some (mkKey (attrOf 0x030C04) 5 0 0 0 [7]) ∧
      makeOp.persist = false ∧ makeOp.held = false ∧ makeOp.fail = 0 ∧ getK (endRun makeOp) 2 = none) ∧
    ((run (seatState lastRun) 5).ending = some { status := stOK } ∧ (run (seatState lastRun) 5).endOk = true ∧
      (getSeat (seatState lastRun) 5).run = some 1 ∧ getItem (seatState lastRun) 1 = some seatItem1 ∧
      wingItem (seatState lastRun) 5 = none ∧ (getSeat (seatState lastRun) (5 - 1)).suspended = false) :=
  ⟨fun _ => ⟨rfl, rfl, Nat.lt_of_sub_eq_succ rfl⟩, rfl, rfl, ⟨rfl, rfl, rfl, rfl, rfl, rfl⟩, ⟨rfl, rfl, rfl, rfl, rfl, rfl⟩⟩

theorem witness_OperationEnds :
    ((run (seatState (endRun hostOp)) 5).ending = none ∧ (run (seatState (endRun hostOp)) 5).ops = [hostOp] ∧ hostOp.pins = [] ∧
      hostOp.newKey = none ∧ hostOp.dsts = [.scratch 4080 (zeros 16) false]) ∧
    ((run (seatState (endRun blockOp)) 5).ops = [blockOp] ∧ blockOp.held = false ∧ blockOp.fail = 0 ∧ blockOp.dsts = [.dreg 3 9 true]) ∧
    ((run (cachedState fillRun) 5).ending = none ∧ (run (cachedState fillRun) 5).ops = [{
        unit := .key, opcode := 0x38, pc := 0, reg := 1, dsts := [.kreg 1], ref := cachedRef }] ∧
      dieKept (cachedState fillRun) (dieOfSeat 5) = true ∧
      findRef (getDie (cachedState fillRun) (dieOfSeat 5)).kc cachedRef = some 1 ∧ refIsDir cachedRef = true ∧
      (dirAccess (refIndex cachedRef) 0 (cachedState fillRun)).1 = true ∧ (cachedState fillRun).dir.key.isSome = true ∧ (getDir (cachedState fillRun) (refIndex cachedRef)).issue.toNat = refIssue cachedRef ∧
      (getDir (cachedState fillRun) (refIndex cachedRef)).issue ≠ 0 ∧
      (getDir (cachedState fillRun) (refIndex cachedRef)).part = refPart cachedRef ∧
      (slotRec (cachedState fillRun) (refPart cachedRef) 0).word.toNat ≤ (getDir (cachedState fillRun) (refIndex cachedRef)).gen.toNat ∧
      (dieGen (cachedState fillRun) (dieOfSeat 5) (refPart cachedRef) 0).toNat ≤
        (getDir (cachedState fillRun) (refIndex cachedRef)).gen.toNat) :=
  ⟨⟨rfl, rfl, rfl, rfl, rfl⟩, ⟨rfl, rfl, rfl, rfl⟩, sure⟩

/-- A CBC encryption of 16 bytes; a descriptor of length 0; an SCU that another partition holds. -/
def bulkRun (n : Byte) : SeatRun :=
  { g := [(1, 64)], k := [(1, some (keyHandle 2 0x030306 128))], scratch := [(64, 1), (88, n)], sValid := BitVec.allOnes 256 }

theorem witness_BulkSubmission : Issues 5 (keyState (bulkRun 16)) ∧ Issues 5 (keyState (bulkRun 0)) ∧ (∀ u, Clear u (bulkRun 16)) ∧
    (∀ u, Clear u (bulkRun 0)) ∧ getK (bulkRun 16) 1 = some (keyHandle 2 0x030306 128) ∧
    ((getG (bulkRun 16) 1).toNat + 64 ≤ 4096 ∧ (getG (bulkRun 16) 1).toNat % 16 = 0) ∧
    ((getScu (keyState (bulkRun 16)) 0).exclusive = false ∧ (getScu (keyState (bulkRun 16)) 0).ready = true ∧
      descBad (scratchBytes (bulkRun 16) 64 64) = false ∧ descReenc (scratchBytes (bulkRun 16) 64 64) = false ∧
      (keyHandle 2 0x030306 128).attr.usage.toNat = uDATA ∧ (keyHandle 2 0x030306 128).attr.perm.getLsbD pENC = true ∧
      isAes (keyHandle 2 0x030306 128).attr.alg.toNat = true ∧ (getScu (keyState (bulkRun 16)) 0).active.length < 32) ∧
    descBad (scratchBytes (bulkRun 0) 64 64) = true ∧
    (getScu { keyState (bulkRun 16) with units := { scu := [(0, { exclusive := true, owner := 9 })] } } 0).exclusive = true :=
  ⟨keyState_issues, keyState_issues, (fun _ => quiet_clear),
    (fun _ => quiet_clear), rfl, sure, sure, sure, rfl⟩

/-! ### The library's services -/

/-- A command's bytes: `chunks` of 64 bytes, the OPLEN word, and fields given by offset, length and value. -/
def rawOf (chunks oplen : Nat) (fields : List (Nat × Nat × Nat)) : Bytes :=
  ((6, 2, oplen) :: fields).foldl (fun l f => l.take f.1 ++ toLE f.2.1 f.2.2 ++ l.drop (f.1 + f.2.1)) (zeros (64 * chunks))

/-- A command of partition 5 in seat 5. -/
def libItem (routine chunks oplen : Nat) (fields : List (Nat × Nat × Nat)) : Item :=
  { seatItem1 with routine := routine, raw := rawOf chunks oplen fields }

/-- The reference of key `n` below. -/
def keyRef (n : Nat) : Nat := (dirRef 5 n 1).toNat

/-- Attribute words (R179) and lengths of keys 1 to 14 in the die's cache: PIN encryption, PIN verification, BDK, CVK, MAC,
key block, exportable MAC, RSA transport, RSA public, agreement, FPE, RSA signing, data, EMV master. -/
def libKeys : List (Nat × Nat) :=
  [(0x010301, 128), (0x010C02, 128), (0x011008, 128), (0x030C03, 128), (0x030C04, 128), (0x03600C, 128), (0x130C04, 128),
    (0x0E400F, 2048), (0x0E080E, 2048), (0x091010, 256), (0x030307, 128), (0x0E800D, 2048), (0x030306, 128), (0x03100A, 128)]

/-- Seat 5 at the first instruction of a library routine for a command. -/
def libState (i : Item) : State :=
  { seatState {} with
    dies := [(0, { state := .active, kc := { next := 20, entries := (List.range 14).map fun n =>
      (n + 1, { kind := 1, part := 5, ref := dirRef 5 (n + 1) 1, units := 1, material := [7]
                attr := { attrOf (libKeys.getD n (0, 0)).1 with part := 5, bits := BitVec.ofNat 16 (libKeys.getD n (0, 0)).2 } }) } })]
    items := [i]
    troupes := [(0, { lines := [{ part := none, routine := i.routine, gen := 0, index := 0 }], drbgBuf := 256 })]
    seats := [(5, { run := some 1, part := 5, routine := i.routine, len := 64 })] }

/-- Key `n` of a state. -/
def libHandle (n : Nat) (s : State) : Handle := handleOf n (getEntry s 0 n)

/-- The fields of a PAN of 13 digits in 10 bytes. -/
def panAt (off : Nat) : List (Nat × Nat × Nat) := [(off, 6, 0x654321098765), (off + 6, 1, 0x1F), (off + 7, 3, 0xFFFFFF)]

/-- PIN_TRANSLATE from format 0 to format 0, and from format 0 to format 3 with random fill. -/
def pinCmd (df : Nat) : Item :=
  libItem 0x0100 1 40 ([(24, 8, keyRef 1), (32, 8, keyRef 1), (41, 1, df), (42, 1, 13)] ++ panAt 44)

theorem witness_PinTranslation (pin : List Nat) (df : Nat) (hdf : df = 0 ∨ df = 3)
    (hp : pinDigits (pinCode 0) (pinOpen 0 1 [7] (opBytes (pinCmd df) 56 8) (panOf (pinCmd df) 44 13)) = some pin) :
    LibRuns 5 0x0100 (pinCmd df) (libState (pinCmd df)) ∧
    HasKey 5 24 (pinCmd df) (libHandle 1 (libState (pinCmd df))) [7] (libState (pinCmd df)) ∧
    (∃ h2, HasKey2 5 24 32 (pinCmd df) h2 [7] (libState (pinCmd df)) ∧ pinAlgOk df h2.attr.alg.toNat = true ∧
      mayUse h2 [uPIN_ENC] pENC = true) ∧
    pinFmt df = true ∧ panLenOk [0, df] 13 = true ∧ Form (pinCmd df) false 1 40 ∧
    digitField 13 (nibbles (opBytes (pinCmd df) 44 10)) = true ∧ ZeroFields (pinCmd df) [(43, 1), (54, 2)] ∧
    mayUse (libHandle 1 (libState (pinCmd df))) [uPIN_ENC] pDEC = true ∧
    pinDigits (pinCode 0) (pinOpen 0 1 [7] (opBytes (pinCmd df) 56 8) (panOf (pinCmd df) 44 13)) = some pin := by
  rcases hdf with rfl | rfl <;>
    exact ⟨by unfold LibRuns AtEnd; decide +kernel, ⟨sure, sure, sure, 1, sure, rfl, rfl, sure⟩,
      ⟨_, ⟨sure, sure, sure, 1, sure, rfl, sure, sure⟩, sure, sure⟩, sure, sure,
      by unfold Form; decide +kernel, sure, by unfold ZeroFields; decide +kernel, sure, hp⟩

/-- A reference at `off` of a command is key `n` of its state. -/
theorem has_key (off n : Nat) (i : Item) (h1 : opLe i off 8 ≠ 0) (h2 : refOk (opRef i off) = true) (h3 : refPart (opRef i off) = 5)
    (h4 : findRef (getDie (libState i) 0).kc (opRef i off) = some n) (h5 : (getEntry (libState i) 0 n).material = [7]) :
    HasKey 5 off i (libHandle n (libState i)) [7] (libState i) :=
  ⟨h1, h2, h3, n, h4, rfl, h5.symm, by show (0 : Word32).toNat ≤ _; exact Nat.zero_le _⟩

/-- PIN_TRANSLATE_DUKPT of TDES; DUKPT_MAC_VERIFY of 1 byte and of 63. -/
def dukptPin : Item :=
  libItem 0x0101 2 63 ([(24, 8, keyRef 3), (32, 8, keyRef 1), (42, 1, 13)] ++ panAt 44 ++ [(65, 8, 0x0807060504030201)])
def dukptMac (n : Nat) : Item := libItem 0x0500 2 (40 + n) [(24, 8, keyRef 3), (33, 1, 8), (36, 8, 0x0807060504030201), (48, 8, 9)]

def dukptWork (v : Nat) (data : Bytes) : Nat × Bytes :=
  libDerive 1 v (libDerive 0 0 1 [7] data).1 (libDerive 0 0 1 [7] data).2 data

theorem witness_DukptServices (pin : List Nat)
    (hp : pinDigits 0 (pinOpen 0 (dukptWork 0 (opBytes dukptPin 65 12)).1 (dukptWork 0 (opBytes dukptPin 65 12)).2
      (opBytes dukptPin 80 8) (panOf dukptPin 44 13)) = some pin) :
    LibRuns 5 0x0101 dukptPin (libState dukptPin) ∧
    (HasKey 5 24 dukptPin (libHandle 3 (libState dukptPin)) [7] (libState dukptPin) ∧
      isTdes (libHandle 3 (libState dukptPin)).attr.alg.toNat = true ∧ mayUse (libHandle 3 (libState dukptPin)) [uBDK] pDRV = true) ∧
    (∃ h2, HasKey2 5 24 32 dukptPin h2 [7] (libState dukptPin) ∧ isTdes h2.attr.alg.toNat = true ∧ mayUse h2 [uPIN_ENC] pENC = true) ∧
    (opLe dukptPin 40 1 = 0 ∧ opLe dukptPin 41 1 = 0 ∧ opLe dukptPin 43 1 = 0 ∧ opLe dukptPin 42 1 = 13) ∧
    digitField 13 (nibbles (opBytes dukptPin 44 10)) = true ∧ Form dukptPin false 2 63 ∧ ZeroFields dukptPin [(54, 10), (75, 2), (77, 3)] ∧
    counterBad 1 (opBytes dukptPin 65 12) = false ∧
    pinDigits 0 (pinOpen 0 (dukptWork 0 (opBytes dukptPin 65 12)).1 (dukptWork 0 (opBytes dukptPin 65 12)).2
      (opBytes dukptPin 80 8) (panOf dukptPin 44 13)) = some pin ∧
    (∀ n, n = 1 ∨ n = 63 → LibRuns 5 0x0500 (dukptMac n) (libState (dukptMac n)) ∧
      HasKey 5 24 (dukptMac n) (libHandle 3 (libState (dukptMac n))) [7] (libState (dukptMac n)) ∧
      itemPointer (dukptMac n) = false ∧ itemChunks (dukptMac n) = 2 ∧ itemOplen (dukptMac n) - 40 = n ∧ opLe (dukptMac n) 32 1 = 0 ∧
      opLe (dukptMac n) 33 1 = 8 ∧ ZeroFields (dukptMac n) [(34, 2), (46, 2)] ∧ leNat ((opBytes (dukptMac n) 48 16).drop 8) = 0 ∧
      counterBad 1 (opBytes (dukptMac n) 36 12) = false) := by
  refine ⟨by unfold LibRuns AtEnd; decide +kernel, ⟨has_key 24 3 _ sure sure sure sure sure, sure, sure⟩,
    ⟨_, ⟨sure, sure, sure, 1, sure, rfl, sure, sure⟩, sure, sure⟩, sure, sure,
    by unfold Form; decide +kernel, by unfold ZeroFields; decide +kernel, sure, hp, ?_⟩
  rintro n (rfl | rfl) <;>
    exact ⟨by unfold LibRuns AtEnd; decide +kernel, has_key 24 3 _ sure sure sure sure sure, sure, sure, sure,
      sure, sure, by unfold ZeroFields; decide +kernel, sure, sure⟩

/-- PIN_VERIFY by the offset method with a table of every digit; EMV_ARQC_VERIFY of no data and of 63 bytes. -/
def pinVer : Item :=
  libItem 0x0110 2 63 ([(24, 8, keyRef 1), (32, 8, keyRef 2), (42, 1, 13), (43, 1, 4)] ++ panAt 44 ++
    [(73, 8, 0x5432109876543210), (81, 2, 0x3412), (83, 4, 0xFFFFFFFF)])
def emvCmd (n : Nat) : Item :=
  libItem 0x0200 (if n = 0 then 1 else 2) (40 + n) [(24, 8, keyRef 14), (32, 1, 1), (33, 1, 16), (34, 1, 1), (35, 1, n)]

theorem witness_VerifyServices (pin : List Nat)
    (hp : pinDigits 0 (pinOpen 0 1 [7] (opBytes pinVer 56 8) (panOf pinVer 44 13)) = some pin) :
    LibRuns 5 0x0110 pinVer (libState pinVer) ∧ HasKey 5 24 pinVer (libHandle 1 (libState pinVer)) [7] (libState pinVer) ∧
    (∃ h2, HasKey2 5 24 32 pinVer h2 [7] (libState pinVer) ∧ isTdes h2.attr.alg.toNat = true ∧ mayUse h2 [uPIN_VER] pVER = true) ∧
    (opLe pinVer 40 1 = 0 ∧ opLe pinVer 41 1 = 0 ∧ opLe pinVer 42 1 = 13 ∧ opLe pinVer 43 1 = 4) ∧ Form pinVer false 2 63 ∧
    digitField 13 (nibbles (opBytes pinVer 44 10)) = true ∧ ZeroFields pinVer [(54, 2), (87, 1)] ∧
    tableOk (nibbles (opBytes pinVer 73 8)) = true ∧ digitField 4 (nibbles (opBytes pinVer 81 6)) = true ∧
    pinDigits 0 (pinOpen 0 1 [7] (opBytes pinVer 56 8) (panOf pinVer 44 13)) = some pin ∧
    (∀ n, n = 0 ∨ n = 63 → LibRuns 5 0x0200 (emvCmd n) (libState (emvCmd n)) ∧
      HasKey 5 24 (emvCmd n) (libHandle 14 (libState (emvCmd n))) [7] (libState (emvCmd n)) ∧
      opLe (emvCmd n) 32 1 = 1 ∧ opLe (emvCmd n) 33 1 = 16 ∧ opLe (emvCmd n) 35 1 = n ∧
      Form (emvCmd n) false (if n = 0 then 1 else 2) (40 + n) ∧ isDigits (nibbles (opBytes (emvCmd n) 34 1)) = true ∧
      digitField 16 (nibbles (opBytes (emvCmd n) 36 8)) = true ∧ ZeroFields (emvCmd n) [(46, 2), (58, 6)] ∧
      mayUse (libHandle 14 (libState (emvCmd n))) [uEMV_MK] pDRV = true ∧
      isAes (libHandle 14 (libState (emvCmd n))).attr.alg.toNat = true) := by
  refine ⟨by unfold LibRuns AtEnd; decide +kernel, has_key 24 1 _ sure sure sure sure sure,
    ⟨_, ⟨sure, sure, sure, 2, sure, rfl, sure, sure⟩, sure, sure⟩, sure, by unfold Form; decide +kernel,
    sure, by unfold ZeroFields; decide +kernel, sure, sure, hp, ?_⟩
  rintro n (rfl | rfl) <;>
    exact ⟨by unfold LibRuns AtEnd; decide +kernel, has_key 24 14 _ sure sure sure sure sure, sure, sure,
      sure, by unfold Form; decide +kernel, sure, sure, by unfold ZeroFields; decide +kernel, sure, sure⟩

/-- CVC_GENERATE and CVC_VERIFY; MAC_GENERATE and MAC_VERIFY inline of 71 bytes, and MAC_GENERATE of 3,840 bytes in a buffer. -/
def cvcCmd (r code : Nat) : Item :=
  libItem r 1 40 ([(24, 8, keyRef 4), (32, 1, 13), (33, 1, 3), (46, 1, 0), (47, 1, 0x0F), (48, 3, code)] ++ panAt 34)
def macCmd (r : Nat) : Item := libItem r 2 103 [(24, 8, keyRef 5), (33, 1, 16)]
def macPtr : Item := libItem 0x0400 1 (0x8000 + 28) [(24, 8, 0x1000), (32, 4, 3840), (36, 8, keyRef 5), (45, 1, 4)]

theorem witness_CodeAndMacServices :
    (∀ r code, (r = 0x0300 ∧ code = 0) ∨ (r = 0x0301 ∧ code = 0xFF1F12) → LibRuns 5 r (cvcCmd r code) (libState (cvcCmd r code)) ∧
      HasKey 5 24 (cvcCmd r code) (libHandle 4 (libState (cvcCmd r code))) [7] (libState (cvcCmd r code)) ∧
      Form (cvcCmd r code) false 1 40 ∧ opLe (cvcCmd r code) 32 1 = 13 ∧ opLe (cvcCmd r code) 33 1 = 3 ∧
      digitField 13 (nibbles (opBytes (cvcCmd r code) 34 10)) = true ∧ isDigits (nibbles (opBytes (cvcCmd r code) 44 2)) = true ∧
      digitField 3 (nibbles (opBytes (cvcCmd r code) 46 2)) = true ∧ ZeroFields (cvcCmd r code) [(51, 13)] ∧
      opLe (cvcCmd r code) 48 3 = code ∧ (r = 0x0301 → digitField 3 (nibbles (opBytes (cvcCmd r code) 48 3)) = true) ∧
      mayUse (libHandle 4 (libState (cvcCmd r code))) [uCVK] pGEN = true) ∧
    (∀ r, r = 0x0400 ∨ r = 0x0401 → LibRuns 5 r (macCmd r) (libState (macCmd r)) ∧
      HasKey 5 24 (macCmd r) (libHandle 5 (libState (macCmd r))) [7] (libState (macCmd r)) ∧ itemPointer (macCmd r) = false ∧
      itemOplen (macCmd r) - 32 = 71 ∧ opLe (macCmd r) 32 1 = 0 ∧ opLe (macCmd r) 33 1 = 16 ∧ ZeroFields (macCmd r) [(34, 6)] ∧
      opLe (macCmd r) 40 16 = 0 ∧ mayUse (libHandle 5 (libState (macCmd r))) [uMAC] pGEN = true ∧
      mayUse (libHandle 5 (libState (macCmd r))) [uMAC] pVER = true ∧ leNat ((opBytes (macCmd r) 40 16).drop 16) = 0) ∧
    (LibRuns 5 0x0400 macPtr (libState macPtr) ∧ HasKey 5 36 macPtr (libHandle 5 (libState macPtr)) [7] (libState macPtr) ∧
      itemPointer macPtr = true ∧ itemOplen macPtr = 28 ∧ macPtr.le 32 4 = 3840 ∧ opLe macPtr 44 1 = 0 ∧ opLe macPtr 45 1 = 4 ∧
      ZeroFields macPtr [(46, 2)] ∧ opLe macPtr 48 16 = 0 ∧
      HostMay macPtr 6 (macPtr.le 24 8) (macPtr.le 32 4) 0 (libState macPtr)) := by
  refine ⟨?_, ?_, ?_⟩
  · rintro r code (⟨rfl, rfl⟩ | ⟨rfl, rfl⟩) <;>
      exact ⟨by unfold LibRuns AtEnd; decide +kernel, has_key 24 4 _ sure sure sure sure sure, by unfold Form; decide +kernel,
        sure, sure, sure, sure, sure, by unfold ZeroFields; decide +kernel, sure, sure, sure⟩
  · rintro r (rfl | rfl) <;>
      exact ⟨by unfold LibRuns AtEnd; decide +kernel, has_key 24 5 _ sure sure sure sure sure, sure, sure,
        sure, sure, by unfold ZeroFields; decide +kernel, sure, sure, sure, sure⟩
  · exact ⟨by unfold LibRuns AtEnd; decide +kernel, has_key 36 5 _ sure sure sure sure sure, sure, sure,
      sure, sure, sure, by unfold ZeroFields; decide +kernel, sure, sure⟩

/-- KEY_IMPORT, KEY_EXPORT, KEY_TRANSLATE and KEY_GENERATE, each with a Pachaca block. -/
def importCmd : Item := libItem 0x0600 1 (0x8000 + 12) [(24, 8, 0x1000), (32, 4, 88), (36, 8, keyRef 6), (44, 1, 1)]
def exportCmd : Item := libItem 0x0601 1 40 [(24, 8, keyRef 7), (32, 8, keyRef 6), (40, 1, 1), (48, 8, 0x2000), (56, 4, 88)]
def translateCmd : Item :=
  libItem 0x0602 2 (0x8000 + 32) [(24, 8, 0x1000), (32, 4, 88), (36, 8, keyRef 6), (44, 8, keyRef 6), (52, 1, 1), (53, 1, 1),
    (56, 8, 0x4000), (65, 4, 256)]
def generateCmd : Item :=
  libItem 0x0603 1 40 [(24, 4, 0x130C04), (28, 1, 2), (29, 1, 1), (32, 8, keyRef 6), (40, 8, 0x2000), (48, 4, 256)]

/-- A block of a short key fits 256 bytes. -/
theorem seal_fits (kalg : Nat) (kkey : Bytes) (a : KeyAttr) (x9 : BitVec 2) (m : Bytes) (hk : isTdes kalg = false) (hm : m.length ≤ 64) (r) :
    ∃ c, sealBlock 1 kalg kkey a x9 m r = some c ∧ c.length ≤ 256 := by
  refine ⟨_, by simp only [sealBlock, sealPkb, hk]; rfl, ?_⟩
  simp [roundUp]
  omega

theorem below {m : Nat} {p : Nat → Prop} (h : ∀ n, n < m + 1 → p n) (n : Nat) (hn : n ≤ m) : p n := h n (by omega)

theorem witness_KeyBlockServices (ho : Opens) :
    (getUnit (libState importCmd) .block (unitOfSeat .block 5)).ready = true ∧ drbgDown (libState importCmd) = false ∧
    (LibRuns 5 0x0600 importCmd (libState importCmd) ∧ HasKey 5 36 importCmd (libHandle 6 (libState importCmd)) [7] (libState importCmd) ∧
      Form importCmd true 1 12 ∧ importCmd.le 32 4 = 88 ∧ opLe importCmd 44 1 = 1 ∧ ZeroFields importCmd [(45, 3)] ∧
      HostMay importCmd 6 (importCmd.le 24 8) (importCmd.le 32 4) 0 (libState importCmd) ∧
      mayUse (libHandle 6 (libState importCmd)) [uKBPK] pUNWRAP = true ∧
      (dieGen (libState importCmd) 0 (getEntry (libState importCmd) 0 6).part (libHandle 6 (libState importCmd)).slot).toNat ≤
        (libHandle 6 (libState importCmd)).gen.toNat ∧
      (openBlock 1 5 (libHandle 6 (libState importCmd)).slot (libHandle 6 (libState importCmd)).gen
        (libHandle 6 (libState importCmd)).attr.alg.toNat [7] (fit 88 pkbBytes)).2 = some pkbKey ∧
      dirPartUnits (libState importCmd).dir 5 + pkbKey.units ≤ (Tab.get dDirPart (libState importCmd).dir.parts 5).quota.toNat ∧
      dirUnits (libState importCmd).dir + pkbKey.units ≤ 6291456 ∧ (libState importCmd).dir.nextIdx < 4194304) ∧
    (LibRuns 5 0x0601 exportCmd (libState exportCmd) ∧ HasKey 5 24 exportCmd (libHandle 7 (libState exportCmd)) [7] (libState exportCmd) ∧
      (∃ h2, HasKey2 5 24 32 exportCmd h2 [7] (libState exportCmd) ∧ mayUse h2 [uKBPK] pWRAP = true ∧
        exportOk (getEntry (libState exportCmd) 0 7).attr h2.attr = true) ∧
      Form exportCmd false 1 40 ∧ opLe exportCmd 40 1 = 1 ∧ ZeroFields exportCmd [(41, 7), (60, 4)] ∧ opLe exportCmd 56 4 = 88 ∧
      ∀ n, n ≤ 88 → HostMay exportCmd 6 (opLe exportCmd 48 8) n 1 (libState exportCmd)) ∧
    (∀ r, ∃ c, sealBlock 1 3 [7] (getEntry (libState exportCmd) 0 7).attr 0 [7] r = some c ∧ c.length ≤ 88) ∧
    (LibRuns 5 0x0602 translateCmd (libState translateCmd) ∧
      HasKey 5 36 translateCmd (libHandle 6 (libState translateCmd)) [7] (libState translateCmd) ∧
      (∃ h2, HasKey2 5 36 44 translateCmd h2 [7] (libState translateCmd) ∧ mayUse h2 [uKBPK] pWRAP = true ∧
        exportOk pkbKey.attr h2.attr = true ∧
        ∀ r, ∃ c, sealBlock 1 h2.attr.alg.toNat [7] pkbKey.attr pkbKey.x9 pkbKey.material r = some c ∧ c.length ≤ opLe translateCmd 65 4) ∧
      HostMay translateCmd 6 (translateCmd.le 24 8) (translateCmd.le 32 4) 0 (libState translateCmd) ∧
      (∀ n, n ≤ 256 → HostMay translateCmd 6 (opLe translateCmd 56 8) n 1 (libState translateCmd)) ∧ opLe translateCmd 65 4 = 256 ∧
      (openBlock 1 5 (libHandle 6 (libState translateCmd)).slot (libHandle 6 (libState translateCmd)).gen
        (libHandle 6 (libState translateCmd)).attr.alg.toNat [7] (fit 88 pkbBytes)).2 = some pkbKey ∧
      Form translateCmd true 2 32 ∧ translateCmd.le 32 4 = 88 ∧
      opLe translateCmd 52 1 = 1 ∧ opLe translateCmd 53 1 = 1 ∧ ZeroFields translateCmd [(54, 2)] ∧
      rangesMeet (opLe translateCmd 56 8) (opLe translateCmd 65 4) (translateCmd.le 24 8) (translateCmd.le 32 4) = false) ∧
    (LibRuns 5 0x0603 generateCmd (libState generateCmd) ∧
      HasKey 5 32 generateCmd (libHandle 6 (libState generateCmd)) [7] (libState generateCmd) ∧ Form generateCmd false 1 40 ∧
      templateOk (opLe generateCmd 24 4) = true ∧ (attrOf (opLe generateCmd 24 4)).export_ ≠ 0 ∧ opLe generateCmd 28 1 = 2 ∧
      opLe generateCmd 29 1 = 1 ∧ ZeroFields generateCmd [(30, 2), (52, 12)] ∧
      keyLen (attrOf (opLe generateCmd 24 4)).alg.toNat ≤ (getTroupe (libState generateCmd) (troupeOfSeat 5)).drbgBuf ∧
      mayUse (libHandle 6 (libState generateCmd)) [uKBPK] pWRAP = true ∧
      (∀ n, n ≤ 256 → HostMay generateCmd 6 (opLe generateCmd 40 8) n 1 (libState generateCmd)) ∧ opLe generateCmd 48 4 = 256 ∧
      ∀ key nk, key.length = keyLen (attrOf (opLe generateCmd 24 4)).alg.toNat → nk = mkKey (attrOf (opLe generateCmd 24 4)) 5
          (libHandle 6 (libState generateCmd)).slot (libHandle 6 (libState generateCmd)).gen 0 key →
        exportOk nk.attr (libHandle 6 (libState generateCmd)).attr = true ∧
        ∀ r, ∃ c, sealBlock 1 (libHandle 6 (libState generateCmd)).attr.alg.toNat [7] nk.attr nk.x9 nk.material r = some c ∧ c.length ≤ 256) := by
  refine ⟨sure, sure, ⟨by unfold LibRuns AtEnd; decide +kernel, has_key 36 6 _ sure sure sure sure sure,
      by unfold Form; decide +kernel, sure, sure, by unfold ZeroFields; decide +kernel, sure, sure, sure,
      by
        rw [show fit 88 pkbBytes = pkbBytes by decide +kernel]; exact congrArg Prod.snd (pkb_opens ho [7]), sure, sure, sure⟩,
    ⟨by unfold LibRuns AtEnd; decide +kernel, has_key 24 7 _ sure sure sure sure sure,
      ⟨_, ⟨sure, sure, sure, 6, sure, rfl, sure, sure⟩, sure, sure⟩, by unfold Form; decide +kernel,
      sure, by unfold ZeroFields; decide +kernel, sure, below sure⟩, fun r => ⟨_, rfl, by simp; decide +kernel⟩,
    ⟨by unfold LibRuns AtEnd; decide +kernel, has_key 36 6 _ sure sure sure sure sure,
      ⟨libHandle 6 (libState translateCmd), ⟨sure, sure, sure, 6, sure, sure, sure, sure⟩,
        sure, sure, fun r => by
          rw [show opLe translateCmd 65 4 = 256 by decide +kernel]; exact seal_fits _ _ _ _ _ sure sure r⟩,
      sure, below sure, sure, by
        rw [show fit 88 pkbBytes = pkbBytes by decide +kernel]; exact congrArg Prod.snd (pkb_opens ho [7]),
      by unfold Form; decide +kernel, sure, sure, sure,
      by unfold ZeroFields; decide +kernel, sure⟩,
    by unfold LibRuns AtEnd; decide +kernel, has_key 32 6 _ sure sure sure sure sure, by unfold Form; decide +kernel,
    sure, sure, sure, sure, by unfold ZeroFields; decide +kernel, sure,
    sure, below sure, sure, fun key nk hk he => ?_⟩
  · subst he
    refine ⟨?_, fun r => seal_fits _ _ _ _ _ sure ?_ r⟩
    · simp only [mkKey, exportOk, hk]; decide +kernel
    · show key.length ≤ 64
      rw [hk]; decide +kernel

/-- KEY_IMPORT_ASYM of an RSA transport with an RSA sender's signature; KEY_AGREE over P-256. -/
def asymCmd : Item :=
  libItem 0x0610 2 (0x8000 + 44) [(24, 8, 0x1000), (32, 4, 512), (36, 8, keyRef 8), (44, 8, keyRef 9), (52, 8, keyRef 6), (61, 1, 1),
    (62, 2, 256), (65, 4, 256), (69, 8, 0x2000), (77, 4, 256)]
def agreeCmd : Item :=
  libItem 0x0611 2 (0x8000 + 40) [(24, 8, 0x1000), (32, 4, 4088), (36, 8, keyRef 10), (44, 4, 0x130C04), (48, 8, keyRef 6), (56, 1, 2),
    (57, 1, 1), (58, 2, 64), (65, 8, 0x3000), (73, 4, 256)]

theorem witness_AsymmetricKeyServices (nk : NewKey) (b : Bytes)
    (hv : handleKeyOk (libHandle 9 (libState asymCmd)).attr [7] ((fit 512 b).drop 256) = true)
    (ha : Config.validPublic 9 ((fit 4088 b).take 64) = true)
    (hb : transportBad 0 (libHandle 8 (libState asymCmd)).attr [7] ((fit 512 b).take 256) = false)
    (hx : Config.verify 0xE (sigScheme 0 0) [7] (senderHash 0xE ((fit 512 b).take 256)) ((fit 512 b).drop 256) = true)
    (ht : (Config.keyTransport 0 [7] ((fit 512 b).take 256)).bind (innerBlock 5 (libHandle 8 (libState asymCmd))) = some nk)
    (hn : nk.attr.export_ ≠ 0) (ho : exportOk nk.attr (libHandle 6 (libState asymCmd)).attr = true) (hl : nk.material.length ≤ 64) :
    (getUnit (libState asymCmd) .mau (unitOfSeat .mau 5)).ready = true ∧ (getUnit (libState asymCmd) .hash (unitOfSeat .hash 5)).ready = true ∧
    (LibRuns 5 0x0610 asymCmd (libState asymCmd) ∧ HasKey 5 36 asymCmd (libHandle 8 (libState asymCmd)) [7] (libState asymCmd) ∧
      (∃ hs, HasKey2 5 36 44 asymCmd hs [7] (libState asymCmd) ∧ sigAlg hs.attr.alg.toNat = true ∧ hs.attr.alg ≠ 0xC ∧
        opLe asymCmd 62 2 = sigLen hs.attr ∧ mayUse hs [uSIG_PUB] pVER = true ∧ rsaPrivOk hs.attr [7] = true ∧
        handleKeyOk hs.attr [7] ((fit 512 b).drop 256) = true ∧
        Config.verify hs.attr.alg.toNat (sigScheme (opLe asymCmd 60 1 / 16 % 2) 0) [7] (senderHash hs.attr.alg.toNat ((fit 512 b).take 256)) ((fit 512 b).drop 256) = true) ∧
      (∃ h, HasKey 5 52 asymCmd h [7] (afterOpen 5 44 asymCmd (afterOpen 5 36 asymCmd (libState asymCmd))) ∧
        mayUse h [uKBPK] pWRAP = true ∧ mayUse h [uKBPK] pUNWRAP = true ∧ exportOk nk.attr h.attr = true ∧
        (dieGen (libState asymCmd) 0 (getEntry (libState asymCmd) 0 h.entry).part h.slot).toNat ≤ h.gen.toNat ∧
        ∀ r, ∃ c, sealBlock 1 h.attr.alg.toNat [7] nk.attr nk.x9 nk.material r = some c ∧ c.length ≤ opLe asymCmd 77 4) ∧
      nk.attr.export_ ≠ 0 ∧ opLe asymCmd 77 4 = 256 ∧
      HostMay asymCmd 6 (asymCmd.le 24 8) 512 0 (libState asymCmd) ∧
      (∀ l, l ≤ 256 → HostMay asymCmd 6 (opLe asymCmd 69 8) l 1 (libState asymCmd)) ∧
      dirPartUnits (libState asymCmd).dir 5 + keyUnits nk.material.length ≤ (Tab.get dDirPart (libState asymCmd).dir.parts 5).quota.toNat ∧
      dirUnits (libState asymCmd).dir + keyUnits nk.material.length ≤ 6291456 ∧
      Form asymCmd true 2 44 ∧ opLe asymCmd 60 1 = 0 ∧ opLe asymCmd 61 1 = 1 ∧ opLe asymCmd 65 4 + opLe asymCmd 62 2 = 512 ∧
      asymCmd.le 32 4 = 512 ∧ rangesMeet (opLe asymCmd 69 8) (opLe asymCmd 77 4) (asymCmd.le 24 8) 512 = false ∧
      mayUse (libHandle 8 (libState asymCmd)) [uKT_PRIV] pUNWRAP = true ∧
      transportBad 0 (libHandle 8 (libState asymCmd)).attr [7] ((fit 512 b).take 256) = false ∧
      (Config.keyTransport 0 [7] ((fit 512 b).take 256)).bind (innerBlock 5 (libHandle 8 (libState asymCmd))) = some nk) ∧
    (LibRuns 5 0x0611 agreeCmd (libState agreeCmd) ∧ HasKey 5 36 agreeCmd (libHandle 10 (libState agreeCmd)) [7] (libState agreeCmd) ∧
      (∃ h, HasKey2 5 36 48 agreeCmd h [7] (libState agreeCmd) ∧ mayUse h [uKBPK] pWRAP = true ∧
        ∀ key r, ∃ c, sealBlock 1 h.attr.alg.toNat [7] (mkKey (attrOf (opLe agreeCmd 44 4)) 5 0 0 0 (fit 16 key)).attr 0 (fit 16 key) r = some c ∧
          c.length ≤ 256) ∧
      HostMay agreeCmd 6 (agreeCmd.le 24 8) 4088 0 (libState agreeCmd) ∧ opLe agreeCmd 73 4 = 256 ∧
      (∀ l, l ≤ 256 → HostMay agreeCmd 6 (opLe agreeCmd 65 8) l 1 (libState agreeCmd)) ∧ Form agreeCmd true 2 40 ∧
      agreeCmd.le 32 4 = 4088 ∧ opLe agreeCmd 58 2 = 2 * curveLen (libHandle 10 (libState agreeCmd)).attr.alg.toNat ∧
      templateOk (opLe agreeCmd 44 4) = true ∧ (attrOf (opLe agreeCmd 44 4)).export_ ≠ 0 ∧ opLe agreeCmd 56 1 = 2 ∧
      opLe agreeCmd 57 1 = 1 ∧ ZeroFields agreeCmd [(60, 4)] ∧
      rangesMeet (opLe agreeCmd 65 8) (opLe agreeCmd 73 4) (agreeCmd.le 24 8) 4088 = false ∧
      mayUse (libHandle 10 (libState agreeCmd)) [uKA_PRIV] pDRV = true ∧
      Config.validPublic (libHandle 10 (libState agreeCmd)).attr.alg.toNat ((fit 4088 b).take 64) = true ∧
      (∀ key, exportOk (mkKey (attrOf (opLe agreeCmd 44 4)) 5 0 0 0 (fit 16 key)).attr { attrOf 0x03600C with bits := 128 } = true)) := by
  refine ⟨sure, sure, ⟨by unfold LibRuns AtEnd; decide +kernel, has_key 36 8 _ sure sure sure sure sure,
      ⟨libHandle 9 (libState asymCmd), ⟨sure, sure, sure, 9, sure, sure, sure, sure⟩, sure, sure,
        sure, sure, sure, hv, hx⟩,
      ⟨libHandle 6 (libState asymCmd), ⟨sure, sure, sure, 6, sure, sure, sure, sure⟩,
        sure, sure, ho, sure, fun r => by
          rw [show opLe asymCmd 77 4 = 256 by decide +kernel]; exact seal_fits _ _ _ _ _ sure hl r⟩,
      hn, sure, sure, below sure,
      by show 0 + keyUnits nk.material.length ≤ 16384; simp only [keyUnits]; omega,
      by show 0 + keyUnits nk.material.length ≤ 6291456; simp only [keyUnits]; omega, by unfold Form; decide +kernel, sure,
      sure, sure, sure, sure, sure, hb, ht⟩,
    by unfold LibRuns AtEnd; decide +kernel, has_key 36 10 _ sure sure sure sure sure,
    ⟨libHandle 6 (libState agreeCmd), ⟨sure, sure, sure, 6, sure, sure, sure, sure⟩, sure,
      fun key r => seal_fits _ _ _ _ _ sure (by simp) r⟩, sure, sure, below sure,
    by unfold Form; decide +kernel, sure, sure,
    sure, sure, sure, sure, by unfold ZeroFields; decide +kernel, sure, sure, ha, fun key => ?_⟩
  simp [mkKey, exportOk]; decide +kernel

/-- TOKENISE and DETOKENISE of 16 numerals. -/
def tokenCmd (r : Nat) : Item := libItem r 2 56 [(24, 8, keyRef 11), (32, 1, 16), (33, 1, 6), (34, 1, 4)]

theorem witness_TokenServices : ∀ dec : Bool, let c := tokenCmd (if dec then 0x0701 else 0x0700)
    LibRuns 5 (if dec then 0x0701 else 0x0700) c (libState c) ∧ HasKey 5 24 c (libHandle 11 (libState c)) [7] (libState c) ∧
    Form c false 2 56 ∧ opLe c 32 1 = 16 ∧ opLe c 33 1 = 6 ∧ opLe c 34 1 = 4 ∧ 1000000 ≤ 10 ^ 6 ∧ opLe c 35 1 = 0 ∧ opLe c 36 1 = 0 ∧
    ZeroFields c [(37, 3), (56, 8)] ∧ leNat ((opBytes c 40 16).drop 0) = 0 ∧
    (∀ v ∈ (opBytes c 65 16).map BitVec.toNat, v < 10) ∧ mayUse (libHandle 11 (libState c)) [uFPE] (if dec then pDEC else pENC) = true ∧
    ffxAlg (libHandle 11 (libState c)).attr.alg.toNat = true := by
  rintro (_ | _) <;>
    exact ⟨by unfold LibRuns AtEnd; decide +kernel, has_key 24 11 _ sure sure sure sure sure, by unfold Form; decide +kernel,
      sure, sure, sure, sure, sure, sure, by unfold ZeroFields; decide +kernel, sure, sure, sure, sure⟩

/-- SIGN and VERIFY of a SHA-256 digest by RSA. -/
def signCmd : Item := libItem 0x0800 2 56 [(24, 8, keyRef 12), (34, 1, 32), (36, 8, 0x2000), (44, 4, 256)]
def verifyCmd : Item := libItem 0x0801 2 (0x8000 + 48) [(24, 8, 0x1000), (32, 4, 256), (36, 8, keyRef 9), (46, 2, 256), (48, 1, 32)]

/-- VERIFY by the Ed25519 key that follows its signature. -/
def verifyKeyCmd : Item :=
  libItem 0x0801 2 (0x8000 + 80) [(24, 8, 0x1000), (32, 4, 96), (44, 1, 2), (45, 1, 0x40), (46, 2, 64), (48, 1, 64)]

/-- VERIFY by the RSA-1024 key that follows its signature. -/
def verifyRsaCmd : Item :=
  libItem 0x0801 2 (0x8000 + 48) [(24, 8, 0x1000), (32, 4, 262), (45, 1, 0x60), (46, 2, 128), (48, 1, 32)]
def rsaBuffer : Bytes := zeros 128 ++ toLE 2 128 ++ [128] ++ zeros 126 ++ [1, 0, 1, 0, 1]

theorem witness_SignatureServices (b : Bytes) (hv : handleKeyOk (libHandle 9 (libState verifyCmd)).attr [7] ((fit 256 b).take 256) = true)
    (he : scratchKeyOk 0xC ((fit 96 b).drop 64) ((fit 96 b).take 64) = true)
    (hr : scratchKeyOk 0xE ((fit 262 rsaBuffer).drop 128) ((fit 262 rsaBuffer).take 128) = true) :
    (LibRuns 5 0x0800 signCmd (libState signCmd) ∧ HasKey 5 24 signCmd (libHandle 12 (libState signCmd)) [7] (libState signCmd) ∧
      Form signCmd false 2 56 ∧ opLe signCmd 32 1 < 2 ∧ opLe signCmd 33 1 = 0 ∧ opLe signCmd 34 1 = sigDigestLen 0 ∧
      ZeroFields signCmd [(35, 1)] ∧ (libHandle 12 (libState signCmd)).attr.alg = 0xE ∧ sigDigestOk 0xE 0 = true ∧
      sigLen (libHandle 12 (libState signCmd)).attr ≤ opLe signCmd 44 4 ∧ mayUse (libHandle 12 (libState signCmd)) [uSIG_PRIV] pSIGN = true ∧
      rsaPrivOk (libHandle 12 (libState signCmd)).attr [7] = true ∧
      HostMay signCmd 6 (opLe signCmd 36 8) (sigLen (libHandle 12 (libState signCmd)).attr) 1 (libState signCmd)) ∧
    (LibRuns 5 0x0801 verifyCmd (libState verifyCmd) ∧ HasKey 5 36 verifyCmd (libHandle 9 (libState verifyCmd)) [7] (libState verifyCmd) ∧
      Form verifyCmd true 2 48 ∧ verifyCmd.le 32 4 = 256 ∧ opLe verifyCmd 44 1 = 0 ∧ opLe verifyCmd 45 1 < 2 ∧
      opLe verifyCmd 46 2 = sigLen (libHandle 9 (libState verifyCmd)).attr ∧ opLe verifyCmd 48 1 = sigDigestLen 0 ∧
      ZeroFields verifyCmd [(49, 3)] ∧ HostMay verifyCmd 6 (verifyCmd.le 24 8) 256 0 (libState verifyCmd) ∧
      mayUse (libHandle 9 (libState verifyCmd)) [uSIG_PUB] pVER = true ∧
      handleKeyOk (libHandle 9 (libState verifyCmd)).attr [7] ((fit 256 b).take (opLe verifyCmd 46 2)) = true) ∧
    (LibRuns 5 0x0801 verifyKeyCmd (libState verifyKeyCmd) ∧ opRef verifyKeyCmd 36 = 0 ∧ keyTypeAlg (opLe verifyKeyCmd 45 1 / 16) = some 0xC ∧
      opLe verifyKeyCmd 45 1 / 2 % 8 = 0 ∧ Form verifyKeyCmd true 2 80 ∧ opLe verifyKeyCmd 44 1 = 2 ∧
      opLe verifyKeyCmd 48 1 = sigDigestLen 2 ∧ ZeroFields verifyKeyCmd [(49, 3)] ∧ sigDigestOk 0xC 2 = true ∧
      opLe verifyKeyCmd 46 2 = 2 * curveLen 0xC ∧ verifyKeyCmd.le 32 4 = 64 + 32 ∧
      HostMay verifyKeyCmd 6 (verifyKeyCmd.le 24 8) 96 0 (libState verifyKeyCmd) ∧
      scratchKeyOk 0xC ((fit 96 b).drop (opLe verifyKeyCmd 46 2)) ((fit 96 b).take (opLe verifyKeyCmd 46 2)) = true) ∧
    (LibRuns 5 0x0801 verifyRsaCmd (libState verifyRsaCmd) ∧ opRef verifyRsaCmd 36 = 0 ∧ keyTypeAlg (opLe verifyRsaCmd 45 1 / 16) = some 0xE ∧
      opLe verifyRsaCmd 45 1 / 2 % 8 = 0 ∧ Form verifyRsaCmd true 2 48 ∧ opLe verifyRsaCmd 44 1 = 0 ∧
      opLe verifyRsaCmd 48 1 = sigDigestLen 0 ∧ ZeroFields verifyRsaCmd [(49, 3)] ∧ sigDigestOk 0xE 0 = true ∧
      (let key := (fit 262 rsaBuffer).drop (opLe verifyRsaCmd 46 2)
       opLe verifyRsaCmd 46 2 = leAt 0 2 key ∧ verifyRsaCmd.le 32 4 = 128 + 6 + 128 ∧ rsaKeyOk key = true ∧
         scratchKeyOk 0xE key ((fit 262 rsaBuffer).take (opLe verifyRsaCmd 46 2)) = true) ∧
      HostMay verifyRsaCmd 6 (verifyRsaCmd.le 24 8) 262 0 (libState verifyRsaCmd)) :=
  ⟨⟨by unfold LibRuns AtEnd; decide +kernel, has_key 24 12 _ sure sure sure sure sure, by unfold Form; decide +kernel,
      sure, sure, sure, by unfold ZeroFields; decide +kernel, sure, sure, sure, sure, sure, sure⟩,
    ⟨by unfold LibRuns AtEnd; decide +kernel, has_key 36 9 _ sure sure sure sure sure, by unfold Form; decide +kernel,
    sure, sure, sure, sure, sure, by unfold ZeroFields; decide +kernel, sure, sure, by
        rw [show opLe verifyCmd 46 2 = 256 by decide +kernel]; exact hv⟩,
    ⟨by unfold LibRuns AtEnd; decide +kernel, sure, sure, sure, by unfold Form; decide +kernel, sure,
      sure, by unfold ZeroFields; decide +kernel, sure, sure, sure, sure, by
        rw [show opLe verifyKeyCmd 46 2 = 64 by decide +kernel]; exact he⟩,
    by unfold LibRuns AtEnd; decide +kernel, sure, sure, sure, by unfold Form; decide +kernel, sure,
      sure, by unfold ZeroFields; decide +kernel, sure, ⟨sure, sure, sure, by
        rw [show opLe verifyRsaCmd 46 2 = 128 by decide +kernel]; exact hr⟩, sure⟩

/-- BULK_CRYPT and BULK_REENCRYPT of one byte in place, in CTR. -/
def cryptCmd : Item := libItem 0x0900 2 52 [(24, 8, keyRef 13), (32, 1, 2), (56, 8, 0x2000), (65, 8, 0x2000), (73, 4, 1)]
def reencCmd : Item :=
  libItem 0x0901 2 79 [(24, 8, keyRef 13), (32, 1, 2), (33, 1, 2), (56, 8, 0x2000), (65, 8, 0x2000), (73, 4, 1), (80, 8, keyRef 13)]

/-- The job of a BULK_CRYPT, in its die's SCU, and the routine that waits at its END for it. -/
def cryptJob : ScuJob :=
  { no := 0, seat := 5, part := 5, desc := bulkDesc 2 false none 0x2000 0x2000 1 (zeros 16), off := 0, taint := false, alg1 := 3, key1 := [7] }
def cryptRun (d : List OpWrite) : SeatRun :=
  { ops := [{ unit := .scu, opcode := 0x36, pc := 0, job := 0, dsts := d }], ending := some { status := stOK, hostBuf := true }, endOk := true }
def cryptState (d : List OpWrite) : State :=
  { seatState (cryptRun d) with
    units := { scu := [(0, { ready := true, next := 1, active := [cryptJob] })] } }

theorem witness_BulkServices :
    (∀ c, c = cryptCmd ∨ c = reencCmd → HasKey 5 24 c (libHandle 13 (libState c)) [7] (libState c) ∧
      ((getScu (libState c) 0).ready = true ∧ (getScu (libState c) 0).exclusive = false ∧ (getScu (libState c) 0).queue.length < 64) ∧
      (isBlockAlg (libHandle 13 (libState c)).attr.alg.toNat = true ∧ isTdes (libHandle 13 (libState c)).attr.alg.toNat = false) ∧
      (libHandle 13 (libState c)).attr.usage.toNat = uDATA ∧ opLe c 73 4 = 1 ∧ opLe c 56 8 = opLe c 65 8 ∧ opLe c 32 1 = 2 ∧
      (libHandle 13 (libState c)).attr.perm.getLsbD pENC = true ∧ (libHandle 13 (libState c)).attr.perm.getLsbD pDEC = true) ∧
    LibRuns 5 0x0900 cryptCmd (libState cryptCmd) ∧ Form cryptCmd false 2 52 ∧ ZeroFields cryptCmd [(33, 7)] ∧
    LibRuns 5 0x0901 reencCmd (libState reencCmd) ∧ Form reencCmd false 2 79 ∧ ZeroFields reencCmd [(34, 6), (77, 3)] ∧
    opLe reencCmd 33 1 = 2 ∧ (∃ h2, HasKey2 5 24 80 reencCmd h2 [7] (libState reencCmd) ∧ isBlockAlg h2.attr.alg.toNat = true ∧
      isTdes h2.attr.alg.toNat = false ∧ h2.attr.usage.toNat = uDATA ∧ h2.attr.perm.getLsbD pENC = true) := by
  refine ⟨?_, by unfold LibRuns AtEnd; decide +kernel, by unfold Form; decide +kernel, by unfold ZeroFields; decide +kernel, by unfold LibRuns AtEnd; decide +kernel,
    by unfold Form; decide +kernel, by unfold ZeroFields; decide +kernel, sure, _, ⟨sure, sure, sure, 13, sure, rfl, sure, sure⟩,
    sure, sure, sure, sure⟩
  rintro c (rfl | rfl) <;>
    exact ⟨has_key 24 13 _ sure sure sure sure sure, sure, sure, sure, sure, sure,
      sure, sure, sure⟩

theorem witness_BulkEnds (l : Bytes) (hl : (runJob cryptJob (fit 1 [9])).1 = l) (h1 : l.length = 1) :
    ∀ d, d = [OpWrite.outcome []] ∨ d = [.scratch 0 [] false, .outcome []] →
      (getScu (cryptState d) 0).active.find? (fun a => decide (a.no = 0)) = some cryptJob ∧
      oldestJob (getScu (cryptState d) 0) cryptJob = true ∧ seatMuted (cryptState d) 5 = false ∧
      (∃ o, (run (cryptState d) 5).ops = [o] ∧ o.unit = .scu ∧ o.job = 0 ∧ o.dsts = d) ∧
      (run (cryptState d) 5).ending = some { status := stOK, hostBuf := true } ∧ (run (cryptState d) 5).endOk = true ∧
      (getSeat (cryptState d) 5).run = some 1 ∧ getItem (cryptState d) 1 = some seatItem1 ∧ wingItem (cryptState d) 5 = none ∧
      (getSeat (cryptState d) (5 - 1)).suspended = false ∧ (∀ x ∈ (cryptState d).items, x.place = .core → x.phase ≠ 5) ∧
      descLen cryptJob.desc = 1 ∧ (passedBytes 512 7 true 0 (leAt 8 8 cryptJob.desc) 1 (cryptState d)).1 = 1 ∧
      (passedBytes 512 7 true 1 (leAt 16 8 cryptJob.desc) (runJob cryptJob (fit 1 [9])).1.length (cryptState d)).1 =
        (runJob cryptJob (fit 1 [9])).1.length := by
  rw [hl, h1]
  rintro d (rfl | rfl) <;> exact ⟨rfl, sure, rfl, ⟨_, rfl, rfl, rfl, rfl⟩, rfl, rfl, rfl, rfl, rfl, rfl, sure, sure,
    sure, sure⟩

/-- The units of these states take operations, and their directory a new record. -/
theorem witness_LibraryUnits (i : Item) : (∀ u, u = OpUnit.block ∨ u = .mau ∨ u = .hash → UnitTakes 5 u (libState i)) ∧
    drbgDown (libState i) = false ∧ 16 ≤ (getTroupe (libState i) (troupeOfSeat 5)).drbgBuf ∧
    (dirAccess (libState i).dir.nextIdx 1 (libState i)).1 = true :=
  ⟨by rintro u (rfl | rfl | rfl) <;> exact ⟨rfl, Nat.zero_lt_succ _⟩, rfl, by show 16 ≤ 256; decide, rfl⟩

/-! ### Services of the control cores: routines, custody, units -/

/-- A command of partition `p` on the control cores. -/
def svcItem (p routine chunks oplen : Nat) (fields : List (Nat × Nat × Nat)) : Item :=
  { seatItem1 with part := p, routine := routine, raw := rawOf chunks oplen fields, place := .core }

/-- A registry whose every class but INVALIDATE takes both its custodians. -/
def vaultReg : Registry := { policy := [2, 2, 2, 1, 2, 2, 2], custodians := [{ index := 1, scheme := 1, key := zeros 96 }, { index := 3, scheme := 1, key := zeros 96 }] }

def someCeremony (n : Nat) : Ceremony :=
  { id := 7, slot := 1, role := 0, alg := 5, c := 2, statement := [], priv := [1], at_ := 0, comps := (List.range n).map fun k => (k, zeros 32) }

/-- The control cores run a command: the cage ready, the root generator up, partition 5 with a registry, a nonce and a
ceremony of which `n` components have come, its slot 1 a backup key. -/
def coreState (i : Item) (n : Nat) : State :=
  { dies := [(0, { state := .active })]
    funcs := [(0, { busMaster := true })]
    items := [i]
    gates := openGates
    boot := { handover := true }
    power := { linkWidth := 16, linkSpeed := 32 }
    vault := { ready := true, parts := [(5, { registry := some vaultReg, nonce := some (9, 0), ceremony := some (someCeremony n) })] }
    cage := { slots := [(41, { word := 3, valid := true, role := 2, alg := 5 })] }
    units := { rng := { esReady := true, drbgReady := true } } }

/-- A custodian's entry of a record, its signature zeros. -/
def sigOf (i : Nat) : Bytes := toLE 4 i ++ zeros 96

/-- A record of 268 bytes that both custodians of `vaultReg` have signed. -/
def signedBy13 (b : Bytes) : Bool :=
  decide ((byteAt 64 b).toNat = 2) && decide (b.length = 268) && decide (leAt 65 3 b = 0) && decide (leAt 69 3 b = 0) &&
  decide (leAt 169 3 b = 0) && decide (sigEntry 68 0 b = (1, zeros 96)) && decide (sigEntry 68 1 b = (3, zeros 96))

/-- Every signature verifies. -/
def Signed : Prop := ∀ a c k m g, Config.verify a c k m g = true

theorem entry_ok (hv : Signed) (i o k : Nat) (msg b : Bytes) (hi : i = 1 ∨ i = 3) (h : leAt (o + 100 * k + 1) 3 b = 0)
    (hs : sigEntry o k b = (i, zeros 96)) : entryOk vaultReg o k msg b = true := by
  rcases hi with rfl | rfl <;> simp [entryOk, hs, h, vaultReg, custodianVerify, sm2Verify, hv _ _ _ _ _] <;> decide

theorem quorum_ok (hv : Signed) (n : Nat) (b : Bytes) (hn : n ≤ 2) (h : signedBy13 b = true) : quorumOk vaultReg n b = true := by
  simp only [signedBy13, Bool.and_eq_true, decide_eq_true_eq] at h
  obtain ⟨⟨⟨⟨⟨⟨hm, hl⟩, h1⟩, h2⟩, h3⟩, h4⟩, h5⟩ := h
  simp [quorumOk, hm, hl, h1, hn, List.range_succ, h4, h5, entry_ok hv 1 68 0 _ b (.inl rfl) h2 h4, entry_ok hv 3 68 1 _ b (.inr rfl) h3 h5]

/-- An authorisation record of 268 bytes over a zero subject with the nonce 9. -/
def vaultRec (action slot : Nat) (param : Bytes) : Bytes :=
  toLE 4 0x00020002 ++ toLE 1 action ++ toLE 1 5 ++ toLE 1 slot ++ [0] ++ fit 4 param ++ zeros 4 ++ toBE 16 9 ++ zeros 32 ++
  toLE 4 2 ++ sigOf 1 ++ sigOf 3

/-- A record over a zero subject by a nonce that stands, which both custodians sign, is authorised. -/
def recordOk (w : AuthWant) (b : Bytes) (s : State) : Bool :=
  decide ((byteAt 7 b).toNat = 0) && authBodyOk { w with subject := zeros 32 } 0 b s && nonceOk (getVPart s w.part).nonce b s &&
  decide (vaultReg.policy.getD (vaultClass w.action) 17 ≤ 2) && signedBy13 b

theorem vault_authorised (hv : Signed) (w : AuthWant) (b : Bytes) (s : State) (hs : w.subject = zeros 32)
    (hr : (getVPart s w.part).registry = some vaultReg) (h : recordOk w b s = true) : VaultAuthorised w b s := by
  simp only [recordOk, Bool.and_eq_true, decide_eq_true_eq] at h
  obtain ⟨⟨⟨⟨h7, hb⟩, hn⟩, hc⟩, hq⟩ := h
  have : ({ w with subject := zeros 32 } : AuthWant) = w := by rw [← hs]
  rw [this] at hb
  exact ⟨vaultReg, h7, hr, hb, hn, quorum_ok hv _ b hc hq⟩

theorem witness_service (r : Nat) (hr : r ∈ [0x0EF0, 0x0EF1, 0x0EF2, 0x0EF3, 0x0EF4, 0x0EF5, 0x0EF6, 0x0EF7, 0x0F30, 0x0F40, 0x0F41, 0x0F50,
    0x0F51, 0x0F52, 0x0F60, 0x0F61, 0x0F62, 0x0F63, 0x0F64, 0x0F65, 0x0F66, 0x0F67, 0x0F68, 0x0F69, 0x0F6A, 0x0F6B, 0x0F6C, 0x0F6D, 0x0F6E]) :
    Serves 1 r (svcItem 5 r 1 0 []) (coreState (svcItem 5 r 1 0 []) 0) := by
  unfold Serves
  revert r
  decide +kernel

/-- A bundle of routine 0x1000, version 1, of one instruction END OK, whose CODE_DIGEST is zero. -/
def bundleOf : Bytes :=
  toLE 4 0x4B4E5445 ++ toLE 2 1 ++ toLE 2 0x1000 ++ toLE 2 0 ++ toLE 2 1 ++ toLE 4 1 ++ toLE 4 1 ++ zeros 236 ++ toLE 4 0xCC000000

/-- An authorisation of action `a` on routine 0x1000 of partition 5 at version `v`. -/
def routineRec (a v : Nat) : Bytes :=
  toLE 4 0x00020001 ++ toLE 1 a ++ toLE 1 5 ++ toLE 2 0x1000 ++ toLE 4 v ++ zeros 4 ++ toBE 16 9 ++ zeros 32 ++ toLE 4 2 ++ sigOf 1 ++ sigOf 3

/-- Partition 5 with a nonce, and a manifest entry of routine 0x1000 at version `v` where `v` is not 0. -/
def storeState (i : Item) (v : Nat) : State :=
  { coreState i 0 with routines := { parts := [(5, { nonce := some (9, 0), entries := if v = 0 then [] else
      [{ routine := 0x1000, version := v, digest := zeros 32, gen := 1 }] })] } }

def installCmd : Item := svcItem 5 0x0EF1 1 0x8000 [(24, 8, 0x1000), (32, 4, 260), (36, 8, 0x2000), (44, 4, 268), (48, 1, 5)]
def revokeCmd : Item := svcItem 5 0x0EF2 1 0 [(24, 8, 0x2000), (32, 4, 268), (36, 1, 5)]
def challengeCmd : Item := svcItem 5 0x0EF0 1 0 [(24, 1, 5)]

/-- An install over no entry and over one of a version as high, and a revoke; SM3 answers zeros and the custodians sign. -/
theorem witness_RoutineAuthorisedServices (hh : ∀ b, Config.hash 5 b = zeros 32) (hs : Signed) :
    (Serves 1 0x0EF0 challengeCmd (coreState challengeCmd 0) ∧ Inline challengeCmd ∧ challengeCmd.part = challengeCmd.le 24 1 ∧
      RootReady (coreState challengeCmd 0)) ∧
    (∀ v, v = 0 ∨ v = 1 → Serves 1 0x0EF1 installCmd (storeState installCmd v) ∧ manifestKnown (storeState installCmd v) 5 = true ∧
      SvcBuffer installCmd (storeState installCmd v) ∧ SvcMay installCmd (installCmd.le 36 8) (installCmd.le 44 4) 0 (storeState installCmd v) ∧
      RoutineAuthorised 1 5 (readBundle bundleOf).routine (readBundle bundleOf).version (bundleDigest bundleOf) (routineRec 1 1)
        (storeState installCmd v)) ∧
    (Pointer installCmd ∧ installCmd.le 48 1 = 5 ∧ fit (installCmd.le 32 4) bundleOf = bundleOf ∧
      fit (installCmd.le 44 4) (routineRec 1 1) = routineRec 1 1 ∧ headerOk bundleOf = true ∧ declOk (readBundle bundleOf) = true ∧
      quorumOk vaultReg (vaultReg.policy.getD 0 17) (fit 268 (zeros 268)) = false ∧ (readBundle bundleOf).library = false ∧
      bundleSigned bundleOf = true ∧ verifyBundle (readBundle bundleOf) = none ∧ 0 < (readBundle bundleOf).version ∧
      entryOf (storeState installCmd 0) 5 0x1000 = none ∧
      quotaOk (storeState installCmd 0) 5 (readBundle bundleOf).routine (readBundle bundleOf).n = true ∧
      (entryOf (storeState installCmd 1) 5 0x1000).map (·.version) = some (readBundle bundleOf).version) ∧
    (Serves 1 0x0EF2 revokeCmd (storeState revokeCmd 1) ∧ Inline revokeCmd ∧ SvcMay revokeCmd (revokeCmd.le 24 8) (revokeCmd.le 32 4) 0 (storeState revokeCmd 1) ∧
      RoutineAuthorised 2 5 (leAt 6 2 (fit (revokeCmd.le 32 4) (routineRec 2 0))) 0 (zeros 32) (routineRec 2 0) (storeState revokeCmd 1) ∧
      (entryOf (storeState revokeCmd 1) 5 0x1000).map (·.revoked) = some false) := by
  have hd : bundleDigest bundleOf = zeros 32 := by rw [bundleDigest, sm3, hh]; rfl
  refine ⟨⟨by unfold Serves; decide +kernel, by unfold Inline; decide +kernel, sure, by unfold RootReady; decide +kernel⟩, ?_,
    ⟨by unfold Pointer; decide +kernel, sure, sure, sure, ?_, sure, sure, sure, hs _ _ _ _ _, sure,
      sure, sure, sure, sure⟩,
    ⟨by unfold Serves; decide +kernel, by unfold Inline; decide +kernel, by unfold SvcMay; decide +kernel,
      ⟨vaultReg, sure, sure, sure, quorum_ok hs _ _ sure sure⟩, sure⟩⟩
  · rintro v (rfl | rfl) <;>
      exact ⟨by unfold Serves; decide +kernel, sure, by unfold SvcBuffer SvcMay; decide +kernel, by unfold SvcMay; decide +kernel,
        vaultReg, sure, by rw [hd]; decide +kernel, sure, quorum_ok hs _ _ sure sure⟩
  · have : sm3 (bundleOf.drop 256) = zeros 32 := by rw [sm3, hh]; rfl
    unfold headerOk
    rw [this]
    decide +kernel

def readCmd (n : Nat) : Item := svcItem 5 0x0EF3 1 0 [(24, 8, 0x1000), (32, 4, n), (36, 1, 5)]
def restoreCmd : Item := svcItem 5 0x0EF4 1 0 [(24, 8, 0x1000), (32, 4, 16), (36, 1, 5)]
def loadCmd : Item := svcItem 5 0x0EF5 1 0x8000 [(24, 8, 0x1000), (32, 4, 260), (36, 1, 5)]
def queryCmd : Item := svcItem 5 0x0EF6 1 0 [(24, 2, 0x1000), (26, 1, 5)]
def checkCmd : Item := svcItem 5 0x0EF7 1 0x8000 [(24, 8, 0x1000), (32, 4, 260)]

/-- Routine 0x1000 of partition 5 as loaded in generation `g`. -/
def loadedState (g : Nat) : Image :=
  Tab.get dImage (getRPart { storeState loadCmd 1 with routines := { parts := [(5, { loaded := [(0x1000, { (readBundle bundleOf).image g with
    digest := zeros 32 })] })] } } 5).loaded 0x1000

/-- The manifest read into a buffer of its length and one byte less; the others with SM3 answering zeros. -/
theorem witness_RoutineStoreServices (hh : ∀ b, Config.hash 5 b = zeros 32) (hv : bundleSigned bundleOf = true) :
    (∀ n, n = 64 ∨ n = 63 → Serves 1 0x0EF3 (readCmd n) (storeState (readCmd n) 1) ∧ Inline (readCmd n) ∧
      manifestKnown (storeState (readCmd n) 1) 5 = true ∧ (readCmd n).le 32 4 = n ∧
      (manifestBytes 5 (manRec (storeState (readCmd n) 1) 5).word (getRPart (storeState (readCmd n) 1) 5).entries).length = 64 ∧
      SvcMay (readCmd n) ((readCmd n).le 24 8) 64 1 (storeState (readCmd n) 1)) ∧
    (Serves 1 0x0EF4 restoreCmd (storeState restoreCmd 0) ∧ Inline restoreCmd ∧ SvcBuffer restoreCmd (storeState restoreCmd 0) ∧
      (∀ b, (manRec { storeState restoreCmd 0 with cage := { mans := [(5, { bankA := zeros 32, word := 1 })] } } 5).digest = sm3 b)) ∧
    (Serves 1 0x0EF5 loadCmd (storeState loadCmd 1) ∧ Pointer loadCmd ∧ SvcBuffer loadCmd (storeState loadCmd 1) ∧
      fit (loadCmd.le 32 4) bundleOf = bundleOf ∧ headerOk bundleOf = true ∧ declOk (readBundle bundleOf) = true ∧
      (readBundle bundleOf).library = false ∧ bundleSigned bundleOf = true ∧
      verifyBundle (readBundle bundleOf) = none ∧
      (∃ e, (getRPart (storeState loadCmd 1) 5).entries.find? (fun e => !e.revoked && decide (e.digest = bundleDigest bundleOf)) = some e ∧
        (Tab.get dImage (getRPart (storeState loadCmd 1) 5).loaded e.routine).len = 0) ∧
      storeTotal (storeState loadCmd 1) + storeUse (readBundle bundleOf).n ≤ 0x8000000 ∧ (1 : Nat) = (loadedState 1).gen ∧
      (loadedState 2).len ≠ 0 ∧ (loadedState 2).gen ≠ 1 ∧ (loadedState 1).digest = zeros 32) ∧
    (Serves 1 0x0EF6 queryCmd (storeState queryCmd 1) ∧ Inline queryCmd ∧ entryOf (storeState queryCmd 0) 5 0x1000 = none ∧
      (entryOf (storeState queryCmd 1) (queryCmd.le 26 1) (queryCmd.le 24 2)).isSome = true) ∧
    (Serves 1 0x0EF7 checkCmd (storeState checkCmd 0) ∧ Pointer checkCmd ∧ SvcBuffer checkCmd (storeState checkCmd 0) ∧
      verifyBundle (readBundle (bundleOf.take 256 ++ zeros 4)) ≠ none) := by
  have hd : bundleDigest bundleOf = zeros 32 := by rw [bundleDigest, sm3, hh]; rfl
  have ho : headerOk bundleOf = true := by
    have : sm3 (bundleOf.drop 256) = zeros 32 := by rw [sm3, hh]; rfl
    unfold headerOk
    rw [this]
    decide +kernel
  refine ⟨?_, ⟨by unfold Serves; decide +kernel, by unfold Inline; decide +kernel, by unfold SvcBuffer SvcMay; decide +kernel, fun b => by
      rw [sm3, hh]; rfl⟩,
    ⟨by unfold Serves; decide +kernel, by unfold Pointer; decide +kernel, by unfold SvcBuffer SvcMay; decide +kernel, sure, ho, sure,
      sure, hv, sure, by rw [hd]; exact ⟨_, rfl, rfl⟩, sure, sure⟩,
    ⟨by unfold Serves; decide +kernel, by unfold Inline; decide +kernel, sure, sure⟩,
    by unfold Serves; decide +kernel, by unfold Pointer; decide +kernel, by unfold SvcBuffer SvcMay; decide +kernel, sure⟩
  rintro n (rfl | rfl) <;>
    exact ⟨by unfold Serves; decide +kernel, by unfold Inline; decide +kernel, sure, sure, sure,
      by unfold SvcMay; decide +kernel⟩

def quotaCmd (c : Nat) : Item := svcItem 0 0x0F40 1 0 [(24, 1, 5), (28, 2, c), (32, 4, 0)]
def pinCacheCmd : Item := svcItem 0 0x0F41 1 0 [(24, 2, 0x0200), (26, 1, 1)]
def pinState : State :=
  { coreState pinCacheCmd 0 with routines := { library := [(0x0200, 65)] }, troupes := [(3, { fetching := [lineTag 5 0x0200 0 1] })] }

/-- The gates of MEM as `openGates` has them let a line of the routine store pass; with no entry enabled they deny it. -/
theorem store_gate (k : Nat) (s : State) : k < 0x80000 →
    (s.gates = openGates → (gateAccess 6 false (0x1120000000 + 256 * k) 256 0 s).1 = true) ∧
    (s.gates = [(4, { entries := List.replicate 32 {} })] → (gateAccess 6 false (0x1120000000 + 256 * k) 256 0 s).1 = false) := by
  intro h
  have hp : gateOf false (0x1120000000 + 256 * k) = some 4 := by
    simp only [gateOf]; repeat' split
    all_goals simp_all; try omega
  have hn : ¬ 6 + nDies s.part.variant ≤ 4 := by omega
  have hh : hardRule s 6 4 false (0x1120000000 + 256 * k) 256 0 = none := by simp [hardRule]
  constructor <;> intro hg
  · have he : entriesOf s 4 = (Tab.get dGate openGates 4).entries := by simp only [entriesOf, getGate, hg]; rfl
    have hd : decidingEntry (entriesOf s 4) false (0x1120000000 + 256 * k) 256 32 = some (1, { base := 0x1000000, limit := 0x13FFFFF, cfg := 0x27FFFF }) := by
      rw [he]
      have h0 : (Tab.get dGate openGates 4).entries[0]? = some { limit := 0xFFFFFFFFFFFFF, cfg := 0x2FFFFF } := rfl
      have h1 : (Tab.get dGate openGates 4).entries[1]? = some { base := 0x1000000, limit := 0x13FFFFF, cfg := 0x27FFFF } := rfl
      have b0 : bitOf 3145727#32 19 = true := by decide
      have b1 : bitOf 2621439#32 21 = true ∧ bitOf 2621439#32 19 = false := by decide
      simp [decidingEntry, h0, h1, GateEntry.enable, GateEntry.host, b0, b1]
      omega
    have hb : bitOf 2621439#32 6 = true ∧ bitOf 2621439#32 (16 + 0) = true := by decide
    simp [gateAccess, hp, hn, gateDecision, hh, hd, hb.1, show bitOf 2621439#32 16 = true from hb.2]
  · have hd : decidingEntry (entriesOf s 4) false (0x1120000000 + 256 * k) 256 32 = none := by
      simp only [entriesOf, getGate, hg]; rfl
    simp [gateAccess, hp, hn, gateDecision, hh, hd]

/-- An install of routine 0x1000 in effect, its service waiting for the seats. -/
def drainedState : State :=
  { coreState { svcItem 5 0x0EF1 1 0 [] with phase := 3, outcome := some { status := stOK } } 0 with
    routines := { parts := [(5, { pending := [{ item := 1, routine := 0x1000, at_ := 0, epoch := 0, image := some {}, gen := 1, inEffect := true }] })] } }

theorem witness_RoutineCacheAndQuota :
    (∀ c, c = 1 ∨ c = 1024 → Serves 1 0x0F40 (quotaCmd c) (storeState (quotaCmd c) 1) ∧ Inline (quotaCmd c) ∧ (quotaCmd c).le 28 2 = c ∧
      (getRPart (storeState (quotaCmd c) 1) ((quotaCmd c).le 24 1)).entries.length ≤ c ∧
      partStore (getRPart (storeState (quotaCmd c) 1) ((quotaCmd c).le 24 1)) 0x10000 ≤ (quotaCmd c).le 32 4 * 1024) ∧
    (Serves 1 0x0F41 pinCacheCmd pinState ∧ Inline pinCacheCmd ∧ pinCacheCmd.le 24 2 = 0x0200 ∧ pinCacheCmd.le 26 1 = 1 ∧ pinCacheCmd.le 27 5 = 0 ∧
      pinState.routines.library.find? (fun e => e.1 == 0x0200) = some (0x0200, 65) ∧ pinState.routines.resident.contains 0x0200 = false ∧
      pinBytes pinState (insertNat 0x0200 pinState.routines.pins) ≤ 65536) ∧
    (storedLen pinState 5 0x0200 0 = some 65 ∧ 3 < nTroupes pinState.part.variant ∧ dieState pinState (dieOfTroupe 3) = .active ∧
      (getTroupe pinState 3).fetching.any (sameLine (lineTag 5 0x0200 0 1)) = true ∧
      (∀ k, sameLine (lineTag 5 0x0200 0 1) (seatLine pinState k) = false) ∧
      (∀ n, (gateAccess 6 false (0x1120000000 + 256 * (n % 0x80000)) 256 0 pinState).1 = true ∧
        (gateAccess 6 false (0x1120000000 + 256 * (n % 0x80000)) 256 0
          { pinState with gates := [(4, { entries := List.replicate 32 {} })] }).1 = false)) ∧
    (∃ i p r x o, getItem drainedState 1 = some i ∧ i.phase = 3 ∧ i.outcome = some o ∧
      (List.find? (fun (e : Nat × RoutinePart) => e.2.pending.any fun x => decide (x.item = 1)) drainedState.routines.parts) = some (p, r) ∧
      r.pending.find? (fun x => decide (x.item = 1)) = some x ∧ x.inEffect = true ∧
      oldGenRuns drainedState p x.routine x.gen x.image.isNone = false) := by
  refine ⟨?_, ⟨by unfold Serves; decide +kernel, by unfold Inline; decide +kernel, sure, sure, sure, rfl,
    sure, sure⟩, ⟨sure, sure, sure, sure, fun _ => rfl, fun n =>
    ⟨(store_gate _ _ (Nat.mod_lt _ sure)).1 rfl, (store_gate _ _ (Nat.mod_lt _ sure)).2 rfl⟩⟩, ⟨_, _, _, _, _, rfl, rfl, rfl, rfl, rfl, rfl, sure⟩⟩
  rintro c (rfl | rfl) <;>
    exact ⟨by unfold Serves; decide +kernel, by unfold Inline; decide +kernel, sure, sure, sure⟩

/-- A vault with slot `sl` of partition 5 chosen, whose generation is `g`. -/
def chosenState (busy ready : Bool) (g : Word32) (role : BitVec 2) : State :=
  { vault := { busy := busy, ready := ready, selPart := 5, selSlot := 1, role := role, alg := 5 }, cage := { slots := [(41, { word := g })] } }

theorem witness_SlotCommandsAndCage :
    ((chosenState false true 0xFFFFFFFE 0).vault.busy = false ∧ (chosenState false true 0xFFFFFFFE 0).vault.ready = true ∧
      (slotRec (chosenState false true 0xFFFFFFFE 0) 5 1).word ≠ 0xFFFFFFFF ∧ slotKindOk 0 5 = true) ∧
    slotKindOk (chosenState false true 0 3).vault.role.toNat (chosenState false true 0 3).vault.alg.toNat = false ∧
    (slotRec (chosenState false true 0xFFFFFFFF 0) 5 1).word = 0xFFFFFFFF ∧ (chosenState true true 0 0).vault.busy = true ∧
    (chosenState false false 0 0).vault.ready = false ∧ mirrors (chosenState false true 0 0) = false ∧
    mirrors { chosenState false true 0 0 with trp := { fsm := fsmACTIVE, standby := true, linkUp := true } } = true := by
  decide +kernel

/-- A die with a generation change queued; a ceremony and a nonce just before their limit and at it. -/
def expiryState (t : Word64) : State := { coreState (svcItem 5 0x0F60 1 0 []) 0 with time := { time64 := t } }

theorem witness_GenerationsAndExpiry :
    dieState { coreState seatItem1 0 with dies := [(0, { state := .active, kc := { genQ := [(41, 4)] } })] } 0 = .active ∧
    (getDie { coreState seatItem1 0 with dies := [(0, { state := .active, kc := { genQ := [(41, 4)] } })] } 0).kc.genQ = (41, 4) :: [] ∧
    (getVPart (expiryState 0) 5).ceremony = some (someCeremony 0) ∧ (getVPart (expiryState 0) 5).nonce = some (9, 0) ∧
    now (expiryState 3599999999999) < 3600000000000 ∧ 3600000000000 ≤ now (expiryState 3600000000000) ∧
    now (expiryState 599999999999) < 600000000000 ∧ ¬ now (expiryState 600000000000) < 600000000000 := by decide +kernel

/-- A fence on generation 3 of slot 1: with no older pin, with one, and waiting past its limit of 1 µs; releases. -/
def fenceCmd (ph : Nat) : Item := { svcItem 0 0x0F68 1 0 [(24, 1, 5), (25, 1, 1), (28, 4, 3), (32, 4, 1)] with phase := ph }
def fenceState (ph pins : Nat) : State :=
  { coreState (fenceCmd ph) 0 with
    time := { time64 := 1000 }
    dies := [(0, { state := .active, kc := { entries := [(1, { part := 5, slot := 1, gen := 2, pins := pins, units := 1 })] } })]
    dir := { sweep := [(5, 1, 3)], recs := [(1, { issue := 1, part := 5, slot := 1, gen := 2, units := 1 })] } }
def releaseCmd (issue : Nat) : Item := svcItem 0 0x0F6E 1 0 [(24, 1, 5), (32, 8, (dirRef 5 1 (BitVec.ofNat 32 issue)).toNat)]

theorem witness_FenceAndRelease :
    (Serves 1 0x0F68 (fenceCmd 0) (fenceState 0 0) ∧ Inline (fenceCmd 0) ∧ (fenceState 0 0).vault.ready = true ∧ (fenceCmd 0).le 25 1 < 8 ∧
      (slotRec (fenceState 0 0) 5 1).word.toNat = (fenceCmd 0).le 28 4 ∧ pinsBelow (fenceState 0 0) 5 1 3 = 0 ∧
      pinsBelow (fenceState 0 1) 5 1 3 ≠ 0) ∧
    (getItem (fenceState 4 1) 1 = some (fenceCmd 4) ∧ (fenceCmd 4).place = .core ∧ (fenceCmd 4).routine = 0x0F68 ∧ (fenceCmd 4).phase = 4 ∧
      (fenceCmd 4).le 32 4 ≠ 0 ∧ (fenceCmd 4).waitAt.toNat + (fenceCmd 4).le 32 4 * 1000 ≤ now (fenceState 4 1)) ∧
    ((fenceState 0 0).dir.sweep = (5, 1, 3) :: [] ∧ (getDir (fenceState 0 0) 1).issue ≠ 0 ∧ (getDir (fenceState 0 0) 1).gen.toNat < 3) ∧
    (∀ n, n = 1 ∨ n = 2 → Serves 1 0x0F6E (releaseCmd n) { fenceState 0 0 with items := [releaseCmd n] } ∧ Inline (releaseCmd n) ∧
      (releaseCmd n).le 25 1 = 0 ∧ refIsDir (BitVec.ofNat 64 ((releaseCmd n).le 32 8)) = true ∧
      refOk (BitVec.ofNat 64 ((releaseCmd n).le 32 8)) = true ∧ refPart (BitVec.ofNat 64 ((releaseCmd n).le 32 8)) = 5 ∧
      refIssue (BitVec.ofNat 64 ((releaseCmd n).le 32 8)) = n) := by
  refine ⟨⟨by unfold Serves; decide +kernel, by unfold Inline; decide +kernel, sure⟩, sure, sure, ?_⟩
  rintro n (rfl | rfl) <;>
    exact ⟨by unfold Serves; decide +kernel, by unfold Inline; decide +kernel, sure⟩

/-- A registry of partition 5 with two custodians of scheme 3, in bytes, and the two proofs of possession. -/
def registryBytes : Bytes :=
  toLE 4 0x00040001 ++ [5, 2, 0, 0] ++ [2, 2, 2, 1, 2, 2, 2, 0] ++ [1, 3, 0, 0] ++ zeros 108 ++ [2, 3, 0, 0] ++ zeros 108
def registryCmd : Item := svcItem 0 0x0F61 1 0x8000 [(24, 8, 0x1000), (32, 4, 708), (36, 4, 240), (40, 4, 268), (44, 1, 5)]
def registryBuf : Bytes := registryBytes ++ vaultRec 0x10 0xFF [] ++ (sigOf 1 ++ sigOf 2)
def newRegistry : Registry :=
  { policy := [2, 2, 2, 1, 2, 2, 2], raw := registryBytes
    custodians := [{ index := 1, scheme := 3, key := zeros 96 }, { index := 2, scheme := 3, key := zeros 96 }] }
def vaultChalCmd : Item := svcItem 0 0x0F60 1 0 [(24, 1, 5)]
def regRestoreCmd : Item := svcItem 0 0x0F62 1 0x8000 [(24, 8, 0x1000), (32, 4, 240), (36, 1, 5)]

theorem witness_RegistryServices (hh : ∀ b, Config.hash 5 b = zeros 32) (hv : Signed) :
    (Serves 1 0x0F60 vaultChalCmd (coreState vaultChalCmd 0) ∧ Inline vaultChalCmd ∧ RootReady (coreState vaultChalCmd 0)) ∧
    (Serves 1 0x0F61 registryCmd (coreState registryCmd 0) ∧ Pointer registryCmd ∧ SvcBuffer registryCmd (coreState registryCmd 0) ∧
      fit (registryCmd.le 32 4) registryBuf = registryBuf ∧ parseRegistry 5 (registryBuf.take 240) = some newRegistry ∧
      VaultAuthorised { action := 0x10, part := 5, subject := sm3 newRegistry.raw } (slice 240 268 registryBuf) (coreState registryCmd 0) ∧
      proofsOk (getVPart (coreState registryCmd 0) 5).registry newRegistry (slice 16 16 (slice 240 268 registryBuf))
        (registryBuf.drop (240 + 268)) = true) ∧
    authBodyOk { action := 0x10, part := 5, subject := zeros 32 } 0 (vaultRec 0x11 0xFF []) (coreState registryCmd 0) = false ∧
    (Serves 1 0x0F62 regRestoreCmd (coreState regRestoreCmd 0) ∧ SvcBuffer regRestoreCmd (coreState regRestoreCmd 0) ∧
      fit (regRestoreCmd.le 32 4) registryBytes = registryBytes ∧ parseRegistry 5 registryBytes = some newRegistry ∧
      sm3 registryBytes = (regRec { coreState regRestoreCmd 0 with cage := { regs := [(5, { bankA := zeros 32 })] } } 5).digest) := by
  have hs : ∀ b, sm3 b = zeros 32 := fun b => by rw [sm3, hh]; rfl
  refine ⟨⟨by unfold Serves; decide +kernel, by unfold Inline; decide +kernel, by unfold RootReady; decide +kernel⟩,
    ⟨by unfold Serves; decide +kernel, by unfold Pointer; decide +kernel, by unfold SvcBuffer SvcMay; decide +kernel, sure,
      sure, vault_authorised hv _ _ _ (hs _) rfl sure, ?_⟩,
    sure, by unfold Serves; decide +kernel, by unfold SvcBuffer SvcMay; decide +kernel, sure, sure, by
      rw [hs]; decide +kernel⟩
  have hn : newCustodians (getVPart (coreState registryCmd 0) 5).registry newRegistry = newRegistry.custodians := by decide +kernel
  have e : registryBuf.drop (240 + 268) = sigOf 1 ++ sigOf 2 := by decide +kernel
  have he (i k : Nat) (msg : Bytes) (hc : newRegistry.custodians.find? (fun c => decide (c.index = i)) = some {
      index := i, scheme := 3, key := zeros 96 }) (h1 : leAt (100 * k + 1) 3 (sigOf 1 ++ sigOf 2) = 0)
      (h2 : sigEntry 0 k (sigOf 1 ++ sigOf 2) = (i, zeros 96)) : entryOk newRegistry 0 k msg (sigOf 1 ++ sigOf 2) = true := by
    simp [entryOk, h2, h1, hc, custodianVerify, hv _ _ _ _ _]
  rw [proofsOk, hn, e]
  have h1 := he 1 0 (sm3 (newRegistry.raw ++ slice 16 16 (slice 240 268 registryBuf))) sure sure sure
  have h2 := he 2 1 (sm3 (newRegistry.raw ++ slice 16 16 (slice 240 268 registryBuf))) sure sure sure
  have hl : decide ((sigOf 1 ++ sigOf 2).length = 100 * newRegistry.custodians.length) = true := by decide +kernel
  simp only [hl, Bool.true_and]
  rw [List.all_eq_true]
  intro k hk
  have : k = 0 ∨ k = 1 := by
    have := List.mem_range.mp hk
    have hn : newRegistry.custodians.length = 2 := rfl
    omega
  rcases this with rfl | rfl
  · simp only [h1, show newRegistry.custodians[0]? = some { index := 1, scheme := 3, key := zeros 96 } from rfl, Bool.and_true]
    decide +kernel
  · simp only [h2, show newRegistry.custodians[1]? = some { index := 2, scheme := 3, key := zeros 96 } from rfl, Bool.and_true]
    decide +kernel

def openCmd (c : Nat) : Item :=
  svcItem 0 0x0F63 1 0 [(24, 1, 5), (25, 1, 7), (27, 1, 2), (28, 1, c), (32, 8, 0x1000), (40, 4, 160)]
def componentCmd : Item := svcItem 0 0x0F64 1 0x8000 [(24, 8, 0x1000), (32, 4, 228), (36, 1, 5), (37, 1, 3), (40, 4, 7)]
def componentBuf : Bytes := zeros 128 ++ [3, 0, 0, 0] ++ zeros 96
def closeCmd : Item := svcItem 0 0x0F65 1 0x8000 [(24, 8, 0x1000), (32, 4, 268), (36, 1, 5), (40, 4, 7)]

/-- Ceremonies of 2 and 16 components opened; the second of two components; a ceremony with both. -/
theorem witness_CeremonyServices (m : Bytes) (hh : ∀ b, Config.hash 5 b = zeros 32)
    (hv : Signed) (hk : Config.keyTransport 1 [1] (componentBuf.take 128) = some m) :
    (∀ c, c = 2 ∨ c = 16 → Serves 1 0x0F63 (openCmd c) (coreState (openCmd c) 0) ∧ Inline (openCmd c) ∧ RootReady (coreState (openCmd c) 0) ∧
      (openCmd c).le 25 1 < 8 ∧ slotKindOk ((openCmd c).le 26 1) ((openCmd c).le 27 1) = true ∧ (openCmd c).le 28 1 = c ∧
      160 ≤ (openCmd c).le 40 4 ∧ openCount (coreState (openCmd c) 0) < 16 ∧ SvcMay (openCmd c) ((openCmd c).le 32 8) 160 1 (coreState (openCmd c) 0)) ∧
    (Serves 1 0x0F64 componentCmd (coreState componentCmd 1) ∧ Pointer componentCmd ∧ SvcBuffer componentCmd (coreState componentCmd 1) ∧
      (getVPart (coreState componentCmd 1) 5).ceremony = some (someCeremony 1) ∧ (someCeremony 1).id = componentCmd.le 40 4 ∧
      now (coreState componentCmd 1) < (someCeremony 1).at_.toNat + 3600000000000 ∧
      (getVPart (coreState componentCmd 1) 5).registry = some vaultReg ∧ componentCmd.le 32 4 = 96 + keyLen (someCeremony 1).alg + 100 ∧
      (∀ x ∈ (someCeremony 1).comps, x.1 ≠ componentCmd.le 37 1) ∧ (someCeremony 1).comps.length < (someCeremony 1).c ∧
      fit (componentCmd.le 32 4) componentBuf = componentBuf ∧ (sigEntry (96 + 32) 0 componentBuf).1 = componentCmd.le 37 1 ∧
      entryOk vaultReg (96 + 32) 0 (sm3 ((someCeremony 1).statement ++ componentBuf.take (96 + 32))) componentBuf = true ∧
      Config.keyTransport 1 (someCeremony 1).priv (componentBuf.take (96 + 32)) = some m) ∧
    (Serves 1 0x0F65 closeCmd (coreState closeCmd 2) ∧ Pointer closeCmd ∧ SvcBuffer closeCmd (coreState closeCmd 2) ∧
      (getVPart (coreState closeCmd 2) 5).ceremony = some (someCeremony 2) ∧ (someCeremony 2).id = closeCmd.le 40 4 ∧
      (someCeremony 2).comps.length = (someCeremony 2).c ∧
      VaultAuthorised { action := 0x11, part := 5, slot := 1, subject := sm3 (someCeremony 2).statement }
        (fit (closeCmd.le 32 4) (vaultRec 0x11 1 [])) (coreState closeCmd 2)) := by
  have hs : ∀ b, sm3 b = zeros 32 := fun b => by rw [sm3, hh]; rfl
  refine ⟨?_, ⟨by unfold Serves; decide +kernel, by unfold Pointer; decide +kernel, by unfold SvcBuffer SvcMay; decide +kernel, rfl,
      sure, sure, rfl, sure, sure, sure, sure, sure,
      by exact entry_ok hv 3 128 0 _ _ (.inr rfl) sure sure, hk⟩,
    ⟨by unfold Serves; decide +kernel, by unfold Pointer; decide +kernel, by unfold SvcBuffer SvcMay; decide +kernel, rfl, sure,
      sure, vault_authorised hv _ _ _ (hs _) rfl sure⟩⟩
  · rintro c (rfl | rfl) <;>
      exact ⟨by unfold Serves; decide +kernel, by unfold Inline; decide +kernel, by unfold RootReady; decide +kernel, sure,
        sure, sure, sure, sure, by unfold SvcMay; decide +kernel⟩

def slotCmd_ (r k : Nat) : Item := svcItem 0 r 1 0x8000 [(24, 8, 0x1000), (32, 4, 268), (36, 1, 5), (37, 1, 1), (38, 1, k), (39, 1, 5)]

theorem witness_SlotServices (hv : Signed) :
    (∀ r k, (r = 0x0F66 ∧ k = 0) ∨ (r = 0x0F67 ∧ k = 0) ∨ (r = 0x0F67 ∧ k = 1) ∨ (r = 0x0F6D ∧ k = 0) →
      Serves 1 r (slotCmd_ r k) (coreState (slotCmd_ r k) 0) ∧ Pointer (slotCmd_ r k) ∧ SvcBuffer (slotCmd_ r k) (coreState (slotCmd_ r k) 0) ∧
      (slotCmd_ r k).le 36 1 = 5 ∧ (slotCmd_ r k).le 37 1 = 1 ∧ (slotCmd_ r k).le 38 1 = k ∧ RootReady (coreState (slotCmd_ r k) 0)) ∧
    slotKindOk ((slotCmd_ 0x0F66 0).le 38 1) ((slotCmd_ 0x0F66 0).le 39 1) = true ∧
    VaultAuthorised { action := 0x12, part := 5, slot := 1, param := [0, 5, 0, 0], subject := zeros 32 }
      (fit ((slotCmd_ 0x0F66 0).le 32 4) (vaultRec 0x12 1 [0, 5])) (coreState (slotCmd_ 0x0F66 0) 0) ∧
    VaultAuthorised { action := 0x13, part := 5, slot := 1, param := [1, 0, 0, 0], subject := zeros 32 }
      (fit ((slotCmd_ 0x0F67 1).le 32 4) (vaultRec 0x13 1 [1])) (coreState (slotCmd_ 0x0F67 1) 0) ∧
    VaultAuthorised { action := 0x17, part := 5, subject := zeros 32 }
      (fit ((slotCmd_ 0x0F6D 0).le 32 4) (vaultRec 0x17 0xFF [])) (coreState (slotCmd_ 0x0F6D 0) 0) ∧
    (∀ j, j < 8 → (slotRec (coreState (slotCmd_ 0x0F6D 0) 0) 5 j).word ≠ 0xFFFFFFFF) ∧
    (slotRec (coreState (slotCmd_ 0x0F67 0) 0) 5 1).valid = true := by
  refine ⟨?_, sure,
    vault_authorised hv _ _ _ rfl rfl sure,
    vault_authorised hv _ _ _ rfl rfl sure,
    vault_authorised hv _ _ _ rfl rfl sure, sure, sure⟩
  · rintro r k (⟨rfl, rfl⟩ | ⟨rfl, rfl⟩ | ⟨rfl, rfl⟩ | ⟨rfl, rfl⟩) <;>
      exact ⟨by unfold Serves; decide +kernel, by unfold Pointer; decide +kernel, by unfold SvcBuffer SvcMay; decide +kernel, sure,
        sure, sure, by unfold RootReady; decide +kernel⟩

def backupCmd : Item := svcItem 0 0x0F69 1 0x8000 [(24, 8, 0x1000), (32, 4, 268), (36, 1, 5), (37, 1, 1), (40, 8, 0x2000), (48, 4, 4096)]
def transferOpenCmd : Item := svcItem 0 0x0F6A 1 0 [(24, 1, 5), (32, 8, 0x1000), (40, 4, 224)]
def transferCmd : Item :=
  svcItem 0 0x0F6B 1 0x8000 [(24, 8, 0x1000), (32, 4, 492), (36, 1, 5), (44, 4, 268), (48, 8, 0x2000), (56, 4, 512)]
def transferBuf : Bytes := toLE 4 0x00070002 ++ zeros 220 ++ vaultRec 0x16 0xFF []
def transferState : State := { coreState transferCmd 0 with boot := { handover := true, anchors := zeros 256 } }
def restoreBlobCmd : Item := svcItem 0 0x0F6C 1 0x8000 [(24, 8, 0x1000), (32, 4, 564), (36, 1, 5), (40, 4, 296)]
def restoreBuf : Bytes := toLE 4 0x00060001 ++ toLE 4 296 ++ zeros 288 ++ vaultRec 0x15 0xFF []

/-- The image of partition 5, whose one slot is a backup key. -/
theorem image_length (i : Item) (b : Bool) : (partImage (coreState i 0) 5 b).length = if b then 88 else 136 := by
  have hc : carried (coreState i 0) 5 b = if b then [] else [1] := by cases b <;> rfl
  have hd : (regRec (coreState i 0) 5).digest.length = 32 ∧ (manRec (coreState i 0) 5).digest.length = 32 := ⟨rfl, rfl⟩
  cases b <;> simp [partImage, hc, hd, imageSlot]

/-- SM3 answers zeros, signatures verify, the target's chain has a key of zeros, the slot's check value is zeros and the blob opens. -/
theorem witness_BlobServices (m : Bytes) (hh : ∀ b, Config.hash 5 b = zeros 32)
    (hv : Signed)
    (hl : ∀ k c, Config.certLeaf k c = some (zeros 64))
    (hc : fit 5 (slotKcv (slotRec (coreState restoreBlobCmd 0) 5 1)) = zeros 5)
    (hb : openBlob (backupKey (slotRec (coreState restoreBlobCmd 0) 5 1).key ((restoreBuf.take 296).take 24)) (restoreBuf.take 296) = some m)
    (hm : exhausted (coreState restoreBlobCmd 0) (restoreWrites (coreState restoreBlobCmd 0) 5 m) = false) :
    (Serves 1 0x0F69 backupCmd (coreState backupCmd 0) ∧ Pointer backupCmd ∧ SvcBuffer backupCmd (coreState backupCmd 0) ∧
      (slotRec (coreState backupCmd 0) 5 1).valid = true ∧ (slotRec (coreState backupCmd 0) 5 1).role = 2 ∧
      VaultAuthorised { action := 0x14, part := 5, slot := 1, subject := sm3 (fit 5 (slotKcv (slotRec (coreState backupCmd 0) 5 1))) }
        (fit 268 (vaultRec 0x14 1 [])) (coreState backupCmd 0) ∧
      ∀ h : Bytes, h.length = 24 → ∀ k x, x.length = 5 →
        (sealBlob (h ++ x ++ zeros 3 ++ zeros 160) k (partImage (coreState backupCmd 0) 5 true)).length ≤ backupCmd.le 48 4 ∧
        SvcMay backupCmd (backupCmd.le 40 8)
          (sealBlob (h ++ x ++ zeros 3 ++ zeros 160) k (partImage (coreState backupCmd 0) 5 true)).length 1 (coreState backupCmd 0)) ∧
    (Serves 1 0x0F6A transferOpenCmd (coreState transferOpenCmd 0) ∧ Inline transferOpenCmd ∧ 224 ≤ transferOpenCmd.le 40 4 ∧
      openCount (coreState transferOpenCmd 0) < 16 ∧ SvcMay transferOpenCmd (transferOpenCmd.le 32 8) 224 1 (coreState transferOpenCmd 0)) ∧
    (Serves 1 0x0F6B transferCmd (transferState) ∧ Pointer transferCmd ∧ SvcBuffer transferCmd (transferState) ∧
      transferCmd.le 32 4 = 224 + transferCmd.le 40 4 + transferCmd.le 44 4 ∧ leAt 0 4 (transferBuf.take 224) = 0x00070002 ∧
      leAt 9 7 (transferBuf.take 224) = 0 ∧
      statementOk (caKey (transferState)) (slice 224 (transferCmd.le 40 4) transferBuf) (transferBuf.take 224) = true ∧
      VaultAuthorised { action := 0x16, part := 5, subject := sm3 (transferBuf.take 224) } (transferBuf.drop (224 + transferCmd.le 40 4))
        (transferState) ∧ transferCmd.le 56 4 = 512 ∧
      (∀ n, n ≤ 512 → SvcMay transferCmd (transferCmd.le 48 8) n 1 (transferState)) ∧
      192 + (partImage (transferState) 5 false).length + 16 ≤ 512) ∧
    (Serves 1 0x0F6C restoreBlobCmd (coreState restoreBlobCmd 0) ∧ Pointer restoreBlobCmd ∧ SvcBuffer restoreBlobCmd (coreState restoreBlobCmd 0) ∧
      restoreBlobCmd.le 44 4 = 0 ∧ restoreBlobCmd.le 40 4 ≤ restoreBlobCmd.le 32 4 ∧ leAt 4 4 (restoreBuf.take 296) = restoreBlobCmd.le 40 4 ∧
      leAt 0 4 (restoreBuf.take 296) = 0x00060001 ∧
      VaultAuthorised { action := 0x15, part := 5, subject := sm3 (restoreBuf.take 296) } (restoreBuf.drop 296) (coreState restoreBlobCmd 0) ∧
      (List.range 8).find? (fun sl => (slotRec (coreState restoreBlobCmd 0) 5 sl).valid && decide ((slotRec (coreState restoreBlobCmd 0) 5 sl).role = 2) &&
        decide (fit 5 (slotKcv (slotRec (coreState restoreBlobCmd 0) 5 sl)) = slice 24 5 (restoreBuf.take 296))) = some 1 ∧
      openBlob (backupKey (slotRec (coreState restoreBlobCmd 0) 5 1).key ((restoreBuf.take 296).take 24)) (restoreBuf.take 296) = some m ∧
      exhausted (coreState restoreBlobCmd 0) (restoreWrites (coreState restoreBlobCmd 0) 5 m) = false) := by
  have hs : ∀ b, sm3 b = zeros 32 := fun b => by rw [sm3, hh]; rfl
  refine ⟨⟨by unfold Serves; decide +kernel, by unfold Pointer; decide +kernel, by unfold SvcBuffer SvcMay; decide +kernel, sure,
      sure, vault_authorised hv _ _ _ (hs _) rfl sure, ?_⟩,
    ⟨by unfold Serves; decide +kernel, by unfold Inline; decide +kernel, sure, sure, by unfold SvcMay; decide +kernel⟩,
    ⟨by unfold Serves; decide +kernel, by unfold Pointer; decide +kernel, by unfold SvcBuffer SvcMay; decide +kernel, sure,
      sure, sure, ?_,
      vault_authorised hv _ _ _ (hs _) rfl sure,
      sure, below (by unfold SvcMay; decide +kernel), Nat.le_trans (Nat.le_of_eq (congrArg (192 + · + 16) (image_length transferCmd false))) sure⟩,
    ⟨by unfold Serves; decide +kernel, by unfold Pointer; decide +kernel, by unfold SvcBuffer SvcMay; decide +kernel, sure,
      sure, sure, sure,
      vault_authorised hv _ _ _ (hs _) rfl sure, ?_, hb, hm⟩⟩
  · intro h hl k x hx
    have e : (sealBlob (h ++ x ++ zeros 3 ++ zeros 160) k (partImage (coreState backupCmd 0) 5 true)).length =
        296 := by rw [sealBlob]; simp only [List.length_append, length_fit, length_zeros, hl, hx, image_length]; rfl
    rw [e]
    exact ⟨sure, by unfold SvcMay; decide +kernel⟩
  · obtain ⟨a, ha⟩ : ∃ a, caKey transferState = some a := ⟨_, rfl⟩
    simp only [statementOk, ha, Option.bind_some, hl _ _, sm2Verify, hv _ _ _ _ _]
    decide +kernel
  · rw [show List.range 8 = 0 :: 1 :: (List.range 6).map (· + 2) by decide]
    rw [List.find?_cons_of_neg sure, List.find?_cons_of_pos]
    rw [hc]; decide +kernel

/-! ### Crypto units and generators -/

/-- A bulk job of partition 5 in SCU 0, of one block from 0x1000 to 0x2000, and the gates it meets. -/
def bulkState (g : Tab Gate) : State :=
  { dies := [(0, { state := .active })]
    units := { scu := [(0, { ready := true, active := [{ no := 3, seat := 5, part := 5, off := 0
                                                         desc := zeros 8 ++ toLE 8 0x1000 ++ toLE 8 0x2000 ++ toLE 4 16 ++ zeros 36 }] })] }
    gates := g }

/-- The gates with an entry of MEM that lets every colour read, and none write. -/
def readGates : Tab Gate := [(4, { entries := { limit := 0xFFFFFFFFFFFFF, cfg := 0x29FFFF } :: List.replicate 31 {} })]

/-- The job of `bulkState`. -/
def bulkJob : ScuJob :=
  { no := 3, seat := 5, part := 5, off := 0, desc := zeros 8 ++ toLE 8 0x1000 ++ toLE 8 0x2000 ++ toLE 4 16 ++ zeros 36 }

/-- One block read and written, a write denied, and a read denied; the job's cipher gives as many bytes as it takes. -/
theorem witness_BulkJobs (ho : ∀ b, b.length = 16 → (runJob bulkJob b).1.length = 16) :
    ((bulkState openGates).units.scu.map fun x => x.2.active.length) = [1] ∧
    (∀ g, g = openGates ∨ g = readGates → (getScu (bulkState g) 0).active.find? (fun a => decide (a.no = 3)) = some bulkJob ∧
      oldestJob (getScu (bulkState g) 0) bulkJob = true ∧ seatMuted (bulkState g) bulkJob.seat = false ∧
      ∀ b, b.length = 16 → let r := passedBytes 512 7 true 0 (leAt 8 8 bulkJob.desc) (descLen bulkJob.desc) (bulkState g)
        r.1 = 16 ∧ (passedBytes 512 7 true 1 (leAt 16 8 bulkJob.desc) (runJob bulkJob b).1.length r.2).1 = if g = openGates then 16 else 0) ∧
    (passedBytes 512 7 true 0 (leAt 8 8 bulkJob.desc) 16 (bulkState [])).1 = 0 ∧
    oldestJob { active := [bulkJob, { bulkJob with no := 2 }] } bulkJob = false ∧
    seatMuted { bulkState openGates with items := [{ seatItem1 with mute := true }] } bulkJob.seat = true := by
  refine ⟨sure, ?_, sure, sure, sure⟩
  rintro g (rfl | rfl) <;> refine ⟨rfl, sure, sure, fun b hb => ?_⟩ <;> simp only [ho b hb] <;> decide +kernel

/-- A block unit under test, and the generator with a test requested. -/
def katState : State :=
  { dies := [(0, { state := .active, aligned := true })]
    units := { scu := [(0, { katBusy := true })], blk := [(0, { katReq := true, katBusy := true }), (7, { katReq := true, katBusy := true })], rng := { katReq := true } } }

theorem witness_SelfTests :
    (∀ n, n = 0 ∨ n = 7 → unitHere katState .block n = true ∧ opUnitOf .block = some .block ∧ (getUnit katState .block n).katBusy = true ∧
      dieUp katState (unitDie .block n) = true) ∧
    (getScu katState 0).katBusy = true ∧ (getScu katState 0).queue = [] ∧
    unitHere katState .mau 3 = true ∧ unitHere katState .hash 3 = true ∧ unitHere katState .scu 0 = true ∧
    unitHere katState .rng 0 = true ∧ katState.units.rng.katReq = true ∧ unitHere katState .block 56 = false := by
  refine ⟨?_, rfl, rfl, sure, sure, sure, sure, rfl, sure⟩
  rintro n (rfl | rfl) <;> exact ⟨sure, rfl, sure, sure⟩

def unitCmd (r : Nat) (fields : List (Nat × Nat × Nat)) : Item := svcItem 0 r 1 0 fields
def statusCmd : Item := unitCmd 0x0F50 [(24, 8, 0x1000), (32, 4, 9024)]
def katCmd : Item := unitCmd 0x0F52 [(24, 1, 1), (26, 2, 7)]
def lockCmd (x : Nat) : Item := unitCmd 0x0F51 [(24, 1, 0), (25, 1, 5), (26, 1, x)]
def logCmd (n c : Nat) : Item := unitCmd 0x0F30 [(24, 8, 0x1000), (32, 4, n), (36, 1, c)]

/-- The smallest package, seat 5's fault record valid as its die's mirror has it. -/
def smallState (i : Item) : State :=
  { coreState i 0 with part := { variant := .tvp4820 }, dies := [(0, { state := .active, mirror := [(0x60000148, 1)] })] }

theorem witness_UnitServices :
    (Serves 1 0x0F50 statusCmd (smallState statusCmd) ∧ (unitBlocks (smallState statusCmd)).length ≤ statusCmd.le 32 4 ∧
      SvcMay statusCmd (statusCmd.le 24 8) (unitBlocks (smallState statusCmd)).length 1 (smallState statusCmd)) ∧
    (Serves 1 0x0F52 katCmd (coreState katCmd 0) ∧ katUnits (coreState katCmd 0) (unitHere (coreState katCmd 0)) katCmd = some [(.block, 7)]) ∧
    (∀ x, x = 0 ∨ x = 1 → Serves 1 0x0F51 (lockCmd x) (coreState (lockCmd x) 0) ∧
      (lockCmd x).le 24 1 < nDies (coreState (lockCmd x) 0).part.variant ∧ (lockCmd x).le 26 1 = x) ∧
    (∀ c, c = 0 ∨ c = 1 → let s := smallState (logCmd 14336 c)
      Serves 1 0x0F30 (logCmd 14336 c) s ∧ 16 * nSeats s.part.variant ≤ (logCmd 14336 c).le 32 4 ∧ (logCmd 14336 c).le 36 1 = c ∧
      SvcMay (logCmd 14336 c) ((logCmd 14336 c).le 24 8) ((List.range (nSeats s.part.variant)).flatMap (seatRecord s)).length 1 s ∧
      5 < nSeats s.part.variant ∧ (byteAt 0 (seatRecord s 5)).getLsbD 0 = true) := by
  refine ⟨⟨by unfold Serves; decide +kernel, sure, by unfold SvcMay; decide +kernel⟩,
    ⟨by unfold Serves; decide +kernel, sure⟩, ?_, ?_⟩
  · rintro x (rfl | rfl) <;> exact ⟨by unfold Serves; decide +kernel, sure, sure⟩
  · rintro c (rfl | rfl) <;>
      exact ⟨by unfold Serves; decide +kernel, sure, sure, by unfold SvcMay; decide +kernel, sure⟩

/-- Die 0 active, the generators as `r` has them, `t` ns after power-up. -/
def rngState (r : Rng) (t : Word64) : State :=
  { dies := [(0, { state := .active })], units := { rng := r }, time := { time64 := t }, lcs := { state := 1 } }

theorem witness_Generators :
    (let s := seatState { waitRnd := some 0x1B }
     5 < nSeats s.part.variant ∧ (run s 5).waitRnd = some 0x1B ∧ (getSeat s 5).suspended = false ∧ 0x1000 ≤ (getSeat s 5).routine) ∧
    (∀ t : Word64, t = 10000000 ∨ t = 20000000 →
      (rngState { recovering := true } t).units.rng.recovering = true ∧ 0 + 10000000 ≤ now (rngState { recovering := true } t)) ∧
    ((rngState { drbgReady := true, reqs := 65536 } 0).units.rng.reqs = 65536 ∧ now (rngState { drbgReady := true } 100000000) = 100000000) ∧
    (∀ b : Bool, dieState (rngState { drbgReady := b, dies := [(0, { seeded := true, reqs := 1048576 })] } 0) 0 = .active ∧
      (Tab.get dDieDrbg (rngState { drbgReady := b, dies := [(0, { seeded := true, reqs := 1048576 })] } 0).units.rng.dies 0).reqs = 1048576) ∧
    (let s := rngState { drbgReady := true, dies := [(0, { seeded := true })] } 0
     3 < nTroupes s.part.variant ∧ dieState s (dieOfTroupe 3) = .active ∧ dieProduces s (dieOfTroupe 3) = true ∧ drbgDown s = false ∧
      (getTroupe s 3).drbgBuf < 128) ∧
    (rngState { rawEn := true } 0).units.rng.rawEn = true ∧ (rngState { rawEn := true } 0).lcs.state = 1 := by
  refine ⟨sure, ?_, sure, ?_, sure, rfl, rfl⟩
  · rintro t (rfl | rfl) <;> decide +kernel
  · intro b; cases b <;> decide +kernel

/-! ### Host link, device time and queue pages -/

/-- The PF open, queue pair 3 as `x`, `t` ns after power-up. -/
def queueState (x : QueuePair) (t : Word64) : State :=
  { boot := { stage := 3 }, power := { linkWidth := 16, linkSpeed := 32 }, queues := [(3, x)], time := { time64 := t }, dies := [(0, { state := .active })] }

theorem queueState_open (x : QueuePair) (t : Word64) (h : x.own.part = 0) :
    pfOpen (queueState x t) = true ∧ queueOf (queueState x t) 0 3 = some 3 := by
  refine ⟨rfl, ?_⟩
  have hq : getQp (queueState x t) 3 = x := rfl
  simp [queueOf, hq, h]

theorem witness_LinkAndTime :
    readLegal 0 0x401 4 = false ∧ readLegal 0 0x100 16 = false ∧ readLegal 0 0 3 = false ∧ readLegal 0 0 4 = true ∧
    fnExists (queueState {} 0) 0 = true ∧ fnExists (queueState {} 0) 1 = false ∧ pfOpen ({} : State) = false ∧ pfOpen (queueState {} 0) = true ∧
    dieState (queueState {} 0) 0 = .active ∧ ∀ p ∈ [Pll.free, .locked, .holdover, .slewing], ({ time := { pll := p } } : State).time.pll = p := by
  decide +kernel

theorem witness_MidwayLinks : (∀ d, d = 0 ∨ d = 6 → dieState (queueState {} 0) d ≠ .absent ∧ dieState (queueState {} 0) d ≠ .lost) ∧
    (7 < 8 ∧ 8 ≤ 8) := by
  refine ⟨?_, sure⟩
  rintro d (rfl | rfl) <;> decide +kernel

/-- A queue pair whose slot at PUSH_NEXT is complete, with a 64-chunk SQ. -/
def pushQp (mode : Bool) : QueuePair :=
  { cfg := { enable := true, mode := mode, sqSize := 6, cqSize := 6 }, enabled := true, tornStart := some 0
    slots := (List.range 64).map fun k => (k, some (BitVec.ofNat 8 (if k = 0 then 0xC0 else k))) }

theorem witness_Submission :
    (let x := pushQp false
     x.own.part = 0 ∧ x.enabled = true ∧ x.cfg.mode = false ∧ x.pushErr = false ∧ slotComplete x x.pushNext.toNat = true ∧ sqLevel x < sqCap x ∧
      (fillSlots x 64 [1, 2]).2 = false ∧ x.tornStart = some 0 ∧ 0 + 100000 ≤ now (queueState x 100000)) ∧
    ({ pushErr := true, sqHead := 33 } : QueuePair).pushErr = true ∧
    (let x := { pushQp true with sqTail := 9, ready := 9 }
     x.cfg.enable = true ∧ x.cfg.mode = true ∧ (63 : Word32).toNat % 65536 < sqCap x ∧ sqCap x ≤ (64 : Word32).toNat % 65536 ∧
      x.enabled = true ∧ x.fetchErr = false ∧ fetchCount x ≠ 0) ∧
    (let x := { pushQp true with fetches := [{ start := 0, count := 2 }] }
     x.fetches = { start := 0, count := 2 } :: [] ∧ x.enabled = true) ∧
    (pushQp false).doomed.getLsbD (pushQp false).pushNext.toNat = false ∧
    { pushQp false with doomed := 1 }.doomed.getLsbD (pushQp false).pushNext.toNat = true := by
  decide +kernel

theorem witness_HeadRefill : ∃ l : SpillLine,
    let s := queueState { middle := [l] } 0
    (getQp s 3).middle = [l] ∧ (getQp s 3).headWin = [] ∧ (getQp s 3).tailWin = [] ∧ (getQp s 3).headSync = false ∧
    chunkKind l.chunk.bytes ≠ 2 ∧ chunkKind l.chunk.bytes ≠ 3 :=
  ⟨{ chunk := { n := 0, bytes := zeros 64 } }, rfl, rfl, rfl, rfl, sure, sure⟩

theorem witness_QueueControl :
    (let x : QueuePair := { cfg := { sqSize := 6, cqSize := 16, cqBase := 4096, sqBase := 4096 } }
     x.draining = false ∧ x.cfg.enable = false ∧ enableCheck (queueState x 0) x = none) ∧
    (let x : QueuePair := { cfg := { sqSize := 5, cqSize := 16, cqBase := 4096 } }
     enableCheck (queueState x 0) x = some 2) ∧
    (let x := { pushQp false with cqWritten := 2 }
     x.cfg.enable = true ∧ (2 : Word32).toNat % 65536 < cqCap x ∧ ((2 : Word32).toNat % 65536 + cqCap x - x.cqHead.toNat) % cqCap x ≤ x.cqWritten ∧
      x.cqWritten < ((3 : Word32).toNat % 65536 + cqCap x - x.cqHead.toNat) % cqCap x ∧ x.flushBusy = false ∧ x.draining = false) ∧
    (∀ b : Bool, let x := { pushQp false with flushBusy := true, flushAny := b }
      x.flushBusy = true ∧ x.flushAny = b) := by
  refine ⟨sure, sure, sure, ?_⟩
  intro b; cases b <;> decide +kernel

theorem witness_QueueOwnership :
    3 < 2048 ∧ pfOpen (queueState {} 0) = true ∧ (∀ v : Word32, v = 2 ∨ v = 0x102 ∨ v = 1 → v.toNat % 256 ≠ 0) ∧
    ((2 : Word32).toNat / 256 % 65536 = 0) ∧ ((0x102 : Word32).toNat / 256 % 65536 ≠ 0) ∧ (pushQp false).enabled = true ∧
    (let s : State := { queueState {} 0 with queues := [(3, {}), (4, { own := { part := 5, vfPage := 1 } })] }
     (getQp s 3).enabled = false ∧ (getQp s 3).draining = false ∧ ownerConflict s 3 5 1 = true ∧ ownerConflict s 3 5 2 = false ∧
      (getQp s 3).own.part = 0) := by
  refine ⟨sure, sure, ?_, sure, sure, rfl, sure⟩
  rintro v (rfl | rfl | rfl) <;> decide

theorem witness_FunctionsAndVectors :
    (0 < 255 ∧ 255 < 256) ∧
    (∀ b : BitVec 2048, let s : State := { queueState {} 0 with funcs := [(0, { msix := { enable := true, fmask := false, pba := b } })] }
      2047 < nVectors 0 ∧ fnExists s 0 = true ∧ (getFunc s 0).msix.fmask = false ∧ (getFunc s 0).msix.enable = true) ∧
    (let s := queueState { cfg := { irqEn := true }, own := { time := 1 }, unsig := 1 } 100
     let x := getQp s 3
     x.cfg.irqEn = true ∧ x.own.time ≠ 0 ∧ 0 < x.unsig ∧ x.unsigAt.toNat + x.own.time.toNat * 100 ≤ now s) := by
  exact ⟨sure, fun b => ⟨sure, rfl, rfl, rfl⟩, sure⟩

/-! ### Admission, scheduling and release -/

/-- Partition 5's routine 0x1000 loaded, an item of it in place `pl`, dies 0 and 1 active. -/
def flowItem (pl : Place) : Item := { seatItem1 with place := pl, seatNo := 0 }
def schedState (l : List Item) (t : Word64) : State :=
  { boot := { stage := 3 }, power := { linkWidth := 16, linkSpeed := 32 }, dies := [(0, { state := .active }), (1, { state := .active })], items := l, time := { time64 := t }
    routines := { parts := [(5, { loaded := [(0x1000, { gen := 1, len := 64 })] })] } }

/-- Queue pair 3 of partition 5 with one command arrived, of which the CQ has `r` entries reserved. -/
def turnState (r : Nat) : State :=
  { schedState [] 0 with
    booth := { lastP := 4 }
    queues := [(3, { cfg := { enable := true, sqSize := 6, cqSize := 6 }, own := { part := 5 }, enabled := true, arrived := 1, cqResv := r
                     headWin := [{ n := 0, bytes := 0xC0 :: zeros 63 }] })] }

theorem witness_TicketTurn :
    (let s := turnState 0
     eligible { s with booth := { s.booth with lastP := (s.booth.lastP + 1) % 256 } } ((s.booth.lastP + 1) % 256) = true) ∧
    (let s := turnState 64
     let s0 : State := { s with booth := { s.booth with lastP := (s.booth.lastP + 1) % 256 } }
     eligible s0 ((s.booth.lastP + 1) % 256) = false ∧ noArrived s0 ((s.booth.lastP + 1) % 256) = false) ∧
    (let s := schedState [] 0
     let s0 : State := { s with booth := { s.booth with lastP := (s.booth.lastP + 1) % 256 } }
     eligible s0 ((s.booth.lastP + 1) % 256) = false ∧ noArrived s0 ((s.booth.lastP + 1) % 256) = true) := by
  decide +kernel

theorem witness_SharesAndBuckets :
    (∀ c : ShareCfg, c ∈ [{}, { byteRate := 5, cmdRate := 7 }] → ({ active := { part := [(5, c)] } } : Booth).active.part = [(5, c)]) ∧
    (let s := schedState [] 10000
     pfOpen s = true ∧ mirrors s = false ∧ (applyShare (nTroupes s.part.variant) 0x100140 0x500 s.booth.staged).isSome = true ∧
      now s % 10000 = 0 ∧ s.booth.hold = false ∧ s.booth.holdCleared.toNat + 200 ≤ now s) ∧
    now (schedState [] 10001) % 10000 ≠ 0 ∧
    (let w : ShareWrite := { at_ := 9800, off := 0x100140, value := 0x500 }
     w.held = none ∧ w.at_.toNat + 200 ≤ now (schedState [] 10000)) := by
  refine ⟨?_, sure, sure, sure⟩
  intro c hc
  rfl

theorem witness_Allocation :
    (let s := schedState [flowItem .pool] 0
     firstAlloc s ((poolItems s).map (withMode s)) = some (withMode s (flowItem .pool), .to 0)) ∧
    (let i := { flowItem .pool with routine := 0x1001 }
     firstAlloc (schedState [i] 0) ((poolItems (schedState [i] 0)).map (withMode (schedState [i] 0))) =
       some (withMode (schedState [i] 0) i, .notLoaded false)) ∧
    (let s := { schedState [flowItem .pool] 0 with troupes := (List.range 28).map fun t => (t, { jaser := true }) }
     firstAlloc s ((poolItems s).map (withMode s)) = some (withMode s (flowItem .pool), .notLoaded true)) ∧
    (firstAlloc (schedState [] 0) ((poolItems (schedState [] 0)).map (withMode (schedState [] 0))) = none) ∧
    (∀ m : BitVec 256, m = 0 ∨ m = 1 <<< 5 →
      let s : State := { schedState [] 0 with booth := { active := { map := (List.range 28).map fun t => (t, m) } } }
      hasTroupeOn s 5 1 = decide (m ≠ 0)) ∧
    readyRoom (schedState (List.replicate 4096 (flowItem (.ready 1))) 0) 1 = false ∧
    (let s := { schedState [flowItem (.dispatch 1)] 0 with dies := [(1, { state := .active, dispatchQ := [1] })] }
     dieState s 1 = .active ∧ (getDie s 1).dispatchQ = (flowItem (.dispatch 1)).id :: [] ∧ getItem s 1 = some (flowItem (.dispatch 1))) ∧
    (let s := { schedState [flowItem (.move 1)] 0 with dies := [(1, { state := .active, dispatchQ := [1] })] }
     dieState s 1 = .active ∧ readyRoom s 1 = true ∧ (getDie s 1).dispatchQ = (flowItem (.move 1)).id :: [] ∧ getItem s 1 = some (flowItem (.move 1))) ∧
    (let s := schedState [flowItem (.ready 1)] 3000
     now s % 1000 = 0 ∧ s.jug.rebalEn = true ∧ maxLoad (loadedDies s) = some (0, 0) ∧ minLoad (loadedDies s) = some (0, 0)) := by
  refine ⟨sure, sure, sure, sure, ?_, sure, sure, sure,
    sure⟩
  rintro m (rfl | rfl) <;> decide +kernel

theorem witness_Selection :
    (∀ t : Word64, t = 0 ∨ t = 2000 →
      let s := { schedState [{ flowItem (.ready 0) with deadline := 1000 }] t with booth := { active := { part := [(5, { expireEn := true })] } } }
      troupeRuns s 3 = true ∧ pickSeat s 3 = some 96 ∧ nextGrant s 3 = some 5 ∧
        firstBy (before s.booth.active.discipline) (runnable s 3 5) = some { flowItem (.ready 0) with deadline := 1000 } ∧
        overdue s { flowItem (.ready 0) with deadline := 1000 } = decide (t = 2000)) := by
  rintro t (rfl | rfl) <;> decide +kernel

theorem witness_SweepSuspendMode :
    (let i := { flowItem .pool with deadline := 1000 }
     let s := { schedState [i] 1001 with booth := { active := { part := [(5, { expireEn := true })] } } }
     s.items = [i] ∧ sweepable i.place = true ∧ overdue s i = true) ∧
    (let i := { flowItem (.ready 0) with id := 2 }
     let s := { schedState [flowItem (.seat 4), i] 0 with seats := [(4, { run := some 1, preemptBy := some 2 })] }
     (getSeat s 4).preemptBy = some 2 ∧ getItem s 2 = some i ∧ seatItem s 4 = some (flowItem (.seat 4)) ∧ i.place = .ready (dieOfSeat 4) ∧
      seatFree s 5 = true ∧ (getSeat s 4).x.ops.any (fun o => o.try_ || o.sync) = false ∧ overdue s i = false) ∧
    (let i := { flowItem (.ready 0) with id := 2, deadline := 1000 }
     let s := { schedState [flowItem (.seat 4), i] 1001 with
       booth := { active := { part := [(5, { expireEn := true })] } }, seats := [(4, { run := some 1, preemptBy := some 2 })] }
     (getSeat s 4).preemptBy = some 2 ∧ getItem s 2 = some i ∧ seatItem s 4 = some (flowItem (.seat 4)) ∧ i.place = .ready (dieOfSeat 4) ∧
      overdue s i = true) ∧
    (let s := { schedState [] 0 with booth := { active := { map := [(27, 0)] } } }
     27 < nTroupes s.part.variant ∧ pfOpen s = true ∧ (getTroupe s 27).jaser = false ∧ Tab.get dMap s.booth.active.map 27 = 0 ∧
      troupeIdle s 27 = true ∧ troupeIdle { s with seats := [(864, { run := some 1 })] } 27 = false) := by
  decide +kernel

theorem witness_OrderedRelease :
    (let s := { schedState [flowItem (.returning 0)] 0 with dies := [(0, { state := .active, resultQ := [1] })] }
     (getDie s 0).resultQ = (flowItem (.returning 0)).id :: [] ∧ getItem s 1 = some (flowItem (.returning 0))) ∧
    (∀ m : BitVec 256, m = 0 ∨ m = 1 <<< 5 → let i := flowItem (.handback 0 1)
     let s := { schedState [i] 0 with
       dies := [(0, { state := .active, resultQ := [1] }), (1, { state := .active })], booth := { active := { map := (List.range 28).map fun t => (t, m) } } }
     (getDie s 0).resultQ = i.id :: [] ∧ getItem s 1 = some i ∧ hasTroupeOn s 5 1 = decide (m ≠ 0)) ∧
    (let s := { schedState [] 0 with releaseQ := [1] }
     s.power.d3 = false ∧ s.releaseQ = 1 :: []) ∧
    (let s := { schedState [] 2000 with flows := [(5 * 16384 + 7, { valid := true, ordered := true, holdStart := some 0 })] }
     (getFlow s 5 7).holdStart = some 0 ∧ 0 + (share s 5).holdNs.toNat ≤ now s) ∧
    (let i := { flowItem .pool with flow := 7, seq := 4 }
     let s := { schedState [i] 0 with flows := [(5 * 16384 + 7, { valid := true, ordered := true, blockedAt := some 4 })] }
     flowHead s 5 7 = some i ∧ (getFlow s 5 7).blockedAt = some i.seq) ∧
    (let i := { flowItem .pool with flow := 7, seq := 4, serial := true, serialWait := true, executed := true }
     ((flowItems (schedState [i] 0) 5 7).filter fun i => i.executed && i.serial && decide (i.place ≠ .done)) = [i] ∧ i.place = .pool) := by
  refine ⟨sure, ?_, sure⟩
  rintro m (rfl | rfl) <;> decide +kernel

theorem witness_CompletionWritten :
    (∀ t : BitVec 16, t = 0 ∨ t = 63 →
      let i := { flowItem .done with qp := 3, outcome := some { status := stOK } }
      let s := { schedState [i] 0 with queues := [(3, { cfg := { enable := true, cqSize := 6, cqBase := 4096 }, enabled := true, cqTail := t })] }
      getItem s i.id = some i ∧ i.outcome = some { status := stOK } ∧ i.mute = false ∧ i.rslot = none ∧ i.poisoned = false ∧
        i.deferred = false) := by
  rintro t (rfl | rfl) <;> decide +kernel

theorem witness_TraceRegisters :
    (let s : State := { dies := [(6, { trcLost := 3 })] }
     (getDie s 6).trcLost ≠ 0 ∧ (getDie s 6).trcFifo.length < 256) ∧
    pfOpen (schedState [] 0) = true ∧ keysGone (schedState [] 0) = false ∧ (3 : Word32).getLsbD 0 = true ∧ (2 : Word32).getLsbD 0 = false ∧ 255 < 256 ∧
    (∀ g, g = openGates ∨ g = [] → let s := { schedState [] 0 with gates := g }
      s.trace.enable = false ∧ s.trace.count.toNat ≠ 65536 ∧
      (gateAccess 8 false (0x1130000000 + 16 * s.trace.wrIndex.toNat) 16 1 s).1 = decide (g = openGates)) := by
  refine ⟨sure, sure, sure, sure, sure, sure, ?_⟩
  rintro g (rfl | rfl) <;> decide +kernel

/-! ### Boot, identity and SPDM -/

/-- The boot ROM's state after a reset, in life-cycle state `n`. -/
def romState (n : BitVec 2) (wait blown : Bool) (fail : BitVec 3) : State :=
  { boot := { aonFail := fail, zeroBlown := blown }, lcs := { state := n, waitLatch := wait } }

theorem witness_BootRom : ∀ n w z f, bootCanRun (romState n w z f) = true ∧ (romState n w z f).lcs.waitLatch = w ∧
    (romState n w z f).lcs.state = n ∧ (romState n w z f).boot.zeroBlown = z ∧ (romState n w z f).boot.aonFail = f ∧
    batteryAbsent [(3, 1)] (romState n w z f) = true ∧
    batteryAbsent [] { romState n w z f with cage := { battery := { valid := true } } } = false :=
  fun _ _ _ _ => ⟨rfl, rfl, rfl, rfl, rfl, rfl, rfl⟩

/-- An image header of version 1 with SVN `svn` for the parts `parts`, its five components empty. -/
def headerBytes (svn parts : Nat) : Bytes :=
  toLE 4 0x49484350 ++ toLE 2 1 ++ toLE 2 1024 ++ toLE 4 1 ++ toLE 2 svn ++ toLE 1 0 ++ toLE 1 parts ++ [0xB0, 5] ++ zeros 14 ++
  ((List.range 5).flatMap fun k => toLE 4 (k + 1) ++ toLE 4 0x1000 ++ zeros 40) ++ zeros 752

/-- A unit in PRODUCTION whose fused SVN is 2. -/
def imageState (stage slot : Nat) : State :=
  { boot := { stage := stage, slot := slot, recLen := 1 }, fuses := { svn := 3 }, funcs := [(0, { busMaster := true })] }

/-- A header of each outcome, SM3 answering zeros: bad fields, no digest fused, an SVN too low, not for this part, and one
that passes; SM2 verifies or not. -/
theorem witness_ImageChecks (hh : ∀ b, Config.hash 5 b = zeros 32) :
    imageFormatOk (headerBytes 65 7) = false ∧
    (∀ svn parts, (svn = 1 ∨ svn = 2) → (parts = 7 ∨ parts = 3) → imageFormatOk (headerBytes svn parts) = true ∧
      signerFused { imageState 4 0 with fuses := { signers := [[]], svn := 3 } } (headerBytes svn parts) = false ∧
      signerFused (imageState 4 0) (headerBytes svn parts) = true ∧ fuseSvn (imageState 4 0) = 2 ∧
      leAt 12 1 (headerBytes svn parts) = svn ∧ imageFits (imageState 4 0) (headerBytes svn parts) = decide (parts = 7)) := by
  have hs : ∀ b, sm3 b = zeros 32 := fun b => by rw [sm3, hh]; rfl
  refine ⟨sure, ?_⟩
  rintro svn parts (rfl | rfl) (rfl | rfl) <;> unfold signerFused <;> simp only [hs] <;> decide +kernel

/-- The check of a whole image of SVN `svn`, by what SM2 answers. -/
theorem image_check (hh : ∀ b, Config.hash 5 b = zeros 32) (st sl svn : Nat) (b : Bool) (h1 : (st = 4 ∧ sl = 0) ∨ (st = 3 ∧ sl = 0))
    (h2 : svn = 1 ∨ svn = 2)
    (hv : sm2Verify (slice 800 64 (headerBytes svn 7)) ((headerBytes svn 7).take 960) (slice 960 64 (headerBytes svn 7)) = b) :
    checkImage (imageState st sl) (headerBytes svn 7) =
      if b then (if svn = 1 then .error 4 else .ok ((List.range 5).map fun k => (k + 1, []))) else .error 3 := by
  have hs : ∀ b, sm3 b = zeros 32 := fun b => by rw [sm3, hh]; rfl
  have e : headerOf (imageOf (headerBytes svn 7)) = headerBytes svn 7 := by
    rcases h2 with rfl | rfl <;> decide +kernel
  have g : ∀ s : State, signerFused s (headerBytes svn 7) = (decide (s.fuses.signers.getD 0 [] ≠ []) &&
      decide (zeros 32 = fit 32 (s.fuses.signers.getD 0 [])) && !s.fuses.revoked.getLsbD 0) := by
    intro s
    have : leAt 13 1 (headerBytes svn 7) = 0 := by rcases h2 with rfl | rfl <;> decide +kernel
    unfold signerFused
    simp only [hs, this]
  have l : loadComps (componentsOf (headerBytes svn 7)) (imageOf (headerBytes svn 7)).comps = .ok ((List.range 5).map fun k => (k + 1, [])) := by
    have c : componentsOf (headerBytes svn 7) = (List.range 5).map fun k => { type := k + 1, off := 0x1000, len := 0, digest := zeros 32 } := by
      rcases h2 with rfl | rfl <;> decide +kernel
    have d : (imageOf (headerBytes svn 7)).comps = List.replicate 5 (.ok []) := by
      rcases h2 with rfl | rfl <;> decide +kernel
    rw [c, d]
    simp [List.range, List.range.loop, List.replicate, loadComps, hs, fit, zeros]
  have f : headerFail (imageState st sl) (headerBytes svn 7) = if b then (if svn = 1 then 4 else 0) else 3 := by
    unfold headerFail
    simp only [g, hv]
    cases b <;> rcases h1 with ⟨rfl, rfl⟩ | ⟨rfl, rfl⟩ <;> rcases h2 with rfl | rfl <;> decide +kernel
  unfold checkImage
  simp only [e, f, l]
  cases b <;> rcases h2 with rfl | rfl <;> rfl

theorem witness_HandoverAndBootOk :
    (∀ p : Bool, (({ boot := { stage := 1 }, trp := { paired := p } } : State).boot.stage = 1)) ∧
    (let s : State := { boot := { stage := 2 }, power := { dieReady := 0x7F } }
     diesReady s = true ∧ (getGate s 4).entries = []) ∧
    diesReady { boot := { stage := 2 }, power := { dieReady := 0x3F } } = false ∧
    (∀ k, k = 0 ∨ k = 3 → let s : State := { boot := { stage := 2, slot := k }, time := { time64 := 2000000000 } }
      s.boot.stage = 2 ∧ s.boot.handoverAt.toNat + 2000000000 ≤ now s) := by
  refine ⟨fun _ => rfl, sure, sure, ?_⟩
  rintro k (rfl | rfl) <;> decide +kernel

/-- A firmware service's state: slot 0 runs an image of SVN 5 under key 1, the fused SVN is 2. -/
def fwState (i : Item) : State :=
  { coreState i 0 with boot := { stage := 3, handover := true, slot := 0, svn := 5, keyIndex := 1, recLen := 1 }, fuses := { svn := 3 } }
def stageCmd : Item := svcItem 0 0x0F70 1 0x8000 [(24, 8, 0x1000), (32, 4, 1024), (36, 1, 1)]
def svnCmd (n : Nat) : Item := svcItem 0 0x0F71 1 0 [(24, 1, n)]
def revokeKeyCmd (k : Nat) : Item := svcItem 0 0x0F72 1 0 [(24, 1, k)]

/-- The checks an image meets do not depend on the part of the state that `fwState` adds. -/
theorem fwState_image (svn : Nat) (h2 : svn = 1 ∨ svn = 2) :
    checkImage (fwState stageCmd) (headerBytes svn 7) = checkImage (imageState 3 0) (headerBytes svn 7) := by
  unfold checkImage headerFail signerFused
  rcases h2 with rfl | rfl <;> rfl

theorem witness_RecoveryAndFirmware (hh : ∀ b, Config.hash 5 b = zeros 32) (b : Bool) (svn : Nat) (h2 : svn = 1 ∨ svn = 2)
    (hv : sm2Verify (slice 800 64 (headerBytes svn 7)) ((headerBytes svn 7).take 960) (slice 960 64 (headerBytes svn 7)) = b) :
    (let s := imageState 4 0
     s.boot.stage = 4 ∧ s.lcs.state ≠ 3 ∧ (getFunc s 0).busMaster = true ∧ fit (s.boot.recLen.toNat * 1024) (headerBytes svn 7) = headerBytes svn 7 ∧
      checkImage s (headerBytes svn 7) = if b then (if svn = 1 then .error 4 else .ok ((List.range 5).map fun k => (k + 1, []))) else .error 3) ∧
    (let s := fwState stageCmd
     Serves 1 0x0F70 stageCmd s ∧ Pointer stageCmd ∧ SvcBuffer stageCmd s ∧ stageCmd.le 36 1 ≤ 1 ∧ stageCmd.le 36 1 ≠ s.boot.slot ∧
      fit (stageCmd.le 32 4) (headerBytes svn 7) = headerBytes svn 7 ∧
      checkImage s (headerBytes svn 7) = if b then (if svn = 1 then .error 4 else .ok ((List.range 5).map fun k => (k + 1, []))) else .error 3) ∧
    (∀ n, n = 2 ∨ n = 5 → let s := fwState (svnCmd n)
      Serves 1 0x0F71 (svnCmd n) s ∧ Inline (svnCmd n) ∧ s.boot.stage = 3 ∧ fuseSvn s = 2 ∧ (svnCmd n).le 24 1 = n ∧
        (svnCmd n).le 24 1 ≤ s.boot.svn.toNat ∧ (svnCmd n).le 24 1 ≤ 64) ∧
    (let i := { svnCmd 5 with phase := phBlow }
     getItem (fwState i) 1 = some i ∧ svnBlows i = true ∧ (fwState i).boot.stop0 = false ∧ fuseSvn (fwState i) < i.le 24 1) ∧
    (∀ k, k = 1 ∨ k = 3 → let s := fwState (revokeKeyCmd k)
      Serves 1 0x0F72 (revokeKeyCmd k) s ∧ Inline (revokeKeyCmd k) ∧ (revokeKeyCmd k).le 24 1 = k ∧ s.boot.keyIndex.toNat = 1) := by
  have f : ∀ n, n = 1024 → fit n (headerBytes svn 7) = headerBytes svn 7 := by
    rintro n rfl; rcases h2 with rfl | rfl <;> decide +kernel
  refine ⟨⟨rfl, sure, sure, f _ sure, image_check hh 4 0 svn b (.inl ⟨rfl, rfl⟩) h2 hv⟩,
    ⟨by unfold Serves; decide +kernel, by unfold Pointer; decide +kernel, by unfold SvcBuffer SvcMay; decide +kernel, sure,
      sure, f _ sure, (fwState_image svn h2).trans (image_check hh 3 0 svn b (.inr ⟨rfl, rfl⟩) h2 hv)⟩, ?_, sure, ?_⟩
  · rintro n (rfl | rfl) <;>
      exact ⟨by unfold Serves; decide +kernel, by unfold Inline; decide +kernel, rfl, sure, sure, sure, sure⟩
  · rintro k (rfl | rfl) <;> exact ⟨by unfold Serves; decide +kernel, by unfold Inline; decide +kernel, sure, rfl⟩

def quoteCmd : Item := svcItem 5 0x0F73 1 0 [(24, 1, 5), (32, 8, 0x1000), (40, 4, 616)]

theorem witness_QuoteChallengeLockstep :
    (let s := coreState quoteCmd 0
     let sg := idSign (quoteBody s (quoteCmd.le 24 1) (slice 65 32 quoteCmd.raw)) s
     Serves 1 0x0F73 quoteCmd s ∧ Inline quoteCmd ∧ s.vault.ready = true ∧ RootReady s ∧ quoteCmd.le 40 4 = 616 ∧
      ∀ n, n ≤ 616 → SvcMay quoteCmd (quoteCmd.le 32 8) n 1 sg.2) ∧
    (∀ c : Byte, c = 0x20 ∨ c = 0 → ({ uch := { code := c } } : State).uch.code = c) := by
  refine ⟨⟨by unfold Serves; decide +kernel, by unfold Inline; decide +kernel, rfl, by unfold RootReady; decide +kernel, sure, ?_⟩,
    fun _ _ => rfl⟩
  intro n hn
  refine ⟨sure, sure, ?_⟩
  have : ∀ m, m < 617 → (passedBytes 64 3 true 1 (quoteCmd.le 32 8) m
      (idSign (quoteBody (coreState quoteCmd 0) (quoteCmd.le 24 1) (slice 65 32 quoteCmd.raw)) (coreState quoteCmd 0)).2).1 = m := by
    decide +kernel
  exact this n (by omega)

/-- The SPDM responder in phase `p`, slots 0 and 2 with a chain, session 1 finished and session 2 not. -/
def spdmState (p : Nat) (gone : Bool) : State :=
  { boot := { stage := 3, handover := true }, vault := { ready := true }, units := { rng := { esReady := true, drbgReady := true } }, fuses := { rootGone := gone }
    spdm := { phase := p, slots := [(0, [1, 2]), (2, [3])], sessions := [{ id := 1, finished := true }, { id := 2 }], nextId := 3 } }

theorem witness_SpdmNegotiation :
    (∀ p g, spdmUp (spdmState p g) = true ∧ (spdmState p g).vault.ready = true ∧ (spdmState p g).spdm.phase = p) ∧
    (zeros 4096).length ≤ 4096 ∧ 4096 < (zeros 4097).length ∧
    (spdmState 3 false).spdm.slots.find? (fun e => decide (e.1 = 0)) = some (0, [1, 2]) ∧ 1 < ([1, 2] : Bytes).length := by
  refine ⟨fun _ _ => ⟨rfl, rfl, rfl⟩, sure, sure, sure, sure⟩

theorem witness_SpdmSessions
    (hk : Config.certKey [1, 2] = some (idPubSm2 (spdmState 3 false))) :
    (∀ g, spdmUp (spdmState 3 g) = true ∧ (spdmState 3 g).vault.ready = true ∧ 3 ≤ (spdmState 3 g).spdm.phase ∧
      (spdmState 3 g).fuses.rootGone = g) ∧
    signingSlot (spdmState 3 false) 0 = true ∧ RootReady (spdmState 3 false) ∧ (spdmState 3 false).spdm.sessions.length < 4 ∧
    findSession (spdmState 3 false) 1 = some { id := 1, finished := true } ∧ findSession (spdmState 3 false) 2 = some { id := 2 } ∧
    (spdmState 3 false).lcs.state.toNat = 2 ∧ (zeros 8188).length + 4 ≤ 8192 := by
  refine ⟨fun _ => ⟨rfl, rfl, Nat.le_refl _, rfl⟩, ?_, by unfold RootReady; decide +kernel, sure, sure, sure,
    sure, sure⟩
  show decide (Config.certKey [1, 2] = some (idPubSm2 (spdmState 3 false))) = true
  exact decide_eq_true hk

/-! ### Mover and migration -/

/-- Channel 7 of the mover, which copies within host memory. -/
def movState (c : MovCh) : State :=
  { funcs := [(0, { busMaster := true })], gates := openGates, mov := { active := if c.state = 2 then some 7 else none, ch := [(7, c)] } }

theorem witness_Mover :
    (∀ n : BitVec 31, n = 0 ∨ n = 0x40000000 → (getMov (movState { count := n }) 7).busy = false ∧
      movCfgBad (getMov (movState { count := n }) 7) = decide (n = 0)) ∧
    (∀ st : BitVec 3, st = 1 ∨ st = 2 → (getMov (movState { count := 16, state := st }) 7).busy = true ∧
      (getMov (movState { count := 16, state := st }) 7).state = st) ∧
    (∀ cfg : BitVec 12, cfg = 0x333 ∨ cfg = 0x003 →
      let s := movState { count := 16, state := 2, cfg := cfg, src := 0x1000, dst := 0x2000 }
      let c := getMov s 7
      let r := movAccess c c.srcHost c.src.toNat 16 0 s
      s.mov.active = some 7 ∧ c.stop = false ∧ r.1 = 0 ∧ (movAccess c c.dstHost c.dst.toNat r.2.1 1 r.2.2).1 = 0) ∧
    (let s := { movState { count := 16, state := 2, cfg := 0x331 } with funcs := [] }
     let c := getMov s 7
     let r := movAccess c c.srcHost c.src.toNat 16 0 s
     s.mov.active = some 7 ∧ r.1 ≠ 0 ∧ (movAccess c c.dstHost c.dst.toNat r.2.1 1 r.2.2).1 = 0) ∧
    (let s := movState { count := 16, state := 2, cfg := 0x301, src := 0x1000, dst := 0x1500000000 }
     let c := getMov s 7
     let r := movAccess c c.srcHost c.src.toNat 16 0 s
     s.mov.active = some 7 ∧ (movAccess c c.dstHost c.dst.toNat r.2.1 1 r.2.2).1 ≠ 0) := by
  refine ⟨?_, ?_, ?_, sure, sure⟩
  · rintro n (rfl | rfl) <;> decide +kernel
  · rintro st (rfl | rfl) <;> decide +kernel
  · rintro cfg (rfl | rfl) <;> decide +kernel

/-- A migration service on VF `v`. -/
def migCmd (r v : Nat) (fields : List (Nat × Nat × Nat)) : Item := svcItem 0 r 1 0 ((24, 1, v) :: fields)
def logStartCmd (r : Nat) : Item := migCmd 0x0F20 255 [(25, 1, r), (32, 8, 0x1000), (40, 8, 0x2000)]
def readClearCmd (n : Nat) : Item := migCmd 0x0F21 255 [(25, 1, 3), (32, 8, 0), (40, 8, 0x10000), (48, 4, n)]
def logStopCmd : Item := migCmd 0x0F22 1 []
def logState (i : Item) : State :=
  { coreState i 0 with funcs := [(0, { busMaster := true }), (255, { logRanges := [(3, { base := 0, len := 0x100000, dirty := [0, 9] })] })] }

theorem witness_DirtyLogs :
    (∀ r, r = 0 ∨ r = 3 → Inline (logStartCmd r) ∧ Serves 1 0x0F20 (logStartCmd r) (coreState (logStartCmd r) 0) ∧
      rangeOk (coreState (logStartCmd r) 0) ((logStartCmd r).le 24 1) ((logStartCmd r).le 25 1) ((logStartCmd r).le 32 8)
        ((logStartCmd r).le 40 8) = true) ∧
    (∀ n, n = 8 ∨ n = 0x1000 → let i := readClearCmd n
      Inline i ∧ Serves 1 0x0F21 i (logState i) ∧ isVf (i.le 24 1) = true ∧ i.le 25 1 ≤ 3 ∧ i.le 32 8 % 0x08000000 = 0 ∧
        i.le 32 8 < (Tab.get dRange (getFunc (logState i) (i.le 24 1)).logRanges (i.le 25 1)).len ∧ i.le 48 4 % 8 = 0 ∧
        i.le 48 4 ≤ 0x100000 ∧ SvcMay i (i.le 40 8) (i.le 48 4) 1 (logState i)) ∧
    (Inline logStopCmd ∧ Serves 1 0x0F22 logStopCmd (coreState logStopCmd 0) ∧ isVf (logStopCmd.le 24 1) = true) := by
  refine ⟨?_, ?_, ⟨by unfold Inline; decide +kernel, by unfold Serves; decide +kernel, sure⟩⟩
  · rintro r (rfl | rfl) <;> exact ⟨by unfold Inline; decide +kernel, by unfold Serves; decide +kernel, sure⟩
  · rintro n (rfl | rfl) <;>
      exact ⟨by unfold Inline; decide +kernel, by unfold Serves; decide +kernel, sure, sure, sure,
        sure, sure, sure, by unfold SvcMay; decide +kernel⟩

def quiesceCmd (t : Nat) : Item := migCmd 0x0F28 255 [(28, 4, t)]
def resumeCmd : Item := migCmd 0x0F2B 1 []

theorem witness_Quiescing :
    (isVf ((quiesceCmd 0).le 24 1) = true ∧ Serves 1 0x0F28 (quiesceCmd 0) (coreState (quiesceCmd 0) 0) ∧ Inline (quiesceCmd 0)) ∧
    (∀ b : Bool, let i := { quiesceCmd 5 with phase := phQuiesce }
      let s := { coreState i 0 with time := { time64 := 5000 }, items := i :: if b then [{ seatItem1 with id := 2, part := 255 }] else [] }
      quiesceWaits 1 s = some i ∧ vfOutstanding s (i.le 24 1) = b ∧ i.le 28 4 ≠ 0 ∧ i.waitAt.toNat + i.le 28 4 * 1000 ≤ now s) ∧
    (isVf (resumeCmd.le 24 1) = true ∧ Serves 1 0x0F2B resumeCmd (coreState resumeCmd 0) ∧ Inline resumeCmd) := by
  refine ⟨⟨sure, by unfold Serves; decide +kernel, by unfold Inline; decide +kernel⟩, ?_,
    ⟨sure, by unfold Serves; decide +kernel, by unfold Inline; decide +kernel⟩⟩
  intro b
  cases b <;> decide +kernel

def saveCmd : Item := migCmd 0x0F29 5 [(32, 8, 0x1000), (40, 4, 112)]
def restoreVfCmd : Item := migCmd 0x0F2A 5 [(32, 8, 0x1000), (40, 4, 112)]

/-- VF 5 is quiesced and its partition's slot 0 holds a transfer key. -/
def blobState (i : Item) : State :=
  { coreState i 0 with
    funcs := [(0, { busMaster := true }), (5, { quiesced := true })]
    cage := { slots := [(40, { valid := true, role := 1, alg := 5, bankA := zeros 32, bankB := zeros 32 })] } }

/-- A blob of VF 5 with no queue pair and no flow, its tag zero. -/
def emptyBlob : Bytes := toLE 4 0x00010001 ++ toLE 4 112 ++ [5, 0, 0, 0] ++ zeros 100

/-- A save and a restore; whether the blob's tag holds is what the tag's computation answers. -/
theorem witness_StateBlobs (ok : Bytes) (hg : ∀ k ct, Config.gcmTag 5 k (zeros 12) (emptyBlob.take 32) ct = ok) :
    (Inline saveCmd ∧ isVf (saveCmd.le 24 1) = true ∧ Serves 1 0x0F29 saveCmd (blobState saveCmd) ∧
      (getFunc (blobState saveCmd) 5).quiesced = true ∧ RootReady (blobState saveCmd) ∧
      transferKey (blobState saveCmd) (saveCmd.le 24 1) = some (zeros 32) ∧
      32 + (saveBody (blobState saveCmd) 5).length + 16 ≤ saveCmd.le 40 4 ∧
      SvcMay saveCmd (saveCmd.le 32 8) 112 1 (drawRoot 12 (blobState saveCmd)).2) ∧
    (Inline restoreVfCmd ∧ isVf (restoreVfCmd.le 24 1) = true ∧ Serves 1 0x0F2A restoreVfCmd (blobState restoreVfCmd) ∧
      savedQueues (blobState restoreVfCmd) (restoreVfCmd.le 24 1) = [] ∧ transferKey (blobState restoreVfCmd) (restoreVfCmd.le 24 1) = some (zeros 32) ∧
      SvcMay restoreVfCmd (restoreVfCmd.le 32 8) (restoreVfCmd.le 40 4) 0 (blobState restoreVfCmd) ∧ 112 ≤ restoreVfCmd.le 40 4) ∧
    (leAt 0 4 emptyBlob = 0x00010001 ∧ leAt 4 4 emptyBlob = 112 ∧ fit (restoreVfCmd.le 40 4) emptyBlob = emptyBlob ∧
      slice (112 - 16) 16 emptyBlob = zeros 16 ∧
      (∀ k, fit 16 (Config.gcmTag 5 k (slice 12 12 emptyBlob) (emptyBlob.take 32) (slice 32 64 emptyBlob)) = fit 16 ok) ∧
      (∀ body, (openSaved (byteAt 9 emptyBlob).toNat body).1 = []) ∧ savedGranules [] ≤ freeGranules (blobState restoreVfCmd)) := by
  refine ⟨⟨by unfold Inline; decide +kernel, sure, by unfold Serves; decide +kernel, sure,
      by unfold RootReady; decide +kernel, sure, sure, by unfold SvcMay; decide +kernel⟩,
    ⟨by unfold Inline; decide +kernel, sure, by unfold Serves; decide +kernel, sure, sure,
      by unfold SvcMay; decide +kernel, sure⟩,
    sure, sure, sure, sure, ?_, ?_, sure⟩
  · intro k
    rw [(by decide +kernel : slice 12 12 emptyBlob = zeros 12), hg]
  · intro body
    rw [(by decide +kernel : (byteAt 9 emptyBlob).toNat = 0)]
    rfl

/-! ### Gates, debug port and life cycle -/

/-- Gate 4 with entry `e` as given, the rest at reset. -/
def entryState (e : Nat) (x : GateEntry) : State :=
  { boot := { handover := true }, gates := [(4, { entries := (resetEntries 4).set e x })] }

theorem witness_GateEntries :
    (∀ e, e = 0 ∨ e = 30 → ∀ x ∈ [({ cfg := 0x80000000 } : GateEntry), { sBase := 2, sLimit := 1 }, { sBase := 1, sLimit := 1 }],
      gatePresent (entryState e x) 4 = true ∧ (entriesOf (entryState e x) 4).getD e {} = x ∧
      (gateAccess 1 false (gateReg 4 + 0x110 + e * 0x20) 4 1 (entryState e x)).1 = true ∧
      (gateAccess 1 false (gateReg 4 + 8) 4 1 (entryState e x)).1 = true) ∧
    (gatePresent {} 12 = true ∧ (0x00200000 : Word32).getLsbD 19 = false) := by
  refine ⟨?_, sure⟩
  rintro e (rfl | rfl) <;> decide +kernel

/-- Gate 2 with an entry that lets every colour use the whole of its range. -/
def portGates : Tab Gate := [(2, { entries := { base := 0x60000, limit := 0x6FFFF, cfg := 0x27FFFF } :: List.replicate 31 {} })]

/-- Life-cycle state `n` with the grant `g`. -/
def portState (n : BitVec 2) (g : Bool) (wipe : BitVec 5) : State :=
  { lcs := { state := n }, dbg := { grant := g, scope := 0xF, expiry := 9 }, fuses := { wipe := wipe } }

theorem witness_DebugPort :
    (∀ g, (portState 2 g 0).lcs.state = 2 ∧ (portState 2 g 0).dbg.grant = g ∧ supplyCase (portState 2 g 0) = some 0) ∧
    core1Port (portState 2 true 0) = true ∧ core1Port (portState 0 false 0) = true ∧ core1Port (portState 3 false 0x1F) = true ∧
    (wiped (portState 3 false 0x1F) = true ∧ wiped (portState 3 false 0xF) = false ∧ supplyCase (portState 3 false 0x1F) = some 0) ∧
    (∀ w : Bool, (portState 1 false 0).lcs.state.toNat < 2 ∧ (gateAccess 10 false 0x68000010 8 (b2n w) (portState 1 false 0)).1 = false ∧
      (gateAccess 10 false 0x68000010 8 (b2n w) { portState 1 false 0 with gates := portGates }).1 = true) := by
  refine ⟨fun _ => ⟨rfl, rfl, rfl⟩, sure, sure, sure, sure, ?_⟩
  intro w; cases w <;> decide +kernel

/-- A life-cycle request armed 1 ms before, or a nanosecond more, in state `n`. -/
def reqState (n : BitVec 2) (target : Word32) (armed : Bool) (t : Word64) : State :=
  { lcs := { state := n, target := target, armed := armed, armAt := 5 }, time := { time64 := t } }

theorem witness_LifecycleRequests :
    (∀ n : BitVec 2, n = 0 ∨ n = 1 → ∀ a t, (reqState n 0xFFFF a t).lcs.state.toNat < 2 ∧ (reqState n 0xFFFF a t).lcs.programming = none) ∧
    (0xFFFF : Word32) ≠ (reqState 0 5 true 0).lcs.target ∧
    ((reqState 0 0xFFFF true 5).lcs.armAt.toNat + 1000000 < now (reqState 0 0xFFFF true 1000006) ∧
      now (reqState 0 0xFFFF true 1000005) ≤ (reqState 0 0xFFFF true 5).lcs.armAt.toNat + 1000000 ∧
      (reqState 0 0xFFFF true 5).lcs.armAt.toNat + 1000000 ≤ now (reqState 0 0xFFFF true 1000005)) ∧
    (lcsOf 5 = none ∧ lcsOf 0xFFFF = some 1 ∧ lcsOf 0x00FFFFFF = some 2) ∧
    (lcsAllowed (reqState 0 0 true 5) 2 = false ∧ lcsAllowed (reqState 0 0 true 5) 1 = true ∧ lcsReady (reqState 0 0 true 5) 1 = true ∧
      lcsReady { reqState 0 0 true 5 with fuses := { serial := 0 } } 1 = false) := by
  refine ⟨?_, sure, sure, sure, sure⟩
  rintro n (rfl | rfl) a t
  · exact ⟨(by decide : (0 : BitVec 2).toNat < 2), rfl⟩
  · exact ⟨(by decide : (1 : BitVec 2).toNat < 2), rfl⟩

theorem witness_FusesAndProgramming :
    (∀ n : BitVec 2, n = 1 ∨ n = 2 ∨ n = 3 → ({ lcs := { programming := some n } } : State).lcs.programming = some n) ∧
    (portState 1 false 0).lcs.state.toNat < 2 ∧ 2 ≤ (portState 2 false 0).lcs.state.toNat ∧
    (∀ k : BitVec 3, k = 0 ∨ k = 4 → ({ lcs := { fsm := 0x6666, wipeStep := k } } : State).lcs.fsm = 0x6666 ∧ k.toNat ≤ 4) ∧
    ({} : State).lcs.fsm ≠ 0x6666 := by
  refine ⟨fun _ _ => rfl, sure, sure, ?_, sure⟩
  rintro k (rfl | rfl) <;> exact ⟨rfl, sure⟩

/-- A service under the quorum of partition 0, whose registry is not empty. -/
def rootSvcState (i : Item) : State :=
  { coreState i 0 with
    vault := { ready := true, parts := [(0, { registry := some vaultReg, nonce := some (9, 0) })] }
    cage := { regs := [(0, { bankA := 1 :: zeros 31, bankB := 1 :: zeros 31 })] }
    lcs := { state := 2 } }

/-- An authorisation record of partition 0 over a zero subject with the nonce 9. -/
def rootRec (action : Nat) (param : Bytes) : Bytes :=
  toLE 4 0x00020002 ++ toLE 1 action ++ [0, 0xFF, 0] ++ fit 4 param ++ zeros 4 ++ toBE 16 9 ++ zeros 32 ++ toLE 4 2 ++ sigOf 1 ++ sigOf 3
def unlockCmd : Item := svcItem 0 0x0F81 1 0x8000 [(24, 8, 0x1000), (32, 4, 268)]
def debugLockCmd : Item := svcItem 0 0x0F82 1 0 []
def scrapCmd : Item := svcItem 0 0x0F80 1 0x8000 [(24, 8, 0x1000), (32, 4, 268)]

theorem witness_DebugAndScrapServices (hh : ∀ b, Config.hash 5 b = zeros 32) (hv : Signed) :
    (Serves 1 0x0F81 unlockCmd (rootSvcState unlockCmd) ∧ Pointer unlockCmd ∧ SvcBuffer unlockCmd (rootSvcState unlockCmd) ∧
      (rootSvcState unlockCmd).lcs.state = 2 ∧ (rootSvcState unlockCmd).vault.ready = true) ∧
    (∀ p, p = [15, 0xA0, 5] ∨ p = [0, 1] → let buf := rootRec 0x19 p
      fit (unlockCmd.le 32 4) buf = buf ∧ unlockParam buf = some (leAt 8 1 buf, leAt 9 2 buf) ∧
      VaultAuthorised { action := 0x19, part := 0, param := slice 8 4 buf, subject := sm3 (serialBytes (rootSvcState unlockCmd)) } buf
        (rootSvcState unlockCmd)) ∧
    { rootSvcState unlockCmd with lcs := { state := 1 } }.lcs.state ≠ 2 ∧
    (Serves 1 0x0F82 debugLockCmd (rootSvcState debugLockCmd) ∧ Inline debugLockCmd) ∧
    ((portState 2 true 0).dbg.grant = true ∧ (portState 2 true 0).dbg.expiry.toNat ≤ now { portState 2 true 0 with time := { time64 := 9 } }) ∧
    (Serves 1 0x0F80 scrapCmd (rootSvcState scrapCmd) ∧ Pointer scrapCmd ∧ SvcBuffer scrapCmd (rootSvcState scrapCmd) ∧
      (rootSvcState scrapCmd).lcs.programming = none ∧ regEmpty (rootSvcState scrapCmd) 0 = false ∧
      VaultAuthorised { action := 0x18, part := 0, subject := sm3 (serialBytes (rootSvcState scrapCmd)) }
        (fit (scrapCmd.le 32 4) (rootRec 0x18 [])) (rootSvcState scrapCmd)) := by
  have hs : ∀ b, sm3 b = zeros 32 := fun b => by rw [sm3, hh]; rfl
  refine ⟨⟨by unfold Serves; decide +kernel, by unfold Pointer; decide +kernel, by unfold SvcBuffer SvcMay; decide +kernel, rfl, rfl⟩, ?_,
    sure, ⟨by unfold Serves; decide +kernel, by unfold Inline; decide +kernel⟩, sure,
    ⟨by unfold Serves; decide +kernel, by unfold Pointer; decide +kernel, by unfold SvcBuffer SvcMay; decide +kernel, rfl, sure, ?_⟩⟩
  · rintro p (rfl | rfl) <;>
      exact ⟨sure, sure, vault_authorised hv _ _ _ (hs _) rfl sure⟩
  · rw [(by decide +kernel : fit (scrapCmd.le 32 4) (rootRec 0x18 []) = rootRec 0x18 [])]
    exact vault_authorised hv _ _ _ (hs _) rfl sure

/-! ### Canvas -/

/-- System power, or battery power alone. -/
def supplyState (sys : Bool) (c : Canvas) : State :=
  { power := { seq := { vaux := sys, sysPower := sys } }, canvas := c, lcs := { state := 2 } }

theorem witness_Detection :
    (∀ raw : Word64, raw = 0 ∨ raw = 1 →
      let s := supplyState true {}
      supplyCase s = some 0 ∧ srcWatched (readRaw raw s) 0 0x18 = true ∧ s.canvas.stimBusy = false ∧
        srcWatched (readRaw raw s) 0 0x3F = false ∧ s.canvas.response = 0) ∧
    actedSev (readRaw 0 (supplyState true {})) cDEBUG_EXTEST = 5 ∧ srcWatched (readRaw 0 (supplyState true {})) 0 cDEBUG_EXTEST = true ∧
    (let s := supplyState false {}
     supplyCase s = some 2 ∧ srcWatched s 2 0x18 = true ∧ s.canvas.sentinel.latch.length < 16 ∧ sentinelSev s 0x18 = 5) ∧
    (let s := supplyState false { sentinel := { cfg := { sev := List.replicate 64 4 } } }
     srcWatched s 2 0 = true ∧ sentinelSev s 0 = 4) := by
  refine ⟨?_, sure, sure, sure, sure⟩
  rintro raw (rfl | rfl) <;> decide +kernel

theorem witness_Stimulation :
    (∀ c : BitVec 6, c = 0 ∨ c = 0x20 → stimBarred (readRaw 0 (supplyState true {})) c.toNat = false ∧
      stimulable (readRaw 0 (supplyState true {})) c.toNat = true ∧ stimBarred (readRaw 0 (supplyState true { response := 3 })) c.toNat = true) ∧
    (let s := { supplyState true { stimBusy := true, source := 0x20 } with time := { time64 := 8010000 } }
     s.canvas.stimBusy = true ∧ s.canvas.stimAt.toNat + stimWindow s.canvas.source.toNat ≤ now s) := by
  refine ⟨?_, sure⟩
  rintro c (rfl | rfl) <;> decide +kernel

/-- The factory configuration of Canvas as a 72-byte block, with the low threshold of VIN_CORE as given. -/
def factoryBlock (vin : Nat) : Bytes :=
  toLE 32 (((List.range 64).map fun c => srcDefault c * 16 ^ c).sum) ++ toLE 8 0x0404040404040404 ++ toLE 4 0x0000AAAA ++ zeros 4 ++
  toLE 2 vin ++ toLE 2 0x03A2 ++ toLE 4 0x07BC0654 ++ toLE 4 0x0E100BB8 ++ toLE 4 0x0ED80960 ++ toLE 4 0x00007DCE ++ zeros 4

def resumeCanvasCmd : Item := svcItem 0 0x0F90 1 0 []
def latchClearCmd (n : Nat) : Item := svcItem 0 0x0F91 1 0 [(24, 1, n)]
def stimCmd : Item := svcItem 0 0x0F92 1 0 [(24, 1, 0x20)]
def canvasConfigCmd (n : Nat) : Item := svcItem 0 0x0F93 1 0x8000 [(24, 8, 0x1000), (32, 4, 72 + n), (36, 4, n), (40, 1, 1)]
def disableCmd : Item := svcItem 0 0x0F94 1 0x8000 [(24, 8, 0x1000), (32, 4, 268), (36, 2, 0x8001), (38, 2, 268)]

theorem witness_CanvasServices (hh : ∀ b, Config.hash 5 b = zeros 32) (hv : Signed) :
    (∀ raw : Word64, raw = 0 → let s := { rootSvcState resumeCanvasCmd with canvas := { halted := true, cause := 0x1000000, highSince := 3 } }
      Serves 1 0x0F90 resumeCanvasCmd s ∧ s.canvas.highSince.toNat < 4 ∧ s.canvas.halted = true ∧
        ∀ c, c < 64 → ((readRaw raw s).canvas.cause.getLsbD c && decide (3 ≤ srcSev (readRaw raw s).canvas.cfg c)) = true →
          (readRaw raw s).canvas.raw.getLsbD c = false) ∧
    (let s := { rootSvcState resumeCanvasCmd with canvas := { highSince := 4 } }
     Serves 1 0x0F90 resumeCanvasCmd s ∧ 4 ≤ s.canvas.highSince.toNat) ∧
    (∀ n, n = 1 ∨ n = 16 → let s := { rootSvcState (latchClearCmd n) with canvas := { sentinel := { latch := List.replicate 16 (0, 0) } } }
      Serves 1 0x0F91 (latchClearCmd n) s ∧ (latchClearCmd n).le 24 1 = n ∧ n ≤ s.canvas.sentinel.latch.length) ∧
    (Serves 1 0x0F92 stimCmd (rootSvcState stimCmd) ∧ stimCmd.le 24 1 ≠ 0xFF ∧ stimulable (readRaw 0 (rootSvcState stimCmd)) (stimCmd.le 24 1) = true ∧
      stimBarred (readRaw 0 (rootSvcState stimCmd)) (stimCmd.le 24 1) = false) ∧
    (∀ n v, (n = 0 ∧ v = 0x030C) ∨ (n = 268 ∧ v = 0x0300) → let i := canvasConfigCmd n
      let buf := factoryBlock v ++ if n = 0 then [] else rootRec 0x1A []
      Serves 1 0x0F93 i (rootSvcState i) ∧ Pointer i ∧ SvcBuffer i (rootSvcState i) ∧ (rootSvcState i).canvas.lock = false ∧
        (rootSvcState i).canvas.response.toNat < 4 ∧ i.le 32 4 = 72 + i.le 36 4 ∧ i.le 40 1 < 2 ∧ fit (i.le 32 4) buf = buf ∧
        leAt 44 4 (buf.take 72) = 0 ∧ leAt 68 4 (buf.take 72) = 0 ∧ configOk (readBlock (buf.take 72)) = true ∧
        lessStrict (readBlock (buf.take 72)) = decide (n = 268) ∧ regEmpty (rootSvcState i) 0 = false ∧
        (n = 268 → VaultAuthorised { action := 0x1A, part := 0, subject := sm3 (buf.take 72 ++ serialBytes (rootSvcState i)) } (buf.drop 72)
          (rootSvcState i))) ∧
    (Serves 1 0x0F94 disableCmd (rootSvcState disableCmd) ∧ Pointer disableCmd ∧ SvcBuffer disableCmd (rootSvcState disableCmd) ∧
      (rootSvcState disableCmd).canvas.response.toNat < 4 ∧ disableCmd.le 32 4 = disableCmd.le 38 2 ∧
      VaultAuthorised { action := 0x1B, part := 0, subject := sm3 (toLE 2 (disableCmd.le 36 2) ++ serialBytes (rootSvcState disableCmd)) }
        (fit (disableCmd.le 32 4) (rootRec 0x1B [])) (rootSvcState disableCmd)) := by
  have hs : ∀ b, sm3 b = zeros 32 := fun b => by rw [sm3, hh]; rfl
  refine ⟨?_, ⟨by unfold Serves; decide +kernel, sure⟩, ?_,
    ⟨by unfold Serves; decide +kernel, sure, sure, sure⟩, ?_,
    ⟨by unfold Serves; decide +kernel, by unfold Pointer; decide +kernel, by unfold SvcBuffer SvcMay; decide +kernel, sure,
      sure, ?_⟩⟩
  · rintro raw rfl
    exact ⟨by unfold Serves; decide +kernel, sure, rfl, sure⟩
  · rintro n (rfl | rfl) <;> exact ⟨by unfold Serves; decide +kernel, sure, sure⟩
  · rintro n v (⟨rfl, rfl⟩ | ⟨rfl, rfl⟩)
    · exact ⟨by unfold Serves; decide +kernel, by unfold Pointer; decide +kernel, by unfold SvcBuffer SvcMay; decide +kernel, rfl, sure,
        sure, sure, sure, sure, sure, sure, sure,
        sure, fun h => absurd h sure⟩
    · refine ⟨by unfold Serves; decide +kernel, by unfold Pointer; decide +kernel, by unfold SvcBuffer SvcMay; decide +kernel, rfl, sure,
        sure, sure, sure, sure, sure, sure, sure,
        sure, fun _ => ?_⟩
      have e : (factoryBlock 0x0300 ++ (if 268 = 0 then [] else rootRec 0x1A [])).drop 72 = rootRec 0x1A [] := by decide +kernel
      rw [e]
      exact vault_authorised hv _ _ _ (hs _) rfl sure
  · rw [(by decide +kernel : fit (disableCmd.le 32 4) (rootRec 0x1B []) = rootRec 0x1B [])]
    exact vault_authorised hv _ _ _ (hs _) rfl sure

/-! ### Duplex pairs -/

/-- A unit of a pair `t` ns after power-up: its dies awake, its generators up. -/
def pairState (x : Trp) (t : Word64) : State :=
  { boot := { stage := 3 }, trp := x, time := { time64 := t, syncEn := true }, units := { rng := { esReady := true, drbgReady := true } }
    dies := (List.range 7).map fun d => (d, { state := .active }) }

theorem pairState_up (x : Trp) (t : Word64) : trpUp (pairState x t) = true ∧ RootReady (pairState x t) := ⟨rfl, rfl, rfl⟩

theorem witness_HeartbeatAndLine :
    (∀ x t, trpUp (pairState x t) = true ∧ RootReady (pairState x t) ∧ (pairState x t).trp = x) ∧
    ({ lanes := 4, linkUp := true, driving := true } : Trp).lanes ≠ 0 ∧ ({ linkUp := true } : Trp).wdReleased = false ∧
    (BitVec.ofNat 8 ((0 : Word32).toNat / 2 ^ 24) = crc8 0 ∧ BitVec.ofNat 8 ((1 : Word32).toNat / 2 ^ 24) ≠ crc8 1) ∧
    (let w : Word32 := 0x00010004 ||| BitVec.ofNat 32 ((crc8 0x00010004).toNat * 2 ^ 24)
     BitVec.ofNat 8 (w.toNat / 2 ^ 24) = crc8 w ∧ w.getLsbD 2 = true ∧ w.toNat / 256 % 65536 = 256) ∧
    (let x : Trp := { pathA := true, pathB := true, lastB := 1 }
     x.pathA = true ∧ x.lastA.toNat + tDetectNs (pairState x 200000) ≤ now (pairState x 200000) ∧
      now (pairState x 200000) < x.lastB.toNat + tDetectNs (pairState x 200000)) ∧
    (let x : Trp := { pathA := true, fsm := fsmACTIVE }
     x.lastA.toNat + tDetectNs (pairState x 200000) ≤ now (pairState x 200000) ∧ x.pathB = false) ∧
    (let x : Trp := { driving := true }
     x.driving = true ∧ x.fedAt.toNat + min (x.tWd.toNat * 1000) (tDetectNs (pairState x 50000) / 2) ≤ now (pairState x 50000)) :=
  ⟨fun _ _ => ⟨rfl, ⟨rfl, rfl⟩, rfl⟩, sure, sure, sure, sure, sure,
    sure, sure⟩

theorem witness_PeerTime :
    (∀ sy f, let s : State := { pairState { linkUp := true, fsm := f } 20000 with
        time := { time64 := 20000, syncEn := true, peerSync := sy, stepAllow := true } }
      trpUp s = true ∧ s.trp.linkUp = true ∧ s.time.syncEn = true ∧ s.trp.fsm = f ∧ s.time.peerSync = sy ∧ s.time.stepAllow = true ∧ now s = 20000) ∧
    (10000 < (((9999 : Word64).toNat : Int) - 20000).natAbs ∧ (((20100 : Word64).toNat : Int) - 20000).natAbs ≤ 100 ∧
      100 < (((20101 : Word64).toNat : Int) - 20000).natAbs) ∧
    ((pairState {} 10000000).time.lastPeer.toNat + 10000000 ≤ now (pairState {} 10000000) ∧
      now (pairState {} 9999999) < (pairState {} 9999999).time.lastPeer.toNat + 10000000) :=
  ⟨fun _ _ => ⟨rfl, rfl, rfl, rfl, rfl, rfl, rfl⟩, sure, sure⟩

theorem witness_MirroringAndJoin :
    (∀ f, trpUp (pairState { linkUp := true, fsm := f, epoch := 3, joinActive := true } 500000) = true ∧
      (pairState { linkUp := true, fsm := f, epoch := 3, joinActive := true } 500000).trp.fsm = f) ∧
    (let m : MirrorWait := { seq := 4, at_ := 0, change := { writes := [] } }
     let s := pairState { linkUp := true, fsm := fsmACTIVE, mirrors := [m] } 500000
     s.trp.mirrors.find? (fun m => decide (m.seq = 4)) = some m ∧ now s - m.at_.toNat ≤ 500000 ∧ s.trp.mirrors = m :: [] ∧
      m.at_.toNat + 500000 ≤ now s) ∧ stOK ≠ stSTALE_ROLE :=
  ⟨fun _ => ⟨rfl, rfl⟩, sure, sure⟩

theorem witness_Claims :
    (∀ x t, trpUp (pairState x t) = true ∧ RootReady (pairState x t) ∧ (pairState x t).trp = x) ∧
    (let x : Trp := { fsm := fsmSTANDBY, peerLost := true }
     x.fsm = fsmSTANDBY ∧ x.wdReleased = false ∧ x.degraded = false ∧ (2000 ≤ 2000)) ∧
    (∀ p : BitVec 2, p = 1 ∨ p = 2 → let s := pairState { fsm := fsmJOINING, prefer := p } 20000000
      s.trp.fsm = fsmJOINING ∧ s.trp.joinActive = false ∧ s.trp.lastAct = 0 ∧ preferred s = decide (p = 1) ∧
        s.trp.startAt.toNat + (if preferred s then 10000000 else 20000000) ≤ now s) ∧
    (∀ p : BitVec 2, p = 1 ∨ p = 2 → let s := pairState { linkUp := true, fsm := fsmCLAIMING, prefer := p, claimAt := some 0 } 50000
      s.trp.claimAt = some 0 ∧ now s ≤ (0 : Word64).toNat + 50000 ∧ s.trp.windowOver = false ∧ s.trp.adopting = false ∧ preferred s = decide (p = 1)) ∧
    (let s := pairState { fsm := fsmCLAIMING, claimAt := some 0 } 50000
     s.trp.claimAt = some 0 ∧ s.trp.windowOver = false ∧ (0 : Word64).toNat + 50000 ≤ now s) ∧
    (let s := pairState { fsm := fsmCLAIMING, windowOver := true } 0
     s.trp.fsm = fsmCLAIMING ∧ s.trp.windowOver = true ∧ sleepers s = []) := by
  refine ⟨fun _ _ => ⟨rfl, ⟨rfl, rfl⟩, rfl⟩, sure, ?_, ?_, sure, sure⟩
  · rintro p (rfl | rfl) <;> decide +kernel
  · rintro p (rfl | rfl) <;> decide +kernel

theorem witness_PlannedHandover :
    (let h : HandoverRun := { at_ := 0, drain := 100 }
     let s := { pairState { fsm := fsmHANDING_OVER, handover := some h } 100000 with items := [seatItem1] }
     s.trp.handover = some h ∧ h.sentAt = none ∧ ((unfinished s h.item).any fun i => decide (i.place = .core) && cageService i.routine) = false ∧
      h.at_.toNat + h.drain * 1000 ≤ now s ∧ unfinished (pairState {} 0) none = []) ∧
    (let h : HandoverRun := { at_ := 0, drain := 100, sentAt := some 0 }
     let s := pairState { fsm := fsmHANDING_OVER, handover := some h, linkUp := true } 100000
     s.trp.handover = some h ∧ h.sentAt ≠ none ∧ (0 : Word64).toNat + 100000 ≤ now s ∧ s.trp.peerLost = false) ∧
    (let h : HandoverRun := { at_ := 0, drain := 100, sentAt := some 0 }
     let s := pairState { fsm := fsmHANDING_OVER, handover := some h, peerLost := true } 100000
     s.trp.handover = some h ∧ (0 : Word64).toNat + 100000 ≤ now s ∧ s.trp.peerLost = true ∧ s.trp.held = []) ∧
    (let s := pairState { fsm := fsmSTANDBY, adopting := true, linkUp := true, revertS := 1, prefer := 1, healthyAt := some 0 } 1000000000
     s.trp.adopting = true ∧ s.trp.fsm = fsmSTANDBY ∧ s.trp.wdReleased = false ∧ s.trp.revertS ≠ 0 ∧ preferred s = true ∧
      (0 : Word64).toNat + s.trp.revertS.toNat * 1000000000 ≤ now s) := by
  decide +kernel

/-- The Trapeze services, under the quorum of partition 0. -/
def pairSvcState (x : Trp) (i : Item) : State :=
  { rootSvcState i with trp := x, power := {}, boot := { handover := true, anchors := zeros 256 } }
def pairCmd (src : Nat) : Item := svcItem 0 0x0FA0 1 0x8000 [(24, 8, 0x1000), (32, 4, 270), (36, 4, 2), (40, 4, 268), (44, 1, src)]
def detachCmd : Item := svcItem 0 0x0FA1 1 0x8000 [(24, 8, 0x1000), (32, 4, 268), (36, 4, 268)]
def handoverCmd (d : Nat) : Item := svcItem 0 0x0FA2 1 0 [(24, 4, d)]
def soloCmd : Item := svcItem 0 0x0FA3 1 0 []

theorem witness_PatrolAndTrapezeServices (hh : ∀ b, Config.hash 5 b = zeros 32) (hv : Signed)
    (leaf : Bytes) (hl : ∀ k, Config.certLeaf k [7, 7] = some leaf) :
    (let s := pairState { fsm := fsmSTANDBY } 10000000000
     trpUp s = true ∧ s.trp.patrolEn = true ∧ s.trp.patrol = false ∧ s.trp.patrolAt.toNat + 10000000000 ≤ now s) ∧
    (∀ src, src = 0 ∨ src = 1 → let i := pairCmd src
      let s := pairSvcState { linkUp := true, peer := 9 } i
      let buf := [7, 7] ++ rootRec 0x1C []
      Serves 1 0x0FA0 i s ∧ Pointer i ∧ s.vault.ready = true ∧ SvcBuffer i s ∧ i.le 32 4 = i.le 36 4 + i.le 40 4 ∧ i.le 44 1 = src ∧
        s.trp.fsm ∉ [fsmSTANDBY, fsmCLAIMING, fsmHANDING_OVER] ∧ s.trp.fsm ≠ fsmACTIVE ∧ s.trp.peer ≠ 0 ∧ s.lcs.state = 2 ∧
        fit (i.le 32 4) buf = buf ∧ (caKey s).bind (fun ca => Config.certLeaf ca (buf.take (i.le 36 4))) = some leaf ∧ regEmpty s 0 = false ∧
        VaultAuthorised { action := 0x1C, part := 0, subject := sm3 (toLE 8 s.trp.peer.toNat ++ fit 64 leaf ++ [BitVec.ofNat 8 src]) }
          (buf.drop (i.le 36 4)) s) ∧
    (let s := pairSvcState { fsm := fsmACTIVE } detachCmd
     Serves 1 0x0FA1 detachCmd s ∧ Pointer detachCmd ∧ SvcBuffer detachCmd s ∧ detachCmd.le 32 4 = detachCmd.le 36 4 ∧ s.trp.fsm ≠ fsmUNPAIRED ∧
      RootReady s ∧ VaultAuthorised { action := 0x1D, part := 0, subject := sm3 (serialBytes s) } (fit (detachCmd.le 32 4) (rootRec 0x1D [])) s) ∧
    (∀ d, d = 100 ∨ d = 4000 →
      let s := pairSvcState { fsm := fsmACTIVE, standby := true, peerHealthy := true, linkUp := true } (handoverCmd d)
      Serves 1 0x0FA2 (handoverCmd d) s ∧ Inline (handoverCmd d) ∧ (handoverCmd d).le 24 4 = d ∧ canHandOver s = true) ∧
    (let s := pairSvcState { fsm := fsmACTIVE } soloCmd
     Serves 1 0x0FA3 soloCmd s ∧ Inline soloCmd ∧ s.trp.fsm = fsmACTIVE ∧ s.trp.linkUp = false) := by
  have hs : ∀ b, sm3 b = zeros 32 := fun b => by rw [sm3, hh]; rfl
  refine ⟨sure, ?_, ⟨by unfold Serves; decide +kernel, by unfold Pointer; decide +kernel, by unfold SvcBuffer SvcMay; decide +kernel,
      sure, sure, by unfold RootReady; decide +kernel, ?_⟩, ?_,
    ⟨by unfold Serves; decide +kernel, by unfold Inline; decide +kernel, sure, sure⟩⟩
  · rintro src (rfl | rfl)
    all_goals
      refine ⟨by unfold Serves; decide +kernel, by unfold Pointer; decide +kernel, rfl, by unfold SvcBuffer SvcMay; decide +kernel,
        sure, sure, sure, sure, sure, rfl, sure, hl _,
        sure, ?_⟩
      rw [hs]
      exact vault_authorised hv _ _ _ rfl rfl sure
  · rw [(by decide +kernel : fit (detachCmd.le 32 4) (rootRec 0x1D []) = rootRec 0x1D [])]
    exact vault_authorised hv _ _ _ (hs _) rfl sure
  · rintro d (rfl | rfl) <;> exact ⟨by unfold Serves; decide +kernel, by unfold Inline; decide +kernel, sure, sure⟩

/-! ### Calliope -/

/-- Calliope in a state `c`, `t` ns after power-up, with bring-up done. -/
def calState_ (c : Cal) (t : Word64) : State := { cal := c, boot := { stage := 3, handover := true }, power := { linkWidth := 16, linkSpeed := 32 }, time := { time64 := t } }

def someEvent : CalEvent := { code := 0x12, part := some 5, unit := 0, arg := 0, time := 7 }

theorem witness_WindowsAndEvents :
    (let s := calState_ {} 5
     pfOpen s = true ∧ s.cal.enable = false ∧ s.cal.faulted = false) ∧
    (let s := calState_ { enable := true, window := some {} } 5
     pfOpen s = true ∧ s.cal.enable = true ∧ s.cal.frozen = false ∧ s.cal.window = some {}) ∧
    (∀ i ∈ [CalItem.event someEvent, .sample 1 5 100 7], let s := calState_ { inbox := [i], window := some { start := 7 } } 9
      pair1Up s = true ∧ s.cal.inbox = i :: [] ∧ s.cal.closing = [] ∧ s.cal.window = some { start := 7 } ∧
        ({ start := 7 } : CalWindow).start.toNat ≤ i.stamp.toNat ∧ ({ start := 7 } : CalWindow).blind = false) ∧
    ((0x1FF : Word64).toNat % 1024 < 0x200 ∧ (0x1FF : Word64).toNat / 1024 % 64 = 0 ∧ (0x1FF : Word64).toNat / 2 ^ 25 % 128 = 0 ∧ 0 ≠ 1) ∧
    (∀ v : Word64, v = 0x200 ∨ v = 0x2FF ∨ v = 0x7010502FF → 0x200 ≤ v.toNat % 1024 ∧ v.toNat % 1024 ≤ 0x2FF ∧ v.toNat / 1024 % 64 = 0 ∧
      v.toNat / 2 ^ 25 % 128 = 0) := by
  refine ⟨sure, sure, sure, sure, ?_⟩
  rintro v (rfl | rfl | rfl) <;> decide +kernel

/-- A ring in which one record of `n` bytes stands. -/
def heldState (n : Nat) : State := calState_ { closing := [{}], lens := [n], tail := n } 10000

theorem witness_RecordsAndFreezes :
    (∀ n, n = 0 ∨ n = 2097152 → (heldState n).cal.closing = {} :: [] ∧ ({} : CalWindow).closeAt ≤ now (heldState n) ∧ pair1Up (heldState n) = true ∧
      ({} : CalWindow).blind = false ∧ (heldState n).cal.frozen = false) ∧
    (calFree (heldState 2097152).cal < (recordBytes 0 false {}).length ∧ (recordBytes 0 false {}).length ≤ calFree (heldState 0).cal) ∧
    (pfOpen (calState_ {} 5) = true ∧ (calState_ {} 5).cal.frozen = false ∧ (calState_ {} 5).cal.faulted = false) ∧
    (let s := calState_ { freezeReq := true } 5
     s.cal.freezeReq = true ∧ s.cal.frozen = false ∧ s.cal.faulted = false) ∧
    (let s := calState_ { frozen := true } 10000000000
     s.cal.frozen = true ∧ s.cal.frozenAt.toNat + 10000000000 ≤ now s) ∧
    (∀ b, (calState_ { enable := b } 5).cal.enable = b ∧ pfOpen (calState_ { enable := b } 5) = true) := by
  refine ⟨?_, sure, sure, sure, sure, fun _ => ⟨rfl, rfl⟩⟩
  rintro n (rfl | rfl) <;> decide +kernel

def copyCmd : Item := svcItem 0 0x0FB0 1 0 [(24, 8, 0x2000), (32, 4, 236), (36, 4, 8), (40, 4, 236)]

theorem witness_ReadingRecords :
    pfOpen (calState_ {} 5) = true ∧ wholeRecords 300 [100, 200, 64] = some 2 ∧ wholeRecords 150 [100, 200] = none ∧
    (calState_ {} 10000000000).cal.scrubAt.toNat + 10000000000 ≤ now (calState_ {} 10000000000) ∧
    (let s := { rootSvcState copyCmd with cal := { head := 8, lens := [236, 64] } }
     ringPos (copyCmd.le 36 4) (copyCmd.le 40 4) 200 = some 192 ∧
     SvcMay copyCmd (copyCmd.le 24 8) (192 / 64 * 64) 1 (selfFault 2 200 3 s) ∧ Serves 1 0x0FB0 copyCmd s ∧ copyRecords (copyCmd.le 40 4) s.cal.head (copyCmd.le 36 4) s.cal.lens = some 1 ∧
      copyCmd.le 40 4 ≤ copyCmd.le 32 4 ∧ SvcMay copyCmd (copyCmd.le 24 8) (copyCmd.le 40 4) 1 s) :=
  ⟨sure, sure, sure, sure, sure, by unfold SvcMay; decide +kernel,
    by unfold Serves; decide +kernel, sure, sure, by unfold SvcMay; decide +kernel⟩

/-! ### Power -/

/-- Dies in one state, the power manager in state `p`, `t` ns after power-up. -/
def powerState (d : DieState) (p : Power) (t : Word64) : State :=
  { boot := { stage := 3, handover := true }, power := p, time := { time64 := t }, units := { rng := { esReady := true, drbgReady := true } }
    dies := (List.range 7).map fun k => (k, { state := d }) }

theorem witness_PackageStates :
    (∀ n : BitVec 3, n = 0 ∨ n = 2 → let s := powerState .active { state := n } 0
      pair1Up s = true ∧ s.power.state.toNat < 4 ∧ diesIdle s = true ∧ s.power.waking = 0 ∧ s.power.state.toNat < psTarget s) ∧
    (∀ d, d = 0 ∨ d = 6 → let s := powerState .retention { state := 2, waking := 0x41 } 0
      s.power.waking.getLsbD d = true ∧ pair1Up s = true ∧ dieState s d = .retention) ∧
    (let s := { powerState .active {} 0 with queues := [(2047, { enabled := true }), (3, { draining := true })] }
     s.power.d3 = false ∧ (∀ e ∈ s.queues, e.2.enabled = true ∨ e.2.draining = true)) ∧
    (powerState .active { d3 := true } 0).power.d3 = true ∧ psTarget (powerState .active { d3 := true } 0) = 3 ∧
    (psTarget (powerState .active { d3 := true, deepest := 1 } 0) ≠ 3 ∧ sleepers (powerState .active { d3 := true, deepest := 1 } 0) = []) := by
  refine ⟨?_, ?_, sure, sure, sure, sure⟩
  · rintro n (rfl | rfl) <;> decide +kernel
  · rintro d (rfl | rfl) <;> decide +kernel

theorem witness_GatingAndThermal :
    (∀ k, k = 0 ∨ k = 27 → let s := powerState .active { tNow := 40 } 0
      k < nTroupes s.part.variant ∧ pair1Up s = true ∧ dieState s (dieOfTroupe k) = .active ∧ (getTP s k).gated = false ∧
      gateAllowed s k = true ∧ troupeIdle s k = true ∧ nothingRunnable s k = true) ∧
    (∀ k, k = 0 ∨ k = 27 → let s := powerState .active { troupes := [(k, { ungating := true, manual := true, target := 0 })], alert := true } 0
      (getTP s k).ungating = true ∧ oppNext s k ≠ (getTP s k).opp.toNat ∧ s.power.alert = true ∧ 0 < (getTP s k).opp.toNat ∧
      dieState s (dieOfTroupe k) = .active) ∧
    (∀ al : Bool, let s := powerState .active { alert := al } 0
      (90 : Byte).toInt < tTrip s.part ∧ s.power.tAlert.toInt ≤ (90 : Byte).toInt ∧ (85 : Byte).toInt ≤ s.power.tAlert.toInt - 5 ∧
      s.power.alert = al ∧ tTrip s.part ≤ (105 : Byte).toInt ∧ (104 : Byte).toInt < tTrip s.part ∧ s.power.trip = false) := by
  refine ⟨?_, ?_, by intro al; cases al <;> decide +kernel⟩
  · rintro k (rfl | rfl) <;> decide +kernel
  · rintro k (rfl | rfl) <;> decide +kernel

/-- The sequencer in state `q`. -/
def seqState (q : Sequencer) : State := { power := { seq := q } }

theorem witness_SupplySequence :
    ((seqState { enabled := 0, good := 0 }).power.seq.blocked = false ∧ (seqState { enabled := 0, good := 0 }).power.seq.enabled = 0) ∧
    (∀ n, n = 1 ∨ n = 3 → let s := seqState { enabled := n, good := n - 1 }
      s.power.seq.enabled ≠ 0 ∧ s.power.seq.good + 1 = s.power.seq.enabled ∧ s.power.seq.enabled < 4) ∧
    (let s := seqState { enabled := 4, good := 3 }
     s.power.seq.enabled = 4 ∧ s.power.seq.good = 3 ∧ 3 < s.power.seq.enabled ∧ s.power.seq.good ≤ 3) ∧
    (∀ a b, (a || b) = true → (seqState { vaux := a, vbat := b }).power.seq.sysPower = true ∧
      ((seqState { vaux := a, vbat := b }).power.seq.vaux = true ∨ (seqState { vaux := a, vbat := b }).power.seq.vbat = true)) ∧
    (let s := seqState { sysPower := false }
     s.power.seq.sysPower = false ∧ s.power.seq.vaux = true ∧ s.power.seq.vbat = true) := by
  refine ⟨sure, ?_, sure, sure, sure⟩
  rintro n (rfl | rfl) <;> decide +kernel

/-- A board record of one rail. -/
def oneRail : Power := { recordOk := true, rails := [{ supply := 1, group := 1, record := 850 }] }
def trimCmd : Item := svcItem 0 0x0FC1 1 0 [(24, 1, 0), (26, 2, 0xFFF6)]
def rtcCmd : Item := svcItem 0 0x0FC2 1 0 [(24, 4, 0xFFFFFFFF)]

theorem witness_RailsAndBringUp :
    (let s := powerState .active oneRail 0
     s.power.recordOk = true ∧ pair1Up s = true ∧ 0 < s.power.rails.length) ∧
    (let s := { rootSvcState trimCmd with power := oneRail }
     Serves 1 0x0FC1 trimCmd s ∧ Inline trimCmd ∧ s.power.recordOk = true ∧ s.power.rails[trimCmd.le 24 1]? = some { supply := 1, group := 1, record := 850 }) ∧
    (Serves 1 0x0FC2 rtcCmd (rootSvcState rtcCmd) ∧ Inline rtcCmd) ∧
    (∀ d, d = 0 ∨ d = 6 → let s := powerState .off {} (BitVec.ofNat 64 (d * 100000))
      s.boot.handover = true ∧ s.units.rng.drbgReady = true ∧ d < nDies s.part.variant ∧ dieState s d = .off ∧
        s.power.dieReady.getLsbD d = false ∧ pair1Up s = true ∧ s.boot.handoverAt.toNat + d * 100000 ≤ now s) ∧
    { powerState .off {} 0 with lcs := { fsm := 0xAAAA } }.lcs.fsm ≠ 0xCCCC := by
  refine ⟨sure, ⟨by unfold Serves; decide +kernel, by unfold Inline; decide +kernel, sure, sure⟩,
    ⟨by unfold Serves; decide +kernel, by unfold Inline; decide +kernel⟩, ?_, sure⟩
  rintro d (rfl | rfl) <;> decide +kernel

def shutdownCmd (d : Nat) : Item := svcItem 0 0x0FC0 1 0 [(24, 4, d)]

theorem witness_OrderlyPowerDown :
    (∀ d, d = 100000 ∨ d = 100001 → let s := rootSvcState (shutdownCmd d)
      Serves 1 0x0FC0 (shutdownCmd d) s ∧ Inline (shutdownCmd d) ∧ s.power.shutdown = none ∧ (shutdownCmd d).le 24 4 = d) ∧
    (let s := { powerState .active { shutdown := some (0, 100, 1) } 100000 with items := [seatItem1] }
     s.power.shutdown = some (0, 100, 1) ∧ (0 : Word64).toNat + 100 * 1000 ≤ now s ∧ s.items ≠ []) ∧
    (∀ j ∈ (powerState .active { shutdown := some (0, 100, 1) } 0).items, j.id = 1) := by
  refine ⟨?_, sure, sure⟩
  rintro d (rfl | rfl) <;> exact ⟨by unfold Serves; decide +kernel, by unfold Inline; decide +kernel, sure, sure⟩

/-! ### Register writes and resets -/

/-- The host link up with a width and a rate. -/
def linkedState (stage : Nat) (vf : Bool) : State := { boot := { stage := stage }, power := { linkWidth := 8, linkSpeed := 16 }, vfEnable := vf, pcie := { numVfs := 255 } }

theorem witness_RegisterWrites :
    writeLegal 0x100 2 = false ∧ writeLegal 0x104 8 = false ∧ fnExists {} 1 = false ∧ fnExists (linkedState 2 true) 255 = true ∧
    (let s := linkedState 2 false
     pfOpen s = true ∧ s.trp.lock = false ∧ fnExists s 0 = true ∧ s.vfEnable = false) ∧
    ({ trp := { lock := true } } : State).trp.lock = true ∧
    ((0x8018000000000014 : Word64).toNat % 2 ^ 17 = 20 ∧ (0x8018000000000014 : Word64).getLsbD 63 = true ∧ (1 : Word64).getLsbD 0 = true ∧
      (2 : Word64).getLsbD 0 = false) ∧
    (writeLegal 0x68000000 4 = true ∧ (gateAccess 10 false 0x68000000 4 1 {}).1 = false ∧
      (gateAccess 10 false 0x68000000 4 1 { gates := portGates }).1 = true) :=
  ⟨sure, sure, sure, sure, sure, rfl, sure, sure⟩

theorem witness_MirrorRefresh :
    let s : State := { dies := [(0, { state := .active }), (6, { state := .retention })] }
    dieState s 0 = .active ∧ dieState s 6 ≠ .active ∧ dieState s 7 ≠ .active := by
  decide +kernel

theorem witness_EndpointReads :
    fnExists {} 0 = false ∧ (∀ fn, fn = 0 ∨ fn = 255 → fnExists (linkedState 2 true) fn = true ∧ nVectors fn ≠ 0) ∧
    readLegal 0 0x101 8 = false ∧ readLegal 0 0x100 8 = true ∧ 0x100 % 8 = 0 := by
  refine ⟨sure, ?_, sure, sure, sure⟩
  rintro fn (rfl | rfl) <;> decide +kernel

theorem witness_Resets : (coreState (svnCmd 5) 0).items.find? svnBlows = none ∧
    (coreState { svnCmd 5 with phase := phBlow } 0).items.find? svnBlows ≠ none := by
  decide +kernel

/-! ### The machine as a whole -/

theorem witness_StepRunsFrontCommand :
    ({ pending := [.calFreeze, .fundamentalReset] } : State).pending = .calFreeze :: [.fundamentalReset] ∧ State.reset.pending = [] := by
  decide +kernel

theorem witness_WordRoundTrip :
    wordOf (.addi 895 31 31 0xFFFF) = some 0x0BFFFFFF ∧ wordLegal (BitVec.ofNat 32 0x0BFFFFFF) = true := by
  decide +kernel

theorem witness_HostMemoryCanonical :
    let s : State := { hostMem := [(8, 1)], pending := [.batteryReset] }
    Memory.wf s.hostMem = true ∧ ∃ t, step s = .next t ∧ Memory.wf t.hostMem = true ∧ t.hostMem = [(8, 1)] :=
  ⟨rfl, _, rfl, rfl, rfl⟩

/-- Two copies of TEST and one that lies below it. -/
theorem witness_FusesStayBlown :
    let s : State := { fuses := { c0 := 0xFFFF, c1 := 0xFF, c2 := 0xFFFF, rootGone := true }, pending := [.fundamentalReset] }
    ∃ t, step s = .next t ∧ t.fuses.c1 = 0xFFFF ∧ s.fuses.rootGone = true :=
  ⟨_, rfl, sure, rfl⟩

theorem witness_OnlyTheseChange :
    (∃ t, exec .mirrorRefresh {} = .next t) ∧ changesFuses .mirrorRefresh = false ∧ changesLifeCycle .mirrorRefresh = false ∧
    changesCage .mirrorRefresh = false ∧ changesTime .mirrorRefresh = false ∧ (∀ i, Instr.mirrorRefresh ≠ .rtcSet i) ∧
    Instr.mirrorRefresh ≠ .batteryReset ∧ changesMover .mirrorRefresh = false ∧ changesChallenge .mirrorRefresh = false :=
  ⟨⟨_, rfl⟩, rfl, rfl, rfl, rfl, nofun, nofun, rfl, rfl⟩

theorem witness_RoutineFrame :
    wordOf (.add 5 1 2 3) ≠ none ∧ libraryService (.pinVerify 1) = true ∧ (∃ t, exec (.add 5 1 2 3) (seatState {}) = .next t) ∧
    (∃ t, exec (.illegalInstruction 5 0) (seatState {}) = .next t) ∧ ∃ t, exec (.pinVerify 1) (seatState {}) = .next t :=
  ⟨sure, rfl, ⟨_, rfl⟩, ⟨_, rfl⟩, _, rfl⟩

theorem witness_RetireAndFault :
    (goTo 0 {}).pc < (getSeat (seatState {}) 5).len ∧ (goTo 63 {}).pc < (getSeat (seatState {}) 5).len ∧
    (let s := seatState {}
     (run s 5).ops = [] ∧ (getSeat s 5).run = some 1 ∧ getItem s 1 = some seatItem1 ∧ wingItem s 5 = none ∧
      (5 % 4 = 1 → (getSeat s (5 - 1)).suspended = false)) ∧
    (let s := seatState { instrs := 1048576 }
     seatRuns s 5 = true ∧ lineHere s 5 = true ∧ (run s 5).ops.any (fun o => o.try_) = false ∧ (run s 5).instrs.toNat = 1048576) ∧
    (let s := { seatState {} with troupes := [(0, { lines := [{ part := some 5, routine := 0x1000, gen := 1, index := 0, ecc := some true }] })] }
     seatRuns s 5 = true ∧ custom s 5 = true ∧ lineHere s 5 = true ∧ lineBad s 5 = true) ∧
    (let s := seatState { parityAt := some 0 }
     custom s 5 = true ∧ lineBad s 5 = false ∧ parityDue (run s 5) = true ∧ parityDue (run (seatState {}) 5) = false) ∧
    seatRuns (seatState {}) 6 = false := by
  decide +kernel

theorem witness_RecordMemoryThroughResets :
    (let s : State := { cal := { enable := true, window := some {} } }
     s.cal.closing = [] ∧ s.cal.staging = none ∧ s.cal.window.isSome = true) ∧
    (let s := linkedState 2 false
     pfOpen s = true ∧ s.cal.enable = false) := by
  decide +kernel

theorem witness_LifeCycleVote :
    (∀ n, n = 0 ∨ n = 3 → ∀ x, x = lcsCode n ∨ x = 0x10 →
      let f : List Fuses := [{ c0 := lcsCode n, c1 := lcsCode n, c2 := x }, { c0 := lcsCode n, c1 := x, c2 := lcsCode n },
        { c0 := x, c1 := lcsCode n, c2 := lcsCode n }]
      f.length = 3 ∧ n < 4) ∧
    (let f : Fuses := { c0 := lcsCode 3, c1 := 0x0FFFFFFF, c2 := lcsCode 2 }
     f.c0 = lcsCode 3 ∧ f.c2 = lcsCode 2 ∧ f.c1 ≠ f.c0 ∧ f.c1 ≠ f.c2 ∧ bitsIn f.c1 f.c0 = true ∧ bitsIn f.c2 f.c1 = true) ∧
    (let f : Fuses := { c0 := 1, c1 := 2, c2 := 4 }
     ∀ n, n < 4 → f.c0 ≠ lcsCode n ∧ f.c1 ≠ lcsCode n ∧ f.c2 ≠ lcsCode n) := by
  refine ⟨?_, sure, sure⟩
  rintro n (rfl | rfl) x (rfl | rfl) <;> decide +kernel

end Sys2Proof.Tests
end

section
/-!
PROOF of O3.  `untouched` is what no command touches, the part and the queue of waiting commands.  Each operation of the model
has one law, `untouched_<operation>`, and each command one, `answer_<command>`: it answers a next state with `untouched` as it
was.  An operation that takes the rest of the work as an argument has its law under the hypothesis that the rest has it (`hb`).
The laws stand in the order of the definitions they speak of, so that `simp` proves a law from those before it.
-/
namespace Sys2Proof.Laws
open Sys2Proof.Machine Sys2Proof.Safety

/-- What no command touches: the part, and the commands that wait. -/
def untouched (s : State) : PartId × List Instr := (s.part, s.pending)

/-- What no command touches, of the state a command answers; a fault or a refusal has none. -/
def answer : Res → Option (PartId × List Instr)
  | .next s => some (untouched s)
  | _ => none

@[simp] theorem answer_next (s : State) : answer (.next s) = some (untouched s) := rfl

theorem answer_of {s t : State} (h : untouched t = untouched s) : answer (.next t) = some (untouched s) := congrArg some h

/-- A record update of any other fields. -/
@[simp] theorem untouched_mk (s : State) (time dies funcs vfEnable pcie queues booth parts flows items releaseQ jug troupes seats
    performers routines freeCtr writeCtr dir cage vault units gates fuses boot spdm uch mov lcs dbg trace cal canvas trp power rtc
    hostMem readData out) :
    untouched { s with
      time, dies, funcs, vfEnable, pcie, queues, booth, parts, flows, items, releaseQ, jug, troupes, seats, performers, routines
      freeCtr, writeCtr, dir, cage, vault, units, gates, fuses, boot, spdm, uch, mov, lcs, dbg, trace, cal, canvas, trp, power,
        rtc
      hostMem, readData, out } = untouched s := rfl

@[simp] theorem untouched_ite (c : Prop) [Decidable c] (a b : State) :
    untouched (if c then a else b) = if c then untouched a else untouched b := apply_ite ..

@[simp] theorem answer_ite (c : Prop) [Decidable c] (a b : Res) :
    answer (if c then a else b) = if c then answer a else answer b := apply_ite ..

@[simp] theorem untouched_snd_ite {α : Type} (c : Prop) [Decidable c] (a b : α × State) :
    untouched (if c then a else b).2 = if c then untouched a.2 else untouched b.2 := by split <;> rfl

@[simp] theorem untouched_foldl {α} (f : State → α → State) (h : ∀ s x, untouched (f s x) = untouched s) (l : List α) (s : State) :
    untouched (l.foldl f s) = untouched s := by
  induction l generalizing s with
  | nil => rfl
  | cons x l ih => rw [List.foldl_cons, ih, h]

theorem Delivered.untouched {s t : State} (h : Delivered s t) : Laws.untouched t = Laws.untouched s := by rw [h.frame]; rfl

theorem Ran.untouched {s t : State} (h : Ran s t) : Laws.untouched t = Laws.untouched s := by rw [h.frame]; rfl

/-! ### Machine/Ops.lean -/

@[simp] theorem answer_whenOpen {s r} (hr : answer r = some (untouched s)) : answer (whenOpen s r) = some (untouched s) := by
  unfold whenOpen
  split <;> simp [hr]

@[simp] theorem untouched_updDie (d f s) : untouched (updDie d f s) = untouched s := (ran_updDie ..).untouched
@[simp] theorem untouched_setQp (q x s) : untouched (setQp q x s) = untouched s := (delivered_setQp ..).untouched
@[simp] theorem untouched_updQp (q f s) : untouched (updQp q f s) = untouched s := (delivered_updQp ..).untouched
@[simp] theorem untouched_updFunc (fn f s) : untouched (updFunc fn f s) = untouched s := (delivered_updFunc ..).untouched
@[simp] theorem untouched_updPart (p f s) : untouched (updPart p f s) = untouched s := (delivered_updPart ..).untouched
@[simp] theorem untouched_updTroupe (t f s) : untouched (updTroupe t f s) = untouched s := (ran_updTroupe ..).untouched
@[simp] theorem untouched_updSeat (k f s) : untouched (updSeat k f s) = untouched s := (ran_updSeat ..).untouched
@[simp] theorem untouched_clearMirror (d a bits s) : untouched (clearMirror d a bits s) = untouched s := by rfl
@[simp] theorem untouched_updFlow (p f g s) : untouched (updFlow p f g s) = untouched s := (delivered_updFlow ..).untouched
@[simp] theorem untouched_updItem (id f s) : untouched (updItem id f s) = untouched s := (delivered_updItem ..).untouched
@[simp] theorem untouched_emit (e s) : untouched (emit e s) = untouched s := (delivered_emit ..).untouched
@[simp] theorem untouched_calEvent (code part unit arg s) : untouched (calEvent code part unit arg s) = untouched s :=
  (delivered_calEvent ..).untouched

@[simp] theorem untouched_calEventDie (die code part unit arg s) :
    untouched (calEventDie die code part unit arg s) = untouched s :=
  (ran_calEventDie ..).untouched

@[simp] theorem untouched_calSample (quantity part value s) : untouched (calSample quantity part value s) = untouched s :=
  (delivered_calSample ..).untouched

@[simp] theorem untouched_calCount (kind part s) : untouched (calCount kind part s) = untouched s :=
  (delivered_calCount ..).untouched
@[simp] theorem untouched_vec0 (fn s) : untouched (vec0 fn s) = untouched s := (delivered_vec0 ..).untouched
@[simp] theorem untouched_dataWrite (fn own q a bs s) : untouched (dataWrite fn own q a bs s) = untouched s :=
  (ran_dataWrite ..).untouched

/-! ### Machine/Gates.lean -/

@[simp] theorem untouched_raiseAlarm (code s) : untouched (raiseAlarm code s) = untouched s := by rfl
@[simp] theorem untouched_updGate (g f s) : untouched (updGate g f s) = untouched s := by rfl
@[simp] theorem untouched_updEntry (g e f s) : untouched (updEntry g e f s) = untouched s := by rfl
@[simp] theorem untouched_debugViolation (info a s) : untouched (debugViolation info a s) = untouched s := by
  simp [debugViolation]
@[simp] theorem untouched_gateAccess (c host a n t s) : untouched (gateAccess c host a n t s).2 = untouched s :=
  (ran_gateAccess ..).untouched
@[simp] theorem untouched_passed (c host t l s) : untouched (passed c host t l s).2 = untouched s := by
  induction l generalizing s with
  | nil => rfl
  | cons e r ih =>
    simp only [passed]
    split <;> simp [ih]

@[simp] theorem untouched_passedBytes (unit c host t a n s) : untouched (passedBytes unit c host t a n s).2 = untouched s := by
  simp [passedBytes]

/-! ### Machine/Queue.lean -/

@[simp] theorem untouched_onQueue {s fn page f} (hf : ∀ q, untouched (f q) = untouched s) :
    untouched (onQueue s fn page f) = untouched s := by
  unfold onQueue
  split
  · rfl
  · split <;> simp [hf]

@[simp] theorem untouched_qpNotice (q b s) : untouched (qpNotice q b s) = untouched s := (delivered_qpNotice ..).untouched
@[simp] theorem untouched_qpErr (q b s) : untouched (qpErr q b s) = untouched s := (delivered_qpErr ..).untouched
@[simp] theorem untouched_touchQp (q f s) : untouched (touchQp q f s) = untouched s := (delivered_touchQp ..).untouched
@[simp] theorem untouched_refuseDb (q b s) : untouched (refuseDb q b s) = untouched s := by simp [refuseDb]
@[simp] theorem untouched_setCfgErr (q code s) : untouched (setCfgErr q code s) = untouched s := by rfl
@[simp] theorem untouched_recordParity (q n s) : untouched (recordParity q n s) = untouched s := by simp [recordParity]
@[simp] theorem untouched_settlePar (q par s) : untouched (settlePar q par s).1 = untouched s := by simp [settlePar]
@[simp] theorem untouched_settleQp (q par s) : untouched (settleQp q par s) = untouched s := by simp [settleQp]
@[simp] theorem untouched_announce (q s) : untouched (announce q s) = untouched s := by rfl
@[simp] theorem untouched_loneFirst (q s) : untouched (loneFirst q s) = untouched s := by rfl
@[simp] theorem untouched_chunkArrive (q bs n par s) : untouched (chunkArrive q bs n par s) = untouched s := by
  simp [chunkArrive]
@[simp] theorem untouched_drainEnd (q s) : untouched (drainEnd q s) = untouched s := (delivered_drainEnd ..).untouched
@[simp] theorem untouched_cqMessage (q s) : untouched (cqMessage q s) = untouched s := (delivered_cqMessage ..).untouched

/-! ### Machine/Carousel.lean -/

@[simp] theorem untouched_traceWrite (e s) : untouched (traceWrite e s) = untouched s := (delivered_traceWrite ..).untouched
@[simp] theorem untouched_traceMark (s) : untouched (traceMark s) = untouched s := (delivered_traceMark ..).untouched
@[simp] theorem untouched_traceRaw (type part b7 flow fl16 unit seq die s) :
    untouched (traceRaw type part b7 flow fl16 unit seq die s) = untouched s := by simp [traceRaw]
@[simp] theorem untouched_traceItem (type unit die i s) : untouched (traceItem type unit die i s) = untouched s :=
  (ran_traceItem ..).untouched
@[simp] theorem untouched_rslotWrite (q n bs s) : untouched (rslotWrite q n bs s) = untouched s := by rfl
@[simp] theorem untouched_endItem (i s) : untouched (endItem i s) = untouched s := (delivered_endItem ..).untouched
@[simp] theorem untouched_writeRelease (id s) : untouched (writeRelease id s) = untouched s :=
  (delivered_writeRelease ..).untouched
@[simp] theorem untouched_acceptSample (i s) : untouched (acceptSample i s) = untouched s := by simp [acceptSample]
@[simp] theorem untouched_settleFlow (p f s) : untouched (settleFlow p f s) = untouched s := (delivered_settleFlow ..).untouched
@[simp] theorem untouched_outcomeArrives (id o s) : untouched (outcomeArrives id o s) = untouched s :=
  (delivered_outcomeArrives ..).untouched
@[simp] theorem untouched_finish (id status data hostBuf s) : untouched (finish id status data hostBuf s) = untouched s :=
  (delivered_finish ..).untouched

/-! ### Machine/Seat.lean -/

@[simp] theorem untouched_updRPart (p f s) : untouched (updRPart p f s) = untouched s := by rfl
@[simp] theorem untouched_pruneOld (s) : untouched (pruneOld s) = untouched s := (ran_pruneOld ..).untouched
@[simp] theorem untouched_fetchLines (t p r gen idxs s) : untouched (fetchLines t p r gen idxs s) = untouched s := by rfl
@[simp] theorem untouched_prefetch (k p r s) : untouched (prefetch k p r s) = untouched s := by
  unfold prefetch
  split <;> simp

@[simp] theorem untouched_missLine (k s) : untouched (missLine k s) = untouched s := (ran_missLine ..).untouched
@[simp] theorem untouched_updPerf (n f s) : untouched (updPerf n f s) = untouched s := (ran_updPerf ..).untouched
@[simp] theorem untouched_setRun (k x s) : untouched (setRun k x s) = untouched s := (ran_setRun ..).untouched
@[simp] theorem untouched_startSeat (k s) : untouched (startSeat k s) = untouched s := (ran_startSeat ..).untouched
@[simp] theorem untouched_updKc (die f s) : untouched (updKc die f s) = untouched s := (ran_updKc ..).untouched
@[simp] theorem untouched_unpin (die e s) : untouched (unpin die e s) = untouched s := (ran_unpin ..).untouched
@[simp] theorem untouched_pin (die e s) : untouched (pin die e s) = untouched s := by rfl
@[simp] theorem untouched_releaseKeys (k s) : untouched (releaseKeys k s) = untouched s := (ran_releaseKeys ..).untouched
@[simp] theorem untouched_countBusy (k s) : untouched (countBusy k s) = untouched s := (ran_countBusy ..).untouched
@[simp] theorem untouched_leaveSeat (k o s) : untouched (leaveSeat k o s) = untouched s := (ran_leaveSeat ..).untouched
@[simp] theorem untouched_opDrained (k s) : untouched (opDrained k s) = untouched s := by
  unfold opDrained
  dsimp only
  split <;> simp

@[simp] theorem untouched_seatFault (k cause opcode pc reg async s) :
    untouched (seatFault k cause opcode pc reg async s) = untouched s :=
  (ran_seatFault ..).untouched

@[simp] theorem untouched_countIssue (k s) : untouched (countIssue k s) = untouched s := by rfl
@[simp] theorem untouched_advance (k pc x s) : untouched (advance k pc x s) = untouched s := (ran_advance ..).untouched
@[simp] theorem untouched_commit (k pc x s) : untouched (commit k pc x s) = untouched s := (ran_commit ..).untouched
@[simp] theorem untouched_applyIRes (k opc r s) : untouched (applyIRes k opc r s) = untouched s := (ran_applyIRes ..).untouched
@[simp] theorem untouched_touchLine (k s) : untouched (touchLine k s) = untouched s := (ran_touchLine ..).untouched
@[simp] theorem untouched_dropLine (k s) : untouched (dropLine k s) = untouched s := (ran_dropLine ..).untouched
@[simp] theorem untouched_noteInstr (k opc io s) : untouched (noteInstr k opc io s) = untouched s := by rfl
@[simp] theorem untouched_seatInstr {k opc io body s} (hb : ∀ a t, untouched (body a t) = untouched t) :
    untouched (seatInstr k opc io body s) = untouched s := by simp [seatInstr, hb]
@[simp] theorem untouched_onSeat (k opc io body s) : untouched (onSeat k opc io body s) = untouched s :=
  (ran_onSeat ..).untouched

/-! ### Machine/Units.lean -/

@[simp] theorem untouched_updUnit (u n f s) : untouched (updUnit u n f s) = untouched s := (ran_updUnit ..).untouched
@[simp] theorem untouched_updScu (d f s) : untouched (updScu d f s) = untouched s := (ran_updScu ..).untouched
@[simp] theorem untouched_updRng (f s) : untouched (updRng f s) = untouched s := by rfl
@[simp] theorem untouched_dropK (k r x s) : untouched (dropK k r x s).2 = untouched s := by
  unfold dropK
  split <;> simp

@[simp] theorem untouched_takeUp (k o x s) : untouched (takeUp k o x s).2 = untouched s := by
  unfold takeUp
  split <;> simp

@[simp] theorem untouched_submit (k o x s) : untouched (submit k o x s) = untouched s := by simp [submit]
@[simp] theorem untouched_waitIn (k c q x s) : untouched (waitIn k c q x s) = untouched s := by rfl
@[simp] theorem untouched_withUnit {k opc u x s body} (hb : ∀ t, untouched (body t) = untouched t) :
    untouched (withUnit k opc u x s body) = untouched s := by simp [withUnit, hb]
@[simp] theorem untouched_submitAs (k o x y s) : untouched (submitAs k o x y s) = untouched s := by simp [submitAs]
@[simp] theorem untouched_submitUnit (k o x s) : untouched (submitUnit k o x s) = untouched s := by simp [submitUnit]
@[simp] theorem untouched_wakeSeats (u l s) : untouched (wakeSeats u l s) = untouched s := by simp [wakeSeats]
@[simp] theorem untouched_wakeUnit (u n s) : untouched (wakeUnit u n s) = untouched s := by simp [wakeUnit]
@[simp] theorem untouched_countOps (u k n s) : untouched (countOps u k n s) = untouched s := by simp [countOps]
@[simp] theorem untouched_drawRoot (n s) : untouched (drawRoot n s).2 = untouched s := by rfl
@[simp] theorem untouched_withDrbg {k opc n x s body} (hb : ∀ a t, untouched (body a t) = untouched t) :
    untouched (withDrbg k opc n x s body) = untouched s := by simp [withDrbg, hb]
@[simp] theorem untouched_libFault (k cause s) : untouched (libFault k cause s) = untouched s := (ran_libFault ..).untouched
@[simp] theorem untouched_libUnit {k u s body} (hb : ∀ t, untouched (body t) = untouched t) :
    untouched (libUnit k u s body) = untouched s := by
  simp [libUnit, hb]

@[simp] theorem untouched_guardedS {k u x s body} (hb : ∀ t, untouched (body t) = untouched t) :
    untouched (guardedS k u x s body) = untouched s := by
  unfold guardedS
  split
  · simp
  · split <;> simp [hb]

/-! ### Machine/Keys.lean -/

@[simp] theorem untouched_setSlot (p sl r s) : untouched (setSlot p sl r s) = untouched s := by rfl
@[simp] theorem untouched_setMan (p r s) : untouched (setMan p r s) = untouched s := by rfl
@[simp] theorem untouched_setReg (p r s) : untouched (setReg p r s) = untouched s := by rfl
@[simp] theorem untouched_sendGen (p sl g s) : untouched (sendGen p sl g s) = untouched s := by simp [sendGen]
@[simp] theorem untouched_putHandle (k r h s) : untouched (putHandle k r h s) = untouched s := by
  unfold putHandle
  dsimp only
  split <;> simp

@[simp] theorem untouched_newTransient (k r nk s) : untouched (newTransient k r nk s) = untouched s := by simp [newTransient]
@[simp] theorem untouched_dropRef (ref s) : untouched (dropRef ref s) = untouched s := by rfl
@[simp] theorem untouched_evictLoop (p need quota l s) : untouched (evictLoop p need quota l s) = untouched s := by
  induction l generalizing s with
  | nil => rfl
  | cons e l ih =>
    simp only [evictLoop]
    split <;> simp [ih]

@[simp] theorem untouched_dirAdd (p nk s) : untouched (dirAdd p nk s).2 = untouched s := by simp [dirAdd]
@[simp] theorem untouched_dirOpened (ref s) : untouched (dirOpened ref s) = untouched s := by simp [dirOpened]
@[simp] theorem untouched_sweepDir (p sl g s) : untouched (sweepDir p sl g s) = untouched s := by simp [sweepDir]

/-! ### Machine/EtnakKey.lean -/

@[simp] theorem untouched_trap (k opc cause reg x s) : untouched (trap k opc cause reg x s) = untouched s := by simp [trap]
@[simp] theorem untouched_withKey {k opc r x s body} (hb : ∀ a b t, untouched (body a b t) = untouched t) :
    untouched (withKey k opc r x s body) = untouched s := by
  unfold withKey
  split <;> simp [hb]

@[simp] theorem untouched_openedOn (k issued x s) : untouched (openedOn k issued x s) = untouched s := by simp [openedOn]
@[simp] theorem untouched_needPin {k r entry x s body} (hb : ∀ t, untouched (body t) = untouched t) :
    untouched (needPin k r entry x s body) = untouched s := by simp [needPin, hb]
@[simp] theorem untouched_withPair {k opc ga limit x s body} (hb : ∀ a b t, untouched (body a b t) = untouched t) :
    untouched (withPair k opc ga limit x s body) = untouched s := by
  unfold withPair
  split <;> simp [hb]

@[simp] theorem untouched_legalFn {k opc ok x s body} (hb : ∀ t, untouched (body t) = untouched t) :
    untouched (legalFn k opc ok x s body) = untouched s := by simp [legalFn, hb]
@[simp] theorem untouched_countMiss (d cause s) : untouched (countMiss d cause s) = untouched s := by rfl
@[simp] theorem untouched_openFails (k cause r try_ issued x s) :
    untouched (openFails k cause r try_ issued x s) = untouched s := by
  simp [openFails]

@[simp] theorem untouched_openEntry (k e r try_ x s) : untouched (openEntry k e r try_ x s) = untouched s := by simp [openEntry]
@[simp] theorem answer_execKopen (k kx ga fn s) : answer (execKopen k kx ga fn s) = some (untouched s) := by
  unfold execKopen
  refine answer_of (untouched_seatInstr fun x s => ?_)
  refine untouched_legalFn fun s => untouched_guardedS fun s => ?_
  dsimp only
  split
  · simp
  · split <;> simp

@[simp] theorem untouched_dirAccess (idx t s) : untouched (dirAccess idx t s).2 = untouched s := by simp [dirAccess]
@[simp] theorem untouched_fillEntry (ref poison s) : untouched (fillEntry ref poison s).2.2 = untouched s := by
  simp [fillEntry, apply_ite Prod.snd]

@[simp] theorem untouched_fillFails (k cause o s) : untouched (fillFails k cause o s) = untouched s := by simp [fillFails]
@[simp] theorem answer_execKeyFillComplete (fill s) : answer (execKeyFillComplete fill s) = some (untouched s) := by
  unfold execKeyFillComplete
  dsimp only
  split
  · simp
  · split
    · simp
    · split
      · simp
      · split <;> simp

@[simp] theorem answer_execKclose (k kx fn s) : answer (execKclose k kx fn s) = some (untouched s) := by
  unfold execKclose
  refine answer_of (untouched_seatInstr fun x s => ?_)
  refine untouched_legalFn fun s => ?_
  simp

@[simp] theorem answer_execKinfo (k ga kx fn s) : answer (execKinfo k ga kx fn s) = some (untouched s) := by
  unfold execKinfo
  refine answer_of (untouched_seatInstr fun x s => ?_)
  refine untouched_legalFn fun s => ?_
  simp

@[simp] theorem answer_execKcv (k ga kx fn s) : answer (execKcv k ga kx fn s) = some (untouched s) := by
  unfold execKcv
  refine answer_of (untouched_seatInstr fun x s => ?_)
  refine untouched_legalFn fun s => ?_
  simp

@[simp] theorem answer_execKderive (k kx ky ds fn s) : answer (execKderive k kx ky ds fn s) = some (untouched s) := by
  unfold execKderive
  dsimp only
  refine answer_of (untouched_seatInstr fun x s => ?_)
  split
  · simp
  · refine untouched_guardedS fun s => ?_
    simp

@[simp] theorem untouched_persistEntry (k nk s) : untouched (persistEntry k nk s).2.2.2 = untouched s := by
  have h := untouched_dirAdd (getSeat s k).part nk s
  rcases hd : dirAdd (getSeat s k).part nk s with ⟨_ | ref, t⟩
  · rw [hd] at h
    simpa [persistEntry, hd] using h
  · simp [persistEntry, hd, apply_ite Prod.snd]

@[simp] theorem answer_execKunwrap (k kx ky ga fn s) : answer (execKunwrap k kx ky ga fn s) = some (untouched s) := by
  unfold execKunwrap
  refine answer_of (untouched_seatInstr fun x s => ?_)
  refine untouched_legalFn fun s => untouched_withPair fun o n s => untouched_guardedS fun s => ?_
  simp

@[simp] theorem answer_execKwrap (k ga kx ky fn s) : answer (execKwrap k ga kx ky fn s) = some (untouched s) := by
  unfold execKwrap
  refine answer_of (untouched_seatInstr fun x s => ?_)
  refine untouched_legalFn fun s => untouched_withPair fun o n s => untouched_guardedS fun s => untouched_withKey fun h e s =>
    untouched_withKey fun ch ce s => ?_
  split
  · simp
  · split
    · simp
    · split
      · simp
      · dsimp only
        split <;> simp

@[simp] theorem answer_execKgen (k kx ga fn s) : answer (execKgen k kx ga fn s) = some (untouched s) := by
  unfold execKgen
  refine answer_of (untouched_seatInstr fun x s => ?_)
  dsimp only
  refine untouched_legalFn fun s => untouched_guardedS fun s => untouched_withUnit fun s => ?_
  simp

@[simp] theorem answer_execKaimp (k kx ky ga fn s) : answer (execKaimp k kx ky ga fn s) = some (untouched s) := by
  unfold execKaimp
  refine answer_of (untouched_seatInstr fun x s => ?_)
  refine untouched_legalFn fun s => untouched_withPair fun o n s => untouched_guardedS fun s => ?_
  simp

@[simp] theorem answer_execKagree (k kx ky ga fn s) : answer (execKagree k kx ky ga fn s) = some (untouched s) := by
  unfold execKagree
  refine answer_of (untouched_seatInstr fun x s => ?_)
  refine untouched_legalFn fun s => untouched_withPair fun o n s => untouched_guardedS fun s => untouched_withKey fun h e s =>
    ?_
  dsimp only
  split
  · simp
  · split
    · simp
    · refine untouched_needPin fun s => ?_
      simp

@[simp] theorem untouched_setOutcome (k w s) : untouched (setOutcome k w s) = untouched s := by
  unfold setOutcome
  split <;> simp

@[simp] theorem untouched_opFailed (k o cause s) : untouched (opFailed k o cause s) = untouched s := by simp [opFailed]
@[simp] theorem untouched_completeOp (k o cause s) : untouched (completeOp k o cause s) = untouched s := by
  unfold completeOp
  dsimp only
  split
  · split <;> simp
  · split
    · simp
    · split
      · split
        · split
          · next he => simpa using (congrArg (fun r => untouched r.2.2.2) he).symm
          · next he => simpa using (congrArg (fun r => untouched r.2.2.2) he).symm
        · simp
      · split <;> simp

/-! ### Machine/EtnakUnit.lean -/

@[simp] theorem answer_execBenc (k dd kx ds s) : answer (execBenc k dd kx ds s) = some (untouched s) := by
  unfold execBenc
  refine answer_of (untouched_seatInstr fun x s => ?_)
  refine untouched_guardedS fun s => untouched_withKey fun h e s => ?_
  dsimp only
  split <;> simp

@[simp] theorem answer_execBdec (k dd kx ds s) : answer (execBdec k dd kx ds s) = some (untouched s) := by
  unfold execBdec
  refine answer_of (untouched_seatInstr fun x s => ?_)
  refine untouched_guardedS fun s => untouched_withKey fun h e s => ?_
  dsimp only
  split <;> simp

@[simp] theorem answer_execBstr (k kx dd ga fn s) : answer (execBstr k kx dd ga fn s) = some (untouched s) := by
  unfold execBstr
  dsimp only
  refine answer_of (untouched_seatInstr fun x s => ?_)
  split
  · refine untouched_withPair fun o n s => untouched_guardedS fun s => untouched_withKey fun h e s => ?_
    split <;> simp
  · simp

@[simp] theorem answer_execBmac (k dd kx ga fn s) : answer (execBmac k dd kx ga fn s) = some (untouched s) := by
  unfold execBmac
  dsimp only
  refine answer_of (untouched_seatInstr fun x s => ?_)
  refine untouched_legalFn fun s => untouched_withPair fun o n s => ?_
  simp

@[simp] theorem answer_execBmacv (k kx ds ga fn s) : answer (execBmacv k kx ds ga fn s) = some (untouched s) := by
  unfold execBmacv
  dsimp only
  refine answer_of (untouched_seatInstr fun x s => ?_)
  refine untouched_legalFn fun s => untouched_withPair fun o n s => ?_
  simp

@[simp] theorem answer_execFfx (k kx ds ga fn s) : answer (execFfx k kx ds ga fn s) = some (untouched s) := by
  unfold execFfx
  dsimp only
  refine answer_of (untouched_seatInstr fun x s => ?_)
  refine untouched_legalFn fun s => untouched_withPair fun o n s => ?_
  simp

@[simp] theorem untouched_dropHash (k x s) : untouched (dropHash k x s) = untouched s := by
  unfold dropHash
  split <;> simp

@[simp] theorem untouched_openHash (k reg c x s) : untouched (openHash k reg c x s) = untouched s := by simp [openHash]
@[simp] theorem untouched_freeHash (k c o y s) : untouched (freeHash k c o y s) = untouched s := by
  unfold freeHash
  split <;> simp

@[simp] theorem answer_execHstart (k kx fn s) : answer (execHstart k kx fn s) = some (untouched s) := by
  unfold execHstart
  dsimp only
  refine answer_of (untouched_seatInstr fun x s => ?_)
  refine untouched_legalFn fun s => ?_
  split
  · refine untouched_guardedS fun s => ?_
    simp
  · simp

@[simp] theorem answer_execHdata (k ga fn s) : answer (execHdata k ga fn s) = some (untouched s) := by
  unfold execHdata
  dsimp only
  refine answer_of (untouched_seatInstr fun x s => ?_)
  refine untouched_legalFn fun s => untouched_withPair fun o n s => untouched_guardedS fun s => ?_
  split <;> simp

@[simp] theorem answer_execHend (k dd ga fn s) : answer (execHend k dd ga fn s) = some (untouched s) := by
  unfold execHend
  refine answer_of (untouched_seatInstr fun x s => ?_)
  refine untouched_legalFn fun s => ?_
  split <;> simp

@[simp] theorem answer_execMexp (k t ga gb gc s) : answer (execMexp k t ga gb gc s) = some (untouched s) := by
  unfold execMexp
  refine answer_of (untouched_seatInstr fun x s => ?_)
  dsimp only
  split
  · simp
  · refine untouched_guardedS fun s => ?_
    simp

@[simp] theorem answer_execMsign (k t ga gb gc kx fn s) : answer (execMsign k t ga gb gc kx fn s) = some (untouched s) := by
  unfold execMsign
  dsimp only
  refine answer_of (untouched_seatInstr fun x s => ?_)
  refine untouched_legalFn fun s => untouched_guardedS fun s => untouched_withKey fun h e s => ?_
  split
  · simp
  · split
    · simp
    · split
      · simp
      · split
        · simp
        · refine untouched_guardedS fun s => ?_
          simp

@[simp] theorem answer_execMver (k t ga gb gc kx fn s) : answer (execMver k t ga gb gc kx fn s) = some (untouched s) := by
  unfold execMver
  dsimp only
  refine answer_of (untouched_seatInstr fun x s => ?_)
  split
  · split <;> simp
  · split
    · simp
    · refine untouched_guardedS fun s => untouched_withKey fun h e s => ?_
      simp

@[simp] theorem answer_execXld (k t ga gb gc s) : answer (execXld k t ga gb gc s) = some (untouched s) := by simp [execXld]
@[simp] theorem answer_execXst (k t ga gb gc fn s) : answer (execXst k t ga gb gc fn s) = some (untouched s) := by
  unfold execXst
  dsimp only
  refine answer_of (untouched_seatInstr fun x s => ?_)
  simp

@[simp] theorem answer_execHostReadComplete (k t data s) : answer (execHostReadComplete k t data s) = some (untouched s) := by
  unfold execHostReadComplete
  split
  · simp
  · split <;> simp

@[simp] theorem untouched_startKat (u n s) : untouched (startKat u n s) = untouched s := by simp [startKat]
@[simp] theorem untouched_unitCheck (u n s) : untouched (unitCheck u n s) = untouched s := by simp [unitCheck]
@[simp] theorem answer_execUnitOpComplete (k kind checkFail s) :
    answer (execUnitOpComplete k kind checkFail s) = some (untouched s) := by
  unfold execUnitOpComplete
  split
  · simp
  · split <;> simp

/-! ### Machine/Service.lean -/

@[simp] theorem untouched_trpEvent (b s) : untouched (trpEvent b s) = untouched s := by simp [trpEvent]
@[simp] theorem untouched_trpErr (b s) : untouched (trpErr b s) = untouched s := by simp [trpErr]
@[simp] theorem untouched_refuse (id status cls s) : untouched (refuse id status cls s) = untouched s :=
  (delivered_refuse ..).untouched
@[simp] theorem untouched_done (id data s) : untouched (done id data s) = untouched s := (delivered_done ..).untouched
@[simp] theorem untouched_onService {id routine body s} (hb : ∀ a t, untouched (body a t) = untouched t) :
    untouched (onService id routine body s) = untouched s := by
  unfold onService
  split <;> simp [hb]

@[simp] theorem untouched_withForm {i pointer s body} (hb : ∀ t, untouched (body t) = untouched t) :
    untouched (withForm i pointer s body) = untouched s := by simp [withForm, hb]
@[simp] theorem untouched_withCage {i s body} (hb : ∀ t, untouched (body t) = untouched t) :
    untouched (withCage i s body) = untouched s := by
  simp [withCage, hb]

@[simp] theorem untouched_svcAccess (a n t s) : untouched (svcAccess a n t s).2 = untouched s := by simp [svcAccess]
@[simp] theorem untouched_svcRead {id a n buf s body} (hb : ∀ a t, untouched (body a t) = untouched t) :
    untouched (svcRead id a n buf s body) = untouched s := by
  unfold svcRead
  dsimp only
  split
  · simp
  · split <;> simp [hb]

@[simp] theorem untouched_svcWrite {id a b s body} (hb : ∀ t, untouched (body t) = untouched t) :
    untouched (svcWrite id a b s body) = untouched s := by
  simp [svcWrite, hb]

@[simp] theorem untouched_svcBuffer {i buf s body} (hb : ∀ a t, untouched (body a t) = untouched t) :
    untouched (svcBuffer i buf s body) = untouched s := by simp [svcBuffer, hb]
@[simp] theorem untouched_svcOutput (i a len out s) : untouched (svcOutput i a len out s) = untouched s := by simp [svcOutput]
@[simp] theorem untouched_updVPart (p f s) : untouched (updVPart p f s) = untouched s := by rfl
@[simp] theorem untouched_applyCageWrite (w s) : untouched (applyCageWrite w s) = untouched s := by
  unfold applyCageWrite
  split
  · simp
  · simp
  · simp
  · simp
  · simp
  · simp
  · split <;> simp
  · simp
  · simp

@[simp] theorem untouched_releaseDir (p s) : untouched (releaseDir p s).2 = untouched s := by simp [releaseDir]
@[simp] theorem untouched_applyLocal (a s) : untouched (applyLocal a s) = untouched s := by
  unfold applyLocal
  split <;> simp

@[simp] theorem untouched_genSettled (s) : untouched (genSettled s) = untouched s := by
  unfold genSettled
  split
  · dsimp only
    rw [untouched_foldl _ fun t i => by split <;> simp]
    simp
  · rfl

@[simp] theorem untouched_commitChange (c s) : untouched (commitChange c s) = untouched s := by
  unfold commitChange
  split <;> simp

@[simp] theorem untouched_mirrorFail (c s) : untouched (mirrorFail c s) = untouched s := by
  unfold mirrorFail
  split <;> simp

@[simp] theorem untouched_submitChange (c s) : untouched (submitChange c s) = untouched s := by
  unfold submitChange
  split
  · simp
  · split
    · simp
    · dsimp only
      split <;> simp

@[simp] theorem untouched_spendVault (p s) : untouched (spendVault p s) = untouched s := by rfl
@[simp] theorem untouched_vaultAuth {id w b s body} (hb : ∀ t, untouched (body t) = untouched t) :
    untouched (vaultAuth id w b s body) = untouched s := by simp [vaultAuth, hb]

/-! ### Machine/Vault.lean -/

@[simp] theorem untouched_idSign (msg s) : untouched (idSign msg s).2 = untouched s := by rfl
@[simp] theorem untouched_withRoot {id n s body} (hb : ∀ a t, untouched (body a t) = untouched t) :
    untouched (withRoot id n s body) = untouched s := by
  simp [withRoot, hb]

@[simp] theorem untouched_slotRefused (code gen s) : untouched (slotRefused code gen s) = untouched s := by rfl
@[simp] theorem untouched_slotCmd (write f s) : untouched (slotCmd write f s) = untouched s := by simp [slotCmd]
@[simp] theorem answer_execVltSlotWrite (s) : answer (execVltSlotWrite s) = some (untouched s) := by simp [execVltSlotWrite]
@[simp] theorem answer_execVltSlotAdvance (s) : answer (execVltSlotAdvance s) = some (untouched s) := by
  simp [execVltSlotAdvance]
@[simp] theorem answer_execVltSlotErase (s) : answer (execVltSlotErase s) = some (untouched s) := by simp [execVltSlotErase]
@[simp] theorem answer_execGenApply (die s) : answer (execGenApply die s) = some (untouched s) := by simp [execGenApply]
@[simp] theorem answer_execVaultChallenge (id s) : answer (execVaultChallenge id s) = some (untouched s) := by
  unfold execVaultChallenge
  refine answer_of (untouched_onService fun i s => ?_)
  refine untouched_withForm fun s => ?_
  simp

@[simp] theorem untouched_firstRegistryAuth {id w r b s body} (hb : ∀ t, untouched (body t) = untouched t) :
    untouched (firstRegistryAuth id w r b s body) = untouched s := by simp [firstRegistryAuth, hb]
@[simp] theorem answer_execVaultRegistrySet (id buf s) : answer (execVaultRegistrySet id buf s) = some (untouched s) := by
  unfold execVaultRegistrySet
  refine answer_of (untouched_onService fun i s => ?_)
  refine untouched_withForm fun s => untouched_withCage fun s => untouched_svcBuffer fun b s => ?_
  dsimp only
  split <;> simp

@[simp] theorem answer_execVaultRegistryRestore (id buf s) :
    answer (execVaultRegistryRestore id buf s) = some (untouched s) := by
  unfold execVaultRegistryRestore
  refine answer_of (untouched_onService fun i s => ?_)
  refine untouched_withForm fun s => untouched_withCage fun s => untouched_svcBuffer fun b s => ?_
  dsimp only
  split
  · simp
  · split <;> simp

@[simp] theorem untouched_drawEphemeral (s) : untouched (drawEphemeral s).2.2 = untouched s := by rfl
@[simp] theorem answer_execVaultCeremonyOpen (id s) : answer (execVaultCeremonyOpen id s) = some (untouched s) := by
  unfold execVaultCeremonyOpen
  refine answer_of (untouched_onService fun i s => ?_)
  refine untouched_withForm fun s => untouched_withCage fun s => ?_
  simp

@[simp] theorem untouched_withCeremony {id p no s body} (hb : ∀ a t, untouched (body a t) = untouched t) :
    untouched (withCeremony id p no s body) = untouched s := by
  unfold withCeremony
  split <;> simp [hb]

@[simp] theorem answer_execVaultComponent (id buf s) : answer (execVaultComponent id buf s) = some (untouched s) := by
  unfold execVaultComponent
  refine answer_of (untouched_onService fun i s => ?_)
  refine untouched_withForm fun s => untouched_withCage fun s => untouched_svcBuffer fun b s => ?_
  dsimp only
  refine untouched_withCeremony fun c s => ?_
  split
  · simp
  · split
    · simp
    · split
      · simp
      · split <;> simp

@[simp] theorem untouched_writeSlotKey (id p sl role alg key acts s) :
    untouched (writeSlotKey id p sl role alg key acts s) = untouched s := by
  simp [writeSlotKey]

@[simp] theorem answer_execVaultCeremonyClose (id buf s) : answer (execVaultCeremonyClose id buf s) = some (untouched s) := by
  unfold execVaultCeremonyClose
  refine answer_of (untouched_onService fun i s => ?_)
  refine untouched_withForm fun s => untouched_withCage fun s => untouched_svcBuffer fun b s => ?_
  simp

@[simp] theorem answer_execVaultSlotGenerate (id buf s) : answer (execVaultSlotGenerate id buf s) = some (untouched s) := by
  unfold execVaultSlotGenerate
  refine answer_of (untouched_onService fun i s => ?_)
  refine untouched_withForm fun s => untouched_withCage fun s => untouched_svcBuffer fun b s => ?_
  simp

@[simp] theorem answer_execVaultSlotInvalidate (id buf s) : answer (execVaultSlotInvalidate id buf s) = some (untouched s) := by
  unfold execVaultSlotInvalidate
  refine answer_of (untouched_onService fun i s => ?_)
  refine untouched_withForm fun s => untouched_withCage fun s => ?_
  simp

@[simp] theorem untouched_fenceDone (i start s) : untouched (fenceDone i start s) = untouched s := by simp [fenceDone]
@[simp] theorem answer_execPmkFence (id s) : answer (execPmkFence id s) = some (untouched s) := by
  unfold execPmkFence
  refine answer_of (untouched_onService fun i s => ?_)
  simp

@[simp] theorem answer_execPmkFenceDone (id s) : answer (execPmkFenceDone id s) = some (untouched s) := by
  unfold execPmkFenceDone
  split <;> simp

@[simp] theorem answer_execPmkFenceTimeout (id s) : answer (execPmkFenceTimeout id s) = some (untouched s) := by
  unfold execPmkFenceTimeout
  split <;> simp

@[simp] theorem answer_execDirSweepDone (s) : answer (execDirSweepDone s) = some (untouched s) := by
  unfold execDirSweepDone
  split <;> simp

@[simp] theorem answer_execVaultBackupExport (id buf s) : answer (execVaultBackupExport id buf s) = some (untouched s) := by
  unfold execVaultBackupExport
  refine answer_of (untouched_onService fun i s => ?_)
  refine untouched_withForm fun s => untouched_withCage fun s => untouched_svcBuffer fun b s => ?_
  simp

@[simp] theorem answer_execVaultTransferOpen (id s) : answer (execVaultTransferOpen id s) = some (untouched s) := by
  unfold execVaultTransferOpen
  refine answer_of (untouched_onService fun i s => ?_)
  refine untouched_withForm fun s => untouched_withCage fun s => ?_
  simp

@[simp] theorem answer_execVaultTransferExport (id buf s) : answer (execVaultTransferExport id buf s) = some (untouched s) := by
  unfold execVaultTransferExport
  refine answer_of (untouched_onService fun i s => ?_)
  refine untouched_withForm fun s => untouched_withCage fun s => untouched_svcBuffer fun b s => ?_
  simp

@[simp] theorem untouched_restoreImage (id p acts m s) : untouched (restoreImage id p acts m s) = untouched s := by
  simp [restoreImage]
@[simp] theorem answer_execVaultRestore (id buf s) : answer (execVaultRestore id buf s) = some (untouched s) := by
  unfold execVaultRestore
  refine answer_of (untouched_onService fun i s => ?_)
  refine untouched_withForm fun s => untouched_withCage fun s => untouched_svcBuffer fun b s => ?_
  dsimp only
  split
  · split
    · simp
    · refine untouched_vaultAuth fun s => ?_
      split
      · simp
      · split <;> simp
  · split
    · simp
    · refine untouched_vaultAuth fun s => ?_
      split
      · simp
      · split
        · simp
        · split <;> simp

@[simp] theorem answer_execVaultPartitionErase (id buf s) : answer (execVaultPartitionErase id buf s) = some (untouched s) := by
  unfold execVaultPartitionErase
  refine answer_of (untouched_onService fun i s => ?_)
  refine untouched_withForm fun s => untouched_withCage fun s => ?_
  simp

@[simp] theorem answer_execKeyDirRelease (id s) : answer (execKeyDirRelease id s) = some (untouched s) := by
  unfold execKeyDirRelease
  refine answer_of (untouched_onService fun i s => ?_)
  simp

@[simp] theorem answer_execCeremonyExpire (part s) : answer (execCeremonyExpire part s) = some (untouched s) := by rfl
@[simp] theorem answer_execNonceExpire (part s) : answer (execNonceExpire part s) = some (untouched s) := by rfl

/-! ### Machine/Ready.lean -/

@[simp] theorem untouched_pwrEvent (b s) : untouched (pwrEvent b s) = untouched s := by simp [pwrEvent]
@[simp] theorem untouched_noteReady (old s) : untouched (noteReady old s) = untouched s := by simp [noteReady]

/-! ### Machine/Calliope.lean -/

@[simp] theorem untouched_updCal (f s) : untouched (updCal f s) = untouched s := by rfl
@[simp] theorem untouched_calNotice (b s) : untouched (calNotice b s) = untouched s := by simp [calNotice]
@[simp] theorem untouched_calErr (b s) : untouched (calErr b s) = untouched s := by rfl
@[simp] theorem untouched_openWindow (start s) : untouched (openWindow start s) = untouched s := by rfl
@[simp] theorem untouched_calStep (before s) : untouched (calStep before s) = untouched s := by
  unfold calStep
  split <;> simp

@[simp] theorem untouched_deliver (i s) : untouched (deliver i s) = untouched s := by
  unfold deliver
  dsimp only
  split
  · simp
  · split <;> simp

@[simp] theorem answer_execCalEventArrive (s) : answer (execCalEventArrive s) = some (untouched s) := by
  unfold execCalEventArrive
  split
  · simp
  · split <;> simp

@[simp] theorem untouched_putRecord (b s) : untouched (putRecord b s) = untouched s := by simp [putRecord]
@[simp] theorem untouched_putStaged (s) : untouched (putStaged s) = untouched s := by
  unfold putStaged
  split <;> simp

@[simp] theorem untouched_selfFault (kind off syndrome s) : untouched (selfFault kind off syndrome s) = untouched s := by
  simp [selfFault]
@[simp] theorem answer_execWindowClose (fault s) : answer (execWindowClose fault s) = some (untouched s) := by
  unfold execWindowClose
  split
  · simp
  · split
    · simp
    · dsimp only
      refine answer_of ?_
      split
      · split
        · simp
        · split <;> simp
      · split
        · split
          · simp
          · split <;> simp
        · split
          · simp
          · split <;> simp

@[simp] theorem untouched_endFreeze (s) : untouched (endFreeze s) = untouched s := by
  unfold endFreeze
  split
  · simp
  · dsimp only
    split <;> simp

@[simp] theorem untouched_calDisable (s) : untouched (calDisable s) = untouched s := by simp [calDisable]
@[simp] theorem answer_execCalEnable (value s) : answer (execCalEnable value s) = some (untouched s) := by
  unfold execCalEnable
  split
  · simp
  · split
    · simp
    · dsimp only
      split <;> simp

@[simp] theorem answer_execCalFreeze (s) : answer (execCalFreeze s) = some (untouched s) := by simp [execCalFreeze]
@[simp] theorem answer_execCalFreezeEnter (s) : answer (execCalFreezeEnter s) = some (untouched s) := by
  simp [execCalFreezeEnter]
@[simp] theorem answer_execCalThaw (s) : answer (execCalThaw s) = some (untouched s) := by simp [execCalThaw]
@[simp] theorem answer_execFreezeTimeout (s) : answer (execFreezeTimeout s) = some (untouched s) := by simp [execFreezeTimeout]
@[simp] theorem answer_execCalClear (s) : answer (execCalClear s) = some (untouched s) := by simp [execCalClear]
@[simp] theorem answer_execCalRelease (bytes s) : answer (execCalRelease bytes s) = some (untouched s) := by
  refine answer_whenOpen ?_
  split <;> simp

@[simp] theorem answer_execCalRdDataRead (bad s) : answer (execCalRdDataRead bad s) = some (untouched s) := by
  unfold execCalRdDataRead
  split
  · simp
  · split <;> simp

@[simp] theorem answer_execScrubPass (n bad s) : answer (execScrubPass n bad s) = some (untouched s) := by
  unfold execScrubPass
  split
  · simp
  · cases bad <;> simp

@[simp] theorem answer_execCalFwEvent (colour value s) : answer (execCalFwEvent colour value s) = some (untouched s) := by
  simp [execCalFwEvent]

@[simp] theorem answer_execCalCopy (read s) : answer (execCalCopy read s) = some (untouched s) := by
  unfold execCalCopy
  dsimp only
  refine answer_of (untouched_onService fun i s => ?_)
  split
  · simp
  · split
    · simp
    · split <;> simp

/-! ### Machine/PowerBase.lean -/

@[simp] theorem untouched_updPwr (f s) : untouched (updPwr f s) = untouched s := by rfl
@[simp] theorem untouched_updTP (t f s) : untouched (updTP t f s) = untouched s := by rfl
@[simp] theorem untouched_enterPs (n s) : untouched (enterPs n s) = untouched s := by simp [enterPs]
@[simp] theorem untouched_startWake (d s) : untouched (startWake d s) = untouched s := by rfl
@[simp] theorem untouched_wakeAll (s) : untouched (wakeAll s) = untouched s := by simp [wakeAll]
@[simp] theorem untouched_startUngate (t s) : untouched (startUngate t s) = untouched s := by simp [startUngate]
@[simp] theorem untouched_regate (s) : untouched (regate s) = untouched s := by simp [regate]
@[simp] theorem untouched_sendLtr (s) : untouched (sendLtr s) = untouched s := by simp [sendLtr]
@[simp] theorem untouched_reselect (s) : untouched (reselect s) = untouched s := by simp [reselect]
@[simp] theorem untouched_wakeDie (d s) : untouched (wakeDie d s) = untouched s := by simp [wakeDie]
@[simp] theorem untouched_ungateFor (p d s) : untouched (ungateFor p d s) = untouched s := by simp [ungateFor]
@[simp] theorem untouched_allocPower (p d s) : untouched (allocPower p d s) = untouched s := by simp [allocPower]

/-! ### Machine/Scu.lean -/

@[simp] theorem untouched_scuRefused (d p s) : untouched (scuRefused d p s) = untouched s := by rfl
@[simp] theorem untouched_scuAborted (d s) : untouched (scuAborted d s) = untouched s := by rfl
@[simp] theorem untouched_scuCheck (d s) : untouched (scuCheck d s) = untouched s := by rfl
@[simp] theorem untouched_enqueueJob (die j s) : untouched (enqueueJob die j s).2 = untouched s := by rfl
@[simp] theorem untouched_acceptJob (k t o pins j x s) : untouched (acceptJob k t o pins j x s) = untouched s := by
  simp [acceptJob]
@[simp] theorem answer_execSbulk (k t ga kx s) : answer (execSbulk k t ga kx s) = some (untouched s) := by
  refine answer_of (untouched_seatInstr fun x s => ?_)
  extract_lets
  split
  · simp
  split
  · simp
  refine untouched_guardedS fun s => untouched_withKey fun h e s => ?_
  extract_lets
  iterate 5
    split
    · simp
  split
  · refine untouched_guardedS fun s => untouched_withKey fun h2 e2 s => ?_
    extract_lets
    split
    · simp
    split <;> simp
  · simp

@[simp] theorem untouched_lockDone (die s) : untouched (lockDone die s) = untouched s := by simp [lockDone]
@[simp] theorem untouched_endJob (die j cause ivs s) : untouched (endJob die j cause ivs s) = untouched s := by
  unfold endJob
  dsimp only
  split <;> simp

@[simp] theorem untouched_scuJobEnds (die job src fin s) : untouched (scuJobEnds die job src fin s) = untouched s := by
  unfold scuJobEnds
  split
  · simp
  · split
    · simp
    · split
      · simp
      · dsimp only
        split <;> simp

@[simp] theorem answer_execScuJobComplete (die job src fin s) :
    answer (execScuJobComplete die job src fin s) = some (untouched s) :=
  answer_of (untouched_scuJobEnds ..)

@[simp] theorem untouched_katRequest (kind n s) : untouched (katRequest kind n s) = untouched s := by
  unfold katRequest
  split
  · simp
  · split <;> simp

@[simp] theorem untouched_startKats (die s) : untouched (startKats die s) = untouched s := by simp [startKats]
@[simp] theorem answer_execKatReq (kind n s) : answer (execKatReq kind n s) = some (untouched s) :=
  answer_of (untouched_katRequest ..)
@[simp] theorem untouched_katsDone (s) : untouched (katsDone s) = untouched s := by simp [katsDone]
@[simp] theorem answer_execUnitKat (id s) : answer (execUnitKat id s) = some (untouched s) := by
  unfold execUnitKat
  refine answer_of (untouched_onService fun i s => ?_)
  split <;> simp

@[simp] theorem untouched_endKat (u n pass s) : untouched (endKat u n pass s) = untouched s := by simp [endKat]
@[simp] theorem untouched_endScuKat (die pass s) : untouched (endScuKat die pass s) = untouched s := by simp [endScuKat]
@[simp] theorem untouched_endRngKat (pass s) : untouched (endRngKat pass s) = untouched s := by simp [endRngKat]
@[simp] theorem answer_execKatComplete (kind n pass s) : answer (execKatComplete kind n pass s) = some (untouched s) := by
  unfold execKatComplete
  split
  · simp
  · split <;> simp

@[simp] theorem untouched_healthRead (s) : untouched (healthRead s) = untouched s := by rfl
@[simp] theorem untouched_rawRead (s) : untouched (rawRead s) = untouched s := by simp [rawRead]
@[simp] theorem untouched_rngRead (s) : untouched (rngRead s) = untouched s := by simp [rngRead]
@[simp] theorem answer_execUnitStatusRead (id s) : answer (execUnitStatusRead id s) = some (untouched s) := by
  simp [execUnitStatusRead]

@[simp] theorem answer_execScuLockSet (id s) : answer (execScuLockSet id s) = some (untouched s) := by simp [execScuLockSet]
@[simp] theorem untouched_clearSeatFault (k s) : untouched (clearSeatFault k s) = untouched s := by rfl
@[simp] theorem answer_execPrfFaultLog (id s) : answer (execPrfFaultLog id s) = some (untouched s) := by
  unfold execPrfFaultLog
  refine answer_of (untouched_onService fun i s => ?_)
  simp

@[simp] theorem untouched_faultStalled (s) : untouched (faultStalled s) = untouched s := by simp [faultStalled]
@[simp] theorem untouched_healthFail (rct s) : untouched (healthFail rct s) = untouched s := by simp [healthFail]
@[simp] theorem answer_execRngHealthFail (rct s) : answer (execRngHealthFail rct s) = some (untouched s) :=
  answer_of (untouched_healthFail ..)

@[simp] theorem answer_execRngRecovery (bad s) : answer (execRngRecovery bad s) = some (untouched s) := by
  unfold execRngRecovery
  split <;> simp

@[simp] theorem answer_execRootDrbgReseed (s) : answer (execRootDrbgReseed s) = some (untouched s) := by
  simp [execRootDrbgReseed]
@[simp] theorem answer_execDieDrbgReseed (die s) : answer (execDieDrbgReseed die s) = some (untouched s) := by
  simp [execDieDrbgReseed]

@[simp] theorem answer_execDrbgBufferRefill (troupe s) : answer (execDrbgBufferRefill troupe s) = some (untouched s) := by
  simp [execDrbgBufferRefill]

@[simp] theorem answer_execRngRawRead (s) : answer (execRngRawRead s) = some (untouched s) := by simp [execRngRawRead]
@[simp] theorem answer_execRngHealthRead (s) : answer (execRngHealthRead s) = some (untouched s) := by rfl

/-! ### Machine/HostLink.lean -/

@[simp] theorem answer_execMisalignedAccess (fn off size s) :
    answer (execMisalignedAccess fn off size s) = some (untouched s) := by
  simp [execMisalignedAccess]

@[simp] theorem answer_execUnsupportedRequest (fn kind s) : answer (execUnsupportedRequest fn kind s) = some (untouched s) := by
  simp [execUnsupportedRequest]

@[simp] theorem answer_execClkTime64LowRead (s) : answer (execClkTime64LowRead s) = some (untouched s) := by
  simp [execClkTime64LowRead]

@[simp] theorem answer_execRefclkChange (present s) : answer (execRefclkChange present s) = some (untouched s) := by rfl
@[simp] theorem answer_execTimeAlign (die s) : answer (execTimeAlign die s) = some (untouched s) := by
  unfold execTimeAlign
  split <;> simp

@[simp] theorem untouched_abortItems (ids s) : untouched (abortItems ids s) = untouched s := by simp [abortItems]
@[simp] theorem untouched_refreshPause (p s) : untouched (refreshPause p s) = untouched s := by simp [refreshPause]
@[simp] theorem untouched_refreshPauses (s) : untouched (refreshPauses s) = untouched s := by simp [refreshPauses]
@[simp] theorem untouched_linkDown (die s) : untouched (linkDown die s) = untouched s := by simp [linkDown]
@[simp] theorem answer_execMidwayFlitError (die fails gcmTagFail s) :
    answer (execMidwayFlitError die fails gcmTagFail s) = some (untouched s) := by
  unfold execMidwayFlitError
  split <;> simp

@[simp] theorem answer_execPushWrite (fn page pos data s) : answer (execPushWrite fn page pos data s) = some (untouched s) := by
  simp [execPushWrite]

@[simp] theorem answer_execSlotConsume (q parity s) : answer (execSlotConsume q parity s) = some (untouched s) := by
  simp [execSlotConsume]

@[simp] theorem answer_execPushTorn (q s) : answer (execPushTorn q s) = some (untouched s) := by
  unfold execPushTorn
  dsimp only
  split <;> simp

@[simp] theorem answer_execPushReset (fn page s) : answer (execPushReset fn page s) = some (untouched s) := by
  simp [execPushReset]
@[simp] theorem answer_execQueSqDb (fn page value s) : answer (execQueSqDb fn page value s) = some (untouched s) := by
  simp [execQueSqDb]

@[simp] theorem answer_execSqFetchIssue (q s) : answer (execSqFetchIssue q s) = some (untouched s) := by simp [execSqFetchIssue]
@[simp] theorem untouched_arriveAll (q data par n k s) : untouched (arriveAll q data par n k s) = untouched s := by
  induction n generalizing par k s with
  | zero => rfl
  | succ n ih => simp [arriveAll, ih]

@[simp] theorem answer_execSqFetchComplete (q ok data parity s) :
    answer (execSqFetchComplete q ok data parity s) = some (untouched s) := by
  unfold execSqFetchComplete
  dsimp only
  split <;> simp

@[simp] theorem answer_execHeadRefill (q read s) : answer (execHeadRefill q read s) = some (untouched s) := by
  simp [execHeadRefill]
@[simp] theorem answer_execQueCqDb (fn page value s) : answer (execQueCqDb fn page value s) = some (untouched s) := by
  simp [execQueCqDb]

@[simp] theorem answer_execQueueEnable (fn page s) : answer (execQueueEnable fn page s) = some (untouched s) := by
  unfold execQueueEnable
  refine answer_of (untouched_onQueue fun q => ?_)
  dsimp only
  split
  · simp
  · split
    · simp
    · split <;> simp

@[simp] theorem untouched_flushDone (q s) : untouched (flushDone q s) = untouched s := by simp [flushDone]
@[simp] theorem answer_execQueueDisable (fn page s) : answer (execQueueDisable fn page s) = some (untouched s) := by
  simp [execQueueDisable]

@[simp] theorem answer_execFlush (fn page s) : answer (execFlush fn page s) = some (untouched s) := by simp [execFlush]
@[simp] theorem answer_execFlushDone (q s) : answer (execFlushDone q s) = some (untouched s) :=
  answer_of (untouched_flushDone ..)
@[simp] theorem untouched_refusePf (q code s) : untouched (refusePf q code s) = untouched s := by rfl
@[simp] theorem answer_execQueCoalesceWrite (fn page value s) :
    answer (execQueCoalesceWrite fn page value s) = some (untouched s) := by
  simp [execQueCoalesceWrite]

@[simp] theorem answer_execQueOwnerWrite (q value s) : answer (execQueOwnerWrite q value s) = some (untouched s) := by
  simp [execQueOwnerWrite]

@[simp] theorem answer_execQuePeakRead (fn page s) : answer (execQuePeakRead fn page s) = some (untouched s) := by
  unfold execQuePeakRead
  split
  · simp
  · split <;> simp

@[simp] theorem untouched_flr (fn s) : untouched (flr fn s) = untouched s := by simp [flr]
@[simp] theorem answer_execVfFlr (vf s) : answer (execVfFlr vf s) = some (untouched s) := by simp [execVfFlr]
@[simp] theorem untouched_resetPfDomain (s) : untouched (resetPfDomain s) = untouched s := by rfl
@[simp] theorem untouched_resetEndpoint (s) : untouched (resetEndpoint s) = untouched s := by simp [resetEndpoint]
@[simp] theorem answer_execPfReset (s) : answer (execPfReset s) = some (untouched s) := by simp [execPfReset]
@[simp] theorem answer_execFlrComplete (fn s) : answer (execFlrComplete fn s) = some (untouched s) := by rfl
@[simp] theorem untouched_sendPending (fn vector s) : untouched (sendPending fn vector s) = untouched s := by simp [sendPending]
@[simp] theorem untouched_unmaskVector (fn vector s) : untouched (unmaskVector fn vector s) = untouched s := by
  simp [unmaskVector]
@[simp] theorem answer_execVectorUnmask (fn vector s) : answer (execVectorUnmask fn vector s) = some (untouched s) := by
  simp [execVectorUnmask]

@[simp] theorem answer_execCoalesceTimer (q s) : answer (execCoalesceTimer q s) = some (untouched s) := by
  simp [execCoalesceTimer]

/-! ### Machine/Migration.lean -/

@[simp] theorem untouched_badOperands (id s) : untouched (badOperands id s) = untouched s := by simp [badOperands]
@[simp] theorem untouched_migForm {i s body} (hb : ∀ t, untouched (body t) = untouched t) :
    untouched (migForm i s body) = untouched s := by
  simp [migForm, hb]

@[simp] theorem answer_execMigLogStart (id s) : answer (execMigLogStart id s) = some (untouched s) := by simp [execMigLogStart]
@[simp] theorem answer_execMigLogReadClear (id s) : answer (execMigLogReadClear id s) = some (untouched s) := by
  unfold execMigLogReadClear
  refine answer_of (untouched_onService fun i s => ?_)
  simp

@[simp] theorem answer_execMigLogStop (id s) : answer (execMigLogStop id s) = some (untouched s) := by simp [execMigLogStop]
@[simp] theorem answer_execVfQuiesce (id s) : answer (execVfQuiesce id s) = some (untouched s) := by simp [execVfQuiesce]
@[simp] theorem answer_execVfQuiesceDrained (id s) : answer (execVfQuiesceDrained id s) = some (untouched s) := by
  unfold execVfQuiesceDrained
  split <;> simp

@[simp] theorem answer_execVfQuiesceTimeout (id s) : answer (execVfQuiesceTimeout id s) = some (untouched s) := by
  unfold execVfQuiesceTimeout
  split <;> simp

@[simp] theorem answer_execVfResume (id s) : answer (execVfResume id s) = some (untouched s) := by simp [execVfResume]
@[simp] theorem answer_execVfSave (id s) : answer (execVfSave id s) = some (untouched s) := by
  unfold execVfSave
  refine answer_of (untouched_onService fun i s => ?_)
  refine untouched_migForm fun s => ?_
  dsimp only
  split
  · simp
  · split
    · simp
    · split
      · simp
      · split <;> simp

@[simp] theorem untouched_restoreOne (v e s) : untouched (restoreOne v e s) = untouched s := by
  unfold restoreOne
  split <;> simp

@[simp] theorem untouched_restoreFlow (v r s) : untouched (restoreFlow v r s) = untouched s := by rfl
@[simp] theorem untouched_restoreVf (v f saved rest s) : untouched (restoreVf v f saved rest s) = untouched s := by
  simp [restoreVf]
@[simp] theorem answer_execVfRestore (id buf s) : answer (execVfRestore id buf s) = some (untouched s) := by
  unfold execVfRestore
  refine answer_of (untouched_onService fun i s => ?_)
  refine untouched_migForm fun s => ?_
  dsimp only
  split
  · simp
  · split
    · simp
    · refine untouched_svcRead fun b s => ?_
      split <;> simp

/-! ### Machine/EtnakMem.lean -/

@[simp] theorem answer_execLdo (k r base sz off s) : answer (execLdo k r base sz off s) = some (untouched s) :=
  answer_of (untouched_onSeat ..)

@[simp] theorem answer_execLdod (k r base sz off s) : answer (execLdod k r base sz off s) = some (untouched s) :=
  answer_of (untouched_onSeat ..)

@[simp] theorem answer_execLds (k r base sz off s) : answer (execLds k r base sz off s) = some (untouched s) :=
  answer_of (untouched_onSeat ..)

@[simp] theorem answer_execLdsd (k r base sz off s) : answer (execLdsd k r base sz off s) = some (untouched s) :=
  answer_of (untouched_onSeat ..)

@[simp] theorem answer_execSts (k r base sz off s) : answer (execSts k r base sz off s) = some (untouched s) :=
  answer_of (untouched_onSeat ..)

@[simp] theorem answer_execStsd (k r base sz off s) : answer (execStsd k r base sz off s) = some (untouched s) :=
  answer_of (untouched_onSeat ..)

@[simp] theorem answer_execStr (k r base sz off s) : answer (execStr k r base sz off s) = some (untouched s) :=
  answer_of (untouched_onSeat ..)

@[simp] theorem answer_execStrd (k r base sz off s) : answer (execStrd k r base sz off s) = some (untouched s) :=
  answer_of (untouched_onSeat ..)

@[simp] theorem answer_execBr (k cond dist s) : answer (execBr k cond dist s) = some (untouched s) := by simp [execBr]
@[simp] theorem answer_execLoop (k gc len s) : answer (execLoop k gc len s) = some (untouched s) := by simp [execLoop]
@[simp] theorem answer_execBrk (k cond s) : answer (execBrk k cond s) = some (untouched s) := answer_of (untouched_onSeat ..)
@[simp] theorem answer_execEnd (k status hostbuf s) : answer (execEnd k status hostbuf s) = some (untouched s) := by
  unfold execEnd
  refine answer_of (untouched_seatInstr fun x s => ?_)
  split
  · simp
  · split
    · simp
    · split <;> simp

@[simp] theorem answer_execWait (k mask s) : answer (execWait k mask s) = some (untouched s) := answer_of (untouched_onSeat ..)
@[simp] theorem answer_execNop (k s) : answer (execNop k s) = some (untouched s) := answer_of (untouched_onSeat ..)
@[simp] theorem answer_execIllegalInstruction (k word s) : answer (execIllegalInstruction k word s) = some (untouched s) :=
  answer_of (untouched_onSeat ..)

/-! ### Machine/Routines.lean -/

@[simp] theorem untouched_withOwn {i p s body} (hb : ∀ t, untouched (body t) = untouched t) :
    untouched (withOwn i p s body) = untouched s := by
  simp [withOwn, hb]

@[simp] theorem untouched_withManifest {i p s body} (hb : ∀ t, untouched (body t) = untouched t) :
    untouched (withManifest i p s body) = untouched s := by simp [withManifest, hb]
@[simp] theorem untouched_withHeader {i b s body} (hb : ∀ a t, untouched (body a t) = untouched t) :
    untouched (withHeader i b s body) = untouched s := by simp [withHeader, hb]
@[simp] theorem untouched_withSigned {i b s body} (hb : ∀ t, untouched (body t) = untouched t) :
    untouched (withSigned i b s body) = untouched s := by
  simp [withSigned, hb]

@[simp] theorem untouched_withVerified {i h s body} (hb : ∀ t, untouched (body t) = untouched t) :
    untouched (withVerified i h s body) = untouched s := by
  unfold withVerified
  split <;> simp [hb]

@[simp] theorem answer_execRoutineChallenge (id s) : answer (execRoutineChallenge id s) = some (untouched s) := by
  unfold execRoutineChallenge
  refine answer_of (untouched_onService fun i s => ?_)
  refine untouched_withForm fun s => ?_
  simp

@[simp] theorem untouched_routineAuth {id action p r version digest b s body} (hb : ∀ t, untouched (body t) = untouched t) :
    untouched (routineAuth id action p r version digest b s body) = untouched s := by simp [routineAuth, hb]
@[simp] theorem untouched_commitManifest (id p e image s) : untouched (commitManifest id p e image s) = untouched s := by
  simp [commitManifest]

@[simp] theorem answer_execRoutineInstall (id buf auth s) : answer (execRoutineInstall id buf auth s) = some (untouched s) := by
  unfold execRoutineInstall
  refine answer_of (untouched_onService fun i s => ?_)
  refine untouched_withForm fun s => ?_
  dsimp only
  refine untouched_withOwn fun s => untouched_withManifest fun s => untouched_svcBuffer fun b s =>
    untouched_withHeader fun h s => ?_
  split
  · simp
  · refine untouched_withSigned fun s => untouched_svcRead fun a s => ?_
    simp

@[simp] theorem answer_execRoutineRevoke (id auth s) : answer (execRoutineRevoke id auth s) = some (untouched s) := by
  unfold execRoutineRevoke
  refine answer_of (untouched_onService fun i s => ?_)
  refine untouched_withForm fun s => ?_
  dsimp only
  refine untouched_withOwn fun s => untouched_withManifest fun s => untouched_svcRead fun a s => untouched_routineAuth fun s =>
    ?_
  split <;> simp

@[simp] theorem untouched_applyRoutines (s) : untouched (applyRoutines s) = untouched s := by rfl
@[simp] theorem answer_execRoutineGenDrained (id s) : answer (execRoutineGenDrained id s) = some (untouched s) := by
  unfold execRoutineGenDrained
  split
  · simp
  · split
    · simp
    · split
      · simp
      · split
        · simp
        · dsimp only
          split <;> simp

@[simp] theorem answer_execRoutineManifestRead (id s) : answer (execRoutineManifestRead id s) = some (untouched s) := by
  unfold execRoutineManifestRead
  refine answer_of (untouched_onService fun i s => ?_)
  refine untouched_withForm fun s => ?_
  simp

@[simp] theorem answer_execRoutineManifestRestore (id buf s) :
    answer (execRoutineManifestRestore id buf s) = some (untouched s) := by
  unfold execRoutineManifestRestore
  refine answer_of (untouched_onService fun i s => ?_)
  refine untouched_withForm fun s => ?_
  simp

@[simp] theorem answer_execRoutineLoad (id buf s) : answer (execRoutineLoad id buf s) = some (untouched s) := by
  unfold execRoutineLoad
  refine answer_of (untouched_onService fun i s => ?_)
  refine untouched_withForm fun s => ?_
  dsimp only
  refine untouched_withOwn fun s => untouched_withManifest fun s => untouched_svcBuffer fun b s =>
    untouched_withHeader fun h s => ?_
  split
  · simp
  · split <;> simp

@[simp] theorem answer_execRoutineQuery (id s) : answer (execRoutineQuery id s) = some (untouched s) := by
  unfold execRoutineQuery
  refine answer_of (untouched_onService fun i s => ?_)
  refine untouched_withForm fun s => ?_
  dsimp only
  refine untouched_withOwn fun s => untouched_withManifest fun s => ?_
  split <;> simp

@[simp] theorem answer_execRoutineVerify (id buf s) : answer (execRoutineVerify id buf s) = some (untouched s) := by
  unfold execRoutineVerify
  refine answer_of (untouched_onService fun i s => ?_)
  refine untouched_withForm fun s => untouched_svcBuffer fun b s => ?_
  simp

@[simp] theorem answer_execRoutineQuotaSet (id s) : answer (execRoutineQuotaSet id s) = some (untouched s) := by
  simp [execRoutineQuotaSet]

@[simp] theorem answer_execRoutineCachePin (id s) : answer (execRoutineCachePin id s) = some (untouched s) := by
  unfold execRoutineCachePin
  refine answer_of (untouched_onService fun i s => ?_)
  refine untouched_withForm fun s => ?_
  dsimp only
  split <;> simp

@[simp] theorem untouched_fetchDenied (troupe x s) : untouched (fetchDenied troupe x s) = untouched s := by simp [fetchDenied]
@[simp] theorem answer_execRoutineCacheFill (troupe part routine gen line s) :
    answer (execRoutineCacheFill troupe part routine gen line s) = some (untouched s) := by
  unfold execRoutineCacheFill
  dsimp only
  split
  · simp
  · split <;> simp

/-! ### Machine/Admission.lean -/

@[simp] theorem untouched_reclaim (q key s) : untouched (reclaim q key s) = untouched s := by simp [reclaim]
theorem untouched_allocCtx {q p f ordered serial s t} (h : allocCtx q p f ordered serial s = some t) : untouched t = untouched s := by
  simp only [allocCtx] at h
  split at h
  · cases h; rfl
  · split at h
    · obtain ⟨n, -, rfl⟩ := Option.map_eq_some_iff.1 h
      simp
    · split at h
      · cases h; simp
      · obtain ⟨n, -, rfl⟩ := Option.map_eq_some_iff.1 h
        simp

@[simp] theorem untouched_takeTokens (p cost s) : untouched (takeTokens p cost s) = untouched s := by rfl
@[simp] theorem untouched_popHead (q h i s) : untouched (popHead q h i s) = untouched s := by
  unfold popHead
  dsimp only
  split <;> simp

@[simp] theorem untouched_takeCmd (q p h seqd row status s) : untouched (takeCmd q p h seqd row status s) = untouched s := by
  unfold takeCmd
  extract_lets f inFlow seq i s1 _ s3 s4 s5 s6 _ s7
  have h1 : untouched s1 = untouched s := by unfold s1; split <;> simp
  have h5 : untouched s5 = untouched s := by simp [s5, s4, s3, h1]
  have h6 : untouched s6 = untouched s := by unfold s6; split <;> simp [h5]
  have h7 : untouched s7 = untouched s := by unfold s7; split <;> simp [h6]
  split <;> simp [h7]

@[simp] theorem untouched_decideHead (q p h s) : untouched (decideHead q p h s).1 = untouched s := by
  unfold decideHead
  extract_lets f o sr _ withCtx
  have hw : ∀ seqd (k : State → State), (∀ t, untouched (k t) = untouched t) → untouched (withCtx seqd k).1 = untouched s := by
    intro seqd k hk
    unfold withCtx
    split
    · split
      · next ha => simpa [hk] using untouched_allocCtx ha
      · simp
    · exact hk s
  split
  · rfl
  · split
    · rfl
    · exact hw _ _ fun t => by simp
    · exact hw _ _ fun t => by simp

@[simp] theorem untouched_readHead (q par s) : untouched (readHead q par s).1 = untouched s := by
  unfold readHead
  dsimp only
  split
  · rfl
  · split
    · simp
    · split <;> simp

@[simp] theorem untouched_turnLoop (n p bs s) : untouched (turnLoop n p bs s) = untouched s := by
  induction n generalizing bs s with
  | zero => rfl
  | succ n ih =>
    unfold turnLoop
    split
    · rfl
    · split
      · rfl
      · dsimp only
        split
        · simp
        · split
          · simp
          · split
            · simp
            · simp [ih]

@[simp] theorem answer_execTicketTurn (parity s) : answer (execTicketTurn parity s) = some (untouched s) := by
  simp [execTicketTurn]
@[simp] theorem answer_execBucketCredit (s) : answer (execBucketCredit s) = some (untouched s) := by simp [execBucketCredit]
@[simp] theorem untouched_holdShare (off value s) : untouched (holdShare off value s) = untouched s := by simp [holdShare]
@[simp] theorem answer_execShareChangeWrite (off value s) : answer (execShareChangeWrite off value s) = some (untouched s) := by
  refine answer_whenOpen ?_
  split <;> simp

@[simp] theorem untouched_remapItems (s) : untouched (remapItems s) = untouched s := by simp [remapItems]
@[simp] theorem untouched_applyShares (due rest s) : untouched (applyShares due rest s) = untouched s := by simp [applyShares]
@[simp] theorem answer_execEpochApply (s) : answer (execEpochApply s) = some (untouched s) := by simp [execEpochApply]

/-! ### Machine/Scheduling.lean -/

@[simp] theorem untouched_jugErr (b s) : untouched (jugErr b s) = untouched s := by rfl
@[simp] theorem untouched_dispatch (i d s) : untouched (dispatch i d s) = untouched s := by simp [dispatch]
@[simp] theorem answer_execJugglerAllocate (s) : answer (execJugglerAllocate s) = some (untouched s) := by
  unfold execJugglerAllocate
  split <;> simp

@[simp] theorem untouched_fillWing (i k s) : untouched (fillWing i k s) = untouched s := by simp [fillWing]
@[simp] theorem untouched_expire (i unit s) : untouched (expire i unit s) = untouched s := by simp [expire]
@[simp] theorem untouched_displace (i d s) : untouched (displace i d s) = untouched s := by
  unfold displace
  dsimp only
  split
  · simp
  · split
    · simp
    · split
      · simp
      · split <;> simp

@[simp] theorem untouched_choosePreempt (i d s) : untouched (choosePreempt i d s) = untouched s := by
  unfold choosePreempt
  dsimp only
  split
  · simp
  · split <;> simp

@[simp] theorem untouched_becomeReady (id d s) : untouched (becomeReady id d s) = untouched s := by
  unfold becomeReady
  split <;> simp

@[simp] theorem untouched_arriveAt (i die s) : untouched (arriveAt i die s) = untouched s := by simp [arriveAt]
@[simp] theorem answer_execDispatchArrive (die s) : answer (execDispatchArrive die s) = some (untouched s) := by
  unfold execDispatchArrive
  split
  · simp
  · split
    · simp
    · split <;> simp

@[simp] theorem answer_execJaserSuspend (seat s) : answer (execJaserSuspend seat s) = some (untouched s) := by
  unfold execJaserSuspend
  split
  · simp
  · split
    · simp
    · dsimp only
      split <;> simp

@[simp] theorem untouched_selectLoop (n t s) : untouched (selectLoop n t s) = untouched s := by
  induction n generalizing s with
  | zero => rfl
  | succ n ih =>
    unfold selectLoop
    split
    · split
      · rfl
      · split <;> simp [ih]
    · rfl

@[simp] theorem answer_execLocalSelect (troupe s) : answer (execLocalSelect troupe s) = some (untouched s) := by
  simp [execLocalSelect]

@[simp] theorem untouched_moveItems (n src dst s) : untouched (moveItems n src dst s) = untouched s := by
  induction n generalizing s with
  | zero => rfl
  | succ n ih =>
    unfold moveItems
    split <;> simp [ih]

@[simp] theorem answer_execRebalanceExamine (s) : answer (execRebalanceExamine s) = some (untouched s) := by
  unfold execRebalanceExamine
  split
  · simp
  · split <;> simp

@[simp] theorem answer_execItemMoveArrive (die s) : answer (execItemMoveArrive die s) = some (untouched s) := by
  unfold execItemMoveArrive
  split
  · simp
  · split
    · simp
    · split <;> simp

@[simp] theorem untouched_redispatch (i dst s) : untouched (redispatch i dst s) = untouched s := by simp [redispatch]
@[simp] theorem answer_execExpirySweep (s) : answer (execExpirySweep s) = some (untouched s) := by simp [execExpirySweep]
@[simp] theorem answer_execJugTroupeCfgWrite (troupe value s) :
    answer (execJugTroupeCfgWrite troupe value s) = some (untouched s) := by
  simp [execJugTroupeCfgWrite]

@[simp] theorem untouched_acceptResult (i s) : untouched (acceptResult i s) = untouched s := by
  unfold acceptResult
  split <;> simp

@[simp] theorem answer_execResultAccept (die s) : answer (execResultAccept die s) = some (untouched s) := by
  unfold execResultAccept
  split
  · simp
  · dsimp only
    split <;> simp

@[simp] theorem answer_execCarouselRelease (s) : answer (execCarouselRelease s) = some (untouched s) := by
  unfold execCarouselRelease
  split
  · simp
  · split <;> simp

@[simp] theorem answer_execHoldExpire (part flow s) : answer (execHoldExpire part flow s) = some (untouched s) := by
  unfold execHoldExpire
  split <;> simp

@[simp] theorem answer_execDeferralUnblocked (part flow s) :
    answer (execDeferralUnblocked part flow s) = some (untouched s) := by
  unfold execDeferralUnblocked
  split <;> simp

@[simp] theorem answer_execSerialRelease (part flow s) : answer (execSerialRelease part flow s) = some (untouched s) := by
  unfold execSerialRelease
  dsimp only
  split
  · simp
  · split <;> simp

@[simp] theorem answer_execTraceLostWrite (die s) : answer (execTraceLostWrite die s) = some (untouched s) := by
  simp [execTraceLostWrite]

@[simp] theorem answer_execTrcEnable (value s) : answer (execTrcEnable value s) = some (untouched s) := by simp [execTrcEnable]
@[simp] theorem answer_execTrcClear (s) : answer (execTrcClear s) = some (untouched s) := by simp [execTrcClear]
@[simp] theorem answer_execTrcRdHiRead (s) : answer (execTrcRdHiRead s) = some (untouched s) := by simp [execTrcRdHiRead]
@[simp] theorem answer_execHoldPeakRead (part s) : answer (execHoldPeakRead part s) = some (untouched s) := by
  simp [execHoldPeakRead]

/-! ### Machine/Role.lean -/

@[simp] theorem untouched_endUnstarted (st s) : untouched (endUnstarted st s) = untouched s := by simp [endUnstarted]
@[simp] theorem untouched_stopSeat (st k s) : untouched (stopSeat st k s) = untouched s := by
  unfold stopSeat
  split <;> simp

@[simp] theorem untouched_stopSeats (st s) : untouched (stopSeats st s) = untouched s := by simp [stopSeats]
@[simp] theorem untouched_endGrant (s) : untouched (endGrant s) = untouched s := by simp [endGrant]
@[simp] theorem untouched_releaseLine (s) : untouched (releaseLine s) = untouched s := by simp [releaseLine]
@[simp] theorem untouched_driveLine (s) : untouched (driveLine s) = untouched s := by simp [driveLine]
@[simp] theorem untouched_tellActive (s) : untouched (tellActive s) = untouched s := by simp [tellActive]
@[simp] theorem untouched_setRole (f s) : untouched (setRole f s) = untouched s := by simp [setRole]
@[simp] theorem untouched_loseCommands (s) : untouched (loseCommands s) = untouched s := by simp [loseCommands]
@[simp] theorem untouched_dropHandover (st s) : untouched (dropHandover st s) = untouched s := by
  unfold dropHandover
  split
  · simp
  · split <;> simp

@[simp] theorem untouched_relinquish (s) : untouched (relinquish s) = untouched s := by simp [relinquish]

/-! ### Machine/Canvas.lean -/

@[simp] theorem untouched_updCnv (f s) : untouched (updCnv f s) = untouched s := by rfl
@[simp] theorem untouched_readRaw (raw s) : untouched (readRaw raw s) = untouched s := by rfl
@[simp] theorem untouched_copyLatch (i e s) : untouched (copyLatch i e s) = untouched s := by rfl
@[simp] theorem untouched_addLatch (code sev case s) : untouched (addLatch code sev case s) = untouched s := by simp [addLatch]
@[simp] theorem untouched_clearCage (s) : untouched (clearCage s) = untouched s := by rfl
@[simp] theorem untouched_purge (s) : untouched (purge s) = untouched s := by simp [purge]
@[simp] theorem untouched_discardKeys (s) : untouched (discardKeys s) = untouched s := by simp [discardKeys]
@[simp] theorem untouched_startHalt (s) : untouched (startHalt s) = untouched s := by simp [startHalt]
@[simp] theorem untouched_escalate (old sev case code s) : untouched (escalate old sev case code s) = untouched s := by
  simp [escalate]
@[simp] theorem untouched_hostNotice (s) : untouched (hostNotice s) = untouched s := by simp [hostNotice]
@[simp] theorem untouched_respond (case codes s) : untouched (respond case codes s) = untouched s := by
  unfold respond
  split <;> simp

@[simp] theorem untouched_abortStim (codes s) : untouched (abortStim codes s) = untouched s := by simp [abortStim]
@[simp] theorem answer_execCanvasDetect (codes raw s) : answer (execCanvasDetect codes raw s) = some (untouched s) := by
  unfold execCanvasDetect
  split <;> simp [execCanvasDetect.go]

@[simp] theorem untouched_sentinelCause (s c) : untouched (sentinelCause s c) = untouched s := by simp [sentinelCause]
@[simp] theorem answer_execSentinelDetect (code s) : answer (execSentinelDetect code s) = some (untouched s) := by
  simp [execSentinelDetect]

@[simp] theorem answer_execSentinelConfigCopy (s) : answer (execSentinelConfigCopy s) = some (untouched s) := by
  unfold execSentinelConfigCopy
  split <;> simp

@[simp] theorem answer_execCnvStimStart (source raw s) : answer (execCnvStimStart source raw s) = some (untouched s) := by
  simp [execCnvStimStart]

@[simp] theorem untouched_stimResult (c detected released s) : untouched (stimResult c detected released s) = untouched s := by
  simp [stimResult]

@[simp] theorem answer_execStimEnd (detected released s) : answer (execStimEnd detected released s) = some (untouched s) := by
  simp [execStimEnd]

@[simp] theorem answer_execCnvCauseClear (value raw s) : answer (execCnvCauseClear value raw s) = some (untouched s) := by rfl
@[simp] theorem answer_execCanvasResume (id raw s) : answer (execCanvasResume id raw s) = some (untouched s) := by
  simp [execCanvasResume]

@[simp] theorem answer_execCanvasLatchClear (id s) : answer (execCanvasLatchClear id s) = some (untouched s) := by
  simp [execCanvasLatchClear]

@[simp] theorem answer_execCanvasStimulate (id raw undetected stuck s) :
    answer (execCanvasStimulate id raw undetected stuck s) = some (untouched s) := by simp [execCanvasStimulate]
@[simp] theorem untouched_vaultAuthOr {id w b s body} (hb : ∀ t, untouched (body t) = untouched t) :
    untouched (vaultAuthOr id w b s body) = untouched s := by simp [vaultAuthOr, hb]
@[simp] theorem answer_execCanvasConfig (id buf s) : answer (execCanvasConfig id buf s) = some (untouched s) := by
  unfold execCanvasConfig
  refine answer_of (untouched_onService fun i s => ?_)
  refine untouched_withForm fun s => ?_
  simp

@[simp] theorem answer_execCanvasDisableFuse (id buf s) : answer (execCanvasDisableFuse id buf s) = some (untouched s) := by
  unfold execCanvasDisableFuse
  refine answer_of (untouched_onService fun i s => ?_)
  refine untouched_withForm fun s => ?_
  simp

/-! ### Machine/Resets.lean -/

@[simp] theorem untouched_blowZero (s) : untouched (blowZero s) = untouched s := by simp [blowZero]
@[simp] theorem untouched_blowSvn (target s) : untouched (blowSvn target s) = untouched s := by simp [blowSvn]
@[simp] theorem untouched_cutBlow (s) : untouched (cutBlow s) = untouched s := by
  unfold cutBlow
  split <;> simp

@[simp] theorem untouched_fundamentalReset (s) : untouched (fundamentalReset s) = untouched s := by rfl
@[simp] theorem untouched_powerOnReset (s) : untouched (powerOnReset s) = untouched s := by simp [powerOnReset]
@[simp] theorem untouched_batteryReset (s) : untouched (batteryReset s) = untouched s := by simp [batteryReset]
@[simp] theorem answer_execPowerOnReset (s) : answer (execPowerOnReset s) = some (untouched s) :=
  answer_of (untouched_powerOnReset ..)
@[simp] theorem answer_execBatteryReset (s) : answer (execBatteryReset s) = some (untouched s) :=
  answer_of (untouched_batteryReset ..)
@[simp] theorem answer_execFundamentalReset (s) : answer (execFundamentalReset s) = some (untouched s) := by rfl

/-! ### Machine/Boot.lean -/

@[simp] theorem untouched_loadImage (slot h l s) : untouched (loadImage slot h l s) = untouched s := by rfl
@[simp] theorem untouched_setFail (slot code s) : untouched (setFail slot code s) = untouched s := by rfl
@[simp] theorem untouched_tryLoad (a b l s) : untouched (tryLoad a b l s) = untouched s := by
  induction l generalizing s with
  | nil => simp [tryLoad]
  | cons k ks ih =>
    unfold tryLoad
    dsimp only
    split <;> simp [ih]

@[simp] theorem untouched_bootSlots (a b s) : untouched (bootSlots a b s) = untouched s := by simp [bootSlots]
@[simp] theorem untouched_dropRecord (kind i s) : untouched (dropRecord kind i s) = untouched s := by rfl
@[simp] theorem untouched_scrambleSlots (s) : untouched (scrambleSlots s) = untouched s := by rfl
@[simp] theorem untouched_drawSecrets (s) : untouched (drawSecrets s) = untouched s := by simp [drawSecrets]
@[simp] theorem untouched_bootCage (bad s) : untouched (bootCage bad s) = untouched s := by simp [bootCage]
@[simp] theorem untouched_bootEndOfLife (s) : untouched (bootEndOfLife s) = untouched s := by simp [bootEndOfLife]
@[simp] theorem answer_execBootRomStart (a b bad entropyFail s) :
    answer (execBootRomStart a b bad entropyFail s) = some (untouched s) := by
  unfold execBootRomStart
  split
  · simp
  · split <;> simp

@[simp] theorem untouched_bootRecord (record s) : untouched (bootRecord record s) = untouched s := by
  unfold bootRecord
  split <;> simp

@[simp] theorem untouched_bootRole (s) : untouched (bootRole s) = untouched s := by simp [bootRole]
@[simp] theorem untouched_bootLatch (s) : untouched (bootLatch s) = untouched s := by simp [bootLatch]
@[simp] theorem untouched_startCal (s) : untouched (startCal s) = untouched s := by simp [startCal]
@[simp] theorem answer_execBootHandover (certs record s) : answer (execBootHandover certs record s) = some (untouched s) := by
  simp [execBootHandover]

@[simp] theorem untouched_putGateEntry (g e x s) : untouched (putGateEntry g e x s) = untouched s := by rfl
@[simp] theorem untouched_lockGates (s) : untouched (lockGates s) = untouched s := by simp [lockGates]
@[simp] theorem answer_execBootOk (s) : answer (execBootOk s) = some (untouched s) := by simp [execBootOk]
@[simp] theorem answer_execBootWatchdog (s) : answer (execBootWatchdog s) = some (untouched s) := by simp [execBootWatchdog]
@[simp] theorem answer_execGlbRecoveryGo (img s) : answer (execGlbRecoveryGo img s) = some (untouched s) := by
  unfold execGlbRecoveryGo
  split
  · simp
  · dsimp only
    split
    · split <;> simp
    · simp

@[simp] theorem answer_execFwStage (id buf s) : answer (execFwStage id buf s) = some (untouched s) := by
  unfold execFwStage
  refine answer_of (untouched_onService fun i s => ?_)
  refine untouched_withForm fun s => ?_
  dsimp only
  split
  · simp
  · refine untouched_svcBuffer fun b s => ?_
    split <;> simp

@[simp] theorem untouched_svnStep (id n s) : untouched (svnStep id n s) = untouched s := by simp [svnStep]
@[simp] theorem answer_execFwSvnAdvance (id s) : answer (execFwSvnAdvance id s) = some (untouched s) := by
  unfold execFwSvnAdvance
  split <;> simp

@[simp] theorem answer_execFwKeyRevoke (id s) : answer (execFwKeyRevoke id s) = some (untouched s) := by simp [execFwKeyRevoke]
@[simp] theorem answer_execAttestQuote (id s) : answer (execAttestQuote id s) = some (untouched s) := by
  unfold execAttestQuote
  refine answer_of (untouched_onService fun i s => ?_)
  simp

@[simp] theorem answer_execLockstepMismatch (pair s) : answer (execLockstepMismatch pair s) = some (untouched s) := by
  simp [execLockstepMismatch]

/-! ### Machine/Spdm.lean -/

@[simp] theorem untouched_updSpdm (f s) : untouched (updSpdm f s) = untouched s := by rfl
@[simp] theorem untouched_respondSpdm (code fields s) : untouched (respondSpdm code fields s) = untouched s := by
  unfold respondSpdm
  dsimp only
  split <;> simp

@[simp] theorem untouched_spdmError (s) : untouched (spdmError s) = untouched s := by simp [spdmError]
@[simp] theorem answer_onSpdm {phase msg s body} (hb : ∀ t, untouched (body t) = untouched t) :
    answer (onSpdm phase msg s body) = some (untouched s) := by simp [onSpdm, hb]
@[simp] theorem untouched_inSession {k s body} (hb : ∀ t, untouched (body t) = untouched t) :
    untouched (inSession k s body) = untouched s := by
  unfold inSession
  split <;> simp [hb]

@[simp] theorem untouched_updSession (k f s) : untouched (updSession k f s) = untouched s := by rfl
@[simp] theorem untouched_spdmSign (msg s) : untouched (spdmSign msg s).2 = untouched s := by simp [spdmSign]
@[simp] theorem untouched_signedResponse (code fields s) : untouched (signedResponse code fields s) = untouched s := by
  simp [signedResponse]
@[simp] theorem answer_execGetVersion (msg s) : answer (execGetVersion msg s) = some (untouched s) := by simp [execGetVersion]
@[simp] theorem answer_execGetCapabilities (msg s) : answer (execGetCapabilities msg s) = some (untouched s) := by
  simp [execGetCapabilities]

@[simp] theorem answer_execNegotiateAlgorithms (sm2 p384 msg s) :
    answer (execNegotiateAlgorithms sm2 p384 msg s) = some (untouched s) := by simp [execNegotiateAlgorithms]
@[simp] theorem answer_execGetDigests (msg s) : answer (execGetDigests msg s) = some (untouched s) := by simp [execGetDigests]
@[simp] theorem answer_execGetCertificate (slot off len msg s) :
    answer (execGetCertificate slot off len msg s) = some (untouched s) := by
  unfold execGetCertificate
  refine answer_onSpdm fun s => ?_
  split <;> simp

@[simp] theorem answer_execChallenge (slot msg s) : answer (execChallenge slot msg s) = some (untouched s) := by
  simp [execChallenge]
@[simp] theorem answer_execGetMeasurements (index signed slot msg s) :
    answer (execGetMeasurements index signed slot msg s) = some (untouched s) := by
  unfold execGetMeasurements
  refine answer_onSpdm fun s => ?_
  dsimp only
  split <;> simp

@[simp] theorem answer_execKeyExchange (slot msg s) : answer (execKeyExchange slot msg s) = some (untouched s) := by
  simp [execKeyExchange]

@[simp] theorem answer_execFinish (session valid msg s) : answer (execFinish session valid msg s) = some (untouched s) := by
  unfold execFinish
  refine answer_onSpdm fun s => ?_
  split <;> simp

@[simp] theorem answer_execHeartbeat (session msg s) : answer (execHeartbeat session msg s) = some (untouched s) := by
  simp [execHeartbeat]

@[simp] theorem answer_execKeyUpdate (session msg s) : answer (execKeyUpdate session msg s) = some (untouched s) := by
  simp [execKeyUpdate]

@[simp] theorem answer_execEndSession (session msg s) : answer (execEndSession session msg s) = some (untouched s) := by
  simp [execEndSession]

@[simp] theorem answer_execSetCertificate (session slot chain msg s) :
    answer (execSetCertificate session slot chain msg s) = some (untouched s) := by simp [execSetCertificate]
@[simp] theorem answer_execVendorDefined (session ideKm msg s) :
    answer (execVendorDefined session ideKm msg s) = some (untouched s) := by simp [execVendorDefined]
@[simp] theorem answer_execUchStart (s) : answer (execUchStart s) = some (untouched s) := by simp [execUchStart]
@[simp] theorem answer_execUchDone (s) : answer (execUchDone s) = some (untouched s) := by simp [execUchDone]

/-! ### Machine/Mover.lean -/

@[simp] theorem untouched_updMov (n f s) : untouched (updMov n f s) = untouched s := by rfl
@[simp] theorem untouched_startNext (s) : untouched (startNext s) = untouched s := by
  unfold startNext
  split
  · simp
  · split <;> simp

@[simp] theorem untouched_endMov (n f irq s) : untouched (endMov n f irq s) = untouched s := by simp [endMov]
@[simp] theorem answer_execMovStart (ch pair s) : answer (execMovStart ch pair s) = some (untouched s) := by simp [execMovStart]
@[simp] theorem answer_execMovStop (ch s) : answer (execMovStop ch s) = some (untouched s) := by simp [execMovStop]
@[simp] theorem answer_execMovHalf (ch s) : answer (execMovHalf ch s) = some (untouched s) := by simp [execMovHalf]
@[simp] theorem untouched_movAccess (c host a n t s) : untouched (movAccess c host a n t s).2.2 = untouched s := by
  unfold movAccess
  split <;> simp

@[simp] theorem untouched_movWrite (c data s) : untouched (movWrite c data s) = untouched s := by simp [movWrite]
@[simp] theorem answer_execMovTransferEnd (data reach fin s) :
    answer (execMovTransferEnd data reach fin s) = some (untouched s) := by
  unfold execMovTransferEnd
  split
  · simp
  · cases fin <;> simp

/-! ### Machine/Lifecycle.lean -/

@[simp] theorem untouched_commitEntry (g e v s) : untouched (commitEntry g e v s) = untouched s := by simp [commitEntry]
@[simp] theorem answer_execGatEntCfgWrite (colour gate entry value s) :
    answer (execGatEntCfgWrite colour gate entry value s) = some (untouched s) := by simp [execGatEntCfgWrite]
@[simp] theorem answer_execGateSync (colour gate s) : answer (execGateSync colour gate s) = some (untouched s) := by
  simp [execGateSync]

@[simp] theorem answer_execGateSyncDone (gate s) : answer (execGateSyncDone gate s) = some (untouched s) := by
  simp [execGateSyncDone]
@[simp] theorem untouched_shiftOut (v err s) : untouched (shiftOut v err s) = untouched s := by rfl
@[simp] theorem answer_execBypass (s) : answer (execBypass s) = some (untouched s) := by rfl
@[simp] theorem answer_execIdcode (s) : answer (execIdcode s) = some (untouched s) := by rfl
@[simp] theorem answer_execSamplePreload (s) : answer (execSamplePreload s) = some (untouched s) := by rfl
@[simp] theorem answer_execExtest (s) : answer (execExtest s) = some (untouched s) := by simp [execExtest]
@[simp] theorem answer_execDbgStatus (s) : answer (execDbgStatus s) = some (untouched s) := by rfl
@[simp] theorem answer_execDbgCore1Halt (s) : answer (execDbgCore1Halt s) = some (untouched s) := by simp [execDbgCore1Halt]
@[simp] theorem answer_execDbgCore1Step (s) : answer (execDbgCore1Step s) = some (untouched s) := by rfl
@[simp] theorem answer_execDbgCore1Resume (s) : answer (execDbgCore1Resume s) = some (untouched s) := by
  simp [execDbgCore1Resume]
@[simp] theorem answer_execFuseProg (row data s) : answer (execFuseProg row data s) = some (untouched s) := by
  simp [execFuseProg]
@[simp] theorem untouched_updLcs (f s) : untouched (updLcs f s) = untouched s := by rfl
@[simp] theorem untouched_lcsReq {colour s body} (hb : ∀ t, untouched (body t) = untouched t) :
    untouched (lcsReq colour s body) = untouched s := by
  unfold lcsReq
  split <;> simp [hb]

@[simp] theorem answer_execLcsReqArm (colour target s) : answer (execLcsReqArm colour target s) = some (untouched s) := by
  simp [execLcsReqArm]

@[simp] theorem answer_execLcsReqGo (colour target s) : answer (execLcsReqGo colour target s) = some (untouched s) := by
  unfold execLcsReqGo
  split <;> simp

@[simp] theorem answer_execLcsArmExpire (s) : answer (execLcsArmExpire s) = some (untouched s) := by simp [execLcsArmExpire]
@[simp] theorem untouched_endScrap (s) : untouched (endScrap s) = untouched s := by simp [endScrap]
@[simp] theorem answer_execLcsProgramDone (s) : answer (execLcsProgramDone s) = some (untouched s) := by
  unfold execLcsProgramDone
  split <;> simp

@[simp] theorem untouched_wipeStep (k s) : untouched (wipeStep k s) = untouched s := by simp [wipeStep]
@[simp] theorem answer_execWipeStepDone (s) : answer (execWipeStepDone s) = some (untouched s) := by simp [execWipeStepDone]
@[simp] theorem answer_execDebugGrantExpire (s) : answer (execDebugGrantExpire s) = some (untouched s) := by
  simp [execDebugGrantExpire]

@[simp] theorem answer_execLcsScrap (id buf s) : answer (execLcsScrap id buf s) = some (untouched s) := by
  unfold execLcsScrap
  refine answer_of (untouched_onService fun i s => ?_)
  refine untouched_withForm fun s => ?_
  simp

@[simp] theorem answer_execDebugUnlock (id buf s) : answer (execDebugUnlock id buf s) = some (untouched s) := by
  refine answer_of (untouched_onService fun i s => untouched_withForm fun s => ?_)
  split
  · simp
  · refine untouched_svcBuffer fun b s => untouched_vaultAuth fun s => ?_
    dsimp only
    rw [untouched_done, untouched_raiseAlarm, untouched_mk, untouched_endGrant]

@[simp] theorem answer_execDebugLock (id s) : answer (execDebugLock id s) = some (untouched s) := by simp [execDebugLock]

/-! ### Machine/Duplex.lean -/

@[simp] theorem untouched_updTrp (f s) : untouched (updTrp f s) = untouched s := by rfl
@[simp] theorem untouched_sendFrame (kind payload s) : untouched (sendFrame kind payload s) = untouched s := by simp [sendFrame]
@[simp] theorem answer_onFrame {ok s body} (hb : ∀ t, untouched (body t) = untouched t) :
    answer (onFrame ok s body) = some (untouched s) := by
  simp [onFrame, hb]

@[simp] theorem untouched_staleFrame (s) : untouched (staleFrame s) = untouched s := by simp [staleFrame]
@[simp] theorem untouched_onEpoch {epoch s body} (hb : ∀ t, untouched (body t) = untouched t) :
    untouched (onEpoch epoch s body) = untouched s := by
  simp [onEpoch, hb]

@[simp] theorem untouched_setPathA (b s) : untouched (setPathA b s) = untouched s := by simp [setPathA]
@[simp] theorem untouched_setPathB (b s) : untouched (setPathB b s) = untouched s := by simp [setPathB]
@[simp] theorem untouched_noteHealth (s) : untouched (noteHealth s) = untouched s := by simp [noteHealth]
@[simp] theorem untouched_sendHeldOne (c s) : untouched (sendHeldOne c s) = untouched s := by simp [sendHeldOne]
@[simp] theorem untouched_sendHeld (s) : untouched (sendHeld s) = untouched s := by simp [sendHeld]
@[simp] theorem untouched_releaseChange (n c s) : untouched (releaseChange n c s) = untouched s := by simp [releaseChange]
@[simp] theorem untouched_commitHeld (s) : untouched (commitHeld s) = untouched s := by simp [commitHeld]
@[simp] theorem untouched_losePeer (s) : untouched (losePeer s) = untouched s := by simp [losePeer]
@[simp] theorem untouched_followBodies (l s) : untouched (followBodies l s) = untouched s := by
  unfold followBodies
  exact untouched_foldl _ (fun t w => by split <;> simp) _ _

@[simp] theorem untouched_takeWrites (l s) : untouched (takeWrites l s) = untouched s := by simp [takeWrites]
@[simp] theorem answer_execLinkUp (lanes s) : answer (execLinkUp lanes s) = some (untouched s) := by simp [execLinkUp]
@[simp] theorem answer_execHello (frame s) : answer (execHello frame s) = some (untouched s) := by simp [execHello]
@[simp] theorem answer_execPeerLinkRetrain (fails s) : answer (execPeerLinkRetrain fails s) = some (untouched s) := by
  simp [execPeerLinkRetrain]

@[simp] theorem untouched_startHandover (drain item s) : untouched (startHandover drain item s) = untouched s := by
  simp [startHandover]
@[simp] theorem untouched_peerRole (role epoch s) : untouched (peerRole role epoch s) = untouched s := by
  unfold peerRole
  dsimp only
  split
  · simp
  · split
    · simp
    · split
      · split
        · split <;> simp
        · split <;> simp
      · simp

@[simp] theorem answer_execKeepalive (ok epoch role cfgMatch patrolFault revert s) :
    answer (execKeepalive ok epoch role cfgMatch patrolFault revert s) = some (untouched s) := by simp [execKeepalive]
@[simp] theorem untouched_afterRelease (s) : untouched (afterRelease s) = untouched s := by simp [afterRelease]
@[simp] theorem answer_execKeepaliveSend (s) : answer (execKeepaliveSend s) = some (untouched s) := by simp [execKeepaliveSend]
@[simp] theorem untouched_stepTime (v s) : untouched (stepTime v s) = untouched s := by simp [stepTime]
@[simp] theorem untouched_loseSync (s) : untouched (loseSync s) = untouched s := by simp [loseSync]
@[simp] theorem untouched_syncTo (v s) : untouched (syncTo v s) = untouched s := by simp [syncTo]
@[simp] theorem answer_execTime (ok value s) : answer (execTime ok value s) = some (untouched s) := by simp [execTime]
@[simp] theorem answer_execPeerTimeExchange (s) : answer (execPeerTimeExchange s) = some (untouched s) := by
  simp [execPeerTimeExchange]

@[simp] theorem answer_execPeerSyncLoss (s) : answer (execPeerSyncLoss s) = some (untouched s) := by simp [execPeerSyncLoss]
@[simp] theorem untouched_sendAck (seq result s) : untouched (sendAck seq result s) = untouched s := by simp [sendAck]
@[simp] theorem answer_execMirror (ok epoch seq writes s) : answer (execMirror ok epoch seq writes s) = some (untouched s) := by
  simp [execMirror]

@[simp] theorem untouched_failMirror (m s) : untouched (failMirror m s) = untouched s := by simp [failMirror]
@[simp] theorem answer_execMirrorAck (ok epoch seq result s) :
    answer (execMirrorAck ok epoch seq result s) = some (untouched s) := by
  unfold execMirrorAck
  refine answer_onFrame fun s => untouched_onEpoch fun s => ?_
  split <;> simp

@[simp] theorem answer_execMirrorTimeout (s) : answer (execMirrorTimeout s) = some (untouched s) := by
  unfold execMirrorTimeout
  split <;> simp

@[simp] theorem answer_execResync (ok epoch writes s) : answer (execResync ok epoch writes s) = some (untouched s) := by
  simp [execResync]

@[simp] theorem untouched_patrolFail (u s) : untouched (patrolFail u s) = untouched s := by
  unfold patrolFail
  split
  · simp
  · split <;> simp

@[simp] theorem untouched_patrolPass (u s) : untouched (patrolPass u s) = untouched s := by
  unfold patrolPass
  split <;> simp

@[simp] theorem untouched_patrolFindings (units undetected stuck others s) :
    untouched (patrolFindings units undetected stuck others s) = untouched s := by simp [patrolFindings]
@[simp] theorem answer_execPatrolCycle (s) : answer (execPatrolCycle s) = some (untouched s) := by simp [execPatrolCycle]
@[simp] theorem answer_execPatrolDone (units undetected stuck others s) :
    answer (execPatrolDone units undetected stuck others s) = some (untouched s) := by simp [execPatrolDone]
@[simp] theorem untouched_joinTime (v s) : untouched (joinTime v s) = untouched s := by simp [joinTime]
@[simp] theorem answer_execJoinComplete (time units undetected stuck others s) :
    answer (execJoinComplete time units undetected stuck others s) = some (untouched s) := by simp [execJoinComplete]
@[simp] theorem untouched_readLine (ns s) : untouched (readLine ns s) = untouched s := by rfl
@[simp] theorem untouched_claim (epoch s) : untouched (claim epoch s) = untouched s := by simp [claim]
@[simp] theorem answer_execClaimStart (highNs s) : answer (execClaimStart highNs s) = some (untouched s) := by
  simp [execClaimStart]
@[simp] theorem answer_execStartupClaim (highNs s) : answer (execStartupClaim highNs s) = some (untouched s) := by
  simp [execStartupClaim]

@[simp] theorem untouched_contest (s) : untouched (contest s) = untouched s := by simp [contest]
@[simp] theorem answer_execClaim (ok s) : answer (execClaim ok s) = some (untouched s) := by simp [execClaim]
@[simp] theorem answer_execRelinquish (ok epoch s) : answer (execRelinquish ok epoch s) = some (untouched s) := by
  simp [execRelinquish]

@[simp] theorem answer_execClaimWindowClose (s) : answer (execClaimWindowClose s) = some (untouched s) := by
  unfold execClaimWindowClose
  split <;> simp

@[simp] theorem untouched_startEmpty (s) : untouched (startEmpty s) = untouched s := by rfl
@[simp] theorem answer_execTakeoverComplete (s) : answer (execTakeoverComplete s) = some (untouched s) := by
  simp [execTakeoverComplete]

@[simp] theorem answer_execBeaconSend (s) : answer (execBeaconSend s) = some (untouched s) := by simp [execBeaconSend]
@[simp] theorem untouched_beaconFlags (w highNs s) : untouched (beaconFlags w highNs s) = untouched s := by simp [beaconFlags]
@[simp] theorem answer_execBeacon (word highNs s) : answer (execBeacon word highNs s) = some (untouched s) := by
  simp [execBeacon]
@[simp] theorem answer_execPathSilent (s) : answer (execPathSilent s) = some (untouched s) := by simp [execPathSilent]
@[simp] theorem answer_execWatchdogRelease (s) : answer (execWatchdogRelease s) = some (untouched s) := by
  simp [execWatchdogRelease]
@[simp] theorem answer_execHandoverDrainExpire (s) : answer (execHandoverDrainExpire s) = some (untouched s) := by
  unfold execHandoverDrainExpire
  split <;> simp

@[simp] theorem answer_execHandover (ok epoch newEpoch s) : answer (execHandover ok epoch newEpoch s) = some (untouched s) := by
  simp [execHandover]

@[simp] theorem answer_execHandoverAck (ok epoch s) : answer (execHandoverAck ok epoch s) = some (untouched s) := by
  unfold execHandoverAck
  refine answer_onFrame fun s => ?_
  split
  · simp
  · dsimp only
    split
    · simp
    · split
      · simp
      · split <;> simp

@[simp] theorem answer_execHandoverAckTimeout (s) : answer (execHandoverAckTimeout s) = some (untouched s) := by
  unfold execHandoverAckTimeout
  split
  · simp
  · split
    · simp
    · split
      · simp
      · dsimp only
        refine answer_of ?_
        split
        · split <;> simp
        · split <;> simp

@[simp] theorem answer_execHandoverLineHigh (s) : answer (execHandoverLineHigh s) = some (untouched s) := by
  simp [execHandoverLineHigh]

@[simp] theorem answer_execRevertRequest (s) : answer (execRevertRequest s) = some (untouched s) := by
  unfold execRevertRequest
  split <;> simp

@[simp] theorem answer_execTrpPair (id buf helloOk shared s) :
    answer (execTrpPair id buf helloOk shared s) = some (untouched s) := by
  unfold execTrpPair
  refine answer_of (untouched_onService fun i s => ?_)
  refine untouched_withForm fun s => untouched_withCage fun s => untouched_svcBuffer fun b s => ?_
  dsimp only
  split
  · simp
  · split
    · simp
    · split <;> simp

@[simp] theorem answer_execTrpDetach (id buf s) : answer (execTrpDetach id buf s) = some (untouched s) := by
  unfold execTrpDetach
  refine answer_of (untouched_onService fun i s => ?_)
  refine untouched_withForm fun s => untouched_withCage fun s => untouched_svcBuffer fun b s => ?_
  simp

@[simp] theorem answer_execTrpHandover (id s) : answer (execTrpHandover id s) = some (untouched s) := by simp [execTrpHandover]
@[simp] theorem answer_execTrpSolo (id s) : answer (execTrpSolo id s) = some (untouched s) := by simp [execTrpSolo]

/-! ### Machine/Power.lean -/

@[simp] theorem untouched_dropLines (t s) : untouched (dropLines t s) = untouched s := by rfl
@[simp] theorem untouched_reloadLines (t s) : untouched (reloadLines t s) = untouched s := by rfl
@[simp] theorem untouched_retainDie (d s) : untouched (retainDie d s) = untouched s := by simp [retainDie]
@[simp] theorem untouched_parkDie (d s) : untouched (parkDie d s) = untouched s := by simp [parkDie]
@[simp] theorem untouched_sleepDies (n s) : untouched (sleepDies n s) = untouched s := by simp [sleepDies]
@[simp] theorem answer_execPsEnter (s) : answer (execPsEnter s) = some (untouched s) := by simp [execPsEnter]
@[simp] theorem untouched_wakeOne (d s) : untouched (wakeOne d s) = untouched s := by simp [wakeOne]
@[simp] theorem answer_execDieWakeDone (die s) : answer (execDieWakeDone die s) = some (untouched s) := by
  unfold execDieWakeDone
  split
  · simp
  · dsimp only
    refine answer_of ?_
    split <;> simp

@[simp] theorem answer_execTroupeGate (troupe s) : answer (execTroupeGate troupe s) = some (untouched s) := by
  simp [execTroupeGate]
@[simp] theorem answer_execTroupeUngateDone (troupe s) : answer (execTroupeUngateDone troupe s) = some (untouched s) := by
  simp [execTroupeUngateDone]

@[simp] theorem answer_execD3hotEntry (s) : answer (execD3hotEntry s) = some (untouched s) := by simp [execD3hotEntry]
@[simp] theorem answer_execD0Return (s) : answer (execD0Return s) = some (untouched s) := by simp [execD0Return]
@[simp] theorem answer_execDvfsStep (troupe s) : answer (execDvfsStep troupe s) = some (untouched s) := by simp [execDvfsStep]
@[simp] theorem untouched_trip (s) : untouched (trip s) = untouched s := by simp [trip]
@[simp] theorem answer_execThermalSample (t s) : answer (execThermalSample t s) = some (untouched s) := by
  unfold execThermalSample
  dsimp only
  split
  · simp
  · split <;> simp

@[simp] theorem untouched_noteThrottle (s) : untouched (noteThrottle s) = untouched s := by
  unfold noteThrottle
  split <;> simp

@[simp] theorem untouched_throttleOne (t s) : untouched (throttleOne t s) = untouched s := by simp [throttleOne]
@[simp] theorem answer_execThrottleStep (s) : answer (execThrottleStep s) = some (untouched s) := by simp [execThrottleStep]
@[simp] theorem untouched_updSeq (f s) : untouched (updSeq f s) = untouched s := by rfl
@[simp] theorem answer_execSequenceStart (vbat s) : answer (execSequenceStart vbat s) = some (untouched s) := by
  simp [execSequenceStart]

@[simp] theorem answer_execPowerGoodRise (s) : answer (execPowerGoodRise s) = some (untouched s) := by simp [execPowerGoodRise]
@[simp] theorem untouched_releaseEnables (s) : untouched (releaseEnables s) = untouched s := by simp [releaseEnables]
@[simp] theorem untouched_losePower (s) : untouched (losePower s) = untouched s := by simp [losePower]
@[simp] theorem answer_execPgFault (group s) : answer (execPgFault group s) = some (untouched s) := by simp [execPgFault]
@[simp] theorem answer_execSystemPowerLoss (s) : answer (execSystemPowerLoss s) = some (untouched s) := by
  simp [execSystemPowerLoss]
@[simp] theorem answer_execCaseBSwitchover (vbatLow s) : answer (execCaseBSwitchover vbatLow s) = some (untouched s) := by
  simp [execCaseBSwitchover]

@[simp] theorem untouched_pollRail (i r s) : untouched (pollRail i r s) = untouched s := by simp [pollRail]
@[simp] theorem answer_execRailPoll (readings s) : answer (execRailPoll readings s) = some (untouched s) := by
  simp [execRailPoll]
@[simp] theorem answer_execDieBringup (die s) : answer (execDieBringup die s) = some (untouched s) := by simp [execDieBringup]
@[simp] theorem answer_execPwrShutdown (id s) : answer (execPwrShutdown id s) = some (untouched s) := by simp [execPwrShutdown]
@[simp] theorem answer_execShutdownDrainEnd (s) : answer (execShutdownDrainEnd s) = some (untouched s) := by
  unfold execShutdownDrainEnd
  split <;> simp

@[simp] theorem answer_execPwrTrim (id s) : answer (execPwrTrim id s) = some (untouched s) := by
  unfold execPwrTrim
  refine answer_of (untouched_onService fun i s => ?_)
  refine untouched_withForm fun s => ?_
  dsimp only
  split <;> simp

@[simp] theorem answer_execRtcSet (id s) : answer (execRtcSet id s) = some (untouched s) := by simp [execRtcSet]
@[simp] theorem answer_execPcieLinkL0 (link s) : answer (execPcieLinkL0 link s) = some (untouched s) := by simp [execPcieLinkL0]

/-! ### Machine/RegView.lean -/

@[simp] theorem answer_execMirrorRefresh (s) : answer (execMirrorRefresh s) = some (untouched s) := by simp [execMirrorRefresh]

/-! ### Machine/Endpoint.lean -/

@[simp] theorem untouched_updPcie (f s) : untouched (updPcie f s) = untouched s := by rfl
@[simp] theorem untouched_writePfCfg (tgt v s) : untouched (writePfCfg tgt v s) = untouched s := by
  unfold writePfCfg
  split <;> simp

/-! ### Machine/Registers.lean -/

@[simp] theorem untouched_writeQueueCfg (q f s) : untouched (writeQueueCfg q f s) = untouched s := by simp [writeQueueCfg]
@[simp] theorem untouched_writeQueue (q o l s) : untouched (writeQueue q o l s) = untouched s := by simp [writeQueue]
@[simp] theorem untouched_writePfQueue (q o l s) : untouched (writePfQueue q o l s) = untouched s := by simp [writePfQueue]
@[simp] theorem untouched_writeBth (o l s) : untouched (writeBth o l s) = untouched s := by simp [writeBth]
@[simp] theorem untouched_writeJug (o l s) : untouched (writeJug o l s) = untouched s := by simp [writeJug]
@[simp] theorem untouched_writeCar (o l s) : untouched (writeCar o l s) = untouched s := by simp [writeCar]
@[simp] theorem untouched_writeTrc (o l s) : untouched (writeTrc o l s) = untouched s := by simp [writeTrc]
@[simp] theorem untouched_stageCal (f s) : untouched (stageCal f s) = untouched s := by rfl
@[simp] theorem untouched_writeCal (o l s) : untouched (writeCal o l s) = untouched s := by simp [writeCal]
@[simp] theorem untouched_writeTrp (o l s) : untouched (writeTrp o l s) = untouched s := by simp [writeTrp]
@[simp] theorem untouched_writePwr (o l s) : untouched (writePwr o l s) = untouched s := by simp [writePwr]
@[simp] theorem untouched_writeClk (o l s) : untouched (writeClk o l s) = untouched s := by simp [writeClk]
@[simp] theorem untouched_writeVltKdc (o l s) : untouched (writeVltKdc o l s) = untouched s := by simp [writeVltKdc]
@[simp] theorem untouched_writeGlb (o l s) : untouched (writeGlb o l s) = untouched s := by simp [writeGlb]
@[simp] theorem untouched_writePfLane (o l s) : untouched (writePfLane o l s) = untouched s := by simp [writePfLane]
@[simp] theorem untouched_writePf (off size value s) : untouched (writePf off size value s) = untouched s := by simp [writePf]
@[simp] theorem untouched_writeVf (fn off size value s) : untouched (writeVf fn off size value s) = untouched s := by
  simp [writeVf]
@[simp] theorem untouched_writeMsix (fn off size value s) : untouched (writeMsix fn off size value s) = untouched s := by
  simp [writeMsix]
@[simp] theorem untouched_writeMsixControl (fn v s) : untouched (writeMsixControl fn v s) = untouched s := by
  simp [writeMsixControl]
@[simp] theorem untouched_writeVfEnable (on s) : untouched (writeVfEnable on s) = untouched s := by simp [writeVfEnable]
@[simp] theorem untouched_writeSeatFault (k l s) : untouched (writeSeatFault k l s) = untouched s := by simp [writeSeatFault]
@[simp] theorem untouched_writeUnitErr (u n count die a l s) : untouched (writeUnitErr u n count die a l s) = untouched s := by
  simp [writeUnitErr]

@[simp] theorem untouched_writeScu (d r a l s) : untouched (writeScu d r a l s) = untouched s := by simp [writeScu]
@[simp] theorem untouched_writeRng (r l s) : untouched (writeRng r l s) = untouched s := by simp [writeRng]
@[simp] theorem untouched_writeSlotRegs (r l s) : untouched (writeSlotRegs r l s) = untouched s := by simp [writeSlotRegs]
@[simp] theorem untouched_updMv (f s) : untouched (updMv f s) = untouched s := by rfl
@[simp] theorem untouched_writeMov (colour r l s) : untouched (writeMov colour r l s) = untouched s := by simp [writeMov]
@[simp] theorem untouched_writeGate (g r l s) : untouched (writeGate g r l s) = untouched s := by simp [writeGate]
@[simp] theorem untouched_writeDbg (r l s) : untouched (writeDbg r l s) = untouched s := by simp [writeDbg]
@[simp] theorem untouched_cnvErr (b s) : untouched (cnvErr b s) = untouched s := by rfl
@[simp] theorem untouched_writeCnvCfg (f errs s) : untouched (writeCnvCfg f errs s) = untouched s := by simp [writeCnvCfg]
@[simp] theorem untouched_writeCnv (r l s) : untouched (writeCnv r l s) = untouched s := by simp [writeCnv]
@[simp] theorem untouched_writeFabricLane (colour a l s) : untouched (writeFabricLane colour a l s) = untouched s := by
  simp [writeFabricLane]
@[simp] theorem untouched_writeFabric (colour a size value s) :
    untouched (writeFabric colour a size value s) = untouched s := by
  simp [writeFabric]

@[simp] theorem answer_execRegisterWrite (fn tgt size value s) :
    answer (execRegisterWrite fn tgt size value s) = some (untouched s) := by
  unfold execRegisterWrite
  split <;> simp

/-! ### Machine/DebugPort.lean -/

@[simp] theorem untouched_readEffect (a s) : untouched (readEffect a s) = untouched s := by simp [readEffect]
@[simp] theorem untouched_portWrite (a value s) : untouched (portWrite a value s) = untouched s := by simp [portWrite]
@[simp] theorem answer_execDbgAccess (write addr value data s) :
    answer (execDbgAccess write addr value data s) = some (untouched s) := by simp [execDbgAccess]

/-! ### Machine/EtnakInt.lean -/

@[simp] theorem answer_execAdd (k rd ra rb s) : answer (execAdd k rd ra rb s) = some (untouched s) :=
  answer_of (untouched_onSeat ..)
@[simp] theorem answer_execSub (k rd ra rb s) : answer (execSub k rd ra rb s) = some (untouched s) :=
  answer_of (untouched_onSeat ..)
@[simp] theorem answer_execAnd (k rd ra rb s) : answer (execAnd k rd ra rb s) = some (untouched s) :=
  answer_of (untouched_onSeat ..)
@[simp] theorem answer_execOr (k rd ra rb s) : answer (execOr k rd ra rb s) = some (untouched s) :=
  answer_of (untouched_onSeat ..)
@[simp] theorem answer_execXor (k rd ra rb s) : answer (execXor k rd ra rb s) = some (untouched s) :=
  answer_of (untouched_onSeat ..)
@[simp] theorem answer_execShl (k rd ra rb s) : answer (execShl k rd ra rb s) = some (untouched s) :=
  answer_of (untouched_onSeat ..)
@[simp] theorem answer_execShr (k rd ra rb s) : answer (execShr k rd ra rb s) = some (untouched s) :=
  answer_of (untouched_onSeat ..)
@[simp] theorem answer_execSar (k rd ra rb s) : answer (execSar k rd ra rb s) = some (untouched s) :=
  answer_of (untouched_onSeat ..)
@[simp] theorem answer_execMul (k rd ra rb s) : answer (execMul k rd ra rb s) = some (untouched s) :=
  answer_of (untouched_onSeat ..)
@[simp] theorem answer_execMinu (k rd ra rb s) : answer (execMinu k rd ra rb s) = some (untouched s) :=
  answer_of (untouched_onSeat ..)
@[simp] theorem answer_execMaxu (k rd ra rb s) : answer (execMaxu k rd ra rb s) = some (untouched s) :=
  answer_of (untouched_onSeat ..)
@[simp] theorem answer_execCmp (k ra rb s) : answer (execCmp k ra rb s) = some (untouched s) := answer_of (untouched_onSeat ..)
@[simp] theorem answer_execAddi (k rd ra imm s) : answer (execAddi k rd ra imm s) = some (untouched s) :=
  answer_of (untouched_onSeat ..)
@[simp] theorem answer_execAndi (k rd ra imm s) : answer (execAndi k rd ra imm s) = some (untouched s) :=
  answer_of (untouched_onSeat ..)
@[simp] theorem answer_execOri (k rd ra imm s) : answer (execOri k rd ra imm s) = some (untouched s) :=
  answer_of (untouched_onSeat ..)
@[simp] theorem answer_execXori (k rd ra imm s) : answer (execXori k rd ra imm s) = some (untouched s) :=
  answer_of (untouched_onSeat ..)
@[simp] theorem answer_execShi (k rd ra type n s) : answer (execShi k rd ra type n s) = some (untouched s) :=
  answer_of (untouched_onSeat ..)

@[simp] theorem answer_execMovw (k rd imm hw keep s) : answer (execMovw k rd imm hw keep s) = some (untouched s) :=
  answer_of (untouched_onSeat ..)

@[simp] theorem answer_execCmpi (k ra imm s) : answer (execCmpi k ra imm s) = some (untouched s) :=
  answer_of (untouched_onSeat ..)
@[simp] theorem answer_execSel (k rd ra rb cond s) : answer (execSel k rd ra rb cond s) = some (untouched s) :=
  answer_of (untouched_onSeat ..)

/-! ### Machine/LibBase.lean -/

@[simp] theorem untouched_libEnd (k status data hostBuf s) : untouched (libEnd k status data hostBuf s) = untouched s :=
  (ran_libEnd ..).untouched
@[simp] theorem untouched_libRefuse (k reason off need s) : untouched (libRefuse k reason off need s) = untouched s :=
  (ran_libRefuse ..).untouched

@[simp] theorem untouched_libVerdict (k ok s) : untouched (libVerdict k ok s) = untouched s := by simp [libVerdict]
@[simp] theorem untouched_unlessStalled {k s t} (ht : untouched t = untouched s) :
    untouched (unlessStalled k s t) = untouched s := by
  unfold unlessStalled
  dsimp only
  split <;> simp [ht]

@[simp] theorem untouched_onLib {k routine body s} (hb : ∀ a t, untouched (body a t) = untouched t) :
    untouched (onLib k routine body s) = untouched s := by
  unfold onLib
  dsimp only
  split
  · split
    · simp
    · split
      · simp
      · split
        · simp
        · split <;> simp [hb]
  · simp

@[simp] theorem untouched_libChecks {k l s} {body : State → State} (hb : ∀ t, untouched (body t) = untouched t) :
    untouched (libChecks k l s body) = untouched s := by
  induction l with
  | nil => exact hb s
  | cons c l ih => simp [libChecks, ih]

@[simp] theorem untouched_libNeed {k ok reason off s body} (hb : ∀ t, untouched (body t) = untouched t) :
    untouched (libNeed k ok reason off s body) = untouched s := by simp [libNeed, hb]
@[simp] theorem untouched_libRoom {k len need off s body} (hb : ∀ t, untouched (body t) = untouched t) :
    untouched (libRoom k len need off s body) = untouched s := by simp [libRoom, hb]
@[simp] theorem untouched_libKey {k ref s body} (hb : ∀ a b t, untouched (body a b t) = untouched t) :
    untouched (libKey k ref s body) = untouched s := by
  unfold libKey
  dsimp only
  split
  · simp
  · split <;> simp [hb]

@[simp] theorem untouched_libUse {k ok s body} (hb : ∀ t, untouched (body t) = untouched t) :
    untouched (libUse k ok s body) = untouched s := by
  simp [libUse, hb]

@[simp] theorem untouched_libDrbg {k n s body} (hb : ∀ a t, untouched (body a t) = untouched t) :
    untouched (libDrbg k n s body) = untouched s := by
  simp [libDrbg, hb]

@[simp] theorem untouched_libRead {k a n buf s body} (hb : ∀ a t, untouched (body a t) = untouched t) :
    untouched (libRead k a n buf s body) = untouched s := by
  unfold libRead
  dsimp only
  split
  · simp
  · split <;> simp [hb]

@[simp] theorem untouched_libBuffer {k i buf s body} (hb : ∀ a t, untouched (body a t) = untouched t) :
    untouched (libBuffer k i buf s body) = untouched s := by simp [libBuffer, hb]
@[simp] theorem untouched_libWrite {k a b s body} (hb : ∀ t, untouched (body t) = untouched t) :
    untouched (libWrite k a b s body) = untouched s := by
  simp [libWrite, hb]

/-! ### Machine/LibKeys.lean -/

@[simp] theorem untouched_libWrap {k h e format nk s body} (hb : ∀ a t, untouched (body a t) = untouched t) :
    untouched (libWrap k h e format nk s body) = untouched s := by
  unfold libWrap
  refine untouched_libUse fun s => ?_
  split
  · simp
  · split <;> simp [hb]

@[simp] theorem untouched_libUnwrapOk {k h e s body} (hb : ∀ t, untouched (body t) = untouched t) :
    untouched (libUnwrapOk k h e s body) = untouched s := by simp [libUnwrapOk, hb]
@[simp] theorem untouched_libPersist {k nk s body} (hb : ∀ a t, untouched (body a t) = untouched t) :
    untouched (libPersist k nk s body) = untouched s := by
  unfold libPersist
  split
  · next he => simpa [hb] using (congrArg (fun r => untouched r.2.2.2) he).symm
  · next he => simpa using (congrArg (fun r => untouched r.2.2.2) he).symm

@[simp] theorem untouched_kcvUnit {k nk s body} (hb : ∀ t, untouched (body t) = untouched t) :
    untouched (kcvUnit k nk s body) = untouched s := by
  simp [kcvUnit, hb]

@[simp] theorem untouched_libKeyOut (k h e format persist out addr len offLen nk s) :
    untouched (libKeyOut k h e format persist out addr len offLen nk s) = untouched s := by
  unfold libKeyOut
  dsimp only
  refine untouched_libWrap fun b s => untouched_kcvUnit fun s => ?_
  split
  · refine untouched_libRoom fun s => ?_
    split
    · refine untouched_libUnwrapOk fun s => ?_
      simp
    · simp
  · simp

@[simp] theorem answer_execKeyImport (seat buf s) : answer (execKeyImport seat buf s) = some (untouched s) := by
  unfold execKeyImport
  refine answer_of (untouched_onLib fun i s => ?_)
  dsimp only
  refine untouched_libChecks fun s => untouched_libKey fun h e s => untouched_libBuffer fun b s =>
    untouched_libUnwrapOk fun s => ?_
  split <;> simp

@[simp] theorem answer_execKeyExport (seat s) : answer (execKeyExport seat s) = some (untouched s) := by
  unfold execKeyExport
  refine answer_of (untouched_onLib fun i s => ?_)
  refine untouched_libChecks fun s => untouched_libKey fun _ e s => untouched_libKey fun h2 e2 s =>
    untouched_libWrap fun b s => ?_
  simp

@[simp] theorem answer_execKeyTranslate (seat buf s) : answer (execKeyTranslate seat buf s) = some (untouched s) := by
  unfold execKeyTranslate
  refine answer_of (untouched_onLib fun i s => ?_)
  dsimp only
  refine untouched_libChecks fun s => untouched_libKey fun h e s => untouched_libKey fun h2 e2 s =>
    untouched_libBuffer fun b s => untouched_libUnwrapOk fun s => ?_
  split
  · simp
  · refine untouched_libWrap fun b s => ?_
    simp

@[simp] theorem answer_execKeyGenerate (seat s) : answer (execKeyGenerate seat s) = some (untouched s) := by
  unfold execKeyGenerate
  refine answer_of (untouched_onLib fun i s => ?_)
  dsimp only
  refine untouched_libChecks fun s => untouched_libKey fun h e s => ?_
  simp

@[simp] theorem answer_execKeyImportAsym (seat buf s) : answer (execKeyImportAsym seat buf s) = some (untouched s) := by
  unfold execKeyImportAsym
  refine answer_of (untouched_onLib fun i s => ?_)
  dsimp only
  refine untouched_libChecks fun s => untouched_libKey fun hk ek s => untouched_libNeed fun s =>
    untouched_libKey fun hs es s => untouched_libNeed fun s => untouched_libNeed fun s => untouched_libKey fun h e s =>
      untouched_libBuffer fun b s => untouched_libUnit fun s => untouched_libUse fun s => untouched_libUnit fun s => ?_
  split
  · simp
  · split
    · split
      · simp
      · refine untouched_libUse fun s => ?_
        split
        · simp
        · split <;> simp
    · split
      · simp
      · refine untouched_libUse fun s => ?_
        split
        · simp
        · split <;> simp

@[simp] theorem answer_execKeyAgree (seat buf s) : answer (execKeyAgree seat buf s) = some (untouched s) := by
  unfold execKeyAgree
  refine answer_of (untouched_onLib fun i s => ?_)
  dsimp only
  refine untouched_libChecks fun s => untouched_libKey fun ha ea s => untouched_libNeed fun s => untouched_libNeed fun s =>
    untouched_libKey fun h e s => untouched_libBuffer fun b s => untouched_libUse fun s => ?_
  simp

@[simp] theorem untouched_tokenService (seat dec i s) : untouched (tokenService seat dec i s) = untouched s := by
  unfold tokenService
  dsimp only
  refine untouched_libChecks fun s => untouched_libKey fun h e s => untouched_libNeed fun s => untouched_libUse fun s => ?_
  simp

@[simp] theorem answer_execTokenise (seat s) : answer (execTokenise seat s) = some (untouched s) := by simp [execTokenise]
@[simp] theorem answer_execDetokenise (seat s) : answer (execDetokenise seat s) = some (untouched s) := by simp [execDetokenise]
@[simp] theorem answer_execSign (seat s) : answer (execSign seat s) = some (untouched s) := by
  unfold execSign
  refine answer_of (untouched_onLib fun i s => ?_)
  dsimp only
  refine untouched_libChecks fun s => untouched_libKey fun h e s => untouched_libNeed fun s => untouched_libRoom fun s =>
    untouched_libUse fun s => untouched_libUnit fun s => ?_
  simp

@[simp] theorem answer_execVerify (seat buf s) : answer (execVerify seat buf s) = some (untouched s) := by
  unfold execVerify
  refine answer_of (untouched_onLib fun i s => ?_)
  dsimp only
  refine untouched_libChecks fun s => ?_
  split
  · simp
  · refine untouched_libKey fun h e s => untouched_libNeed fun s => untouched_libNeed fun s => untouched_libBuffer fun b s => ?_
    simp

@[simp] theorem untouched_withScu {k usable s body} (hb : ∀ t, untouched (body t) = untouched t) :
    untouched (withScu k usable s body) = untouched s := by simp [withScu, hb]
@[simp] theorem untouched_withBulkKey {k i off s body} (hb : ∀ a b t, untouched (body a b t) = untouched t) :
    untouched (withBulkKey k i off s body) = untouched s := by simp [withBulkKey, hb]
@[simp] theorem untouched_bulkRun (k j src fin s) : untouched (bulkRun k j src fin s) = untouched s := by
  unfold bulkRun
  split <;> simp

@[simp] theorem answer_execBulkCrypt (seat src fin s) : answer (execBulkCrypt seat src fin s) = some (untouched s) := by
  unfold execBulkCrypt
  refine answer_of (untouched_onLib fun i s => ?_)
  dsimp only
  refine untouched_libChecks fun s => ?_
  simp

@[simp] theorem answer_execBulkReencrypt (seat src fin s) : answer (execBulkReencrypt seat src fin s) = some (untouched s) := by
  unfold execBulkReencrypt
  refine answer_of (untouched_onLib fun i s => ?_)
  dsimp only
  refine untouched_libChecks fun s => untouched_withBulkKey fun h e s => ?_
  simp

/-! ### Machine/EtnakData.lean -/

@[simp] theorem answer_execDmov (k dd da s) : answer (execDmov k dd da s) = some (untouched s) :=
  answer_of (untouched_onSeat ..)
@[simp] theorem answer_execDxor (k dd da db s) : answer (execDxor k dd da db s) = some (untouched s) :=
  answer_of (untouched_onSeat ..)
@[simp] theorem answer_execDand (k dd da db s) : answer (execDand k dd da db s) = some (untouched s) :=
  answer_of (untouched_onSeat ..)
@[simp] theorem answer_execDor (k dd da db s) : answer (execDor k dd da db s) = some (untouched s) := by simp [execDor]
@[simp] theorem answer_execDshlb (k dd da n s) : answer (execDshlb k dd da n s) = some (untouched s) :=
  answer_of (untouched_onSeat ..)
@[simp] theorem answer_execDshrb (k dd da n s) : answer (execDshrb k dd da n s) = some (untouched s) :=
  answer_of (untouched_onSeat ..)
@[simp] theorem answer_execDshln (k dd da n s) : answer (execDshln k dd da n s) = some (untouched s) :=
  answer_of (untouched_onSeat ..)
@[simp] theorem answer_execDshrn (k dd da n s) : answer (execDshrn k dd da n s) = some (untouched s) :=
  answer_of (untouched_onSeat ..)
@[simp] theorem answer_execDzero (k dd s) : answer (execDzero k dd s) = some (untouched s) := answer_of (untouched_onSeat ..)
@[simp] theorem answer_execDrev (k dd da s) : answer (execDrev k dd da s) = some (untouched s) :=
  answer_of (untouched_onSeat ..)
@[simp] theorem answer_execDins (k dd g ln s) : answer (execDins k dd g ln s) = some (untouched s) :=
  answer_of (untouched_onSeat ..)
@[simp] theorem answer_execDext (k g da ln s) : answer (execDext k g da ln s) = some (untouched s) :=
  answer_of (untouched_onSeat ..)
@[simp] theorem answer_execDcmp (k da db s) : answer (execDcmp k da db s) = some (untouched s) :=
  answer_of (untouched_onSeat ..)
@[simp] theorem answer_execDecim (k dd da g s) : answer (execDecim k dd da g s) = some (untouched s) :=
  answer_of (untouched_onSeat ..)
@[simp] theorem answer_execDaddm (k dd da db s) : answer (execDaddm k dd da db s) = some (untouched s) := by simp [execDaddm]
@[simp] theorem answer_execDcmpt (k da db n s) : answer (execDcmpt k da db n s) = some (untouched s) :=
  answer_of (untouched_onSeat ..)
@[simp] theorem answer_execPinfmt (k dd da from_ to_ s) : answer (execPinfmt k dd da from_ to_ s) = some (untouched s) := by
  unfold execPinfmt
  refine answer_of (untouched_seatInstr fun x s => ?_)
  simp

@[simp] theorem answer_execRnd (k dd s) : answer (execRnd k dd s) = some (untouched s) := by
  unfold execRnd
  refine answer_of (untouched_seatInstr fun x s => ?_)
  simp

@[simp] theorem answer_execDnib (k dd da g p n1 s) : answer (execDnib k dd da g p n1 s) = some (untouched s) :=
  answer_of (untouched_onSeat ..)

/-! ### Machine/LibPayment.lean -/

@[simp] theorem untouched_withPin {k f h e block pan off s body} (hb : ∀ a t, untouched (body a t) = untouched t) :
    untouched (withPin k f h e block pan off s body) = untouched s := by
  unfold withPin
  split <;> simp [hb]

@[simp] theorem untouched_sendPin (k f h e pin pan s) : untouched (sendPin k f h e pin pan s) = untouched s := by simp [sendPin]
@[simp] theorem answer_execPinTranslate (seat s) : answer (execPinTranslate seat s) = some (untouched s) := by
  unfold execPinTranslate
  refine answer_of (untouched_onLib fun i s => ?_)
  dsimp only
  refine untouched_libChecks fun s => untouched_libKey fun h e s => untouched_libNeed fun s => untouched_libKey fun h2 e2 s =>
    ?_
  simp

@[simp] theorem untouched_withDukpt {k kind v h e data s body} (hb : ∀ a b t, untouched (body a b t) = untouched t) :
    untouched (withDukpt k kind v h e data s body) = untouched s := by simp [withDukpt, hb]
@[simp] theorem answer_execPinTranslateDukpt (seat s) : answer (execPinTranslateDukpt seat s) = some (untouched s) := by
  unfold execPinTranslateDukpt
  refine answer_of (untouched_onLib fun i s => ?_)
  dsimp only
  refine untouched_libChecks fun s => untouched_libKey fun h e s => untouched_libNeed fun s => untouched_libKey fun h2 e2 s =>
    untouched_libNeed fun s => untouched_withDukpt fun alg key s => ?_
  split <;> simp

@[simp] theorem answer_execPinVerify (seat s) : answer (execPinVerify seat s) = some (untouched s) := by
  unfold execPinVerify
  refine answer_of (untouched_onLib fun i s => ?_)
  dsimp only
  refine untouched_libChecks fun s => untouched_libKey fun h e s => untouched_libNeed fun s => untouched_libKey fun h2 e2 s =>
    untouched_libNeed fun s => ?_
  simp

@[simp] theorem answer_execEmvArqcVerify (seat s) : answer (execEmvArqcVerify seat s) = some (untouched s) := by
  unfold execEmvArqcVerify
  refine answer_of (untouched_onLib fun i s => ?_)
  dsimp only
  refine untouched_libChecks fun s => untouched_libKey fun h e s => untouched_libNeed fun s => ?_
  simp

@[simp] theorem untouched_cvcService (seat ver i s) : untouched (cvcService seat ver i s) = untouched s := by
  unfold cvcService
  dsimp only
  refine untouched_libChecks fun s => untouched_libKey fun h e s => untouched_libNeed fun s => untouched_libNeed fun s => ?_
  simp

@[simp] theorem answer_execCvcGenerate (seat s) : answer (execCvcGenerate seat s) = some (untouched s) := by
  simp [execCvcGenerate]
@[simp] theorem answer_execCvcVerify (seat s) : answer (execCvcVerify seat s) = some (untouched s) := by simp [execCvcVerify]
@[simp] theorem untouched_macService (seat ver buf i s) : untouched (macService seat ver buf i s) = untouched s := by
  unfold macService
  dsimp only
  refine untouched_libChecks fun s => untouched_libKey fun h e s => untouched_libNeed fun s => untouched_libNeed fun s => ?_
  split
  · refine untouched_libBuffer fun data s => ?_
    simp
  · simp

@[simp] theorem answer_execMacGenerate (seat buf s) : answer (execMacGenerate seat buf s) = some (untouched s) := by
  simp [execMacGenerate]

@[simp] theorem answer_execMacVerify (seat buf s) : answer (execMacVerify seat buf s) = some (untouched s) := by
  simp [execMacVerify]
@[simp] theorem answer_execDukptMacVerify (seat s) : answer (execDukptMacVerify seat s) = some (untouched s) := by
  unfold execDukptMacVerify
  refine answer_of (untouched_onLib fun i s => ?_)
  dsimp only
  refine untouched_libChecks fun s => untouched_libKey fun h e s => untouched_libNeed fun s => ?_
  simp

/-! ### Every command -/

/-- `exec` calls one meaning for each command, and each has its law above. -/
theorem answer_exec (c : Instr) (s : State) : answer (exec c s) = some (untouched s) := by
  cases c <;> simp [exec]

theorem eq_next_of_answer {r : Res} {s : State} (h : answer r = some (untouched s)) :
    ∃ t, r = .next t ∧ t.part = s.part ∧ t.pending = s.pending := by
  cases r with
  | next t =>
    obtain ⟨hp, hq⟩ := Prod.mk.injEq .. ▸ Option.some.inj h
    exact ⟨t, rfl, hp, hq⟩
  | fault _ => cases h
  | refused _ => cases h

/-- Settles O3: `answer` of every command is defined, and is `untouched` of the state it starts from. -/
theorem everyCommandAnswers : Obligations.EveryCommandAnswers := by
  intro c s
  exact eq_next_of_answer (answer_exec c s)

end Sys2Proof.Laws
end

section
/-!
PROOF of O59.  The bytes of a read are cut from one eight-byte lane; what each lane of BAR2 holds is said once, and a lane of a
table entry's data and Vector Control splits into its two halves.
-/
namespace Sys2Proof.Laws
open Sys2Proof.Machine

/-! ### Bytes of a lane -/

theorem toLE_add (a b v : Nat) : toLE (a + b) v = toLE a v ++ toLE b (v / 256 ^ a) := by
  induction a generalizing v with
  | zero => simp [toLE]
  | succ a ih => rw [Nat.succ_add, toLE, toLE, ih, Nat.div_div_eq_div_mul, ← Nat.pow_succ']; rfl

/-- The bytes past `n` of a value do not reach its first `n`. -/
theorem toLE_add_mul (n x m : Nat) : toLE n (x + m * 256 ^ n) = toLE n x := by
  induction n generalizing x m with
  | zero => rfl
  | succ n ih =>
    have hm : m * 256 ^ (n + 1) = 256 * (m * 256 ^ n) := by rw [Nat.pow_succ]; ac_rfl
    rw [toLE, toLE, hm, Nat.add_mul_mod_self_left, Nat.add_mul_div_left _ _ (by decide), ih]

/-- The lane of two words of four bytes. -/
theorem toLE_eight (x m : Nat) (hx : x < 2 ^ 32) : toLE 8 (x + m * 2 ^ 32) = toLE 4 x ++ toLE 4 m := by
  have hq : (x + m * 2 ^ 32) / 256 ^ 4 = m := by omega
  have hl : toLE 4 (x + m * 2 ^ 32) = toLE 4 x := toLE_add_mul 4 x m
  rw [toLE_add 4 4, hq, hl]

theorem slice_append_left (a b : Bytes) : slice 0 a.length (a ++ b) = a := by simp [slice, fit, zeros]

theorem slice_append_right (a b : Bytes) : slice a.length b.length (a ++ b) = b := by simp [slice, fit, zeros]

theorem slice_toLE (n v : Nat) : slice 0 n (toLE n v) = toLE n v := fit_of_length (length_toLE n v)

theorem slice_low (x m : Nat) (hx : x < 2 ^ 32) : slice 0 4 (toLE 8 (x + m * 2 ^ 32)) = toLE 4 x := by
  rw [toLE_eight x m hx]; exact slice_append_left (toLE 4 x) (toLE 4 m)

theorem slice_high (x m : Nat) (hx : x < 2 ^ 32) : slice 4 4 (toLE 8 (x + m * 2 ^ 32)) = toLE 4 m := by
  rw [toLE_eight x m hx]; exact slice_append_right (toLE 4 x) (toLE 4 m)

/-! ### Reads of the BARs (R46, R47) -/

section
variable {s : State} {fn n off size : Nat}

theorem readCfg_absent (h : fnExists s fn = false) (r : CfgReg) : readCfg s fn r = none := by simp [readCfg, h]

theorem readCfg_present (h : fnExists s fn = true) (r : CfgReg) : readCfg s fn r = some (BitVec.ofNat 64 (cfgWord s fn r)) := by
  simp [readCfg, h]

theorem readBar_absent (h : fnExists s fn = false ∨ (n ≠ 0 ∧ n ≠ 2)) : readBar s fn n off size = none := if_pos h

theorem readBar_bar0_illegal (hf : fnExists s fn = true) (h : readLegal fn off size = false) :
    readBar s fn 0 off size = some (zeros size) := by simp [readBar, hf, h]

theorem readBar_bar0 (hf : fnExists s fn = true) (h : readLegal fn off 8 = true) :
    readBar s fn 0 off 8 = some (slice (off % 8) 8 (toLE 8 (bar0Lane s fn (off / 8 * 8)))) := by
  simp [readBar, hf, h, laneBytes]

/-- A naturally aligned read of BAR2 is cut from its lane. -/
theorem readBar_bar2 (hf : fnExists s fn = true) (hs : size = 4 ∨ size = 8) (ha : off % size = 0) :
    readBar s fn 2 off size = some (slice (off % 8) size (toLE 8 (msixLane s fn (off / 8 * 8)))) := by
  rcases hs with rfl | rfl <;> simp [readBar, hf, ha, readLegal, laneBytes]

/-! ### Lanes of the MSI-X table and the PBA (R46) -/

theorem msixLane_addr (h : n < nVectors fn) :
    msixLane s fn (16 * n) = (Tab.get (fun _ => (0 : Word64)) (getFunc s fn).msix.addr n).toNat := by
  have hn : 16 * n / 16 = n := by omega
  simp [msixLane, h, hn]

theorem msixLane_data (h : n < nVectors fn) :
    msixLane s fn (16 * n + 8) =
      (Tab.get (fun _ => (0 : Word32)) (getFunc s fn).msix.data n).toNat + b2n ((getFunc s fn).msix.mask.getLsbD n) * 2 ^ 32 := by
  have ht : 16 * n + 8 < 16 * nVectors fn := by omega
  have hn : (16 * n + 8) / 16 = n := by omega
  have hr : ¬ (16 * n + 8) % 16 < 8 := by omega
  simp only [msixLane, if_pos ht, hn, if_neg hr]

theorem msixLane_pba : msixLane s fn (pbaAt fn) = (getFunc s fn).msix.pba.toNat % 2 ^ 64 := by
  have ht : ¬ pbaAt fn < 16 * nVectors fn := by unfold pbaAt nVectors; split <;> omega
  have hp : pbaAt fn ≤ pbaAt fn ∧ pbaAt fn < pbaAt fn + nVectors fn / 8 := by unfold nVectors; split <;> omega
  rw [msixLane, if_neg ht, if_pos hp, Nat.sub_self, Nat.mul_zero, Nat.pow_zero, Nat.div_one]

theorem readBar_msix_addr (hf : fnExists s fn = true) (h : n < nVectors fn) :
    readBar s fn 2 (16 * n) 8 = some (toLE 8 (Tab.get (fun _ => (0 : Word64)) (getFunc s fn).msix.addr n).toNat) := by
  have hl : 16 * n / 8 * 8 = 16 * n := by omega
  have ho : 16 * n % 8 = 0 := by omega
  rw [readBar_bar2 hf (.inr rfl) ho, hl, ho, msixLane_addr h, slice_toLE]

theorem readBar_msix_data (hf : fnExists s fn = true) (h : n < nVectors fn) :
    readBar s fn 2 (16 * n + 8) 4 = some (toLE 4 (Tab.get (fun _ => (0 : Word32)) (getFunc s fn).msix.data n).toNat) := by
  have hl : (16 * n + 8) / 8 * 8 = 16 * n + 8 := by omega
  have ho : (16 * n + 8) % 8 = 0 := by omega
  rw [readBar_bar2 hf (.inl rfl) (by omega), hl, ho, msixLane_data h, slice_low _ _ (BitVec.isLt _)]

theorem readBar_msix_mask (hf : fnExists s fn = true) (h : n < nVectors fn) :
    readBar s fn 2 (16 * n + 12) 4 = some (toLE 4 (b2n ((getFunc s fn).msix.mask.getLsbD n))) := by
  have hl : (16 * n + 12) / 8 * 8 = 16 * n + 8 := by omega
  have ho : (16 * n + 12) % 8 = 4 := by omega
  rw [readBar_bar2 hf (.inl rfl) (by omega), hl, ho, msixLane_data h, slice_high _ _ (BitVec.isLt _)]

theorem readBar_pba (hf : fnExists s fn = true) :
    readBar s fn 2 (pbaAt fn) 8 = some (toLE 8 ((getFunc s fn).msix.pba.toNat % 2 ^ 64)) := by
  have ho : pbaAt fn % 8 = 0 := by unfold pbaAt; split <;> rfl
  have hl : pbaAt fn / 8 * 8 = pbaAt fn := by omega
  rw [readBar_bar2 hf (.inr rfl) ho, hl, ho, msixLane_pba, slice_toLE]

theorem readBar_bar0_lane (hf : fnExists s fn = true) (h : readLegal fn off 8 = true) (ha : off % 8 = 0) :
    readBar s fn 0 off 8 = some (toLE 8 (if fn = 0 then readPf s off else readVf s fn off).toNat) := by
  have hl : off / 8 * 8 = off := by omega
  rw [readBar_bar0 hf h, hl, ha, slice_toLE, bar0Lane]

end

/-- Settles O59: each clause is the lane its read is cut from. -/
theorem endpointReads : Obligations.EndpointReads := by
  intro s
  refine ⟨fun fn h => ⟨readCfg_absent h, fun n off size => readBar_absent (.inl h)⟩,
    fun fn n off size h0 h2 => readBar_absent (.inr ⟨h0, h2⟩), fun fn h => ?_, fun n off _ h hl ha => readBar_bar0_lane h hl ha⟩
  exact ⟨readCfg_present h .vendorId, readCfg_present h .classCode, readCfg_present h .deviceId,
    fun off size hl => readBar_bar0_illegal h hl,
    fun n hn => ⟨readBar_msix_addr h hn, readBar_msix_data h hn, readBar_msix_mask h hn⟩, readBar_pba h⟩

end Sys2Proof.Laws
end

section
/-!
PROOF of O60.  First the register writes, a lemma for each target or register of the statement; then the resets, where the one
fact that is not read off `fundamentalReset` is what `cutBlow` may change.
-/
namespace Sys2Proof.Laws
open Sys2Proof.Machine

/-! ### Fields of a lane -/

theorem lbit_toNat {w : Nat} (v : BitVec w) (i : Nat) : lbit v.toNat i = v.getLsbD i := by
  rw [lbit, BitVec.getLsbD, Nat.testBit_eq_decide_div_mod_eq]

/-- A field as wide as its register: a value in the range is taken, any other leaves what was there. -/
theorem toNat_rwField_inRange {w : Nat} (old : BitVec w) (lo hi v : Nat) (hv : v < 2 ^ w) :
    (rwField old v (inRange lo hi)).toNat = if lo ≤ v ∧ v ≤ hi then v else old.toNat := by
  by_cases h : lo ≤ v ∧ v ≤ hi
  · simp [rwField, inRange, h, Nat.mod_eq_of_lt hv]
  · have hr : inRange lo hi v = false := by simpa [inRange] using h
    simp [rwField, hr, h]

theorem laneOf_eight (off old : Nat) (v : Word64) : laneOf off 8 v old = { v := v.toNat, w := v.toNat, low := true } := rfl

/-! ### Which writes do nothing (R42, log 48) -/

section
variable {s : State} {fn off n : Nat} (v : Word64)

theorem write_pf_illegal (h : writeLegal off n = false) : exec (.registerWrite fn (.pf off) n v) s = .next s := by
  simp [exec, execRegisterWrite, h]

theorem write_msix_illegal (h : writeLegal off n = false) : exec (.registerWrite fn (.msix off) n v) s = .next s := by
  simp [exec, execRegisterWrite, h]

theorem write_fabric_illegal (c : Nat) (h : writeLegal off n = false) : exec (.registerWrite fn (.fabric c off) n v) s = .next s := by
  simp [exec, execRegisterWrite, h]

theorem write_pf_absent (h : fnExists s fn = false) : exec (.registerWrite fn (.pf off) n v) s = .next s := by
  simp [exec, execRegisterWrite, h]

theorem writeMsix_absent (h : fnExists s fn = false) : writeMsix fn off n v s = s := if_pos (.inr h)

theorem write_msix_absent (h : fnExists s fn = false) : exec (.registerWrite fn (.msix off) n v) s = .next s := by
  simp [exec, execRegisterWrite, writeMsix_absent v h]

/-- The targets in configuration space. -/
def cfgTarget : Target → Bool
  | .pf _ => false
  | .msix _ => false
  | .fabric _ _ => false
  | _ => true

theorem write_cfg_absent {r : Target} (hr : cfgTarget r = true) (h : fnExists s fn = false) :
    exec (.registerWrite fn r n v) s = .next s := by
  cases r
  case pf => cases hr
  case msix => cases hr
  case fabric => cases hr
  all_goals simp [exec, execRegisterWrite, h]

/-! ### Registers of PF BAR0 (R7, R8, R27, R473, R496) -/

theorem fnExists_zero_of_pfOpen (h : pfOpen s = true) : fnExists s 0 = true := by
  have ⟨hl, _⟩ := (Bool.and_eq_true _ _).mp h
  simp [fnExists, hl]

theorem stageOpen_of_pfOpen (h : pfOpen s = true) : stageOpen s = true := ((Bool.and_eq_true _ _).mp h).2

/-- An eight-byte write the PF takes is the write of its lane. -/
theorem write_pf_lane (hf : fnExists s 0 = true) (ha : off % 8 = 0) :
    exec (.registerWrite 0 (.pf off) 8 v) s = .next (writePfLane off { v := v.toNat, w := v.toNat, low := true } s) := by
  have hl : writeLegal off 8 = true := by simp [writeLegal, ha]
  have ho : off / 8 * 8 = off := by omega
  simp [exec, execRegisterWrite, hl, hf, writePf, ho, laneOf_eight]

theorem writePfLane_queue (h : stageOpen s = true) (hlo : 0x1000000 ≤ off) (hhi : off < 0x1800000) (l : LaneWrite) :
    writePfLane off l s = writePfQueue ((off - 0x1000000) / 0x1000) (off % 0x1000) l s := by
  have hb {b : Nat} (hb : b ≤ 0x1000000) : ¬ off < b := by omega
  simp [writePfLane, h, hb, hlo, hhi]

theorem writePfQueue_queErr (q : Nat) (l : LaneWrite) :
    writePfQueue q 0x50 l s = updQp q (fun x => { x with err := w1c x.err l.w }) s := by
  simp [writePfQueue, writeQueue]

theorem writePfLane_queErr (h : stageOpen s = true) {q : Nat} (hq : q < 2048) (l : LaneWrite) :
    writePfLane (0x1000000 + q * 0x1000 + 0x50) l s = updQp q (fun x => { x with err := w1c x.err l.w }) s := by
  have hd : (0x1000000 + q * 0x1000 + 0x50 - 0x1000000) / 0x1000 = q := by omega
  have hm : (0x1000000 + q * 0x1000 + 0x50) % 0x1000 = 0x50 := by omega
  rw [writePfLane_queue h (by omega) (by omega), hd, hm, writePfQueue_queErr]

theorem writePfLane_trp (h : stageOpen s = true) (l : LaneWrite) : writePfLane 0x600000 l s = writeTrp 0x600000 l s := by
  simp [writePfLane, h]

theorem writePfLane_calCfg (h : stageOpen s = true) (l : LaneWrite) : writePfLane 0x400008 l s = writeCal 0x400008 l s := by
  simp [writePfLane, h]

theorem write_queErr (h : pfOpen s = true) {q : Nat} (hq : q < 2048) :
    exec (.registerWrite 0 (.pf (0x1000000 + q * 0x1000 + 0x50)) 8 v) s =
      .next (updQp q (fun x => { x with err := w1c x.err v.toNat }) s) := by
  rw [write_pf_lane v (fnExists_zero_of_pfOpen h) (by omega), writePfLane_queErr (stageOpen_of_pfOpen h) hq]

theorem writeTrp_locked (h : s.trp.lock = true) (l : LaneWrite) : writeTrp 0x600000 l s = s := by simp [writeTrp, updTrp, h]

theorem write_trp_locked (h : s.trp.lock = true) : exec (.registerWrite 0 (.pf 0x600000) 8 v) s = .next s := by
  cases hf : fnExists s 0 with
  | false => exact write_pf_absent v hf
  | true =>
    rw [write_pf_lane v hf rfl]
    cases hs : stageOpen s with
    | false => simp [writePfLane, hs]
    | true => rw [writePfLane_trp hs, writeTrp_locked h]

theorem write_trp_unlocked (ho : pfOpen s = true) (h : s.trp.lock = false) :
    ∃ t, exec (.registerWrite 0 (.pf 0x600000) 8 v) s = .next t ∧ t.trp.lock = v.getLsbD 63 ∧
      t.trp.patrolEn = v.getLsbD 51 ∧ t.trp.hot = v.getLsbD 52 ∧
      t.trp.tDetect.toNat = (if 20 ≤ v.toNat % 2 ^ 17 ∧ v.toNat % 2 ^ 17 ≤ 100000 then v.toNat % 2 ^ 17 else s.trp.tDetect.toNat) := by
  refine ⟨_, by rw [write_pf_lane v (fnExists_zero_of_pfOpen ho) rfl, writePfLane_trp (stageOpen_of_pfOpen ho)], ?_⟩
  have hw : v.toNat % 2 ^ 17 < 2 ^ 17 := Nat.mod_lt _ (by decide)
  simpa [writeTrp, updTrp, h, lbit_toNat, lfld] using toNat_rwField_inRange s.trp.tDetect 20 100000 _ hw

theorem write_calCfg (ho : pfOpen s = true) :
    ∃ t, exec (.registerWrite 0 (.pf 0x400008) 8 v) s = .next t ∧ t.cal.mem = s.cal.mem ∧
      t.cal.staged.windowMs.toNat =
        (if 1 ≤ v.toNat % 2 ^ 22 ∧ v.toNat % 2 ^ 22 ≤ 3600000 then v.toNat % 2 ^ 22 else s.cal.staged.windowMs.toNat) := by
  refine ⟨_, by rw [write_pf_lane v (fnExists_zero_of_pfOpen ho) rfl, writePfLane_calCfg (stageOpen_of_pfOpen ho)], ?_⟩
  have hw : v.toNat % 2 ^ 22 < 2 ^ 22 := Nat.mod_lt _ (by decide)
  simpa [writeCal, stageCal, updCal, lfld] using toNat_rwField_inRange s.cal.staged.windowMs 1 3600000 _ hw

/-! ### Configuration space (R42, R46) -/

/-- MSI-X Message Control's two fields: Function Mask and MSI-X Enable. -/
def msixControl (s : State) (fn : Nat) : Bool × Bool := ((getFunc s fn).msix.fmask, (getFunc s fn).msix.enable)

theorem getFunc_emit (e : Emission) (s : State) (fn : Nat) : getFunc (emit e s) fn = getFunc s fn := rfl

theorem msixControl_sendPending (k : Nat) : msixControl (sendPending fn k s) fn = msixControl s fn := by
  unfold sendPending
  dsimp only
  split
  · simp [msixControl, getFunc_emit, getFunc_updFunc]
  · rfl

theorem msixControl_foldl_sendPending (ks : List Nat) :
    ∀ s : State, msixControl (ks.foldl (fun s k => sendPending fn k s) s) fn = msixControl s fn := by
  induction ks with
  | nil => intro s; rfl
  | cons k ks ih => intro s; rw [List.foldl_cons, ih, msixControl_sendPending]

theorem msixControl_writeMsixControl : msixControl (writeMsixControl fn v.toNat s) fn = (v.getLsbD 14, v.getLsbD 15) := by
  rw [writeMsixControl, msixControl_foldl_sendPending]
  simp [msixControl, getFunc_updFunc, lbit_toNat]

theorem write_command (h : fnExists s fn = true) :
    exec (.registerWrite fn .cfgCommand 4 v) s = .next (updFunc fn (fun f => { f with busMaster := v.getLsbD 2 }) s) := by
  simp [exec, execRegisterWrite, h, bitOf]

theorem write_msixControl (h : fnExists s fn = true) :
    ∃ t, exec (.registerWrite fn .cfgMsix 4 v) s = .next t ∧ (getFunc t fn).msix.fmask = v.getLsbD 14 ∧
      (getFunc t fn).msix.enable = v.getLsbD 15 := by
  refine ⟨writeMsixControl fn v.toNat s, by simp [exec, execRegisterWrite, h], ?_⟩
  exact Prod.mk.inj (msixControl_writeMsixControl v)

theorem write_vfEnable_on (h : fnExists s 0 = true) (hv : v.getLsbD 0 = true) :
    exec (.registerWrite 0 .cfgVfEnable 4 v) s = .next { s with vfEnable := true } := by
  simp [exec, execRegisterWrite, h, bitOf, hv, writeVfEnable]

theorem writeVfEnable_off : (writeVfEnable false s).vfEnable = false := by
  rw [writeVfEnable, if_neg (by decide)]
  split
  · rfl
  next h => simpa using h

theorem write_vfEnable_off (h : fnExists s 0 = true) (hv : v.getLsbD 0 = false) :
    ∃ t, exec (.registerWrite 0 .cfgVfEnable 4 v) s = .next t ∧ t.vfEnable = false :=
  ⟨writeVfEnable false s, by simp only [exec, execRegisterWrite, h, bitOf, hv, and_self, if_true], writeVfEnable_off⟩

theorem write_device2 (h : fnExists s 0 = true) : exec (.registerWrite 0 .cfgDevice2 4 v) s =
    .next (updFunc 0 (fun f => { f with dev := { f.dev with timeout := BitVec.ofNat 4 (v.toNat % 16) } }) s) := by
  simp [exec, execRegisterWrite, h, fld]

theorem write_device (h : fnExists s 0 = true) : ∃ t, exec (.registerWrite 0 .cfgDevice 4 v) s = .next t ∧
    (getFunc t 0).dev.relaxed = v.getLsbD 4 ∧ (getFunc t 0).dev.noSnoop = v.getLsbD 11 ∧
    t.pcie.flrReq = (s.pcie.flrReq || v.getLsbD 15) := by
  refine ⟨updFunc 0 (fun f => { f with dev := writeDevCtl v.toNat f.dev })
    (updPcie (fun p => { p with flrReq := p.flrReq || v.getLsbD 15 }) s), by simp [exec, execRegisterWrite, h], ?_⟩
  rw [getFunc_updFunc, if_pos rfl]
  exact ⟨lbit_toNat v 4, lbit_toNat v 11, rfl⟩

theorem toNat_barBase (bits : Nat) : (barBase bits v).toNat = v.toNat / 2 ^ bits * 2 ^ bits := by
  have hle : v.toNat / 2 ^ bits * 2 ^ bits ≤ v.toNat := Nat.div_mul_le_self ..
  rw [barBase, BitVec.toNat_ofNat, Nat.mod_eq_of_lt (by have := v.isLt; omega)]

theorem write_bar0 (h : fnExists s 0 = true) : ∃ t, exec (.registerWrite 0 (.cfgBar 0) 8 v) s = .next t ∧
    (getFunc t 0).bar0.toNat = v.toNat / 2 ^ 26 * 2 ^ 26 := by
  refine ⟨updFunc 0 (fun f => { f with bar0 := barBase 26 v }) s, by simp [exec, execRegisterWrite, h, writePfCfg, pfBarBits], ?_⟩
  rw [getFunc_updFunc, if_pos rfl]
  exact toNat_barBase v 26

theorem write_bar2 (h : fnExists s 0 = true) : ∃ t, exec (.registerWrite 0 (.cfgBar 2) 8 v) s = .next t ∧
    (getFunc t 0).bar2.toNat = v.toNat / 2 ^ 16 * 2 ^ 16 := by
  refine ⟨updFunc 0 (fun f => { f with bar2 := barBase 16 v }) s, by simp [exec, execRegisterWrite, h, writePfCfg, pfBarBits], ?_⟩
  rw [getFunc_updFunc, if_pos rfl]
  exact toNat_barBase v 16

theorem write_numVfs (h : fnExists s 0 = true) (hv : s.vfEnable = false) :
    exec (.registerWrite 0 .cfgNumVfs 4 v) s = .next { s with pcie := { s.pcie with numVfs := v.setWidth 8 } } := by
  have hn : BitVec.ofNat 8 (fld v 7 0) = v.setWidth 8 := BitVec.eq_of_toNat_eq (by simp [fld])
  simp [exec, execRegisterWrite, h, writePfCfg, hv, updPcie, hn]

theorem write_link (h : fnExists s 0 = true) :
    exec (.registerWrite 0 .cfgLink 4 v) s = .next { s with pcie := { s.pcie with aspmL1 := v.getLsbD 1 } } := by
  simp [exec, execRegisterWrite, h, writePfCfg, updPcie, bitOf]

theorem clearUncorrectable_status (a : AerLog) :
    (clearUncorrectable v a).unsupported = (a.unsupported && !v.getLsbD 20) ∧
    (clearUncorrectable v a).internal = (a.internal && !v.getLsbD 22) := by
  unfold clearUncorrectable
  dsimp only
  split <;> exact ⟨rfl, rfl⟩

theorem write_aerUncorrectable (h : fnExists s fn = true) : ∃ t, exec (.registerWrite fn .cfgAerUncorrectable 4 v) s = .next t ∧
    (getFunc t fn).aer.unsupported = ((getFunc s fn).aer.unsupported && !v.getLsbD 20) ∧
    (getFunc t fn).aer.internal = ((getFunc s fn).aer.internal && !v.getLsbD 22) := by
  refine ⟨updFunc fn (fun f => { f with aer := clearUncorrectable v f.aer }) s, by simp [exec, execRegisterWrite, h], ?_⟩
  rw [getFunc_updFunc, if_pos rfl]
  exact clearUncorrectable_status v _

/-! ### Control fabric (R388 to R390) -/

theorem write_fabric (c : Nat) (h : writeLegal off n = true) : exec (.registerWrite fn (.fabric c off) n v) s =
    .next (if (gateAccess c false off n 1 s).1 then writeFabric c off n v (gateAccess c false off n 1 s).2
      else (gateAccess c false off n 1 s).2) := by
  simp [exec, execRegisterWrite, h]

end

/-! ### Resets (R319, R345, R349, R408, R489, R516) -/

/-- Of a bit being blown when the power is lost: only the fuses and the count of free values drawn may change. -/
theorem cutBlow_frame (s : State) : ∃ fuses freeCtr, cutBlow s = { s with fuses, freeCtr } := by
  unfold cutBlow
  split
  · exact ⟨_, _, rfl⟩
  · split
    · unfold blowSvn
      split <;> exact ⟨_, _, rfl⟩
    · exact ⟨_, _, rfl⟩

theorem cutBlow_of_no_blow {s : State} (h : s.items.find? svnBlows = none) : cutBlow s = s := by simp [cutBlow, h]

theorem fuses_blowSvn (n : Nat) (s : State) : (blowSvn n s).fuses =
    if thermo s.fuses.svn < n then { s.fuses with svn := setBit s.fuses.svn (thermo s.fuses.svn) } else s.fuses := by
  unfold blowSvn fuseSvn
  split <;> rfl

/-- What `cutBlow` leaves of the fuses depends on the commands, the free values drawn and the fuses. -/
theorem fuses_cutBlow_congr {s t : State} (hi : t.items = s.items) (hc : t.freeCtr = s.freeCtr) (hf : t.fuses = s.fuses) :
    (cutBlow t).fuses = (cutBlow s).fuses := by
  unfold cutBlow
  rw [hi, hc]
  split
  · exact hf
  · split
    · simp only [fuses_blowSvn, hf]
    · exact hf

/-- The vote reads the fuses alone. -/
theorem fuses_applyVote_congr {s t : State} (h : t.fuses = s.fuses) : (applyVote t).fuses = (applyVote s).fuses := by
  simp only [applyVote, h]

theorem fuses_fundamentalReset (s : State) : (fundamentalReset s).fuses = (applyVote s).fuses := fuses_applyVote_congr rfl

theorem fuses_powerOnReset (s : State) : (powerOnReset s).fuses = (applyVote (cutBlow s)).fuses :=
  (fuses_fundamentalReset _).trans (fuses_applyVote_congr rfl)

theorem fuses_batteryReset (s : State) : (batteryReset s).fuses = (applyVote (cutBlow s)).fuses :=
  (fuses_powerOnReset _).trans (fuses_applyVote_congr (fuses_cutBlow_congr rfl rfl rfl))

theorem cage_cutBlow (s : State) : (cutBlow s).cage = s.cage := by obtain ⟨_, _, h⟩ := cutBlow_frame s; rw [h]
theorem rtc_cutBlow (s : State) : (cutBlow s).rtc = s.rtc := by obtain ⟨_, _, h⟩ := cutBlow_frame s; rw [h]
theorem trp_cutBlow (s : State) : (cutBlow s).trp = s.trp := by obtain ⟨_, _, h⟩ := cutBlow_frame s; rw [h]
theorem power_cutBlow (s : State) : (cutBlow s).power = s.power := by obtain ⟨_, _, h⟩ := cutBlow_frame s; rw [h]

theorem cage_powerOnReset (s : State) : (powerOnReset s).cage = s.cage := cage_cutBlow s
theorem rtc_powerOnReset (s : State) : (powerOnReset s).rtc = s.rtc := rtc_cutBlow s
theorem paired_powerOnReset (s : State) : (powerOnReset s).trp.paired = s.trp.paired := by
  change (cutBlow s).trp.paired = _
  rw [trp_cutBlow]
theorem sysPower_powerOnReset (s : State) : (powerOnReset s).power.seq.sysPower = s.power.seq.sysPower := by
  change (cutBlow s).power.seq.sysPower = _
  rw [power_cutBlow]

/-- Settles O60: the register writes by the lemma of each target, and the resets from the frame of `cutBlow`. -/
theorem registersAndResets : Obligations.RegistersAndResets := by
  refine ⟨fun s v => ⟨?_, ?_, ?_, ?_, ?_, ?_, ?_, ?_, ?_, ?_⟩, fun s => ⟨?_, ?_, ?_, ?_⟩⟩
  · exact fun fn off n h => ⟨write_pf_illegal v h, write_msix_illegal v h, fun c => write_fabric_illegal v c h⟩
  · refine fun fn h => ⟨fun off n => ⟨write_pf_absent v h, write_msix_absent v h⟩, fun r hr => write_cfg_absent v ?_ h⟩
    revert r; decide
  · exact fun h q hq => write_queErr v h hq
  · exact write_trp_locked v
  · exact write_trp_unlocked v
  · exact write_calCfg v
  · exact fun fn h => ⟨write_command v h, write_msixControl v h⟩
  · exact fun h => ⟨write_vfEnable_on v h, write_vfEnable_off v h, write_device2 v h, write_device v h, write_bar0 v h,
      write_bar2 v h, write_numVfs v h, write_link v h⟩
  · exact fun fn h => write_aerUncorrectable v h
  · refine fun c a n fn h => ⟨fun hg => ?_, fun hg => ?_⟩ <;> rw [write_fabric v c h, hg] <;> rfl
  · exact fun h => by rw [cutBlow_of_no_blow h]
  · exact ⟨fundamentalReset s, rfl, rfl, rfl, rfl, rfl, rfl, rfl, rfl, rfl, rfl, rfl, fuses_fundamentalReset s, rfl, rfl, rfl, rfl, rfl,
      rfl, rfl, rfl, rfl⟩
  · exact ⟨powerOnReset s, rfl, rfl, rfl, rfl, rfl, fuses_powerOnReset s, cage_powerOnReset s, rtc_powerOnReset s, rfl, rfl, rfl, rfl,
      rfl⟩
  · exact ⟨batteryReset s, rfl, cage_powerOnReset _, rtc_powerOnReset _, rfl, rfl, fuses_batteryReset s, paired_powerOnReset _,
      sysPower_powerOnReset _⟩

end Sys2Proof.Laws
end

section
/-!
PROOF of O41.  A turn: taking a head command writes what the delivery of a completion writes (`Delivered`), and a turn beyond
that the parity record of R132, so it keeps the seats and the Cage.  An epoch: the writes that are due are all or none of those
staged, and what follows their application leaves the Ticket Booth alone.
-/
namespace Sys2Proof.Laws
open Sys2Proof.Machine

/-! ### Taking a head command (R102, R118, R135, R136) -/

/-- An event observed on the control die goes to the trace. -/
theorem delivered_traceRaw (ty p b7 fl fl16 u n s) : Delivered s (traceRaw ty p b7 fl fl16 u n 7 s) := by
  unfold traceRaw
  exact .ite _ ((delivered_traceMark s).trans (delivered_traceWrite ..)) (.refl _)

theorem delivered_reclaim (q key s) : Delivered s (reclaim q key s) := by
  unfold reclaim
  extract_lets p f c s1 s2
  have h1 : Delivered s s1 := delivered_traceRaw ..
  have h2 : Delivered s1 s2 := delivered_calEvent ..
  exact (h1.trans h2).trans ⟨rfl, id⟩

theorem delivered_allocCtx {q p f ordered serial s t} (h : allocCtx q p f ordered serial s = some t) : Delivered s t := by
  have hreclaimed : ∀ {o : Option Nat} {g : FlowCtx → FlowCtx},
      o.map (fun k => updFlow p f g (reclaim q k s)) = some t → Delivered s t := fun ho => by
    obtain ⟨k, -, rfl⟩ := Option.map_eq_some_iff.1 ho
    exact (delivered_reclaim ..).trans (delivered_updFlow ..)
  simp only [allocCtx] at h
  split at h
  · cases h; exact .refl _
  · split at h
    · exact hreclaimed h
    · split at h
      · cases h; exact delivered_updFlow ..
      · exact hreclaimed h

theorem delivered_jug (j : Juggler) (s : State) : Delivered s { s with jug := j } := ⟨rfl, id⟩

theorem delivered_rslotWrite (q n bs s) : Delivered s (rslotWrite q n bs s) := by
  unfold rslotWrite
  exact delivered_updQp ..

theorem delivered_popHead (q h i s) : Delivered s (popHead q h i s) := by
  unfold popHead
  extract_lets s1
  have h1 : Delivered s s1 := delivered_touchQp ..
  split
  · exact h1.trans (delivered_rslotWrite ..)
  · exact h1

theorem delivered_takeCmd (q p h seqd row status s) : Delivered s (takeCmd q p h seqd row status s) := by
  unfold takeCmd
  extract_lets f inFlow seq i s1 _ s3 s4 s5 s6 _ s7
  have h1 : Delivered s s1 := .ite _ (delivered_updFlow ..) (.refl _)
  have h2 : Delivered s1 { s1 with items := s1.items ++ [i], jug := { s1.jug with nextId := s1.jug.nextId + 1 } } := ⟨rfl, id⟩
  have h3 : Delivered s1 s3 := h2.trans (delivered_popHead ..)
  have h5 : Delivered s3 s5 := (delivered_updPart ..).trans (delivered_calCount 0 p s4)
  have h6 : Delivered s5 s6 := by
    unfold s6
    split
    · exact delivered_traceItem ..
    · exact .refl _
  have h7 : Delivered s6 s7 := .ite _ ((delivered_jug ..).trans (delivered_calEvent ..)) (.refl _)
  have h := (((h1.trans h3).trans h5).trans h6).trans h7
  split
  · exact h.trans (delivered_finish ..)
  · exact h

/-- A head command's decision, of which a command that waits leaves at most a count of waits for a context. -/
theorem delivered_decideHead (q p h s) : Delivered s (decideHead q p h s).1 := by
  unfold decideHead
  extract_lets f o sr _ withCtx
  have hctx : ∀ seqd (k : State → State), (∀ t, Delivered t (k t)) → Delivered s (withCtx seqd k).1 := by
    intro seqd k hk
    unfold withCtx
    split
    · split
      · next ha => exact (delivered_allocCtx ha).trans (hk _)
      · exact delivered_jug ..
    · exact hk s
  split
  · exact .refl _
  · split
    · exact .refl _
    · exact hctx _ _ fun t => delivered_takeCmd ..
    · exact hctx _ _ fun t => (delivered_updPart ..).trans (delivered_takeCmd ..)

/-! ### A turn (R116, R119) -/

/-- What a turn leaves alone once its partition is chosen: the rotation, the seats and the Cage. -/
structure SameTurn (s t : State) : Prop where
  lastP : t.booth.lastP = s.booth.lastP
  seats : t.seats = s.seats
  cage  : t.cage = s.cage

theorem SameTurn.refl (s : State) : SameTurn s s := ⟨rfl, rfl, rfl⟩

theorem SameTurn.trans {s t u : State} (h : SameTurn s t) (g : SameTurn t u) : SameTurn s u :=
  ⟨g.lastP.trans h.lastP, g.seats.trans h.seats, g.cage.trans h.cage⟩

theorem Delivered.sameTurn {s t : State} (h : Delivered s t) : SameTurn s t := by
  rw [h.frame]
  exact ⟨rfl, rfl, rfl⟩

theorem sameTurn_recordParity (q n s) : SameTurn s (recordParity q n s) := by
  unfold recordParity
  split <;> exact ⟨rfl, rfl, rfl⟩

theorem sameTurn_settlePar (q par s) : SameTurn s (settlePar q par s).1 := by
  unfold settlePar
  extract_lets m s1
  have h : SameTurn s s1 := (delivered_touchQp ..).sameTurn.trans (sameTurn_recordParity ..)
  dsimp only
  split
  · exact h.trans (delivered_qpNotice ..).sameTurn
  · exact h

theorem sameTurn_readHead (q par s) : SameTurn s (readHead q par s).1 := by
  have hread : ∀ n x t, SameTurn t (recordParity q n (setQp q x t)) := fun n x t =>
    (delivered_setQp q x t).sameTurn.trans (sameTurn_recordParity ..)
  unfold readHead
  dsimp only
  split
  · exact .refl _
  · split
    · exact hread ..
    · split
      · exact hread ..
      · exact (hread ..).trans (hread ..)

theorem sameTurn_turnLoop (n p par s) : SameTurn s (turnLoop n p par s) := by
  induction n generalizing par s with
  | zero => exact .refl _
  | succ n ih =>
    unfold turnLoop
    split
    · exact .refl _
    · split
      · exact .refl _
      · next q _ =>
        dsimp only
        have hread := sameTurn_readHead q par s
        split
        · exact hread
        · next h _ =>
          have hdecided := hread.trans (delivered_decideHead q p h (readHead q par s).1).sameTurn
          split
          · exact hread
          · split
            · exact hdecided
            · exact (hdecided.trans (sameTurn_settlePar ..)).trans (ih ..)

/-- The state as a turn begins: the next partition is its own. -/
def turnBegun (s : State) : State := { s with booth := { s.booth with lastP := (s.booth.lastP + 1) % 256 } }

section
variable (par : Bytes) {s : State}

theorem ticketTurn_eligible (h : eligible (turnBegun s) ((s.booth.lastP + 1) % 256) = true) : exec (.ticketTurn par) s =
    let p := (s.booth.lastP + 1) % 256
    let w := (share s p).weight.toNat
    .next (turnLoop (2 * w + 1) p par (updPart p (fun x => { x with deficit := min (x.deficit + w) (2 * w + 1) }) (turnBegun s))) :=
  if_pos h

theorem ticketTurn_noArrived (h : eligible (turnBegun s) ((s.booth.lastP + 1) % 256) = false)
    (ha : noArrived (turnBegun s) ((s.booth.lastP + 1) % 256) = true) : exec (.ticketTurn par) s =
    .next (updPart ((s.booth.lastP + 1) % 256) (fun x => { x with deficit := 0 }) (turnBegun s)) :=
  (if_neg (Bool.not_eq_true _ ▸ h)).trans (if_pos ha)

theorem ticketTurn_skips (h : eligible (turnBegun s) ((s.booth.lastP + 1) % 256) = false)
    (ha : noArrived (turnBegun s) ((s.booth.lastP + 1) % 256) = false) : exec (.ticketTurn par) s = .next (turnBegun s) :=
  (if_neg (Bool.not_eq_true _ ▸ h)).trans (if_neg (Bool.not_eq_true _ ▸ ha))

/-- A turn keeps what `SameTurn` names of the state it begins with. -/
theorem ticketTurn_sameTurn (s : State) : ∃ t, exec (.ticketTurn par) s = .next t ∧ SameTurn (turnBegun s) t := by
  cases h : eligible (turnBegun s) ((s.booth.lastP + 1) % 256) with
  | true => exact ⟨_, ticketTurn_eligible par h, (delivered_updPart ..).sameTurn.trans (sameTurn_turnLoop ..)⟩
  | false =>
    cases ha : noArrived (turnBegun s) ((s.booth.lastP + 1) % 256) with
    | true => exact ⟨_, ticketTurn_noArrived par h ha, (delivered_updPart ..).sameTurn⟩
    | false => exact ⟨_, ticketTurn_skips par h ha, .refl _⟩

end

/-! ### Buckets and staged changes (R117, R122, R128, R461) -/

/-- With one partition's share registers set, a microsecond credits that partition alone. -/
theorem bucketCredit_one {s : State} {p : Nat} {c : ShareCfg} (h : s.booth.active.part = [(p, c)]) :
    exec .bucketCredit s = .next (updPart p (creditPart c) s) := by
  change execBucketCredit s = _
  rw [execBucketCredit, h]
  rfl

theorem creditPart_byte_limited {c : ShareCfg} (x : Part) (h : c.byteRate ≠ 0) :
    (creditPart c x).byteTokens = min (c.byteDepth.toNat * 1024) (x.byteTokens + c.byteRate.toNat) := if_neg h

theorem creditPart_byte_unlimited {c : ShareCfg} (x : Part) (h : c.byteRate = 0) : (creditPart c x).byteTokens = x.byteTokens :=
  if_pos h

theorem creditPart_cmd_limited {c : ShareCfg} (x : Part) (h : c.cmdRate ≠ 0) :
    (creditPart c x).cmdTokens = min c.cmdDepth.toNat (x.cmdTokens + (x.cmdFrac + c.cmdRate.toNat * 100) / 1000000) := if_neg h

theorem creditPart_cmd_unlimited {c : ShareCfg} (x : Part) (h : c.cmdRate = 0) : (creditPart c x).cmdTokens = x.cmdTokens :=
  if_pos h

/-- Without a standby a written change is staged, and no write waits for an acknowledgement. -/
theorem shareChangeWrite_staged {s : State} {off : Nat} {v : Word64} {h : Shares} (ho : pfOpen s = true) (hm : mirrors s = false)
    (ha : applyShare (nTroupes s.part.variant) off v s.booth.staged = some h) : exec (.shareChangeWrite off v) s =
    .next { s with booth := { s.booth with
      staged := h, writes := s.booth.writes ++ [{ at_ := s.time.time64, off := off, value := v }] } } := by
  change execShareChangeWrite off v s = _
  have hm' : mirrors { s with booth := { s.booth with staged := h } } = false := hm
  simp only [execShareChangeWrite, whenOpen, ho, ha, hm', Bool.false_eq_true, false_and, if_true, if_false]

/-! ### An epoch (R122, R123) -/

/-- While HOLD is set no write is due. -/
theorem splitWrites_hold {b : Booth} (t : Nat) (h : b.hold = true) (l : List ShareWrite) : splitWrites b t l = ([], l) := by
  induction l with
  | nil => rfl
  | cons w r ih => simp [splitWrites, ih, h]

/-- With none held, every write accepted 200 ns before is due. -/
theorem splitWrites_due {b : Booth} {t : Nat} (h : b.hold = false) (hc : b.holdCleared.toNat + 200 ≤ t)
    (hheld : ∀ w ∈ b.writes, w.held = none) {l : List ShareWrite} (hl : ∀ w ∈ l, w.held = none ∧ w.at_.toNat + 200 ≤ t) :
    splitWrites b t l = (l, []) := by
  have hany : ∀ w : ShareWrite, (b.writes.any fun v =>
      v.held.isSome && decide (v.off = w.off) && decide (v.at_.toNat ≤ w.at_.toNat)) = false := fun w =>
    List.any_eq_false.2 fun v hv => by simp [hheld v hv]
  induction l with
  | nil => rfl
  | cons w r ih =>
    obtain ⟨hw, hat⟩ := hl w List.mem_cons_self
    simp only [splitWrites, ih fun v hv => hl v (List.mem_cons_of_mem w hv), hany]
    simp [h, hc, hw, hat]

theorem Delivered.booth {s t : State} (h : Delivered s t) : t.booth = s.booth := by rw [h.frame]

theorem booth_fold {α : Type} (f : State → α → State) (h : ∀ s x, (f s x).booth = s.booth) (l : List α) (s : State) :
    (l.foldl f s).booth = s.booth := by
  induction l generalizing s with
  | nil => rfl
  | cons x r ih => rw [List.foldl_cons, ih, h]

@[simp] theorem booth_pwrEvent (b s) : (pwrEvent b s).booth = s.booth := by
  unfold pwrEvent
  split
  · rfl
  · exact (delivered_vec0 ..).booth

@[simp] theorem booth_noteReady (old s) : (noteReady old s).booth = s.booth := by
  unfold noteReady
  extract_lets s1
  have h : Delivered s s1 :=
    delivered_fold _ (fun _ _ => .ite _ (.refl _) ((delivered_vec0 ..).trans (delivered_calEvent ..))) _ _
  split
  · exact h.booth
  · rw [booth_pwrEvent, h.booth]

@[simp] theorem booth_enterPs (n s) : (enterPs n s).booth = s.booth := by
  unfold enterPs
  dsimp only
  split <;> simp

@[simp] theorem booth_startWake (d s) : (startWake d s).booth = s.booth := rfl

@[simp] theorem booth_wakeAll (s) : (wakeAll s).booth = s.booth := 
  booth_fold (fun s d => startWake d s) (fun _ _ => rfl) _ s

@[simp] theorem booth_startUngate (t s) : (startUngate t s).booth = s.booth := by
  unfold startUngate
  split <;> rfl

@[simp] theorem booth_regate (s) : (regate s).booth = s.booth :=
  booth_fold (fun s t => if gateAllowed s t then s else startUngate t s) (fun s t => by split <;> simp) _ s

@[simp] theorem booth_sendLtr (s) : (sendLtr s).booth = s.booth := by
  unfold sendLtr
  extract_lets b moved
  clear_value moved
  split <;> rfl

/-- The power manager's reselection leaves the Ticket Booth alone. -/
@[simp] theorem booth_reselect (s) : (reselect s).booth = s.booth := by
  unfold reselect
  extract_lets t s1 n s2
  have h1 : s1.booth = s.booth := booth_sendLtr _
  have h2 : s2.booth = s1.booth := by
    unfold s2
    split
    · rfl
    · split
      · simp
      · split <;> simp
  rw [booth_regate, h2, h1]

theorem delivered_refreshPause (p s) : Delivered s (refreshPause p s) := by
  unfold refreshPause
  exact .ite _ (.refl _) ((delivered_updPart ..).trans (delivered_vec0 ..))

theorem delivered_refreshPauses (s) : Delivered s (refreshPauses s) := delivered_fold _ (fun _ _ => delivered_refreshPause ..) _ _

theorem delivered_remapItems (s) : Delivered s (remapItems s) := delivered_fold _ (fun _ _ => delivered_updItem ..) _ _

/-- The Ticket Booth as the writes that are due have been applied to it. -/
theorem booth_applyShares (due rest s) : (applyShares due rest s).booth = { s.booth with
    active := due.foldl (fun h w => (applyShare (nTroupes s.part.variant) w.off w.value h).getD h) s.booth.active
    writes := rest, appliedEpoch := BitVec.ofNat 32 (now s / 10000) } := by
  unfold applyShares
  extract_lets old act _ s1 s2
  have h2 : Delivered s1 s2 := delivered_fold _ (fun _ _ => .ite _ (.refl _) (delivered_updPart ..)) _ _
  exact ((h2.trans (delivered_remapItems s2)).trans (delivered_refreshPauses _)).booth

theorem epochApply_between {s : State} (h : now s % 10000 ≠ 0) : exec .epochApply s = .next s := if_pos h

/-- At an epoch with no write due, installs alone take effect. -/
theorem epochApply_none {s : State} {rest : List ShareWrite} (h : now s % 10000 = 0)
    (hs : splitWrites s.booth (now s) s.booth.writes = ([], rest)) : exec .epochApply s = .next (reselect (applyRoutines s)) := by
  change execEpochApply s = _
  simp [execEpochApply, h, hs]

theorem epochApply_due {s : State} {due rest : List ShareWrite} (h : now s % 10000 = 0)
    (hs : splitWrites s.booth (now s) s.booth.writes = (due, rest)) (hd : due ≠ []) :
    exec .epochApply s = .next (noteReady s (reselect (applyShares due rest (applyRoutines s)))) := by
  change execEpochApply s = _
  simp [execEpochApply, h, hs, hd]

/-- Settles O41: a turn by `ticketTurn_sameTurn` and the equation of each case, a bucket by those of `creditPart`, an epoch by
what `splitWrites` answers and `booth_applyShares`. -/
theorem ticketBooth : Obligations.TicketBooth := by
  refine ⟨fun s par => ⟨?_, ticketTurn_eligible par, ticketTurn_noArrived par, ticketTurn_skips par⟩,
    fun s => ⟨fun p c h => ?_, fun _ _ _ => shareChangeWrite_staged, epochApply_between, fun h hh => ?_,
      fun h hh hc hw hne => ?_⟩⟩
  · obtain ⟨t, ht, h⟩ := ticketTurn_sameTurn par s
    exact ⟨t, ht, h.lastP, h.seats, h.cage⟩
  · refine ⟨_, bucketCredit_one h, ?_⟩
    simp only [getPart_updPart, if_true]
    exact ⟨creditPart_byte_limited _, creditPart_byte_unlimited _, creditPart_cmd_unlimited _, creditPart_cmd_limited _,
      fun q hq => if_neg hq⟩
  · exact epochApply_none h (splitWrites_hold _ hh _)
  · refine ⟨_, epochApply_due h (splitWrites_due hh hc (fun w m => (hw w m).1) hw) hne, ?_⟩
    rw [booth_noteReady, booth_reselect, booth_applyShares]
    exact ⟨rfl, rfl, rfl⟩

end Sys2Proof.Laws
end

section
/-!
PROOF of O44.  The decision trace's commands write the trace alone, or one die's FIFO; what an entry does to the trace depends on
the gate's answer, which the trace itself does not decide.  A refresh is a fold over the dies of the variant.
-/
namespace Sys2Proof.Laws
open Sys2Proof.Machine Sys2Proof.Safety

/-! ### A trace entry at the MEM gate (R159, R386, R394) -/

/-- Whether a gate passes an access does not depend on the decision trace. -/
theorem gateAccess_fst_withTrace (x : Trace) (c host a n t) (s : State) :
    (gateAccess c host a n t { s with trace := x }).1 = (gateAccess c host a n t s).1 := by
  have hd : ∀ g, gateDecision { s with trace := x } c g host a n t = gateDecision s c g host a n t := fun _ => rfl
  simp only [gateAccess, hd]
  cases gateOf host a with
  | none => rfl
  | some g =>
    dsimp only
    split
    · rfl
    · cases gateDecision s c g host a n t <;> rfl

/-- An entry that the gate denies, in a trace with room, is counted lost and changes nothing else of the trace (log 75). -/
theorem trace_traceWrite_denied {e : BitVec 128} {s : State} (hc : s.trace.count.toNat ≠ 65536)
    (hg : (gateAccess 8 false (0x1130000000 + 16 * s.trace.wrIndex.toNat) 16 1 s).1 = false) :
    (traceWrite e s).trace = { s.trace with lostCnt := satInc s.trace.lostCnt } := by
  have hk := gateAccess_keeps 8 false (0x1130000000 + 16 * s.trace.wrIndex.toNat) 16 1 s
  simp only at hk
  simp only [traceWrite, hc, false_and, if_false, hg, Bool.false_eq_true]
  rw [hk]

/-- An entry that the gate passes is stored, and nothing but the trace changes. -/
theorem traceWrite_passed {e : BitVec 128} {s : State}
    (hg : (gateAccess 8 false (0x1130000000 + 16 * s.trace.wrIndex.toNat) 16 1 s).1 = true) :
    traceWrite e s = { s with trace := traceStore e s.trace } := by
  unfold traceWrite
  split
  · rfl
  · simp only [hg, if_true, gateAccess_pass _ _ _ _ _ _ hg]

/-! ### TRC_CTL (R159, R169) -/

/-- The trace as a write of TRC_CTL leaves its two bits. -/
def trcWritten (v : Word32) (t : Trace) : Trace := { t with enable := v.getLsbD 0, wrap := v.getLsbD 1 }

/-- Capture is switched on: a MARKER is written, and its time kept. -/
theorem trcEnable_starts {s : State} {v : Word32} (ho : pfOpen s = true) (hv : v.getLsbD 0 = true) (he : s.trace.enable = false) :
    exec (.trcEnable v) s = .next
      (let u := traceWrite (markerEntry (now s)) { s with trace := trcWritten v s.trace }
       { u with trace := { u.trace with marker := now s / 2 ^ 40 } }) :=
  (if_neg (by simp [ho])).trans (if_pos ⟨hv, by simp [he]⟩)

/-- Any other write of TRC_CTL writes its two bits alone. -/
theorem trcEnable_writes {s : State} {v : Word32} (ho : pfOpen s = true) (h : v.getLsbD 0 = false ∨ s.trace.enable = true) :
    exec (.trcEnable v) s = .next { s with trace := trcWritten v s.trace } := by
  have hn : ¬ (v.getLsbD 0 = true ∧ ¬ s.trace.enable = true) := by
    rintro ⟨hv, he⟩
    rcases h with h | h
    · exact absurd hv (by rw [h]; decide)
    · exact he h
  exact (if_neg (by simp [ho])).trans (if_neg hn)

theorem trcEnable_denied {s : State} {v : Word32} (ho : pfOpen s = true) (hv : v.getLsbD 0 = true) (he : s.trace.enable = false)
    (hc : s.trace.count.toNat ≠ 65536)
    (hg : (gateAccess 8 false (0x1130000000 + 16 * s.trace.wrIndex.toNat) 16 1 s).1 = false) :
    ∃ t, exec (.trcEnable v) s = .next t ∧ t.trace = { s.trace with
      enable := true, wrap := v.getLsbD 1, lostCnt := satInc s.trace.lostCnt, marker := now s / 2 ^ 40 } := by
  refine ⟨_, trcEnable_starts ho hv he, ?_⟩
  dsimp only
  rw [trace_traceWrite_denied (s := { s with trace := trcWritten v s.trace }) hc ?_]
  · simp only [trcWritten, hv]
  · rw [gateAccess_fst_withTrace]; exact hg

theorem trcEnable_passed {s : State} {v : Word32} (ho : pfOpen s = true) (hv : v.getLsbD 0 = true) (he : s.trace.enable = false)
    (hg : (gateAccess 8 false (0x1130000000 + 16 * s.trace.wrIndex.toNat) 16 1 s).1 = true) :
    exec (.trcEnable v) s = .next { s with trace :=
      { traceStore (markerEntry (now s)) { s.trace with enable := true, wrap := v.getLsbD 1 } with marker := now s / 2 ^ 40 } } := by
  rw [trcEnable_starts ho hv he, traceWrite_passed (s := { s with trace := trcWritten v s.trace }) ?_]
  · simp only [trcWritten, hv]
  · rw [gateAccess_fst_withTrace]; exact hg

theorem trcClear_enabled {s : State} (he : s.trace.enable = true) : exec .trcClear s = .next s := if_pos (.inl he)

theorem trcClear_clears {s : State} (ho : pfOpen s = true) (he : s.trace.enable = false) :
    exec .trcClear s = .next { s with trace := { s.trace with
      mem := [], count := 0, full := false, wrapped := false, wrIndex := 0, lostCnt := 0 } } := by
  change execTrcClear s = _
  simp [execTrcClear, ho, he]

/-! ### Reads of the trace and of HOLD_PEAK (R167, R169) -/

theorem trcRdHiRead_open {s : State} (ho : pfOpen s = true) : exec .trcRdHiRead s = .next { s with
    readData := BitVec.ofNat 64 (traceShown s / 2 ^ 64)
    freeCtr := if keysGone s then s.freeCtr + 2 else s.freeCtr
    trace := { s.trace with rdIndex := s.trace.rdIndex + 1 } } := by
  change execTrcRdHiRead s = _
  simp [execTrcRdHiRead, ho]

theorem traceShown_kept {s : State} (h : keysGone s = false) :
    traceShown s = (Tab.get (fun _ => (0 : BitVec 128)) s.trace.mem s.trace.rdIndex.toNat).toNat := by
  simp [traceShown, h]

/-- A partition whose HOLD_PEAK has been read. -/
def peakRead (x : Part) : Part := { x with holdPeak := 0 }

@[simp] theorem getPart_withReadData (s : State) (v : Word64) (p : Nat) : getPart { s with readData := v } p = getPart s p := rfl

theorem holdPeakRead_open {s : State} {p : Nat} (ho : pfOpen s = true) (hp : p < 256) : exec (.holdPeakRead p) s =
    .next { updPart p peakRead s with readData := carPartStatus s p } :=
  if_neg (by simp [ho, hp])

/-! ### The mirror (R28) -/

/-- The refresh of one die, on the dies of `s`: its mirror where it is active. -/
def refreshDie (s t : State) (d : Nat) : State :=
  if dieState s d = .active then updDie d (fun x => { x with mirror := refreshed s d }) t else t

theorem mirrorRefresh_fold (s : State) :
    exec .mirrorRefresh s = .next ((List.range (nDies s.part.variant)).foldl (refreshDie s) s) := rfl

theorem refreshDie_dies (s t : State) (d : Nat) : ∃ x, refreshDie s t d = { t with dies := x } := by
  unfold refreshDie
  split
  · exact ⟨_, rfl⟩
  · exact ⟨t.dies, rfl⟩

theorem getDie_refreshDie (s t : State) (e d : Nat) : getDie (refreshDie s t e) d =
    if d = e ∧ dieState s d = .active then { getDie t d with mirror := refreshed s d } else getDie t d := by
  unfold refreshDie
  by_cases ha : dieState s e = .active
  · rw [if_pos ha, getDie_updDie]
    by_cases h : d = e
    · subst h; simp [ha]
    · simp [h]
  · rw [if_neg ha, if_neg (by rintro ⟨rfl, h⟩; exact ha h)]

/-- A refresh of dies changes dies alone. -/
theorem refreshDies_dies (s : State) (l : List Nat) : ∀ t, ∃ x, l.foldl (refreshDie s) t = { t with dies := x } := by
  induction l with
  | nil => exact fun t => ⟨t.dies, rfl⟩
  | cons e r ih =>
    intro t
    obtain ⟨x, hx⟩ := refreshDie_dies s t e
    obtain ⟨y, hy⟩ := ih (refreshDie s t e)
    exact ⟨y, by rw [List.foldl_cons, hy, hx]⟩

/-- A refresh writes the mirror of each die listed that is active, and no other. -/
theorem getDie_refreshDies (s : State) (l : List Nat) (d : Nat) : ∀ t, getDie (l.foldl (refreshDie s) t) d =
    if d ∈ l ∧ dieState s d = .active then { getDie t d with mirror := refreshed s d } else getDie t d := by
  induction l with
  | nil => exact fun t => by simp
  | cons e r ih =>
    intro t
    rw [List.foldl_cons, ih, getDie_refreshDie]
    by_cases ha : dieState s d = .active
    · simp only [ha, and_true, List.mem_cons]
      by_cases he : d = e
      · simp only [he, true_or, if_true]
        split <;> rfl
      · simp only [he, false_or, if_false]
    · simp only [ha, and_false, if_false]

theorem lt_nDies_of_active {s : State} {d : Nat} (h : dieState s d = .active) : d < nDies s.part.variant := by
  unfold dieState at h
  split at h
  · assumption
  · cases h

/-! ### Lost events (R159) -/

theorem traceLostWrite_room {s : State} {d : Nat} (hl : (getDie s d).trcLost ≠ 0) (hr : (getDie s d).trcFifo.length < 256) :
    exec (.traceLostWrite d) s = .next (updDie d (fun x => { x with
      trcFifo := x.trcFifo ++ [traceEntry (now s) 0xFE 0 (d * 8) 0 0 (getDie s d).trcLost], trcLost := 0 }) s) := if_pos ⟨hl, hr⟩

/-- Settles O44: the equation of each command, and the fold of a refresh. -/
theorem traceAndMirror : Obligations.TraceAndMirror := by
  refine ⟨fun s => ⟨fun d hl hr => ?_, fun ho => ⟨fun v hv he hc hg => trcEnable_denied ho hv he hc hg,
    fun v hv he hg => trcEnable_passed ho hv he hg, fun v h => trcEnable_writes ho h, trcClear_enabled, fun he => ?_, ?_,
    fun p hp => ?_⟩⟩, fun s => ?_⟩
  · refine ⟨_, traceLostWrite_room hl hr, ?_⟩
    simp only [getDie_updDie, if_true, true_and]
    exact fun e he => if_neg he
  · exact ⟨_, trcClear_clears ho he, rfl, rfl, rfl, rfl, he⟩
  · refine ⟨_, trcRdHiRead_open ho, rfl, rfl, fun hk => ?_⟩
    exact congrArg (fun n => BitVec.ofNat 64 (n / 2 ^ 64)) (traceShown_kept hk)
  · refine ⟨_, holdPeakRead_open ho hp, rfl, ?_, fun q hq => ?_, rfl⟩
    · rw [getPart_withReadData, getPart_updPart, if_pos rfl, peakRead]
    · rw [getPart_withReadData, getPart_updPart, if_neg hq]
  · refine ⟨_, mirrorRefresh_fold s, fun d ha => ?_, fun d ha => ?_, ?_⟩
    · rw [getDie_refreshDies, if_pos ⟨List.mem_range.2 (lt_nDies_of_active ha), ha⟩]
    · rw [getDie_refreshDies, if_neg fun h => ha h.2]
    · obtain ⟨x, hx⟩ := refreshDies_dies s (List.range (nDies s.part.variant)) s
      rw [hx]

end Sys2Proof.Laws
end

section
/-!
PROOF of O43.  `Beside s t`: `t` keeps the commands, the Juggler, the seats, host memory and the place of every completion queue of
`s`; notices, messages, samples, events and trace entries do.  What a completion adds to it is one host write and one step of its
queue's place, and of the Juggler only counts that are not PREEMPT_CNT.
-/
namespace Sys2Proof.Laws
open Sys2Proof.Machine Sys2Proof.Safety

/-! ### What notices, messages and trace entries leave alone -/

/-- Where a completion queue goes on: CQ_TAIL and the phase. -/
def cqPlace (x : QueuePair) : BitVec 16 × Bool := (x.cqTail, x.cqPhase)

/-- `t` keeps the commands, the Juggler, the seats, host memory and every completion queue's place. -/
structure Beside (s t : State) : Prop where
  items : t.items = s.items
  jug : t.jug = s.jug
  seats : t.seats = s.seats
  hostMem : t.hostMem = s.hostMem
  place : ∀ q, cqPlace (getQp t q) = cqPlace (getQp s q)

theorem Beside.refl (s : State) : Beside s s := ⟨rfl, rfl, rfl, rfl, fun _ => rfl⟩

theorem Beside.trans {s t u : State} (h : Beside s t) (g : Beside t u) : Beside s u :=
  ⟨g.items.trans h.items, g.jug.trans h.jug, g.seats.trans h.seats, g.hostMem.trans h.hostMem,
    fun q => (g.place q).trans (h.place q)⟩

theorem Beside.ite {s a b : State} (c : Prop) [Decidable c] (ha : Beside s a) (hb : Beside s b) :
    Beside s (if c then a else b) := by
  split
  · exact ha
  · exact hb

theorem beside_fold {α : Type} (f : State → α → State) (h : ∀ s x, Beside s (f s x)) (l : List α) :
    ∀ s, Beside s (l.foldl f s) := by
  induction l with
  | nil => exact Beside.refl
  | cons x r ih => exact fun s => (h s x).trans (ih _)

theorem beside_updDie (d f s) : Beside s (updDie d f s) := ⟨rfl, rfl, rfl, rfl, fun _ => rfl⟩
theorem beside_updFunc (n f s) : Beside s (updFunc n f s) := ⟨rfl, rfl, rfl, rfl, fun _ => rfl⟩
theorem beside_updPart (p f s) : Beside s (updPart p f s) := ⟨rfl, rfl, rfl, rfl, fun _ => rfl⟩
theorem beside_updTroupe (t f s) : Beside s (updTroupe t f s) := ⟨rfl, rfl, rfl, rfl, fun _ => rfl⟩
theorem beside_emit (e s) : Beside s (emit e s) := ⟨rfl, rfl, rfl, rfl, fun _ => rfl⟩
theorem beside_calEvent (c p u a s) : Beside s (calEvent c p u a s) := ⟨rfl, rfl, rfl, rfl, fun _ => rfl⟩
theorem beside_calSample (q p v s) : Beside s (calSample q p v s) := ⟨rfl, rfl, rfl, rfl, fun _ => rfl⟩
theorem beside_calCount (k p s) : Beside s (calCount k p s) := ⟨rfl, rfl, rfl, rfl, fun _ => rfl⟩

/-- A queue pair rewritten with its completion queue where it was. -/
theorem beside_setQp {q x s} (h : cqPlace x = cqPlace (getQp s q)) : Beside s (setQp q x s) := by
  refine ⟨rfl, rfl, rfl, rfl, fun p => ?_⟩
  rw [getQp_setQp]
  split
  · next hp => rw [h, hp]
  · rfl

theorem beside_updQp {q f s} (h : ∀ x, cqPlace (f x) = cqPlace x) : Beside s (updQp q f s) := beside_setQp (h _)

theorem beside_sendMsix (fn v s) : Beside s (sendMsix fn v s) := by
  unfold sendMsix
  exact .ite _ (.ite _ (beside_updFunc ..) (.ite _ (beside_emit ..) (.refl _))) (.refl _)

theorem beside_qpNotice (q b s) : Beside s (qpNotice q b s) := by
  unfold qpNotice
  extract_lets x _ s1
  have h : Beside s s1 := beside_setQp rfl
  exact .ite _ (.refl _) (.ite _ (h.trans (beside_sendMsix ..)) h)

/-- A change of a queue pair's levels is the change, and notices. -/
theorem beside_touchQp (q f s) : Beside (setQp q (raisePeaks (f (getQp s q))) s) (touchQp q f s) :=
  beside_fold _ (fun _ _ => beside_qpNotice ..) _ _

theorem beside_cqMessage (q s) : Beside s (cqMessage q s) := by
  unfold cqMessage
  extract_lets x
  have h : Beside s (setQp q { x with unsig := 0 } s) := beside_setQp rfl
  exact .ite _ (h.trans (beside_sendMsix ..)) (.refl _)

theorem beside_drainEnd (q s) : Beside s (drainEnd q s) := by
  unfold drainEnd
  extract_lets t
  have h : Beside s t := beside_updQp fun _ => rfl
  exact .ite _ h (h.trans (beside_updQp fun _ => rfl))

theorem beside_traceWrite (e s) : Beside s (traceWrite e s) := by
  have h := gateAccess_keeps 8 false (0x1130000000 + 16 * s.trace.wrIndex.toNat) 16 1 s
  simp only at h
  unfold traceWrite
  refine .ite _ ⟨rfl, rfl, rfl, rfl, fun _ => rfl⟩ ?_
  generalize gateAccess 8 false (0x1130000000 + 16 * s.trace.wrIndex.toNat) 16 1 s = r at h
  simp only
  rw [h]
  exact ⟨rfl, rfl, rfl, rfl, fun _ => rfl⟩

theorem beside_traceMark (s) : Beside s (traceMark s) := by
  unfold traceMark
  extract_lets m t
  have h : Beside s t := beside_traceWrite ..
  exact .ite _ (.refl _) (h.trans ⟨rfl, rfl, rfl, rfl, fun _ => rfl⟩)

theorem beside_traceItem (ty u d i s) : Beside s (traceItem ty u d i s) := by
  unfold traceItem traceRaw
  refine .ite _ (.ite _ ?_ (.ite _ (beside_updDie ..) ⟨rfl, rfl, rfl, rfl, fun _ => rfl⟩)) (.refl _)
  exact (beside_traceMark s).trans (beside_traceWrite ..)

theorem countEntry_queues (i st s) : (countEntry i st s).queues = s.queues := by
  unfold countEntry
  extract_lets s1 s2
  split
  · rfl
  · split
    · rfl
    · split <;> rfl

theorem beside_countEntry (i st s) : Beside s (countEntry i st s) := by
  unfold countEntry
  refine .ite _ (.trans (beside_calCount 3 i.part s) (beside_calEvent ..)) ?_
  extract_lets s1 s2
  have h1 : Beside s s1 := beside_calCount ..
  have h2 : Beside s s2 := .trans (h1.trans (beside_calCount 4 i.part s1)) (beside_calEvent ..)
  exact .ite _ (h1.trans (beside_calCount ..)) (.ite _ (h2.trans (beside_calCount ..)) h2)

theorem beside_rslotWrite (q n b s) : Beside s (rslotWrite q n b s) := by
  unfold rslotWrite
  exact beside_updQp fun _ => rfl

theorem beside_poisonRelease (i s) : Beside s (poisonRelease i s) := by
  unfold poisonRelease
  extract_lets s1
  have h : Beside s s1 := beside_updQp fun _ => rfl
  exact .ite _ ((h.trans (beside_qpNotice ..)).trans (beside_calEvent ..)) (.refl _)

theorem beside_notePeak (p c s) : Beside s (notePeak p c s) := by
  unfold notePeak
  split
  · exact .refl _
  · exact beside_updPart ..

theorem beside_releaseSamples (i s) : Beside s (releaseSamples i s) := by
  unfold releaseSamples
  extract_lets w t
  have h : Beside s t := .ite _ (beside_calSample ..) (.refl _)
  exact .ite _ (h.trans (beside_calSample ..)) h

/-! ### One completion (R73, R74) -/

theorem hostWrite_queues (fn o a b rx ns ep s) : (hostWrite fn o a b rx ns ep s).queues = s.queues := by
  unfold hostWrite logWrite
  split <;> rfl

theorem hostWrite_jug (fn o a b rx ns ep s) : (hostWrite fn o a b rx ns ep s).jug = s.jug := by
  unfold hostWrite logWrite
  split <;> rfl

/-- The bytes of a write that passed its check stand in host memory, every other byte as before. -/
theorem stored_hostWrite (fn o a b rx ns s) : Stored a b s (hostWrite fn o a b rx ns false s) := by
  refine ⟨fun j hj => ?_, fun j hj => hostWrite_outside fn o a b rx ns false s j hj⟩
  rw [hostWrite_inside fn o a b rx ns s j hj, List.getElem?_eq_getElem hj]

/-- What is stored is a matter of host memory alone. -/
theorem stored_congr {a : Nat} {b : Bytes} {s s' t t' : State} (h : Stored a b s t) (hs : s.hostMem = s'.hostMem)
    (ht : t'.hostMem = t.hostMem) : Stored a b s' t' := by
  simpa only [Stored, hostByte, hs, ht] using h

/-- A completion queue's place after one more entry (R74). -/
def nextPlace (x : QueuePair) : BitVec 16 × Bool :=
  (if x.cqTail.toNat + 1 = cqCap x then 0 else x.cqTail + 1, if x.cqTail.toNat + 1 = cqCap x then !x.cqPhase else x.cqPhase)

/-- An entry written at CQ_TAIL: one host write, one step of the queue's place, and notices. -/
theorem cqWrite_writes (q r e s) : let x := getQp s q
    let t := cqWrite q r e s
    Stored (x.cfg.cqBase.toNat * 4096 + 32 * x.cqTail.toNat) (e x.cqPhase) s t ∧ cqPlace (getQp t q) = nextPlace x ∧
    t.jug = s.jug := by
  extract_lets x t
  let p := x.own.part.toNat
  let w := hostWrite p p (x.cfg.cqBase.toNat * 4096 + 32 * x.cqTail.toNat) (e x.cqPhase) false
    ((getFunc s 0).dev.noSnoop && x.cfg.cqNoSnoop) false s
  have hw : w.jug = s.jug := hostWrite_jug ..
  have hx : getQp w q = x := congrArg (fun l => Tab.get dQp l q) (hostWrite_queues ..)
  obtain ⟨y, hy, ht⟩ : ∃ y, cqPlace y = nextPlace x ∧ Beside (setQp q y w) t := by
    refine ⟨_, ?_, ((beside_touchQp ..).trans (beside_calSample ..)).trans (.ite _ (beside_cqMessage ..) (.refl _))⟩
    simp only [cqPlace, raisePeaks, nextPlace]
    rw [hx]
    simp only [decide_eq_true_eq]
    rfl
  refine ⟨stored_congr (stored_hostWrite ..) rfl ht.hostMem, ?_, ht.jug.trans hw⟩
  rw [ht.place, getQp_setQp, if_pos rfl, hy]


theorem endItem_items (i s) : (endItem i s).items = s.items.filter fun j => decide (j.id ≠ i.id) := by
  unfold endItem
  simp only
  rw [(beside_drainEnd ..).items]
  split <;> rfl

theorem endItem_hostMem (i s) : (endItem i s).hostMem = s.hostMem := by
  unfold endItem
  simp only
  rw [(beside_drainEnd ..).hostMem]
  split <;> rfl

theorem cqPlace_endItem (i s q) : cqPlace (getQp (endItem i s) q) = cqPlace (getQp s q) := by
  unfold endItem
  simp only
  rw [(beside_drainEnd ..).place]
  split <;> rfl

theorem length_entryBytes (i o p ph) : (entryBytes i o p ph).length = 32 := by simp [entryBytes]

/-- The release of a command delivered to its CQ: its entry written, its notices and trace entry, and its end. -/
theorem writeRelease_cq {s : State} {i : Item} {o : Outcome} (hi : getItem s i.id = some i) (ho : i.outcome = some o)
    (hm : i.mute = false) (hr : i.rslot = none) : writeRelease i.id s =
      endItem i (poisonRelease i (traceItem (if i.deferred then 0x33 else 0x31) i.qp 7 i
        (cqWrite i.qp true (entryBytes i o false) (countEntry i (entryStatus i o false) s)))) := by
  simp only [writeRelease, hi, ho, hm, writeEntry, hr, Bool.false_eq_true, if_false, Bool.not_false]

/-- What a completion leaves in host memory, in its queue's place, and of its command. -/
theorem writeRelease_completes {s : State} {i : Item} {o : Outcome} (hi : getItem s i.id = some i) (ho : i.outcome = some o)
    (hm : i.mute = false) (hr : i.rslot = none) : let x := getQp s i.qp
    let t := writeRelease i.id s
    Stored (x.cfg.cqBase.toNat * 4096 + 32 * x.cqTail.toNat) (entryBytes i o false x.cqPhase) s t ∧
    cqPlace (getQp t i.qp) = nextPlace x ∧ ∀ j ∈ t.items, j.id ≠ i.id := by
  rw [writeRelease_cq hi ho hm hr]
  have hc := beside_countEntry i (entryStatus i o false) s
  have hx : getQp (countEntry i (entryStatus i o false) s) i.qp = getQp s i.qp :=
    congrArg (fun l => Tab.get dQp l i.qp) (countEntry_queues ..)
  obtain ⟨hst, hpl, -⟩ := cqWrite_writes i.qp true (entryBytes i o false) (countEntry i (entryStatus i o false) s)
  rw [hx] at hst hpl
  generalize cqWrite i.qp true (entryBytes i o false) (countEntry i (entryStatus i o false) s) = w at hst hpl ⊢
  have hb : Beside w (poisonRelease i (traceItem (if i.deferred then 0x33 else 0x31) i.qp 7 i w)) :=
    (beside_traceItem ..).trans (beside_poisonRelease ..)
  refine ⟨stored_congr hst hc.hostMem ((endItem_hostMem ..).trans hb.hostMem), ?_, fun j hj => ?_⟩
  · rw [cqPlace_endItem, hb.place, hpl]
  · rw [endItem_items] at hj
    exact of_decide_eq_true (List.mem_filter.1 hj).2

/-! ### PREEMPT_CNT through the Carousel (R151, R154 to R157) -/

theorem preemptCnt_endItem (i s) : (endItem i s).jug.preemptCnt = s.jug.preemptCnt := by
  unfold endItem
  simp only
  rw [(beside_drainEnd ..).jug]
  split <;> rfl

theorem writeEntry_jug (i o p s) : (writeEntry i o p s).jug = s.jug := by
  unfold writeEntry
  extract_lets s1
  have h : s1.jug = s.jug := (beside_countEntry ..).jug
  split
  · exact (beside_rslotWrite ..).jug.trans h
  · obtain ⟨-, -, hw⟩ := cqWrite_writes i.qp (!p) (entryBytes i o p) s1
    exact hw.trans h

theorem preemptCnt_writeRelease (id s) : (writeRelease id s).jug.preemptCnt = s.jug.preemptCnt := by
  unfold writeRelease
  split
  · rfl
  · split
    · rfl
    · extract_lets s1 s2
      have h : s2.jug = s.jug := (beside_traceItem ..).jug.trans (writeEntry_jug ..)
      split
      · exact preemptCnt_endItem ..
      · rw [preemptCnt_endItem, (beside_poisonRelease ..).jug, h]

theorem preemptCnt_flushReleases (l) : ∀ s, (flushReleases l s).jug.preemptCnt = s.jug.preemptCnt := by
  induction l with
  | nil => exact fun _ => rfl
  | cons n r ih => exact fun s => (ih _).trans (preemptCnt_writeRelease ..)

theorem release_jug (i s) : (release i s).jug = s.jug := (beside_releaseSamples i s).jug

theorem preemptCnt_defer (h s) : (defer h s).jug.preemptCnt = s.jug.preemptCnt := by
  unfold defer
  extract_lets s1 s2 s3
  have h3 : s3.jug = s1.jug := (beside_traceItem ..).jug.trans (writeEntry_jug ..)
  show s3.jug.preemptCnt = _
  rw [h3]
  exact preemptCnt_flushReleases ..

theorem preemptCnt_blockDeferral (h s) : (blockDeferral h s).jug.preemptCnt = s.jug.preemptCnt := by
  unfold blockDeferral
  split <;> rfl

theorem preemptCnt_carouselLoop (n p f) : ∀ s, (carouselLoop n p f s).jug.preemptCnt = s.jug.preemptCnt := by
  induction n with
  | zero => exact fun _ => rfl
  | succ n ih =>
    intro s
    unfold carouselLoop
    split
    · rfl
    · rename_i h _
      extract_lets s1 t s2 hold s3
      have h1 : s1.jug = s.jug := (release_jug ..).trans (beside_notePeak ..).jug
      have h3 : s3.jug.preemptCnt = s.jug.preemptCnt := (preemptCnt_defer ..).trans (congrArg _ (beside_notePeak ..).jug)
      split
      · exact (ih _).trans (congrArg Juggler.preemptCnt h1)
      · split
        · split
          · split
            · exact (ih _).trans h3
            · exact preemptCnt_blockDeferral ..
          · rfl
        · rfl

theorem preemptCnt_outcomeArrives (id o s) : (outcomeArrives id o s).jug.preemptCnt = s.jug.preemptCnt := by
  unfold outcomeArrives
  split
  · rfl
  · split
    · exact preemptCnt_endItem ..
    · split
      · exact preemptCnt_carouselLoop ..
      · exact congrArg _ (release_jug ..)

theorem preemptCnt_finish (id st d h s) : (finish id st d h s).jug.preemptCnt = s.jug.preemptCnt := preemptCnt_outcomeArrives ..

/-! ### A wing slot filled (R148) -/

theorem Delivered.seats {s t : State} (h : Delivered s t) : t.seats = s.seats := by
  rw [h.frame]

/-- A seat's start leaves every other seat alone. -/
theorem getSeat_startSeat_ne {k j : Nat} (h : j ≠ k) (s : State) : getSeat (startSeat k s) j = getSeat s j := by
  unfold startSeat
  split
  · rfl
  · split
    · exact congrArg (fun l => Tab.get dSeat l j) (delivered_finish ..).seats
    · extract_lets s1 s2 s3
      have ht := (beside_traceItem 0x21 k (dieOfSeat k) ‹Item› s3).seats
      have hs : getSeat s2 j = getSeat s1 j := (getSeat_updSeat k j _ s1).trans (if_neg h)
      exact (congrArg (fun l => Tab.get dSeat l j) ht).trans hs

theorem preemptCnt_startSeat (k s) : (startSeat k s).jug.preemptCnt = s.jug.preemptCnt := by
  unfold startSeat
  split
  · rfl
  · split
    · exact preemptCnt_finish ..
    · exact congrArg Juggler.preemptCnt (beside_traceItem ..).jug

theorem beside_prefetch (k p r s) : Beside s (prefetch k p r s) := by
  unfold prefetch
  split
  · exact .refl _
  · exact beside_updTroupe ..

/-- A command placed in the wing slot of another seat leaves a seat and PREEMPT_CNT as they are. -/
theorem fillWing_keeps {k j : Nat} (h : j ≠ k) (i : Item) (s : State) :
    getSeat (fillWing i k s) j = getSeat s j ∧ (fillWing i k s).jug.preemptCnt = s.jug.preemptCnt := by
  unfold fillWing
  extract_lets s1 s2 s3
  have h3 : Beside s2 s3 := (beside_traceItem ..).trans (beside_prefetch ..)
  have hs : getSeat s3 j = getSeat s j := congrArg (fun l => Tab.get dSeat l j) h3.seats
  have hj : s3.jug = s.jug := h3.jug
  split
  · rw [getSeat_startSeat_ne h, preemptCnt_startSeat, hs, hj]
    exact ⟨rfl, rfl⟩
  · rw [hs, hj]
    exact ⟨rfl, rfl⟩

/-! ### The sweep, suspension and JUG_TROUPE_CFG (R140, R151, R152, R209) -/

theorem expirySweep_none {s : State} (h : ∀ i ∈ s.items, sweepable i.place = true → overdue s i = false) :
    exec .expirySweep s = .next s := by
  have hn : (s.items.filter fun i => sweepable i.place && overdue s i) = [] :=
    List.filter_eq_nil_iff.2 fun i hi hb => by
      obtain ⟨hp, ho⟩ := Bool.and_eq_true_iff.1 hb
      rw [h i hi hp] at ho
      cases ho
  change execExpirySweep s = _
  rw [execExpirySweep, hn]
  rfl

theorem expirySweep_one {s : State} {i : Item} (hi : s.items = [i]) (hp : sweepable i.place = true) (ho : overdue s i = true) :
    exec .expirySweep s = .next (expire i (match i.place with | .ready d => d | _ => 7) s) := by
  have hl : (s.items.filter fun i => sweepable i.place && overdue s i) = [i] := by
    rw [hi, List.filter_cons_of_pos (by rw [hp, ho]; rfl)]
    rfl
  change execExpirySweep s = _
  rw [execExpirySweep, hl]
  rfl

/-- A seat whose pre-emption has come to its instruction boundary. -/
def preemptTaken (k : Nat) (s : State) : State := updSeat k (fun x => { x with preemptBy := none }) s

/-- That seat suspended, and the pre-emption counted. -/
def seatSuspended (k : Nat) (s : State) : State :=
  updSeat k (fun x => { x with suspended := true }) <| updPerf (performerOfSeat k) (fun p => { p with cur := none, last := none })
    { preemptTaken k s with jug := { s.jug with preemptCnt := s.jug.preemptCnt + 1 } }

section Suspend
variable {s : State} {k id : Nat} {i r : Item} (hb : (getSeat s k).preemptBy = some id) (hi : getItem s id = some i)
  (hr : seatItem s k = some r) (hp : i.place = .ready (dieOfSeat k))
  (ho : (getSeat s k).x.ops.any (fun o => o.try_ || o.sync) = false)
include hb hi hr hp ho

theorem jaserSuspend_suspends (hd : overdue s i = false) : exec (.jaserSuspend k) s = .next
    (fillWing i (k + 1) (traceItem 0x23 k (dieOfSeat k) r (seatSuspended k s))) := by
  have hi' : getItem (preemptTaken k s) id = some i := hi
  have hr' : seatItem (preemptTaken k s) k = some r := hr
  have hd' : overdue (preemptTaken k s) i = false := hd
  change execJaserSuspend k s = _
  unfold preemptTaken at *
  simp only [execJaserSuspend, hb, ho, hi', hr', hp, hd', ne_eq, not_true_eq_false, if_false, Bool.false_eq_true]
  rfl

theorem jaserSuspend_expires (hd : overdue s i = true) :
    exec (.jaserSuspend k) s = .next (expire i (dieOfSeat k) (preemptTaken k s)) := by
  have hi' : getItem (preemptTaken k s) id = some i := hi
  have hr' : seatItem (preemptTaken k s) k = some r := hr
  have hd' : overdue (preemptTaken k s) i = true := hd
  change execJaserSuspend k s = _
  unfold preemptTaken at *
  simp only [execJaserSuspend, hb, ho, hi', hr', hp, hd', ne_eq, not_true_eq_false, if_false, if_true, Bool.false_eq_true]

end Suspend

theorem getSeat_seatSuspended (k s) : getSeat (seatSuspended k s) k = { getSeat s k with suspended := true, preemptBy := none } := by
  have h : getSeat (preemptTaken k s) k = { getSeat s k with preemptBy := none } := (getSeat_updSeat ..).trans (if_pos rfl)
  refine ((getSeat_updSeat ..).trans (if_pos rfl)).trans ?_
  exact congrArg (fun x : Seat => { x with suspended := true }) h

section Configure
variable {s : State} {tr : Nat} {v : Word32} (ht : tr < nTroupes s.part.variant) (ho : pfOpen s = true)
include ht ho

/-- JUG_TROUPE_CFG's PREEMPT_EN, which every write takes. -/
theorem jugTroupeCfgWrite_open : exec (.jugTroupeCfgWrite tr v) s =
    (let p := updTroupe tr (fun x => { x with preemptEn := v.getLsbD 1 }) s
     if v.getLsbD 0 = (getTroupe s tr).jaser then .next p
     else if Tab.get dMap s.booth.active.map tr = 0 ∧ troupeIdle s tr then
       .next (updTroupe tr (fun x => { x with jaser := v.getLsbD 0 }) p)
     else .next (jugErr 0 p)) :=
  if_neg (by simp [ht, ho])

end Configure

/-! ### The Carousel's commands (R18, R138, R144, R154 to R156, R505) -/

theorem resultAccept_some {s : State} {d id : Nat} {r : List Nat} {i : Item} (hq : (getDie s d).resultQ = id :: r)
    (hi : getItem s id = some i) :
    exec (.resultAccept d) s = .next (acceptResult i (updDie d (fun x => { x with resultQ := r }) s)) := by
  have hi' : getItem (updDie d (fun x => { x with resultQ := r }) s) id = some i := hi
  change execResultAccept d s = _
  simp only [execResultAccept, hq, hi']

/-- A die's message queue does not decide what troupes it serves. -/
theorem hasTroupeOn_updDie {d : Nat} {f : Die → Die} (hf : ∀ x, (f x).state = x.state) (s : State) (p e : Nat) :
    hasTroupeOn (updDie d f s) p e = hasTroupeOn s p e := by
  have hd : ∀ j, dieState (updDie d f s) j = dieState s j := by
    intro j
    have hj : (getDie (updDie d f s) j).state = (getDie s j).state := by
      rw [getDie_updDie]
      split
      · next h => rw [hf, h]
      · rfl
    unfold dieState
    rw [hj]
    rfl
  simp only [hasTroupeOn, mapped, dieServes, hd]
  rfl

theorem holdExpire_due {s : State} {p f : Nat} {t0 : Word64} (hh : (getFlow s p f).holdStart = some t0)
    (ht : t0.toNat + (share s p).holdNs.toNat ≤ now s) : exec (.holdExpire p f) s = .next (settleFlow p f s) := by
  change execHoldExpire p f s = _
  simp only [execHoldExpire, hh, if_pos ht]

theorem deferralUnblocked_head {s : State} {p f : Nat} {h : Item} (hh : flowHead s p f = some h)
    (hb : (getFlow s p f).blockedAt = some h.seq) :
    exec (.deferralUnblocked p f) s = .next (if deferralAllowed s h then settleFlow p f s else s) := by
  change execDeferralUnblocked p f s = _
  simp only [execDeferralUnblocked, hh, hb, true_and]
  split <;> rfl

theorem serialRelease_one {s : State} {p f : Nat} {i : Item}
    (hl : ((flowItems s p f).filter fun i => i.executed && i.serial && decide (i.place ≠ .done)) = [i]) (hw : i.serialWait = true) :
    exec (.serialRelease p f) s = .next (updItem i.id (fun i => { i with serialWait := false }) s) := by
  change execSerialRelease p f s = _
  simp only [execSerialRelease]
  rw [hl]
  simp only [List.any_cons, List.any_nil, hw, firstBy]
  rfl

theorem carouselRelease_head {s : State} {id : Nat} {r : List Nat} (hd : s.power.d3 = false) (hq : s.releaseQ = id :: r) :
    exec .carouselRelease s = .next (writeRelease id { s with releaseQ := r }) := by
  change execCarouselRelease s = _
  simp [execCarouselRelease, hd, hq]

theorem carouselRelease_held {s : State} (h : s.power.d3 = true ∨ s.releaseQ = []) : exec .carouselRelease s = .next s := by
  change execCarouselRelease s = _
  rcases h with h | h <;> simp [execCarouselRelease, h]

/-- Settles O43: the equation of each command; a suspension by `fillWing_keeps`, a completion by `writeRelease_completes`. -/
theorem sweepReleaseCompletion : Obligations.SweepReleaseCompletion := by
  refine ⟨fun s => ⟨⟨_, rfl, fun h => ?_⟩, fun i => expirySweep_one, fun k id i r hb hi hr hp _ ho hd => ?_,
    fun k id i r hb hi hr hp ho hd => jaserSuspend_expires hb hi hr hp ho hd, fun tr v ht hop => ⟨fun hj => ?_, fun hj hm hid => ?_,
      fun hj hid => ?_⟩⟩,
    fun s => ⟨fun d r i hq hi hp => ?_, fun d e r i hq hi hp => ⟨fun ht => ?_, fun ht => ?_⟩, fun id r hd hq =>
      carouselRelease_head hd hq, carouselRelease_held, fun p f t0 hh ht => holdExpire_due hh ht, fun p f h hh hb =>
        deferralUnblocked_head hh hb, fun p f i hl hw => serialRelease_one hl hw⟩,
    fun s i o hi ho hm hr _ _ => ?_⟩
  · exact Host.Outcome.next.inj (expirySweep_none h)
  · have hb' := beside_traceItem 0x23 k (dieOfSeat k) r (seatSuspended k s)
    obtain ⟨hs, hc⟩ := fillWing_keeps (Nat.ne_of_lt (Nat.lt_succ_self k)) i (traceItem 0x23 k (dieOfSeat k) r (seatSuspended k s))
    have hk : getSeat _ k = _ := hs.trans ((congrArg (fun l => Tab.get dSeat l k) hb'.seats).trans (getSeat_seatSuspended k s))
    refine ⟨_, jaserSuspend_suspends hb hi hr hp ho hd, by rw [hk], by rw [hk], by rw [hk], ?_⟩
    rw [hc, hb'.jug]
    rfl
  · rw [jugTroupeCfgWrite_open ht hop]
    exact if_pos hj
  · rw [jugTroupeCfgWrite_open ht hop]
    exact (if_neg hj).trans (if_pos ⟨hm, hid⟩)
  · rw [jugTroupeCfgWrite_open ht hop]
    exact (if_neg hj).trans (if_neg (by simp [hid]))
  · rw [resultAccept_some hq hi, acceptResult, hp]
  · rw [resultAccept_some hq hi, acceptResult, hp]
    simp only [redispatch, hasTroupeOn_updDie (f := fun x => { x with resultQ := r }) (fun _ => rfl), ht, if_true]
  · rw [resultAccept_some hq hi, acceptResult, hp]
    simp only [redispatch, hasTroupeOn_updDie (f := fun x => { x with resultQ := r }) (fun _ => rfl), ht, Bool.false_eq_true, if_false]
  · obtain ⟨hst, hpl, hit⟩ := writeRelease_completes hi ho hm hr
    obtain ⟨htail, hphase⟩ := Prod.mk.inj hpl
    exact ⟨hst, length_entryBytes .., htail, hphase, hit⟩

end Sys2Proof.Laws
end

section
/-!
PROOF of O10.  `device` is what `SameDevice` compares.  Each operation an instruction or a library service uses has one law,
`device_<operation>`: from `Ran` where `Ran` is known of it, else from the laws before it; an operation that takes the rest of the
work as an argument has its law under the hypothesis that the rest has it (`hb`).  Of the instructions, those that touch nothing but
their seat share one law, and every other has its own.
-/
namespace Sys2Proof.Laws
open Sys2Proof.Machine Sys2Proof.Safety

/-- What a routine never changes: the fields `SameDevice` compares. -/
def device (s : State) :=
  (s.part, s.time, s.vfEnable, s.booth, s.cage, s.vault, s.fuses, s.boot, s.spdm, s.uch, s.mov, s.lcs, s.trp, s.power, s.rtc, s.readData,
    s.pcie)

theorem sameDevice_iff {s t : State} : SameDevice s t ↔ device t = device s := by simp only [SameDevice, device, Prod.mk.injEq]

/-- The state a command comes to, where it comes to one, has the device of `s`. -/
def LeavesDevice (s : State) (r : Res) : Prop := ∀ t, r = .next t → device t = device s

theorem leavesDevice_next {s t : State} (h : device t = device s) : LeavesDevice s (.next t) := by
  rintro _ ⟨⟩
  exact h

theorem Ran.device {s t : State} (h : Ran s t) : Laws.device t = Laws.device s := sameDevice_iff.1 h.sameDevice

/-- A record update of any other fields. -/
@[simp] theorem device_mk (s : State) (pending dies funcs queues parts flows items releaseQ jug troupes seats performers routines
    freeCtr writeCtr dir units gates dbg trace cal canvas hostMem out) :
    device { s with
      pending, dies, funcs, queues, parts, flows, items, releaseQ, jug, troupes, seats, performers, routines, freeCtr, writeCtr, dir
      units, gates, dbg, trace, cal, canvas, hostMem, out } = device s := rfl

@[simp] theorem device_ite (c : Prop) [Decidable c] (a b : State) : device (if c then a else b) = if c then device a else device b :=
  apply_ite ..

@[simp] theorem device_snd_ite {α : Type} (c : Prop) [Decidable c] (a b : α × State) :
    device (if c then a else b).2 = if c then device a.2 else device b.2 := by split <;> rfl

@[simp] theorem device_foldl {α} (f : State → α → State) (h : ∀ s x, device (f s x) = device s) (l : List α) (s : State) :
    device (l.foldl f s) = device s := by
  induction l generalizing s with
  | nil => rfl
  | cons x l ih => rw [List.foldl_cons, ih, h]

/-! ### State and gates -/

@[simp] theorem device_updTroupe (t f s) : device (updTroupe t f s) = device s := (ran_updTroupe ..).device
@[simp] theorem device_updSeat (k f s) : device (updSeat k f s) = device s := (ran_updSeat ..).device
@[simp] theorem device_calEvent (code part unit arg s) : device (calEvent code part unit arg s) = device s :=
  (delivered_calEvent ..).ran.device

@[simp] theorem device_dataWrite (fn own q a bs s) : device (dataWrite fn own q a bs s) = device s :=
  (ran_dataWrite ..).device
@[simp] theorem device_gateAccess (c host a n t s) : device (gateAccess c host a n t s).2 = device s :=
  (ran_gateAccess ..).device
@[simp] theorem device_passed (c host t l s) : device (passed c host t l s).2 = device s := by
  induction l generalizing s with
  | nil => rfl
  | cons e r ih =>
    simp only [passed]
    split <;> simp [ih]

@[simp] theorem device_passedBytes (unit c host t a n s) : device (passedBytes unit c host t a n s).2 = device s := by
  simp [passedBytes]

/-! ### Seats -/

@[simp] theorem device_missLine (k s) : device (missLine k s) = device s := (ran_missLine ..).device
@[simp] theorem device_setRun (k x s) : device (setRun k x s) = device s := (ran_setRun ..).device
@[simp] theorem device_updKc (die f s) : device (updKc die f s) = device s := (ran_updKc ..).device
@[simp] theorem device_unpin (die e s) : device (unpin die e s) = device s := (ran_unpin ..).device
@[simp] theorem device_pin (die e s) : device (pin die e s) = device s := by rfl
@[simp] theorem device_leaveSeat (k o s) : device (leaveSeat k o s) = device s := (ran_leaveSeat ..).device
@[simp] theorem device_opDrained (k s) : device (opDrained k s) = device s := by
  unfold opDrained
  dsimp only
  split <;> simp

@[simp] theorem device_seatFault (k cause opcode pc reg async s) :
    device (seatFault k cause opcode pc reg async s) = device s :=
  (ran_seatFault ..).device

@[simp] theorem device_countIssue (k s) : device (countIssue k s) = device s := by rfl
@[simp] theorem device_advance (k pc x s) : device (advance k pc x s) = device s := (ran_advance ..).device
@[simp] theorem device_commit (k pc x s) : device (commit k pc x s) = device s := (ran_commit ..).device
@[simp] theorem device_applyIRes (k opc r s) : device (applyIRes k opc r s) = device s := (ran_applyIRes ..).device
@[simp] theorem device_touchLine (k s) : device (touchLine k s) = device s := (ran_touchLine ..).device
@[simp] theorem device_dropLine (k s) : device (dropLine k s) = device s := (ran_dropLine ..).device
@[simp] theorem device_noteInstr (k opc io s) : device (noteInstr k opc io s) = device s := by rfl
@[simp] theorem device_seatInstr {k opc io body s} (hb : ∀ a t, device (body a t) = device t) :
    device (seatInstr k opc io body s) = device s := by simp [seatInstr, hb]
@[simp] theorem device_onSeat (k opc io body s) : device (onSeat k opc io body s) = device s :=
  (ran_onSeat ..).device

/-! ### Units -/

@[simp] theorem device_updScu (d f s) : device (updScu d f s) = device s := (ran_updScu ..).device
@[simp] theorem device_dropK (k r x s) : device (dropK k r x s).2 = device s := by
  unfold dropK
  split <;> simp

@[simp] theorem device_takeUp (k o x s) : device (takeUp k o x s).2 = device s := by
  unfold takeUp
  split <;> simp

@[simp] theorem device_submit (k o x s) : device (submit k o x s) = device s := by simp [submit]
@[simp] theorem device_waitIn (k c q x s) : device (waitIn k c q x s) = device s := by rfl
@[simp] theorem device_withUnit {k opc u x s body} (hb : ∀ t, device (body t) = device t) :
    device (withUnit k opc u x s body) = device s := by simp [withUnit, hb]
@[simp] theorem device_submitAs (k o x y s) : device (submitAs k o x y s) = device s := by simp [submitAs]
@[simp] theorem device_submitUnit (k o x s) : device (submitUnit k o x s) = device s := by simp [submitUnit]
@[simp] theorem device_wakeSeats (u l s) : device (wakeSeats u l s) = device s := by simp [wakeSeats]
@[simp] theorem device_withDrbg {k opc n x s body} (hb : ∀ a t, device (body a t) = device t) :
    device (withDrbg k opc n x s body) = device s := by simp [withDrbg, hb]
@[simp] theorem device_libFault (k cause s) : device (libFault k cause s) = device s := (ran_libFault ..).device
@[simp] theorem device_libUnit {k u s body} (hb : ∀ t, device (body t) = device t) :
    device (libUnit k u s body) = device s := by
  simp [libUnit, hb]

@[simp] theorem device_guardedS {k u x s body} (hb : ∀ t, device (body t) = device t) :
    device (guardedS k u x s body) = device s := by
  unfold guardedS
  split
  · simp
  · split <;> simp [hb]

/-! ### Keys -/

@[simp] theorem device_putHandle (k r h s) : device (putHandle k r h s) = device s := by
  unfold putHandle
  dsimp only
  split <;> simp

@[simp] theorem device_newTransient (k r nk s) : device (newTransient k r nk s) = device s := by simp [newTransient]
@[simp] theorem device_dropRef (ref s) : device (dropRef ref s) = device s := by rfl
@[simp] theorem device_evictLoop (p need quota l s) : device (evictLoop p need quota l s) = device s := by
  induction l generalizing s with
  | nil => rfl
  | cons e l ih =>
    simp only [evictLoop]
    split <;> simp [ih]

@[simp] theorem device_dirAdd (p nk s) : device (dirAdd p nk s).2 = device s := by simp [dirAdd]
@[simp] theorem device_dirOpened (ref s) : device (dirOpened ref s) = device s := by simp [dirOpened]
@[simp] theorem device_trap (k opc cause reg x s) : device (trap k opc cause reg x s) = device s := by simp [trap]
@[simp] theorem device_withKey {k opc r x s body} (hb : ∀ a b t, device (body a b t) = device t) :
    device (withKey k opc r x s body) = device s := by
  unfold withKey
  split <;> simp [hb]

@[simp] theorem device_openedOn (k issued x s) : device (openedOn k issued x s) = device s := by simp [openedOn]
@[simp] theorem device_needPin {k r entry x s body} (hb : ∀ t, device (body t) = device t) :
    device (needPin k r entry x s body) = device s := by simp [needPin, hb]
@[simp] theorem device_withPair {k opc ga limit x s body} (hb : ∀ a b t, device (body a b t) = device t) :
    device (withPair k opc ga limit x s body) = device s := by
  unfold withPair
  split <;> simp [hb]

@[simp] theorem device_legalFn {k opc ok x s body} (hb : ∀ t, device (body t) = device t) :
    device (legalFn k opc ok x s body) = device s := by simp [legalFn, hb]
@[simp] theorem device_countMiss (d cause s) : device (countMiss d cause s) = device s := by rfl
@[simp] theorem device_openFails (k cause r try_ issued x s) :
    device (openFails k cause r try_ issued x s) = device s := by
  simp [openFails]

@[simp] theorem device_openEntry (k e r try_ x s) : device (openEntry k e r try_ x s) = device s := by simp [openEntry]
@[simp] theorem device_dirAccess (idx t s) : device (dirAccess idx t s).2 = device s := by simp [dirAccess]
@[simp] theorem device_fillEntry (ref poison s) : device (fillEntry ref poison s).2.2 = device s := by
  simp [fillEntry, apply_ite Prod.snd]
@[simp] theorem device_persistEntry (k nk s) : device (persistEntry k nk s).2.2.2 = device s := by
  have h := device_dirAdd (getSeat s k).part nk s
  rcases hd : dirAdd (getSeat s k).part nk s with ⟨_ | ref, t⟩
  · rw [hd] at h
    simpa [persistEntry, hd] using h
  · simp [persistEntry, hd, apply_ite Prod.snd]

@[simp] theorem device_setOutcome (k w s) : device (setOutcome k w s) = device s := by
  unfold setOutcome
  split <;> simp

@[simp] theorem device_opFailed (k o cause s) : device (opFailed k o cause s) = device s := by simp [opFailed]
@[simp] theorem device_completeOp (k o cause s) : device (completeOp k o cause s) = device s := by
  unfold completeOp
  dsimp only
  split
  · split <;> simp
  · split
    · simp
    · split
      · split
        · split
          · next he => simpa using (congrArg (fun r => device r.2.2.2) he).symm
          · next he => simpa using (congrArg (fun r => device r.2.2.2) he).symm
        · simp
      · split <;> simp

/-! ### Bulk cipher -/

@[simp] theorem device_done (id data s) : device (done id data s) = device s := (delivered_done ..).ran.device
@[simp] theorem device_scuRefused (d p s) : device (scuRefused d p s) = device s := by rfl
@[simp] theorem device_scuAborted (d s) : device (scuAborted d s) = device s := by rfl
@[simp] theorem device_scuCheck (d s) : device (scuCheck d s) = device s := by rfl
@[simp] theorem device_enqueueJob (die j s) : device (enqueueJob die j s).2 = device s := by rfl
@[simp] theorem device_acceptJob (k t o pins j x s) : device (acceptJob k t o pins j x s) = device s := by
  simp [acceptJob]
@[simp] theorem device_lockDone (die s) : device (lockDone die s) = device s := by simp [lockDone]
@[simp] theorem device_endJob (die j cause ivs s) : device (endJob die j cause ivs s) = device s := by
  unfold endJob
  dsimp only
  split <;> simp

@[simp] theorem device_scuJobEnds (die job src fin s) : device (scuJobEnds die job src fin s) = device s := by
  unfold scuJobEnds
  split
  · simp
  · split
    · simp
    · split
      · simp
      · dsimp only
        split <;> simp

/-! ### Hash contexts -/

@[simp] theorem device_dropHash (k x s) : device (dropHash k x s) = device s := by
  unfold dropHash
  split <;> simp

@[simp] theorem device_openHash (k reg c x s) : device (openHash k reg c x s) = device s := by simp [openHash]
@[simp] theorem device_freeHash (k c o y s) : device (freeHash k c o y s) = device s := by
  unfold freeHash
  split <;> simp

/-! ### Key instructions -/

theorem leavesDevice_kopen {k kx ga fn s} : LeavesDevice s (execKopen k kx ga fn s) := by
  unfold execKopen
  refine leavesDevice_next (device_seatInstr fun x s => ?_)
  refine device_legalFn fun s => device_guardedS fun s => ?_
  dsimp only
  split
  · simp
  · split <;> simp

theorem leavesDevice_kclose {k kx fn s} : LeavesDevice s (execKclose k kx fn s) :=
  leavesDevice_next (device_seatInstr fun x s => device_legalFn fun s => by simp)

theorem leavesDevice_kinfo {k ga kx fn s} : LeavesDevice s (execKinfo k ga kx fn s) :=
  leavesDevice_next (device_seatInstr fun x s => device_legalFn fun s => by simp)

theorem leavesDevice_kcv {k ga kx fn s} : LeavesDevice s (execKcv k ga kx fn s) :=
  leavesDevice_next (device_seatInstr fun x s => device_legalFn fun s => by simp)

theorem leavesDevice_kderive {k kx ky ds fn s} : LeavesDevice s (execKderive k kx ky ds fn s) := by
  unfold execKderive
  dsimp only
  refine leavesDevice_next (device_seatInstr fun x s => ?_)
  split
  · simp
  · refine device_guardedS fun s => ?_
    simp

theorem leavesDevice_kunwrap {k kx ky ga fn s} : LeavesDevice s (execKunwrap k kx ky ga fn s) :=
  leavesDevice_next (device_seatInstr fun x s => device_legalFn fun s => device_withPair fun o n s => device_guardedS fun s =>
    by simp)

theorem leavesDevice_kwrap {k ga kx ky fn s} : LeavesDevice s (execKwrap k ga kx ky fn s) := by
  unfold execKwrap
  refine leavesDevice_next (device_seatInstr fun x s => ?_)
  refine device_legalFn fun s => device_withPair fun o n s => device_guardedS fun s => device_withKey fun h e s =>
    device_withKey fun ch ce s => ?_
  split
  · simp
  · split
    · simp
    · split
      · simp
      · dsimp only
        split <;> simp

theorem leavesDevice_kgen {k kx ga fn s} : LeavesDevice s (execKgen k kx ga fn s) :=
  leavesDevice_next (device_seatInstr fun x s => device_legalFn fun s => device_guardedS fun s => device_withUnit fun s => by
    simp)

theorem leavesDevice_kaimp {k kx ky ga fn s} : LeavesDevice s (execKaimp k kx ky ga fn s) :=
  leavesDevice_next (device_seatInstr fun x s => device_legalFn fun s => device_withPair fun o n s => device_guardedS fun s =>
    by simp)

theorem leavesDevice_kagree {k kx ky ga fn s} : LeavesDevice s (execKagree k kx ky ga fn s) := by
  unfold execKagree
  refine leavesDevice_next (device_seatInstr fun x s => ?_)
  refine device_legalFn fun s => device_withPair fun o n s => device_guardedS fun s => device_withKey fun h e s =>
    ?_
  dsimp only
  split
  · simp
  · split
    · simp
    · refine device_needPin fun s => ?_
      simp

/-! ### Unit instructions -/

theorem leavesDevice_benc {k dd kx ds s} : LeavesDevice s (execBenc k dd kx ds s) := by
  unfold execBenc
  refine leavesDevice_next (device_seatInstr fun x s => ?_)
  refine device_guardedS fun s => device_withKey fun h e s => ?_
  dsimp only
  split <;> simp

theorem leavesDevice_bdec {k dd kx ds s} : LeavesDevice s (execBdec k dd kx ds s) := by
  unfold execBdec
  refine leavesDevice_next (device_seatInstr fun x s => ?_)
  refine device_guardedS fun s => device_withKey fun h e s => ?_
  dsimp only
  split <;> simp

theorem leavesDevice_bstr {k kx dd ga fn s} : LeavesDevice s (execBstr k kx dd ga fn s) := by
  unfold execBstr
  dsimp only
  refine leavesDevice_next (device_seatInstr fun x s => ?_)
  split
  · refine device_withPair fun o n s => device_guardedS fun s => device_withKey fun h e s => ?_
    split <;> simp
  · simp

theorem leavesDevice_bmac {k dd kx ga fn s} : LeavesDevice s (execBmac k dd kx ga fn s) :=
  leavesDevice_next (device_seatInstr fun x s => device_legalFn fun s => device_withPair fun o n s => by simp)

theorem leavesDevice_bmacv {k kx ds ga fn s} : LeavesDevice s (execBmacv k kx ds ga fn s) :=
  leavesDevice_next (device_seatInstr fun x s => device_legalFn fun s => device_withPair fun o n s => by simp)

theorem leavesDevice_ffx {k kx ds ga fn s} : LeavesDevice s (execFfx k kx ds ga fn s) :=
  leavesDevice_next (device_seatInstr fun x s => device_legalFn fun s => device_withPair fun o n s => by simp)

theorem leavesDevice_hstart {k kx fn s} : LeavesDevice s (execHstart k kx fn s) := by
  unfold execHstart
  dsimp only
  refine leavesDevice_next (device_seatInstr fun x s => ?_)
  refine device_legalFn fun s => ?_
  split
  · refine device_guardedS fun s => ?_
    simp
  · simp

theorem leavesDevice_hdata {k ga fn s} : LeavesDevice s (execHdata k ga fn s) := by
  unfold execHdata
  dsimp only
  refine leavesDevice_next (device_seatInstr fun x s => ?_)
  refine device_legalFn fun s => device_withPair fun o n s => device_guardedS fun s => ?_
  split <;> simp

theorem leavesDevice_hend {k dd ga fn s} : LeavesDevice s (execHend k dd ga fn s) := by
  unfold execHend
  refine leavesDevice_next (device_seatInstr fun x s => ?_)
  refine device_legalFn fun s => ?_
  split <;> simp

theorem leavesDevice_mexp {k t ga gb gc s} : LeavesDevice s (execMexp k t ga gb gc s) := by
  unfold execMexp
  refine leavesDevice_next (device_seatInstr fun x s => ?_)
  dsimp only
  split
  · simp
  · refine device_guardedS fun s => ?_
    simp

theorem leavesDevice_msign {k t ga gb gc kx fn s} : LeavesDevice s (execMsign k t ga gb gc kx fn s) := by
  unfold execMsign
  dsimp only
  refine leavesDevice_next (device_seatInstr fun x s => ?_)
  refine device_legalFn fun s => device_guardedS fun s => device_withKey fun h e s => ?_
  split
  · simp
  · split
    · simp
    · split
      · simp
      · split
        · simp
        · refine device_guardedS fun s => ?_
          simp

theorem leavesDevice_mver {k t ga gb gc kx fn s} : LeavesDevice s (execMver k t ga gb gc kx fn s) := by
  unfold execMver
  dsimp only
  refine leavesDevice_next (device_seatInstr fun x s => ?_)
  split
  · split <;> simp
  · split
    · simp
    · refine device_guardedS fun s => device_withKey fun h e s => ?_
      simp

theorem leavesDevice_sbulk {k t ga kx s} : LeavesDevice s (execSbulk k t ga kx s) := by
  refine leavesDevice_next (device_seatInstr fun x s => ?_)
  extract_lets
  split
  · simp
  split
  · simp
  refine device_guardedS fun s => device_withKey fun h e s => ?_
  extract_lets
  iterate 5
    split
    · simp
  split
  · refine device_guardedS fun s => device_withKey fun h2 e2 s => ?_
    extract_lets
    split
    · simp
    split <;> simp
  · simp

theorem leavesDevice_xld {k t ga gb gc s} : LeavesDevice s (execXld k t ga gb gc s) :=
  leavesDevice_next (device_seatInstr fun x s => by simp)

theorem leavesDevice_xst {k t ga gb gc fn s} : LeavesDevice s (execXst k t ga gb gc fn s) :=
  leavesDevice_next (device_seatInstr fun x s => by simp)

/-! ### Data and control instructions -/

theorem leavesDevice_pinfmt {k dd da from_ to_ s} : LeavesDevice s (execPinfmt k dd da from_ to_ s) :=
  leavesDevice_next (device_seatInstr fun x s => by simp)

theorem leavesDevice_rnd {k dd s} : LeavesDevice s (execRnd k dd s) :=
  leavesDevice_next (device_seatInstr fun x s => by simp)

theorem leavesDevice_end {k status hostbuf s} : LeavesDevice s (execEnd k status hostbuf s) := by
  unfold execEnd
  refine leavesDevice_next (device_seatInstr fun x s => ?_)
  split
  · simp
  · split
    · simp
    · split <;> simp

/-! ### Library services -/

@[simp] theorem device_libEnd (k status data hostBuf s) : device (libEnd k status data hostBuf s) = device s :=
  (ran_libEnd ..).device
@[simp] theorem device_libRefuse (k reason off need s) : device (libRefuse k reason off need s) = device s :=
  (ran_libRefuse ..).device
@[simp] theorem device_libVerdict (k ok s) : device (libVerdict k ok s) = device s := by simp [libVerdict]
@[simp] theorem device_unlessStalled {k s t} (ht : device t = device s) :
    device (unlessStalled k s t) = device s := by
  unfold unlessStalled
  dsimp only
  split <;> simp [ht]

@[simp] theorem device_onLib {k routine body s} (hb : ∀ a t, device (body a t) = device t) :
    device (onLib k routine body s) = device s := by
  unfold onLib
  dsimp only
  split
  · split
    · simp
    · split
      · simp
      · split
        · simp
        · split <;> simp [hb]
  · simp

@[simp] theorem device_libChecks {k l s} {body : State → State} (hb : ∀ t, device (body t) = device t) :
    device (libChecks k l s body) = device s := by
  induction l with
  | nil => exact hb s
  | cons c l ih => simp [libChecks, ih]

@[simp] theorem device_libNeed {k ok reason off s body} (hb : ∀ t, device (body t) = device t) :
    device (libNeed k ok reason off s body) = device s := by simp [libNeed, hb]
@[simp] theorem device_libRoom {k len need off s body} (hb : ∀ t, device (body t) = device t) :
    device (libRoom k len need off s body) = device s := by simp [libRoom, hb]
@[simp] theorem device_libKey {k ref s body} (hb : ∀ a b t, device (body a b t) = device t) :
    device (libKey k ref s body) = device s := by
  unfold libKey
  dsimp only
  split
  · simp
  · split <;> simp [hb]

@[simp] theorem device_libUse {k ok s body} (hb : ∀ t, device (body t) = device t) :
    device (libUse k ok s body) = device s := by
  simp [libUse, hb]

@[simp] theorem device_libDrbg {k n s body} (hb : ∀ a t, device (body a t) = device t) :
    device (libDrbg k n s body) = device s := by
  simp [libDrbg, hb]

@[simp] theorem device_libRead {k a n buf s body} (hb : ∀ a t, device (body a t) = device t) :
    device (libRead k a n buf s body) = device s := by
  unfold libRead
  dsimp only
  split
  · simp
  · split <;> simp [hb]

@[simp] theorem device_libBuffer {k i buf s body} (hb : ∀ a t, device (body a t) = device t) :
    device (libBuffer k i buf s body) = device s := by simp [libBuffer, hb]
@[simp] theorem device_libWrite {k a b s body} (hb : ∀ t, device (body t) = device t) :
    device (libWrite k a b s body) = device s := by
  simp [libWrite, hb]

@[simp] theorem device_libWrap {k h e format nk s body} (hb : ∀ a t, device (body a t) = device t) :
    device (libWrap k h e format nk s body) = device s := by
  unfold libWrap
  refine device_libUse fun s => ?_
  split
  · simp
  · split <;> simp [hb]

@[simp] theorem device_libUnwrapOk {k h e s body} (hb : ∀ t, device (body t) = device t) :
    device (libUnwrapOk k h e s body) = device s := by simp [libUnwrapOk, hb]
@[simp] theorem device_libPersist {k nk s body} (hb : ∀ a t, device (body a t) = device t) :
    device (libPersist k nk s body) = device s := by
  unfold libPersist
  split
  · next he => simpa [hb] using (congrArg (fun r => device r.2.2.2) he).symm
  · next he => simpa using (congrArg (fun r => device r.2.2.2) he).symm

@[simp] theorem device_kcvUnit {k nk s body} (hb : ∀ t, device (body t) = device t) :
    device (kcvUnit k nk s body) = device s := by
  simp [kcvUnit, hb]

@[simp] theorem device_libKeyOut (k h e format persist out addr len offLen nk s) :
    device (libKeyOut k h e format persist out addr len offLen nk s) = device s := by
  unfold libKeyOut
  dsimp only
  refine device_libWrap fun b s => device_kcvUnit fun s => ?_
  split
  · refine device_libRoom fun s => ?_
    split
    · refine device_libUnwrapOk fun s => ?_
      simp
    · simp
  · simp

theorem leavesDevice_keyImport {seat buf s} : LeavesDevice s (execKeyImport seat buf s) := by
  unfold execKeyImport
  refine leavesDevice_next (device_onLib fun i s => ?_)
  dsimp only
  refine device_libChecks fun s => device_libKey fun h e s => device_libBuffer fun b s =>
    device_libUnwrapOk fun s => ?_
  split <;> simp

theorem leavesDevice_keyExport {seat s} : LeavesDevice s (execKeyExport seat s) :=
  leavesDevice_next (device_onLib fun i s => device_libChecks fun s => device_libKey fun _ e s => device_libKey fun h2 e2 s =>
    device_libWrap fun b s => by simp)

theorem leavesDevice_keyTranslate {seat buf s} : LeavesDevice s (execKeyTranslate seat buf s) := by
  unfold execKeyTranslate
  refine leavesDevice_next (device_onLib fun i s => ?_)
  dsimp only
  refine device_libChecks fun s => device_libKey fun h e s => device_libKey fun h2 e2 s =>
    device_libBuffer fun b s => device_libUnwrapOk fun s => ?_
  split
  · simp
  · refine device_libWrap fun b s => ?_
    simp

theorem leavesDevice_keyGenerate {seat s} : LeavesDevice s (execKeyGenerate seat s) :=
  leavesDevice_next (device_onLib fun i s => device_libChecks fun s => device_libKey fun h e s => by simp)

theorem leavesDevice_keyImportAsym {seat buf s} : LeavesDevice s (execKeyImportAsym seat buf s) := by
  unfold execKeyImportAsym
  refine leavesDevice_next (device_onLib fun i s => ?_)
  dsimp only
  refine device_libChecks fun s => device_libKey fun hk ek s => device_libNeed fun s =>
    device_libKey fun hs es s => device_libNeed fun s => device_libNeed fun s => device_libKey fun h e s =>
      device_libBuffer fun b s => device_libUnit fun s => device_libUse fun s => device_libUnit fun s => ?_
  split
  · simp
  · split
    · split
      · simp
      · refine device_libUse fun s => ?_
        split
        · simp
        · split <;> simp
    · split
      · simp
      · refine device_libUse fun s => ?_
        split
        · simp
        · split <;> simp

theorem leavesDevice_keyAgree {seat buf s} : LeavesDevice s (execKeyAgree seat buf s) :=
  leavesDevice_next (device_onLib fun i s => device_libChecks fun s => device_libKey fun ha ea s => device_libNeed fun s =>
    device_libNeed fun s => device_libKey fun h e s => device_libBuffer fun b s => device_libUse fun s => by simp)

@[simp] theorem device_tokenService (seat dec i s) : device (tokenService seat dec i s) = device s := by
  unfold tokenService
  dsimp only
  refine device_libChecks fun s => device_libKey fun h e s => device_libNeed fun s => device_libUse fun s => ?_
  simp

theorem leavesDevice_sign {seat s} : LeavesDevice s (execSign seat s) :=
  leavesDevice_next (device_onLib fun i s => device_libChecks fun s => device_libKey fun h e s => device_libNeed fun s =>
    device_libRoom fun s => device_libUse fun s => device_libUnit fun s => by simp)

theorem leavesDevice_verify {seat buf s} : LeavesDevice s (execVerify seat buf s) := by
  unfold execVerify
  refine leavesDevice_next (device_onLib fun i s => ?_)
  dsimp only
  refine device_libChecks fun s => ?_
  split
  · simp
  · refine device_libKey fun h e s => device_libNeed fun s => device_libNeed fun s => device_libBuffer fun b s => ?_
    simp

@[simp] theorem device_withScu {k usable s body} (hb : ∀ t, device (body t) = device t) :
    device (withScu k usable s body) = device s := by simp [withScu, hb]
@[simp] theorem device_withBulkKey {k i off s body} (hb : ∀ a b t, device (body a b t) = device t) :
    device (withBulkKey k i off s body) = device s := by simp [withBulkKey, hb]
@[simp] theorem device_bulkRun (k j src fin s) : device (bulkRun k j src fin s) = device s := by
  unfold bulkRun
  split <;> simp

theorem leavesDevice_bulkCrypt {seat src fin s} : LeavesDevice s (execBulkCrypt seat src fin s) :=
  leavesDevice_next (device_onLib fun i s => device_libChecks fun s => by simp)

theorem leavesDevice_bulkReencrypt {seat src fin s} : LeavesDevice s (execBulkReencrypt seat src fin s) :=
  leavesDevice_next (device_onLib fun i s => device_libChecks fun s => device_withBulkKey fun h e s => by simp)

@[simp] theorem device_withPin {k f h e block pan off s body} (hb : ∀ a t, device (body a t) = device t) :
    device (withPin k f h e block pan off s body) = device s := by
  unfold withPin
  split <;> simp [hb]

@[simp] theorem device_sendPin (k f h e pin pan s) : device (sendPin k f h e pin pan s) = device s := by simp [sendPin]

theorem leavesDevice_pinTranslate {seat s} : LeavesDevice s (execPinTranslate seat s) :=
  leavesDevice_next (device_onLib fun i s => device_libChecks fun s => device_libKey fun h e s => device_libNeed fun s =>
    device_libKey fun h2 e2 s => by simp)

@[simp] theorem device_withDukpt {k kind v h e data s body} (hb : ∀ a b t, device (body a b t) = device t) :
    device (withDukpt k kind v h e data s body) = device s := by simp [withDukpt, hb]

theorem leavesDevice_pinTranslateDukpt {seat s} : LeavesDevice s (execPinTranslateDukpt seat s) := by
  unfold execPinTranslateDukpt
  refine leavesDevice_next (device_onLib fun i s => ?_)
  dsimp only
  refine device_libChecks fun s => device_libKey fun h e s => device_libNeed fun s => device_libKey fun h2 e2 s =>
    device_libNeed fun s => device_withDukpt fun alg key s => ?_
  split <;> simp

theorem leavesDevice_pinVerify {seat s} : LeavesDevice s (execPinVerify seat s) :=
  leavesDevice_next (device_onLib fun i s => device_libChecks fun s => device_libKey fun h e s => device_libNeed fun s =>
    device_libKey fun h2 e2 s => device_libNeed fun s => by simp)

theorem leavesDevice_emvArqcVerify {seat s} : LeavesDevice s (execEmvArqcVerify seat s) :=
  leavesDevice_next (device_onLib fun i s => device_libChecks fun s => device_libKey fun h e s => device_libNeed fun s => by
    simp)

@[simp] theorem device_cvcService (seat ver i s) : device (cvcService seat ver i s) = device s := by
  unfold cvcService
  dsimp only
  refine device_libChecks fun s => device_libKey fun h e s => device_libNeed fun s => device_libNeed fun s => ?_
  simp

@[simp] theorem device_macService (seat ver buf i s) : device (macService seat ver buf i s) = device s := by
  unfold macService
  dsimp only
  refine device_libChecks fun s => device_libKey fun h e s => device_libNeed fun s => device_libNeed fun s => ?_
  split
  · refine device_libBuffer fun data s => ?_
    simp
  · simp

theorem leavesDevice_dukptMacVerify {seat s} : LeavesDevice s (execDukptMacVerify seat s) :=
  leavesDevice_next (device_onLib fun i s => device_libChecks fun s => device_libKey fun h e s => device_libNeed fun s => by
    simp)

/-! ### Every instruction and every service -/

theorem leavesDevice_exec {c : Instr}
    (hc : wordOf c ≠ none ∨ (∃ k w, c = .illegalInstruction k w) ∨ libraryService c = true) (s : State) :
    LeavesDevice s (exec c s) := by
  cases c with
  | add | sub | and | or | xor | shl | shr | sar | mul | minu | maxu | cmp | addi | andi | ori | xori | shi | movw |
  cmpi | sel | dmov | dxor | dand | dor | dshlb | dshrb | dshln | dshrn | dzero | drev | dins | dext | dcmp | decim |
  daddm | dcmpt | dnib | ldo | ldod | lds | ldsd | sts | stsd | str | strd | br | loop | brk | wait | nop |
  illegalInstruction =>
    exact leavesDevice_next (device_onSeat ..)
  | pinfmt => exact leavesDevice_pinfmt
  | rnd => exact leavesDevice_rnd
  | end_ => exact leavesDevice_end
  | kopen => exact leavesDevice_kopen
  | kclose => exact leavesDevice_kclose
  | kinfo => exact leavesDevice_kinfo
  | kcv => exact leavesDevice_kcv
  | kderive => exact leavesDevice_kderive
  | kunwrap => exact leavesDevice_kunwrap
  | kwrap => exact leavesDevice_kwrap
  | kgen => exact leavesDevice_kgen
  | kaimp => exact leavesDevice_kaimp
  | kagree => exact leavesDevice_kagree
  | benc => exact leavesDevice_benc
  | bdec => exact leavesDevice_bdec
  | bstr => exact leavesDevice_bstr
  | bmac => exact leavesDevice_bmac
  | bmacv => exact leavesDevice_bmacv
  | ffx => exact leavesDevice_ffx
  | hstart => exact leavesDevice_hstart
  | hdata => exact leavesDevice_hdata
  | hend => exact leavesDevice_hend
  | mexp => exact leavesDevice_mexp
  | msign => exact leavesDevice_msign
  | mver => exact leavesDevice_mver
  | sbulk => exact leavesDevice_sbulk
  | xld => exact leavesDevice_xld
  | xst => exact leavesDevice_xst
  | pinTranslate => exact leavesDevice_pinTranslate
  | pinTranslateDukpt => exact leavesDevice_pinTranslateDukpt
  | pinVerify => exact leavesDevice_pinVerify
  | emvArqcVerify => exact leavesDevice_emvArqcVerify
  | dukptMacVerify => exact leavesDevice_dukptMacVerify
  | keyImport => exact leavesDevice_keyImport
  | keyExport => exact leavesDevice_keyExport
  | keyTranslate => exact leavesDevice_keyTranslate
  | keyGenerate => exact leavesDevice_keyGenerate
  | keyImportAsym => exact leavesDevice_keyImportAsym
  | keyAgree => exact leavesDevice_keyAgree
  | sign => exact leavesDevice_sign
  | verify => exact leavesDevice_verify
  | bulkCrypt => exact leavesDevice_bulkCrypt
  | bulkReencrypt => exact leavesDevice_bulkReencrypt
  | tokenise | detokenise => exact leavesDevice_next (device_onLib fun _ _ => device_tokenService ..)
  | cvcGenerate | cvcVerify => exact leavesDevice_next (device_onLib fun _ _ => device_cvcService ..)
  | macGenerate | macVerify => exact leavesDevice_next (device_onLib fun _ _ => device_macService ..)
  | _ => exact absurd hc (by simp [wordOf, libraryService])

/-- Settles O10: each instruction and each service leaves `device` as it was, by its law above. -/
theorem routineFrame : Obligations.RoutineFrame :=
  fun _ s t hc h => sameDevice_iff.2 (leavesDevice_exec hc s t h)

end Sys2Proof.Laws
end
